-- ==== Sys2Proof/Word.lean ====
section
/-!
DEFINITION. The plain data the model is written in: bytes, sparse tables keyed by a number, and the few
number operations every chapter of the spec uses (R12, R13, R19).
-/
set_option Elab.async false
namespace Sys2Proof

/-- One byte of a packet, a record or a buffer. -/
abbrev Byte := BitVec 8

/-- A bank of like things by number, listed sparsely in rising order of the number: an unlisted number holds
the bank's reset value, which its reader names. -/
abbrev Tab (α : Type) := List (Nat × α)

/-- The entry of number `i`, or `d` (the bank's reset value) when none is listed. -/
def Tab.get {α : Type} (d : α) : Tab α → Nat → α
  | [], _ => d
  | (j, a) :: t, i => if i = j then a else Tab.get d t i

/-- Number `i` holds `a` from now on. -/
def Tab.set {α : Type} : Tab α → Nat → α → Tab α
  | [], i, a => [(i, a)]
  | (j, b) :: t, i, a =>
    if i = j then (i, a) :: t else if i < j then (i, a) :: (j, b) :: t else (j, b) :: Tab.set t i a

/-- The entry of number `i`, when one is listed. -/
def Tab.find {α : Type} : Tab α → Nat → Option α
  | [], _ => none
  | (j, a) :: t, i => if i = j then some a else Tab.find t i

/-- Number `i` holds the bank's reset value again. -/
def Tab.erase {α : Type} (t : Tab α) (i : Nat) : Tab α := t.filter (fun e => e.1 != i)

/-- The value of a bank's entry is changed by `f`. -/
def Tab.upd {α : Type} (d : α) (t : Tab α) (i : Nat) (f : α → α) : Tab α := t.set i (f (t.get d i))

/-- 2^32, the modulus of every time-base value (R12). -/
abbrev two32 : Nat := 4294967296

/-- Ceiling division (R19 writes every division with its rounding). -/
def cdiv (a b : Nat) : Nat := (a + b - 1) / b

/-- A counter of `w` bits that saturates. -/
def satAdd (w a b : Nat) : Nat := min (a + b) (2 ^ w - 1)

/-- Bits `hi` down to `lo` of a number. -/
def bits (n hi lo : Nat) : Nat := n / 2 ^ lo % 2 ^ (hi + 1 - lo)

/-- Bit `i` of a number. -/
def bit (n i : Nat) : Bool := n.testBit i

/-- A flag as the number a register field shows. -/
def b2n (b : Bool) : Nat := if b then 1 else 0

/-- The little-endian value of a byte string (R13). -/
def leNat : List Byte → Nat
  | [] => 0
  | b :: bs => b.toNat + 256 * leNat bs

/-- The `n` little-endian bytes of a number (R13). -/
def leBytes : Nat → Nat → List Byte
  | 0, _ => []
  | n + 1, v => BitVec.ofNat 8 v :: leBytes n (v / 256)

/-- A number of `w` bits read as two's complement. -/
def signed (w n : Nat) : Int := if n % 2 ^ w < 2 ^ (w - 1) then (n % 2 ^ w : Nat) else ((n % 2 ^ w : Nat) : Int) - 2 ^ w

/-- An integer kept in `w` bits. -/
def wrapInt (w : Nat) (i : Int) : Nat := (i % (2 ^ w : Int)).toNat

/-- `clip` of R19. -/
def clip (x lo hi : Int) : Int := if x < lo then lo else if x > hi then hi else x

/-- Round to the nearest integer, halves away from zero, of a / b with b > 0 (R192, R300). -/
def roundHalfAway (a : Int) (b : Nat) : Int :=
  if 0 ≤ a then (2 * a + b) / (2 * b) else -((2 * (-a) + b) / (2 * b))

end Sys2Proof
end

