-- ==== Sys2Proof/Syntax.lean ====
section
/-!
DEFINITION. The commands of the block: one constructor per row of spec/opcode_table.json, in the table's order, with the
operands the rules give it. A row of an opcode of *Command reference* carries the queue and the SEQ of the taken
command that starts; a row of an event carries what the event brings from outside (a packet, a reading, an instant).
-/
set_option Elab.async false
namespace Sys2Proof

/-- A datagram received on MG0 or MG1 (R82). -/
structure Datagram where
  addr : List Byte
  port : Nat
  dport : Nat
  /-- a fragment of an IP datagram (R83) -/
  fragment : Bool
  payload : List Byte
deriving DecidableEq, Repr

/-- Which ring-size register a write names (R690). -/
inductive SizeReg where
  | sq (q : Nat) | rq (q : Nat) | ev
deriving DecidableEq, Repr

/-- One sample row data header with its bytes (R120). -/
structure Srd where
  field : Bool
  line : Nat
  offset : Nat
  data : List Byte
deriving DecidableEq, Repr

/-- A packet received on an MP sub-port (R124). `len` counts destination address through FCS. -/
structure RxPkt where
  port : Nat
  sub : Nat
  fcsOk : Bool
  pause : Bool
  /-- 4 or 6 -/
  ipVer : Nat
  dst : List Byte
  src : List Byte
  dport : Nat
  len : Nat
  version : Nat
  pt : Nat
  ssrc : Nat
  /-- extended sequence number -/
  seq : Nat
  /-- RTP timestamp -/
  stamp : Nat
  srds : List Srd
  /-- audio samples, channel by channel within each sample time: signed 16 or 24 bits, or for AM824 the 32-bit subframe, its label above
  24 bits (R556) -/
  audio : List Int
  /-- the internal packet CRC-32C verified when the bytes were written (R531) -/
  internalOk : Bool
deriving DecidableEq, Repr

/-- One block as a strand delivers it (R139, R141): 32 code words of 132 bits, each a number whose bit 0 arrives first: a 4-bit header,
then 128 payload bits, scrambled. -/
structure YBlock where
  words : List Nat
deriving DecidableEq, Repr

/-- A measured Sync exchange (R396, R397): offset from the master in ns, the master's time, and the INC the servo sets. -/
structure Sync where
  /-- the port it came on (0–15 MP sub-ports, 16 MG0, 17 MG1), its PTP domain, and the identity of its sender -/
  port : Nat := 0
  domain : Nat := 127
  source : Nat := 0
  offset : Int
  masterNs : Nat
  valid : Bool
  inc : Nat
deriving DecidableEq, Repr

/-- An Announce message's fields that the best master clock algorithm compares, in its order (R394). -/
structure Announce where
  /-- the port it came on (0–15 MP sub-ports, 16 MG0, 17 MG1), and its PTP domain -/
  port : Nat := 0
  domain : Nat := 127
  identity : Nat
  priority1 : Nat
  clockClass : Nat
  accuracy : Nat
  variance : Nat
  priority2 : Nat
  stepsRemoved : Nat
deriving DecidableEq, Repr

/-- Names one operation of a program's graph (Operation kinds): kind code 1-5, program, picture, row, segment. -/
structure OpName where
  kind : Nat
  prog : Nat
  pic : Nat
  row : Nat
  seg : Nat
deriving DecidableEq, Repr

/-- What a margin check finds of a channel at a setting (11 R489, R491): the least read and write eye width of its lanes in 1/256 UI, the
least eye height in mV, and the read and write eye centres in 1/256 UI. -/
structure EyeScan where
  width : Nat
  height : Nat := 25
  read : Int := 0
  write : Int := 0
deriving DecidableEq, Repr

/-- A command of the block. -/
inductive Instr where
  -- queues and transport (02)
  | sqTailDoorbell (q value : Nat)
  | fetchPacket (q : Nat) (slots hostData : List Byte)
  | rqHeadWrite (q value : Nat)
  | resync (q value : Nat)
  | resyncStateEnter (q : Nat)
  | ringSizeWrite (reg : SizeReg) (value : Nat)
  | evHeadWrite (value : Nat)
  | registerWrite (off width value : Nat)
  | commandDatagram (d : Datagram)
  | flashJournalWritten (q seq : Nat)
  | journalCompaction
  | hostReadTimeout (q seq : Nat)
  -- opcodes of Command reference (17)
  | nop (q seq : Nat)
  | getInfo (q seq : Nat)
  | resetUnit (q seq : Nat)
  | warmReset (q seq : Nat)
  | setLoopBounds (q seq : Nat)
  | deviceConfig (q seq : Nat)
  | abort (q seq : Nat)
  | hitch (q seq : Nat)
  | queueConfig (q seq : Nat)
  | journalQuery (q seq : Nat)
  | flowRxOpen (q seq : Nat)
  | flowRxClose (q seq : Nat)
  | braidConfig (q seq : Nat)
  | braidLoopback (q seq : Nat)
  | braidRestrand (q seq : Nat)
  | sourceBind (q seq : Nat)
  | sourceStatus (q seq : Nat)
  | policerSet (q seq : Nat)
  | canopyConfig (q seq : Nat)
  | layerSet (q seq : Nat)
  | layerUpload (q seq : Nat)
  | uploadComplete (layer : Nat) (data : List Byte)
  | commit (q seq : Nat)
  | commitArm (q seq : Nat)
  | lampTableLoad (q seq : Nat)
  | lampLoadComplete (canopy : Nat) (entries : List (Nat × Nat))
  | wallTiling (q seq : Nat)
  | scalerCoefs (q seq : Nat)
  | programConfig (q seq : Nat)
  | programStart (q seq : Nat)
  | programStop (q seq : Nat)
  | forceRefresh (q seq : Nat)
  | subpicMap (q seq : Nat)
  | rateConfig (q seq : Nat)
  | rateBounds (q seq : Nat)
  | rateStatus (q seq : Nat)
  | flowTxOpen (q seq : Nat)
  | flowTxClose (q seq : Nat)
  | shaperSet (q seq : Nat)
  | schedClassSet (q seq : Nat)
  | timebaseConfig (q seq : Nat)
  | timebaseAdjust (q seq : Nat)
  | launchPolicy (q seq : Nat)
  | captureArm (q seq : Nat)
  | twinConfig (q seq : Nat)
  | twinRole (q seq : Nat)
  | twinStatus (q seq : Nat)
  | splice (q seq : Nat)
  | memPolicy (q seq : Nat)
  | memRetrain (q seq : Nat)
  | memFreq (q seq : Nat)
  | eccMode (q seq : Nat)
  | eccLogRead (q seq : Nat)
  | scrubConfig (q seq : Nat)
  | eccTest (q seq : Nat)
  | cvConfig (q seq : Nat)
  | cvContext (q seq : Nat)
  | audioPortConfig (q seq : Nat)
  | audioRoute (q seq : Nat)
  | audioStatus (q seq : Nat)
  | powerBudget (q seq : Nat)
  | permitStatus (q seq : Nat)
  | avsBounds (q seq : Nat)
  | clockStatus (q seq : Nat)
  | updateBegin (q seq : Nat)
  | updateData (q seq : Nat) (hostData : List Byte)
  | updateVerify (q seq : Nat)
  | verificationResult (readBackOk : Bool)
  | stagingComplete
  | updateSchedule (q seq : Nat)
  | updateConfirm (q seq : Nat)
  | updateCancel (q seq : Nat)
  | ownerLock (q seq : Nat)
  | lifecycleAdvance (q seq : Nat)
  | returnAuthorise (q seq : Nat)
  | pmcConfig (q seq : Nat)
  | sampleConfig (q seq : Nat)
  | traceConfig (q seq : Nat)
  | eventMask (q seq : Nat)
  -- clearing, effect times, time bases (04, 09)
  | clearing (canopy : Nat)
  | effectTimeReached (q seq : Nat)
  | timeBaseWrap (tb : Nat)
  | ptpSync (tb : Nat) (x : Sync)
  | ptpAnnounce (tb : Nat) (x : Announce)
  | syncTimeout (tb : Nat)
  | ppsInEdge (t : Nat)
  | ppsEdgeTimeout (tb : Nat)
  | ppsOutRise (tb : Nat)
  | ppsOutFall (tb : Nat)
  | slewComplete (tb : Nat)
  | captureEvent (tb source flow : Nat)
  -- ingest (03)
  | packetArrival (t : Nat) (p : RxPkt)
  | legDown (flow leg : Nat)
  | lineDeadline (flow : Nat)
  | frameDeadline (flow : Nat)
  | yelucBlockRow (t braid : Nat) (blocks : List YBlock)
  | alignmentMarker (braid strand header payload skew : Nat)
  | clockStrandLost (braid : Nat)
  | braidLockFail (braid : Nat)
  | restoreTimeout (braid : Nat)
  | loopbackEnd (braid : Nat) (errors : List Nat)
  -- dispatcher (05)
  | dispatch (op : OpName)
  | preempt (op : OpName)
  | promote (op : OpName)
  | ackTimeout (unit : Nat)
  | progressReport (unit : Nat)
  | progressWatchdog (unit : Nat)
  | unitInternalError (unit : Nat)
  | unitSelfTestDone (unit : Nat) (passed : Bool)
  | dispatcherLockstepMismatch
  | dispatcherRestartEnd
  | ctuComplete (unit : Nat)
  | operationComplete (unit : Nat)
  | cvDramTapEnd (unit : Nat)
  -- rate control (07)
  | frameBudget (prog pic : Nat)
  | rowDecision (prog pic row : Nat)
  -- egress (08, 09)
  | launchTime (prog pic : Nat)
  | shaperEligible (flow leg t : Nat)
  | wireIdle (port sub t : Nat)
  | packetEnd (port sub : Nat) (internalOk : Bool)
  | beTimeout (port sub queue : Nat)
  | linkDown (port sub : Nat)
  | linkUp (port sub : Nat)
  -- twin (10)
  | heartbeatDue (path : Nat)
  | heartbeat (path t : Nat) (payload : List Byte)
  | pathLost (path : Nat)
  | rowCrc (payload : List Byte)
  | gateAllowanceEnd (prog pic row : Nat)
  | command (payload : List Byte)
  | journalAck (payload : List Byte)
  | journalAckTimeout (pos : Nat)
  | commitNote (payload : List Byte)
  | joinEpochSend
  | epochData (payload : List Byte)
  | epochEnd (payload : List Byte)
  | epochAck (payload : List Byte)
  | role (payload : List Byte)
  | takeDoneTimeout
  | rowRecord (payload : List Byte)
  -- stacked DRAM (11)
  | refreshDue (stack channel group : Nat) (idle : Bool)
  | dramTempReading (stack : Nat) (temp : Int)
  | eyeTracking (channel : Nat) (eye : EyeScan)
  | retrainSlice (channel : Nat) (found : Option EyeScan)
  | permitRetry (code holder : Nat)
  | caParityError (t channel : Nat)
  | dramReadReturn (t channel ca : Nat) (raw : Option Nat) (reader : OpName)
  | scrubRead (raw : Option Nat)
  | keepLogWriteBack (index : Nat)
  | rowRepair (index : Nat)
  | fillComplete (owner slot : Nat)
  | mirrorCopyComplete (channel : Nat)
  | memRateSwitch (stack : Nat)
  | sramParityError (unit : Nat) (second : Bool)
  | sramEccError (sram unit errors : Nat)
  | ectGo (value : Nat)
  | eccTestDone
  -- audio (13)
  | subframe (input channel t : Nat) (sample : Int) (error : Bool)
  | channelStatusBlock (input channel : Nat) (bytes user : List Byte)
  | preambleTimeout (input : Nat)
  | measurementWindowEnd (input mclkHz : Nat)
  | rampEnd (dest : Nat)
  | aes3StartBlock (output : Nat)
  | pdmWarmUpEnd (pair : Nat)
  | audioSlip (object fill : Nat)
  | audioClockAsync (ppb : Int)
  | audioPlayInstant (flow k : Nat)
  | audioPacketFormed (flow : Nat)
  -- power, clocks, reset, start-up (14)
  | powerOnRelease (vin : Nat)
  | vinLow (vin : Nat)
  | vinNormal (vin : Nat)
  | brownOut
  | vinHigh (vin : Nat)
  | vinHighClear (vin : Nat)
  | overvoltage
  | resetNAssert
  | resetNRise
  | warmNAssert
  | warmResetEnd
  | pcieReset (cause : Nat)
  | pcieLinkUp
  | trstNAssert
  | jtagInstruction (code : Nat)
  | refclkLost
  | refclkRestored
  | junctionReading (temp : Int)
  | throttleEngageStep (iin : Nat)
  | throttleReleaseStep (iin : Nat)
  | thermalTrip
  | currentTrip
  | avsMonitor (rail : Nat) (short : Bool)
  | avsLowerStep (rail : Nat) (spare : Bool)
  | mcPairFault (cause : Nat)
  | pairSelfTestDone (passed : Bool)
  | rootPllLock
  | dramTrainingDone (results : List (Nat × Nat × EyeScan))
  | initialFillDone
  | imageSetLoaded (bank : Nat)
  | ready
  | bootFail
  | smbusReadWord (code : Nat) (pecOk : Bool)
  | smbusWriteWord (code value : Nat) (pecOk : Bool)
  -- update (15)
  | activation
  | selfTestResult (failed : List Nat)
  | confirmWindowExpiry
  | fallbackInstant
  | oldPairRestartDone
  | recGo (value : Nat)
  | recoveryResult (container : List Byte)
  -- observability and register accesses with a row of their own (16 and others)
  | pmcSnap (value : Nat)
  | pmcClearAll (value : Nat)
  | pmcLoRead (n : Nat)
  | pmcWrap (n increment : Nat)
  | pmcOvfClear (m value : Nat)
  | sampleDue (pair addr insn latency mode : Nat) (previousRetired : Bool)
  | smpData0Read (parityOk : Bool)
  | smpData5Read
  | smpLostRead
  | trcData0Read
  | trcData3Read
  | trcCtrlWrite (value : Nat)
  | trcLostRead
  | tbxTbnNsRead (tb : Nat)
  | capInfoClear (tb value : Nat)
  | tbxLateMaxRead (prog : Nat)
  | c21ViolClear (m value : Nat)
  | pwrAlertClear (value : Nat)
  | hifCqnDiscardsRead (q : Nat)
  | hifEvLostRead
  | audInErrRead (input : Nat)
  | audSlipsRead
  | audMissingRead
  | fusesRead
  | perstNRise
  | busMasterEnable
  | codeWordLock (braid strand : Nat) (locked : Bool)
  | flashWriteEnd (readBackOk : Bool)
  | laneRecalibration (lane : Nat)
  | laneRecalibrationEnd (lane : Nat)
  | equalizerDecision (lane : Nat) (ctle vga dfe : Int)
  | pageIdleExpiry (channel bank : Nat)
  | snapCopyReadable
  | startChecksComplete
  | standbyPairRestored
  | aes3StopBlockEnd (output : Nat)
deriving DecidableEq, Repr

end Sys2Proof
end

