-- ==== Sys2Proof/Decode.lean ====
section
/-!
DEFINITION. The command that a word of the opcode table spells. spec/opcode_table.json gives no row any bits (every
row's "fields" is empty and no row has a "fixed" word), so no word spells a command. The words the spec does give
(command packets, R53) are read in Machine/Packet.lean.
-/
set_option Elab.async false
namespace Sys2Proof

/-- No row of the table gives bits, so no word spells a command. -/
def decodeTableWord (_nbits _w : Nat) : Option Instr := none

end Sys2Proof
end

