-- ==== Sys2Proof/Machine/Ecc.lean ====
section
/-!
DEFINITION. The DEC-TED code of stacked DRAM and of protected SRAM (11 R499–R501): encoder, syndromes, decoder.
-/
set_option Elab.async false
namespace Sys2Proof.Machine

open Sys2Proof

/-- a × α in GF(2^7), p(x) = x^7 + x^3 + 1 (R500). -/
def gfDouble (a : Nat) : Nat := if 64 ≤ a then (2 * a) % 128 ^^^ 9 else 2 * a

/-- a × b in GF(2^7); `fuel` 7 covers every b. -/
def gfMulAux : Nat → Nat → Nat → Nat
  | 0, _, _ => 0
  | n + 1, a, b => (if b % 2 = 1 then a else 0) ^^^ gfMulAux n (gfDouble a) (b / 2)
def gfMul (a b : Nat) : Nat := gfMulAux 7 a b

/-- α^j. -/
def gfExp : Nat → Nat
  | 0 => 1
  | j + 1 => gfDouble (gfExp j)

/-- The j below `n` with α^j = a, searched from α^j = p on. -/
def gfLogFrom (a : Nat) : Nat → Nat → Nat → Option Nat
  | 0, _, _ => none
  | n + 1, j, p => if p = a then some j else gfLogFrom a n (j + 1) (gfDouble p)
/-- log of a non-zero element. -/
def gfLog (a : Nat) : Option Nat := gfLogFrom a 127 0 1

/-- 1 / a. -/
def gfInv (a : Nat) : Nat := match gfLog a with
  | some j => gfExp ((127 - j) % 127)
  | none => 0

/-- The polynomial of bits 0–78 of a word: index j of R500. -/
def codePoly (w : Nat) : Nat := (w % 2 ^ 65) * 2 ^ 14 + w / 2 ^ 65 % 2 ^ 14

/-- The value of a polynomial of degree below `n` at x, by Horner's rule. -/
def polyAt (x c : Nat) : Nat → Nat
  | 0 => 0
  | n + 1 => gfMul x (polyAt x (c / 2) n) ^^^ (c % 2)

/-- m(x) mod g(x), g = 0x4377, for m of degree below `n`. -/
def polyMod (m : Nat) : Nat → Nat
  | 0 => 0
  | n + 1 =>
    let r := 2 * polyMod (m / 2) n + m % 2
    if 2 ^ 14 ≤ r then r ^^^ 0x4377 else r

/-- Parity of the low `n` bits. -/
def parityOf (w : Nat) : Nat → Nat
  | 0 => 0
  | n + 1 => (w % 2) ^^^ parityOf (w / 2) n

/-- The check field E of data and W (R499, R500). -/
def checkField (data wbit : Nat) : Nat :=
  let m := data % 2 ^ 64 + wbit % 2 * 2 ^ 64
  let r := polyMod (m * 2 ^ 14) 79
  r + (parityOf m 65 ^^^ parityOf r 14) * 2 ^ 14

/-- A stored word of data and W (R499). -/
def eccEncode (data wbit : Nat) : Nat := data % 2 ^ 64 + wbit % 2 * 2 ^ 64 + checkField data wbit * 2 ^ 65

/-- A poisoned word (R481): W 1, check field XORed with 0x0007. -/
def eccPoison (data : Nat) : Nat := data % 2 ^ 64 + 2 ^ 64 + (checkField data 1 ^^^ 7) * 2 ^ 65

/-- The stored bit of a polynomial index (R500). -/
def storedBit (j : Nat) : Nat := if 14 ≤ j then j - 14 else j + 65

/-- What a read of a word decodes to. -/
structure Decoded where
  /-- 0 clean, 1 single corrected, 2 double corrected, 3 uncorrectable -/
  kind : Nat
  /-- the 80 bits after correction -/
  word : Nat
  /-- stored bits corrected, rising -/
  bits : List Nat
  s1 : Nat
  s3 : Nat
  p : Nat
deriving DecidableEq, Repr

/-- The 64 data bits. -/
def Decoded.data (d : Decoded) : Nat := d.word % 2 ^ 64
/-- Decoded W. -/
def Decoded.w (d : Decoded) : Bool := d.word.testBit 64
/-- The SYND layout of *Error table entry* and ECT_SYND. -/
def Decoded.synd (d : Decoded) : Nat := d.p * 16384 + d.s3 * 128 + d.s1

/-- Even parity of each byte of 64 data bits, byte i at bit i. -/
def byteParity (data : Nat) : Nat := ((List.range 8).map (fun i => parityOf (data / 256 ^ i) 8 * 2 ^ i)).sum
/-- The byte parities of a word read into a parity-protected SRAM (12 R532): those of the data bits as read, with that of byte ⌊k/8⌋
inverted for each stored bit k below 64 that is corrected. -/
def sramParity (raw : Nat) (corrected : List Nat) : Nat :=
  corrected.foldl (fun p k => if k < 64 then p ^^^ 2 ^ (k / 8) else p) (byteParity (raw % 2 ^ 64))

/-- Indices j ≤ 78 whose α^j are the two locators with sum `a` and product `b`. -/
def locators (a b : Nat) : List Nat :=
  (List.range 79).filter (fun j => let x := gfExp j; (gfMul x x ^^^ gfMul a x ^^^ b) == 0)

/-- R501. The two corrected bits of a double error are listed in rising order. -/
def eccDecode (w : Nat) : Decoded :=
  let c := codePoly w
  let s1 := polyAt 2 c 79
  let s3 := polyAt 8 c 79
  let p := parityOf w 80
  let bad : Decoded := { kind := 3, word := w % 2 ^ 80, bits := [], s1 := s1, s3 := s3, p := p }
  let fix (l : List Nat) : Decoded :=
    { bad with kind := l.length, word := l.foldl (fun w b => w ^^^ 2 ^ b) (w % 2 ^ 80),
               bits := if l.length = 2 ∧ l.getD 1 0 < l.getD 0 0 then l.reverse else l }
  if s1 = 0 then
    if s3 ≠ 0 then bad else fix (if p = 0 then [] else [79])
  else if s3 = gfMul s1 (gfMul s1 s1) then
    match gfLog s1 with
    | some j => if 78 < j then bad else fix (storedBit j :: (if p = 1 then [] else [79]))
    | none => bad
  else if p = 1 then bad
  else
    match locators s1 (gfMul s3 (gfInv s1) ^^^ gfMul s1 s1) with
    | [i, j] => fix [storedBit i, storedBit j]
    | _ => bad

end Sys2Proof.Machine
end

