-- ==== Sys2Proof/Config.lean ====
section
/-!
DEFINITION. What the spec leaves open, as constants without a body: no proof can see their values. `fresh` is applied to the
counter `State.free`; the others are applied to what identifies the open value, so that the same question has the same
answer (R43). Log entry 5 lists them.
-/
set_option Elab.async false
namespace Sys2Proof.Config

/-- A value the spec leaves open, one for each count of the free-value counter (log entry 5). -/
opaque fresh : Nat → Nat

/-- Records the flash journal holds beyond one (R103 names a full journal and no size). -/
opaque flashSpare : Nat

/-- Records the flash journal holds: at least one, since R103 stores DURABLE commands in it (DEDUCED, log entry 59). -/
def flashRecords : Nat := flashSpare + 1

/-- Fused floor voltage of a rail in 5 mV steps above 600 mV (R586 gives no value). -/
opaque vFuseSteps : Nat → Nat

/-- V_fuse of a rail in mV, on the 5 mV grid of R586 inside 600–950 mV. -/
def vFuse (rail : Nat) : Nat := 600 + 5 * (vFuseSteps rail % 71)

/-- Start voltage of a rail in 5 mV steps above 600 mV (R598 gives no value). -/
opaque vStartSteps : Nat → Nat

/-- Fused start voltage of a rail in mV, inside the hardware range of R585. -/
def vStart (rail : Nat) : Nat := 600 + 5 * (vStartSteps rail % 71)

/-- SHA-384 of a byte string (R604; the function is that of FIPS 180-4, which the spec does not restate). -/
opaque sha384 : List Nat → List Nat

/-- The key hash fused in a key slot (R604 gives no value). -/
opaque keyHash : Nat → List Nat

/-- Does a signature block verify over the signed bytes (R604: ECDSA P-384 of FIPS 186-5, which the spec does not restate)?
Arguments: public key and signature, signed bytes. -/
opaque signatureValid : List Nat → List Nat → Bool

/-- Does the GCM tag of an encrypted part verify (R607: AES-256-GCM, which the spec does not restate, under a key that it does not
give)? Arguments: header and entry, ciphertext. -/
opaque gcmVerifies : List Nat → List Nat → Bool

/-- Bytes of a NAL unit, or of a slice header, after the NAL header (R330): the syntax is that of H.266 and H.265, which the spec
does not restate. Arguments: codec, unit type, the unit's field values. -/
opaque nalBytes : List Nat → Nat

/-- The most bytes that a unit of a type takes in any picture of a stream (R330). Arguments: the program's settings, the stream, the
type. -/
opaque nalMost : List Nat → Nat

/-- Byte of a NAL unit, by what identifies the unit and its place in it (R330, R43). -/
opaque nalByte : List Nat → Nat → Nat

/-- CRC of a component of a stream's reconstruction (R282); the reconstruction is open. -/
opaque reconstructionCrc : List Nat → Nat

/-- A digest of what a segment's bits depend on (R43, R318): nothing is known of it but that equal arguments give equal digests. -/
opaque absorb : List Nat → Nat

/-- Reconstructed luma sample of a reference (R299). Arguments: digest of its segment, position. -/
opaque reconstruction : List Nat → Nat

/-- Cost of a motion search or of a mode (R296–R299), a number of bits or a distortion. Arguments: which cost, digest, what is
measured. -/
opaque searchCost : List Nat → Nat

/-- λ of the row QP alone, in 1/256 (R299). Arguments: codec, QP. -/
opaque lambda : Nat → Nat → Nat

/-- Which of the two neighbours a vector component that lies between them is rounded to, by its parity (R295, R298; no rounding is
given). -/
opaque roundVector : List Int → Int

/-- A choice of the grove among what the rules permit (R284, R286, R299): partition, merge candidates, tools, filters. -/
opaque groveChoice : List Nat → List Nat

/-- Bits of a CTU (R344 and before: not bit for bit). Arguments: digest, QP, floor mode. -/
opaque ctuBits : List Nat → Nat

/-- State of the entropy coder after a CTU (R247). Arguments: component, state before, digest. -/
opaque coder : List Nat → Nat

/-- The controller's prediction of a row's bits from its activity (R344: a fixed table that is not given). Arguments: codec, weight,
QP. -/
opaque rowPrediction : List Nat → Nat

/-- Byte of a media port's own MAC address: the spec gives none. Arguments: port, byte. -/
opaque portMac : Nat → Nat → Nat

/-- Estimated time in ns that firmware puts in a pixel or packetizer operation (R241). -/
opaque opEstimate : Nat → Nat → Nat

/-- Luma samples per second that the encode limit loses with a unit of a class (R41 gives no figure). -/
opaque unitLoss : Nat → Nat

/-- Measured frequency of a clock domain in kHz (R590 reports a measurement). -/
opaque clockKhz : Nat → Nat → Nat

/-- The page map at cold start: the page number DA[34:16] of each slot of each logical channel, as 16,384 × channel + slot (R473 and R474 give
the map's form, one page to one slot, and not its entries). -/
opaque pageMap : Equiv.Perm (Fin 524288)
/-- Page number of a (logical channel, slot), and the (logical channel, slot) of a page number. -/
def pageNumber (c slot : Nat) : Nat := (pageMap (Fin.ofNat 524288 (16384 * c + slot))).val
def pageSlot (page : Nat) : Nat × Nat :=
  let i := (pageMap.symm (Fin.ofNat 524288 page)).val
  (i / 16384, i % 16384)

/-- The words that a unit's write to its pages falls on, where the layout of its data in them is open: number of the word from the first page
on, and its 64 bits (log entry 151). -/
opaque pageWrites : Nat → List (Nat × Nat)

/-- Hand-off of the chain of overlapping checks that an SRAM of accepted work stands at, as its identifier is not numbered by the spec (log
entry 179). -/
opaque sramHandOff : Nat → Nat

/-- Modulator density of a microphone over a sample period, in parts of 2^24 (13 R554). Arguments: PDM pair, microphone, sample. -/
opaque micDensity : Nat → Nat → Nat → Nat

/-- What the decimator and the optional high-pass leave of a microphone's settled value (13 R554 gives their response and no
coefficients). Arguments: high-pass on, pair, microphone, sample, settled value. -/
opaque micFilter : Bool → Nat → Nat → Nat → Int → Int

end Sys2Proof.Config
end

