-- ==== Sys2Proof/Machine/Crc.lean ====
section
/-!
DEFINITION. The cyclic checks of the device (12 R517), the combination of two check values (R521), and the byte layouts of
numbers that carry them.
-/
set_option Elab.async false
namespace Sys2Proof.Machine

open Sys2Proof

/-- One row of *Check algorithms* (R517), polynomials in normal form. -/
structure CrcAlgo where
  width : Nat
  poly : Nat
  init : Nat
  reflected : Bool
  final : Nat
deriving DecidableEq, Repr

/-- The algorithms of R517 by their codes 0–4. -/
def crcAlgo : Nat → CrcAlgo
  | 0 => ⟨32, 0x1EDC6F41, 0xFFFFFFFF, true, 0xFFFFFFFF⟩
  | 1 => ⟨32, 0x04C11DB7, 0xFFFFFFFF, true, 0xFFFFFFFF⟩
  | 2 => ⟨64, 0x42F0E1EBA9EA3693, 0xFFFFFFFFFFFFFFFF, true, 0xFFFFFFFFFFFFFFFF⟩
  | 3 => ⟨8, 0x1D, 0xFF, true, 0⟩
  | _ => ⟨8, 0x07, 0, false, 0⟩

/-- The `w` low bits of a number in the opposite order. -/
def reverseBits : Nat → Nat → Nat
  | 0, _ => 0
  | w + 1, n => (n % 2) * 2 ^ w + reverseBits w (n / 2)

/-- `n` shifts of the register of a reflected algorithm, `rp` the polynomial in reflected form. -/
def crcShiftRefl (rp : Nat) : Nat → Nat → Nat
  | 0, r => r
  | n + 1, r => crcShiftRefl rp n (if r % 2 = 1 then (r / 2) ^^^ rp else r / 2)

/-- `n` shifts of the register of an algorithm in normal form. -/
def crcShiftNorm (a : CrcAlgo) : Nat → Nat → Nat
  | 0, r => r
  | n + 1, r =>
    crcShiftNorm a n (if r / 2 ^ (a.width - 1) % 2 = 1 then ((2 * r) % 2 ^ a.width) ^^^ a.poly else (2 * r) % 2 ^ a.width)

/-- The running value, in output orientation (R520), after `bytes`. -/
def crcAbsorb (a : CrcAlgo) (v : Nat) (bytes : List Byte) : Nat :=
  if a.reflected then
    bytes.foldl (fun r b => crcShiftRefl (reverseBits a.width a.poly) 8 (r ^^^ b.toNat)) v
  else bytes.foldl (fun r b => crcShiftNorm a 8 (r ^^^ (b.toNat * 2 ^ (a.width - 8)))) v

/-- The running value before any byte, in output orientation. -/
def crcStart (a : CrcAlgo) : Nat := a.init

/-- The check value of a byte string (R517, R520). -/
def crcOf (code : Nat) (bytes : List Byte) : Nat :=
  (crcAbsorb (crcAlgo code) (crcStart (crcAlgo code)) bytes) ^^^ (crcAlgo code).final

/-- CRC-32C of R54. -/
def crc32c (bytes : List Byte) : Nat := crcOf 0 bytes

/-- A byte string with its CRC-32C stored little-endian behind it (R54). -/
def withCrc (bytes : List Byte) : List Byte := bytes ++ leBytes 4 (crc32c bytes)

/-- Advance a register over `n` zero bytes. -/
def crcZeros (a : CrcAlgo) : Nat → Nat → Nat
  | 0, r => r
  | n + 1, r =>
    crcZeros a n (if a.reflected then crcShiftRefl (reverseBits a.width a.poly) 8 r else crcShiftNorm a 8 r)

/-- The check value of A followed by B from the two check values and the byte length of B (R521). -/
def crcCombine (code : Nat) (va vb lenB : Nat) : Nat :=
  let a := crcAlgo code
  crcZeros a lenB (va ^^^ a.final ^^^ a.init) ^^^ vb

end Sys2Proof.Machine
end

