-- ==== Sys2Proof/Machine/Ranges.lean ====
section
/-!
DEFINITION. The numbers that name a queue, an object or a register the device has (00 R9, R10; 02; 16 R651).
-/
set_option Elab.async false
namespace Sys2Proof.Machine

open Sys2Proof

/-- Queue numbers of the device. -/
def isQueue (q : Nat) : Bool := q < 16

/-- A unit object index the device has: EC0–67, PE0–11, PK0–9 (R10). -/
def isUnit (i : Nat) : Bool :=
  let n := i % 65536
  match i / 65536 with
  | 0 => n < 68
  | 1 => n < 12
  | 2 => n < 10
  | _ => false

/-- A DRAM channel object index (R9). -/
def isChannel (i : Nat) : Bool := i % 32 < 18 && i < 64

/-- Lane indices of R651. -/
def isLane (l : Nat) : Bool := l < 26 || (32 ≤ l && l < 78)

/-- AES3 outputs and PDM pairs among the audio ports (R9). -/
def isAesOut (i : Nat) : Bool := 8 ≤ i && i < 12
def isPdm (i : Nat) : Bool := 16 ≤ i && i < 20

/-- An object in which samples slip: an ingress flow, an egress flow or an audio port (R543). -/
def isSlipObject (id : Nat) : Bool :=
  let i := id % 16777216
  match id / 16777216 with
  | 5 => i < 256
  | 6 => i < 1024
  | 11 => i < 12 || isPdm i
  | _ => false

/-- A ring-size register the device has. -/
def sizeRegThere : SizeReg → Bool
  | .sq q => isQueue q
  | .rq q => isQueue q
  | .ev => true

/-- A naturally aligned access to BAR0, or one of 8 or 16 bits (R15). -/
def isAccess (off width : Nat) : Bool :=
  off < 65536 && (width == 8 || width == 16 || (width == 32 && off % 4 == 0) || (width == 64 && off % 8 == 0))

end Sys2Proof.Machine
end

