-- ==== Sys2Proof/Machine/IngestTypes.lean ====
section
/-!
DEFINITION. State of ingest (03_ingest.md): ingress flow contexts, legs and policers, frame buffers, source states,
Yeluc braids and strands. Field comments: width | rule | origin of the reset value (dc: log entry 3).
-/
set_option Elab.async false
namespace Sys2Proof.Machine

/-- One bucket of a policer (R133) or shaper (R372). -/
structure Bucket where
  rate : Nat := 0
  depth : Nat := 0
  /-- 1/1,024 byte (policer) or 1/1,024 bit (shaper) -/
  credit : Nat := 0
  rem : Nat := 0
deriving DecidableEq, Repr

/-- New bucket values waiting for the leg's next update (R137, R377). -/
structure BucketSet where
  cRate : Nat
  pRate : Nat
  cDepth : Nat
  pDepth : Nat
  overhead : Nat
deriving DecidableEq, Repr

/-- One receive leg of an ingress flow. -/
structure RxLeg where
  port : Nat := 0
  sub : Nat := 0
  ipVer : Nat := 4
  pt : Nat := 96
  dstAddr : List Byte := []
  srcAddr : List Byte := []
  dstPort : Nat := 0
  ssrc : Option Nat := none
  /-- leg up | 03 R130 | spec down -/
  up : Bool := false
  /-- first packet of the run in progress, extended TB0 ns | 03 R130 | dc none -/
  runStart : Option Nat := none
  /-- last packet, extended TB0 ns | 03 R130 | dc none -/
  lastRx : Option Nat := none
  /-- committed bucket | 03 R132 | spec full at opening -/
  c : Bucket := {}
  /-- peak bucket | 03 R132 | spec full at opening -/
  p : Bucket := {}
  /-- t_last of R133, extended TB0 ns | 03 R135 | spec instant of opening -/
  tLast : Nat := 0
  /-- POLICER_SET values for the next arrival | 03 R137 | dc none -/
  newSet : Option BucketSet := none
deriving DecidableEq, Repr

/-- A frame grid: rate num/den, offset, and the first grid instant that counts for its user. -/
structure Grid where
  num : Nat := 25
  den : Nat := 1
  offset : Nat := 0
deriving DecidableEq, Repr

/-- A source frame in a frame buffer of its flow (R21, R163). -/
structure Frame where
  /-- the model's own number of the frame within its flow -/
  id : Nat := 0
  /-- the grid on which its period was assigned, and the binding (by count) that gave that grid (R693) -/
  on : Grid := {}
  era : Nat := 0
  /-- grid instant of its period, extended TB0 ns -/
  grid : Nat := 0
  /-- frame deadline of its period, extended TB0 ns (R159, R693) -/
  due : Nat := 0
  /-- RTP timestamp (or GRID_TIME) that names the frame's packets -/
  stamp : Nat := 0
  /-- FRAME count of its frame-start block (R144) -/
  count : Nat := 0
  /-- pgroup bytes written: byte index in the frame -> byte; unlisted bytes are unwritten (R502) -/
  data : Tab Byte := []
  /-- lines whose every byte has been written, with the extended TB0 instant of it (R160) -/
  lineAt : Tab Nat := []
  /-- lines marked on time at their deadline (R160) -/
  onTime : List Nat := []
  /-- lines marked missing at their deadline -/
  missing : List Nat := []
  /-- lines that read back unreadable while the frame was arriving (04 R210) -/
  lost : List Nat := []
  /-- discarded under R144 -/
  discarded : Bool := false
  /-- not admitted (R22): no buffer held -/
  notAdmitted : Bool := false
  /-- declared at its frame deadline -/
  declared : Bool := false
  /-- canopies whose frame still composites from it (R163) -/
  readers : List Nat := []
deriving DecidableEq, Repr

/-- The 14 per-flow counters of *Per-flow counters*, 48 bits saturating. -/
structure FlowCounters where
  rxPkts : Nat := 0
  polDrop : Nat := 0
  dupDiscard : Nat := 0
  tooOld : Nat := 0
  rangeDrop : Nat := 0
  tsDrop : Nat := 0
  lateDrop : Nat := 0
  rebuilt : Nat := 0
  lostBlocks : Nat := 0
  notAdmitted : Nat := 0
  lateLines : Nat := 0
  nComplete : Nat := 0
  nLate : Nat := 0
  nUnderrun : Nat := 0
deriving DecidableEq, Repr

/-- The periods of a grid that a source still has to declare, in order, and the lines it still has to mark (R158, R160, R693). -/
structure GridWatch where
  grid : Grid := {}
  /-- the binding, by count -/
  era : Nat := 0
  /-- grid instant of the next period to declare, extended TB0 ns -/
  next : Nat := 0
  /-- of a former grid: no period after this instant is declared (R693) -/
  stop : Nat := 0
  /-- late allowance of its periods (R159) -/
  allowance : Nat := 0
  /-- next line deadline to mark: its period and its line -/
  lineGrid : Nat := 0
  nextLine : Nat := 0
deriving DecidableEq, Repr

/-- Where the blocks of a ply go, fixed by its last frame-start block (R143, R144). -/
inductive PlyTarget where
  /-- the frame has no period: its blocks count in TS_DROP -/
  | noPeriod
  /-- the frame came after its deadline: its blocks count in LATE_DROP -/
  | tooLate
  /-- the frame of that number -/
  | frame (id : Nat)
deriving DecidableEq, Repr

/-- A test loop in progress (R157). -/
structure LoopRun where
  q : Nat
  seq : Nat
  /-- 0 near-end serial, 1 near-end parallel, 2 far-end -/
  kind : Nat
  /-- its end, extended TB0 ns -/
  stop : Nat
  /-- blocks sent back on YT_TX -/
  returned : Nat := 0
deriving DecidableEq, Repr

/-- An ingress flow context (R113). -/
structure RxFlow where
  /-- open | 03 R113 | dc false -/
  isOpen : Bool := false
  /-- 0 ST 2110-20, 1 ply, 2 ST 2110-30, 3 ST 2110-31 | 17 FLOW_RX_OPEN -/
  kind : Nat := 0
  buffers : Nat := 3
  merge : Nat := 0
  width : Nat := 0
  height : Nat := 0
  sampling : Nat := 0
  depth : Nat := 10
  packing : Nat := 0
  rate : Nat := 0
  colorimetry : Nat := 0
  transfer : Nat := 0
  tsCheck : Bool := false
  ply : Nat := 0
  braid : Nat := 0
  npkt : Nat := 1
  lmax : Nat := 64
  channels : Nat := 0
  audio : Nat := 0
  linkOffset : Nat := 1000000
  legs : List RxLeg := []
  /-- sequence numbers received within the merge span, and the newest | 03 R127 R129 | dc empty -/
  seen : List Nat := []
  newest : Option Nat := none
  /-- bound canopy index | 03 R158 | spec none -/
  bound : Option Nat := none
  /-- bound grid | 03 R158 -/
  grid : Grid := {}
  /-- bindings so far | 03 R693 | dc 0 -/
  era : Nat := 0
  /-- former grids with periods still to be declared, oldest first | 03 R693 | dc empty -/
  former : List GridWatch := []
  allowance : Nat := 100000
  /-- last declared state: 0 COMPLETE, 1 LATE, 2 UNDERRUN, 3 none yet | 03 R158 | spec 3 -/
  state : Nat := 3
  /-- grid instant of the last declared period, extended | 17 SOURCE_STATUS | dc 0 -/
  lastGrid : Nat := 0
  /-- grid instant of the next period to declare, extended | 03 R161 | dc none -/
  nextGrid : Option Nat := none
  /-- period of the next line deadline to mark, extended | 03 R160 | dc 0 -/
  lineGrid : Nat := 0
  /-- next line deadline to mark in that period | 03 R160 | dc 0 -/
  nextLine : Nat := 0
  /-- periods not COMPLETE in a row | 16 SOURCE_COMPLETE D1 | dc 0 -/
  notComplete : Nat := 0
  /-- newest discard under R143, extended TB0 ns | 03 R165 | dc none -/
  lastTsDrop : Option Nat := none
  /-- frames in buffers, newest first | 03 R163 | dc empty -/
  frames : List Frame := []
  /-- frames that have left their buffers: timestamp, frame deadline | 03 R166 | dc empty -/
  past : List (Nat × Nat) := []
  /-- the model's own: number of the next frame | dc 0 -/
  nextFrame : Nat := 0
  /-- held frame | 03 R162 | spec none -/
  held : Option Frame := none
  counters : FlowCounters := {}
  /-- audio samples received: (RTP timestamp extended, channel) packed -> 24-bit sample | 13 R557 | dc empty -/
  samples : Tab Int := []
  /-- labels of AM824 samples, by the same keys | 13 R556 | dc empty -/
  labels : Tab Nat := []
  /-- AM824 channels in data mode, and each channel's frame of its block | 13 R549, R556 | dc none -/
  dataOn : List Nat := []
  frameAt : Tab Nat := []
deriving DecidableEq, Repr

/-- One Yeluc strand of a braid: 0-7 data, 8 spare, 9 clock. -/
structure Strand where
  /-- code-word lock | 03 R154 | dc false -/
  locked : Bool := false
  /-- consecutive valid headers, up to 64 | 03 R154 | dc 0 -/
  goodHeaders : Nat := 0
  /-- markers at the correct spacing | 03 R154 | dc 0 -/
  markers : Nat := 0
  /-- last marker count | 03 R146 | dc none -/
  markerCount : Option Nat := none
  /-- blocks since its last marker, or since a marker was due | 03 R146 | dc none -/
  sinceMarker : Option Nat := none
  /-- consecutive markers missed | 03 R151 | dc 0 -/
  missedMarkers : Nat := 0
  /-- the last 58 scrambled bits received, the oldest in bit 0 | 03 R140 | dc 0 -/
  past : Nat := 0
  /-- the last 58 scrambled bits sent on the YT_TX strand of the same index | 03 R140 | dc 0 -/
  sent : Nat := 0
  /-- error history of the last 4,096 blocks, newest first | 03 R151 | dc empty -/
  history : List Bool := []
  /-- measured skew in ns | 03 R147 | dc 0 -/
  skew : Nat := 0
  /-- failing under R151 | dc false -/
  failing : Bool := false
deriving DecidableEq, Repr

/-- A braid: YB0-YB3 (0-3) or YT (4). -/
structure Braid where
  /-- 1 | 17 BRAID_CONFIG | dc 0 -/
  enabled : Bool := false
  /-- 2 | 03 R138 | dc 0 -/
  rate : Nat := 0
  /-- 1 | 03 R151 | spec on -/
  autoRestrand : Bool := true
  /-- | 03 R154 | dc false -/
  locked : Bool := false
  /-- start of the lock sequence, extended TB0 ns | 03 R155 | dc 0 -/
  lockStart : Nat := 0
  strands : Tab Strand := []
  /-- clock strand lost | 03 R148 | dc false -/
  clockLost : Bool := false
  /-- restranded data strand | 03 R151 | dc none -/
  restranded : Option Nat := none
  /-- consecutive blocks of the restranded strand that matched | 03 R152 | dc 0 -/
  matched : Nat := 0
  /-- BRAID_RESTRAND restore in progress: queue, SEQ, deadline | 03 R152 | dc none -/
  restoring : Option (Nat × Nat × Nat) := none
  /-- consecutive good block rows, up to 1,024 | 03 R154 | dc 0 -/
  goodRows : Nat := 0
  /-- test loop running | 03 R157 | dc none -/
  loop : Option LoopRun := none
  /-- plies in a frame: ply -> FRAME count of its frame start, and where its blocks go | 03 R144 | dc empty -/
  plyFrames : Tab (Nat × PlyTarget) := []
deriving DecidableEq, Repr

end Sys2Proof.Machine
end

