-- ==== Sys2Proof/Machine/CanopyTypes.lean ====
section
/-!
DEFINITION. State of composition (04_composition.md): canopies with active and shadow state, layers, graphic buffers,
scaler sets, lamp table, tilings. Field comments: width | rule | origin of the reset value (dc: log entry 3).
-/
set_option Elab.async false
namespace Sys2Proof.Machine

/-- The fields of CANOPY_CONFIG that take effect at once or at a clearing (R696). -/
structure CanopyGeom where
  mode : Nat := 0
  format : Nat := 0
  rate : Nat := 0
  width : Nat := 0
  height : Nat := 0
  offset : Nat := 0
  colorimetry : Nat := 0
  transfer : Nat := 0
deriving DecidableEq, Repr

/-- The fields of CANOPY_CONFIG that go through shadow state (R696). -/
structure CanopyLook where
  background : List Nat := [0, 0, 0]
  lamp : Bool := false
  lampBase : Nat := 0
  share : Nat := 128
deriving DecidableEq, Repr

/-- A scaler coefficient set of one axis: none is the generated set (R192, R193). -/
abbrev CoefSet := Option (List (List Int))

/-- A layer's parameters (LAYER_SET). -/
structure LayerCfg where
  /-- bound canopy index -/
  canopy : Option Nat := none
  source : Nat := 0
  cropX : Nat := 0
  cropY : Nat := 0
  cropW : Nat := 0
  cropH : Nat := 0
  dstX : Nat := 0
  dstY : Nat := 0
  dstW : Nat := 0
  dstH : Nat := 0
  z : Nat := 0
  gfxFormat : Nat := 0
  alpha : Nat := 1023
  matrix : Nat := 0
  gfxColorimetry : Nat := 0
  holdLimit : Nat := 3
  fallback : Nat := 0
  fallbackColour : List Nat := [0, 0, 0]
  coefs : List Int := []
  inOffset : List Int := []
  outOffset : List Int := []
  hCoefs : CoefSet := none
  vCoefs : CoefSet := none
deriving DecidableEq, Repr

/-- A graphic buffer: pixel index -> (G, B, R, A); an unlisted pixel is transparent black (R217). -/
abbrev GfxBuf := Tab (List Nat)

/-- A layer slot: 0-31 video, 32-63 graphic. -/
structure Layer where
  /-- | 04 R200 | dc unbound -/
  active : LayerCfg := {}
  /-- | 04 R200 | dc unbound -/
  shadow : LayerCfg := {}
  /-- consecutive UNDERRUN periods | 04 R212 | dc 0 -/
  underruns : Nat := 0
  /-- the last period ended UNDERRUN at or above hold_limit | 04 R213 | dc false -/
  fallDue : Bool := false
  /-- in fallback | 04 R213 | dc false -/
  inFallback : Bool := false
  /-- a COMPLETE period ended since the fallback began | 04 R214 | dc false -/
  returnDue : Bool := false
  /-- 32 saturating | 04 R210 | dc 0 -/
  heldLines : Nat := 0
  /-- 32 saturating | 04 R216 | dc 0 -/
  fallbackFrames : Nat := 0
  /-- front buffer | 04 R217 | spec transparent black -/
  front : GfxBuf := []
  /-- back buffer | 04 R217 | spec transparent black -/
  back : GfxBuf := []
  /-- back buffer of a new size waiting for its commit | 04 R697 | dc none -/
  newPair : Option GfxBuf := none
  /-- a completed upload stands in shadow | 04 R218 | dc false -/
  pending : Bool := false
  /-- the upload whose data the back buffer holds, complete and not yet in shadow: queue and SEQ | 04 R218 R220 | dc none -/
  backOf : Option (Nat × Nat) := none
  /-- the front buffer is the second of the two in the pages of the pair | 04 R217 R221 | dc false -/
  frontSecond : Bool := false
  /-- pairs of buffers that the layer has had: the number of the present one | 04 R697 | dc 0 -/
  pairs : Nat := 0
  /-- upload running: queue and SEQ | 04 R217 | dc none -/
  uploading : Option (Nat × Nat) := none
  /-- what the buffer that the upload in hand is written to held before it, and whether that was a completed upload; an ABORT gives it
  back | 02 R106 | dc none -/
  before : Option (GfxBuf × Bool) := none
  /-- GRAPHIC_LOST: fallback until an upload is published | 04 R221 | dc false -/
  lost : Bool := false
deriving DecidableEq, Repr

/-- A region of the lamp correction table, as its block of 128 pages holds it. -/
structure LampRegion where
  /-- entry within the region -> its 32 bits; 2^32 for one that reads as unwritten or bad | 04 R222, R226 -/
  entries : Tab Nat := []
  /-- pages whose content is lost: their entries read as unwritten until the region is loaded again | 11 R495 -/
  lost : List Nat := []
  /-- the block's pages, as logical channel and slot; empty while it is the region's own of R474 | 04 R228 -/
  pages : List (Nat × Nat) := []
deriving DecidableEq, Repr

/-- What a COMMIT copied of one canopy (R201). -/
structure CommitCopy where
  canopy : Nat
  look : CanopyLook
  layers : List (Nat × LayerCfg)
  /-- graphic layers whose completed upload it holds -/
  uploads : List Nat
  /-- graphic layers whose new buffer pair it publishes, with the back buffer as it stood at arming -/
  pairs : List (Nat × GfxBuf)
  /-- lamp regions whose completed load it holds, with their entries -/
  regions : Tab LampRegion
deriving DecidableEq, Repr

/-- What a layer contributes to one canopy frame, fixed at its clearing. -/
structure LayerShot where
  index : Nat
  cfg : LayerCfg
  /-- shows its fallback (R213, R221) -/
  fall : Bool := false
  /-- deferred: reads the frame below for the whole canopy frame (R181) -/
  deferred : Bool := false
  /-- the source's held frame at the clearing -/
  held : Option Frame := none
  /-- graphic front buffer, and which of the two of the pair it is -/
  front : GfxBuf := []
  second : Bool := false
  /-- number of that pair -/
  pair : Nat := 0
deriving DecidableEq, Repr

/-- A canopy frame: its state at the clearing and what has been composited and written of it. -/
structure CanFrame where
  /-- count of canopy frames since the canopy started -/
  num : Nat
  /-- grid instant, extended TB0 ns | 09 R407 -/
  g : Nat
  geom : CanopyGeom
  look : CanopyLook
  /-- layers in the order of R173 -/
  layers : List LayerShot
  /-- lamp regions in use -/
  lamp : Tab LampRegion
  /-- microcode slot (R258) -/
  slot : Nat
  /-- band height: 128 or 64 (R169) -/
  band : Nat
  /-- stage-5 samples composed: plane × 65,536 + line -> the line's samples -/
  composed : Tab (List Int) := []
  /-- samples as written: plane × 65,536 + line -> the line's samples (R170) -/
  frame : Tab (List Nat) := []
  /-- held lines used: layer × 65,536 + line (R216) -/
  heldSet : List Nat := []
  /-- regions whose fault has been posted (R226) -/
  lampFaults : List Nat := []
  /-- bands touched by a held line, a fallback or a lamp fault (10 R456) -/
  faultBands : List Nat := []
  /-- band sections composited and finished: band × 32 + section (R234) -/
  composeDone : List Nat := []
  finishDone : List Nat := []
deriving DecidableEq, Repr

/-- A canopy. -/
structure Canopy where
  /-- configured by a CANOPY_CONFIG | 03 R158, 04 R696 | spec false -/
  configured : Bool := false
  /-- compositing on its grid | 04 R696 | dc false -/
  running : Bool := false
  /-- | 04 R696 | dc zeros -/
  geom : CanopyGeom := {}
  /-- active background and lamp settings | 04 R696 | dc zeros -/
  look : CanopyLook := {}
  /-- shadow background and lamp settings | 04 R696 | dc zeros -/
  shadowLook : CanopyLook := {}
  /-- new geometry for the next clearing of the old grid | 04 R696 | dc none -/
  nextGeom : Option CanopyGeom := none
  /-- stop at the next clearing | 04 R696 | dc false -/
  stopping : Bool := false
  /-- next grid instant, extended TB0 ns | 09 R408 | dc 0 -/
  g : Nat := 0
  /-- remainder of the grid generator | 09 R408 | dc 0 -/
  rem : Nat := 0
  /-- canopy frames since start, from 0 | 05 R266 | dc 0 -/
  frameCount : Nat := 0
  /-- canopy frames, newest first: those unfinished or read by a picture, at most 16 others | 04 R170 | dc empty -/
  frames : List CanFrame := []
  /-- held lines used in the frame before | 04 R216 | dc 0 -/
  prevHeldUsed : Nat := 0
  /-- subpicture rectangles (x, y, w, h) in units of 128 | 04 R231 | spec none -/
  tiling : List (Nat × Nat × Nat × Nat) := []
  /-- completed loads in shadow: region -> entries | 04 R228 | dc empty -/
  staged : Tab LampRegion := []
  /-- free staging blocks | 04 R228 | dc 0 -/
  freeBlocks : Nat := 0
  /-- load running: queue, SEQ | 04 R227 | dc none -/
  loading : Option (Nat × Nat) := none
  /-- loads that have arrived and wait for their clearing or time: queue and SEQ, regions | 04 R228 | dc empty -/
  arrived : List ((Nat × Nat) × Tab LampRegion) := []
  /-- committed copies waiting for their clearing | 04 R201 -/
  copies : List (Nat × Nat × CommitCopy) := []
deriving DecidableEq, Repr

/-- The composition subsystem. -/
structure Compose where
  /-- C0-C15 | 04 | dc -/
  canopies : Tab Canopy := []
  /-- VL0-VL31 at 0-31, GL0-GL31 at 32-63 | 04 | dc -/
  layers : Tab Layer := []
  /-- lamp correction table: the regions that loads have written; an unlisted one reads as unwritten | 04 R222 R226 | spec unwritten -/
  lampTable : Tab LampRegion := []
deriving DecidableEq, Repr

end Sys2Proof.Machine
end

