-- ==== Sys2Proof/Machine/EgressTypes.lean ====
section
/-!
DEFINITION. State of egress (08), time bases and launch status (09), audio (13). Field comments: width | rule |
origin of the reset value (dc: log entry 3).
-/
set_option Elab.async false
namespace Sys2Proof.Machine

/-- A packet formed for an egress flow and not yet ended on every leg. -/
structure TxPkt where
  /-- packet count k of the flow (R360) -/
  k : Nat
  prog : Nat
  pic : Nat
  row : Nat
  stream : Nat
  /-- RTP payload -/
  data : List Byte
  marker : Bool
  /-- first packet of its access unit (train) -/
  first : Bool
  /-- last packet of its access unit -/
  last : Bool
  /-- launch time of its frame, extended TB0 ns -/
  launch : Nat
  /-- RTP timestamp (R361) -/
  ts : Nat
  /-- of a muted row (R386) -/
  muted : Bool := false
  /-- LAUNCH_ROW released it to its leg, extended TB0 ns (R374) -/
  passed : Nat := 0
deriving DecidableEq, Repr

/-- RTP payload bytes. -/
def TxPkt.payload (p : TxPkt) : Nat := p.data.length

/-- One transmit leg. -/
structure TxLeg where
  port : Nat := 0
  sub : Nat := 0
  ipVer : Nat := 4
  dscp : Nat := 0
  dstMac : List Byte := []
  vlan : Bool := false
  pcp : Nat := 0
  vid : Nat := 0
  ttl : Nat := 64
  srcAddr : List Byte := []
  dstAddr : List Byte := []
  srcPort : Nat := 0
  dstPort : Nat := 0
  c : Bucket := {}
  p : Bucket := {}
  overhead : Nat := 20
  /-- t_last of R372, extended TB0 ns -/
  tLast : Nat := 0
  newSet : Option BucketSet := none
  /-- packets released and still to start, with their eligibility instants, extended TB0 ns, oldest first (R374, R382) -/
  released : List (TxPkt × Nat) := []
  /-- packets still to release on this leg, oldest first -/
  queue : List TxPkt := []
  /-- packet on the wire, its start (R417) -/
  sending : Option (TxPkt × Nat) := none
  /-- excused delay of the present train (R417) -/
  excused : Nat := 0
  /-- counters TX_PKTS, TX_BYTES, LINK_DOWN_DROP, MUTED_PKTS, BE_DROP, GUARD_HOLDS, TX_STOMP, 48 saturating -/
  counts : Tab Nat := []
deriving DecidableEq, Repr

/-- An egress flow context. -/
structure TxFlow where
  isOpen : Bool := false
  kind : Nat := 0
  cls : Nat := 0
  checksum : Nat := 0
  prog : Nat := 0
  stream : Nat := 0
  maxPayload : Nat := 1448
  pt : Nat := 96
  channels : Nat := 0
  audio : Nat := 0
  ssrc : Nat := 0
  seq0 : Nat := 0
  /-- packets of the flow so far (R360) -/
  k : Nat := 0
  legs : List TxLeg := []
  /-- opening instant, extended TB0 ns (R362) -/
  openedAt : Nat := 0
  /-- closing: queue, SEQ, instant (R368) -/
  closing : Option (Nat × Nat × Nat) := none
  /-- best-effort queue Q1-Q7 (R378) | dc 1 -/
  beQueue : Nat := 1
deriving DecidableEq, Repr

/-- A best-effort packet waiting in a queue of a sub-port (R380). -/
structure BePkt where
  /-- egress flow and leg; none: firmware traffic in Q0 -/
  flow : Option (Nat × Nat)
  pkt : Option TxPkt
  bytes : Nat
  tag : Nat
  entered : Nat
deriving DecidableEq, Repr

/-- A sub-port of an MP port, numbered 4 × port + sub-port. -/
structure SubPort where
  /-- link up | 08 R385 | dc false -/
  linkUp : Bool := false
  /-- flow (none: best effort or PTP), leg on the wire and end instant | 08 R382 | dc none -/
  wire : Option (Option (Nat × Nat) × Nat) := none
  /-- weights of Q1-Q7 | 08 R378 | spec 16 -/
  weights : Tab Nat := []
  /-- virtual time v, 64 | 08 R380 | dc 0 -/
  v : Nat := 0
  fLast : Tab Nat := []
  beQueues : Tab (List BePkt) := []
  /-- PTP event messages waiting | 08 R382 | dc 0 -/
  ptpWaiting : Nat := 0
deriving DecidableEq, Repr

/-- The train of one picture of a stream while its legs still send it (R417, R420); 256 + f stands for a program in the train of
one packet of audio flow f (13 R558). -/
structure Train where
  prog : Nat
  stream : Nat
  pic : Nat
  /-- count of the canopy frame -/
  frame : Nat := 0
  /-- grid instant, launch time and end of the launch window, extended TB0 ns -/
  g : Nat
  launch : Nat
  windowEnd : Nat
  /-- legs that have still to end their last packet: (flow, leg) -/
  pending : List (Nat × Nat)
  /-- largest s and e so far over sending legs -/
  worst : Option Int := none
  /-- flows with a late leg -/
  lateFlows : List Nat := []
deriving DecidableEq, Repr

/-- The egress subsystem. -/
structure Egress where
  /-- 1,024 egress flow contexts | 08 | dc closed -/
  flows : Tab TxFlow := []
  subPorts : Tab SubPort := []
  /-- trains in progress | 09 R417 | dc empty -/
  trains : List Train := []
  /-- port splits in force, one per MP port | 17 R663 | dc 0 -/
  splits : List Nat := [0, 0, 0, 0]
deriving DecidableEq, Repr

/-- An armed capture (R423). -/
structure Capture where
  continuous : Bool
  source : Nat
  flow : Nat
  q : Nat
  seq : Nat
  bufAddr : Nat
  bufLen : Nat
deriving DecidableEq, Repr

/-- A slew in progress: amount left in 2^-30 ns, and the commands that wait for it (R687). -/
structure Slew where
  left : Int
  cmds : List (Nat × Nat)
deriving DecidableEq, Repr

/-- A time base TBn. -/
structure TimeBase where
  /-- 32 | 09 R388 | spec 0 -/
  ns : Nat := 0
  /-- 30 | 09 R388 | spec 0 -/
  frac : Nat := 0
  /-- 32 | 09 R388 | spec 0x5000_0000 -/
  inc : Nat := 0x50000000
  /-- 33rd bit | 09 R390 | spec 0 -/
  epoch : Bool := false
  /-- firmware's wrap count | 09 R686 | spec 0 -/
  wraps : Nat := 0
  /-- 0 FREE 1 PTP 2 PPS 3 FOLLOW | 09 R391 | spec 0 -/
  mode : Nat := 0
  /-- 0 STOPPED 1 FREE 2 LOCKING 3 LOCKED 4 HOLDOVER | 09 R391 | spec 0 (TB0: 1) -/
  state : Nat := 0
  /-- signed ns | 09 TBX_TBn_OFFSET | spec 0 -/
  offset : Int := 0
  domain : Nat := 127
  portA : Nat := 255
  portB : Nat := 255
  slewLimit : Nat := 10
  stepThreshold : Nat := 10000
  ppsDelay : Nat := 0
  /-- FOLLOW OFFSET -/
  follow : Int := 0
  /-- this base drives PPS_OUT | 09 R403 | dc false -/
  ppsOut : Bool := false
  pulseWidth : Nat := 100000000
  slew : Option Slew := none
  /-- 30 latched | 09 TBX_TBn_FRAC | spec 0 -/
  latFrac : Nat := 0
  /-- 32 latched | 09 TBX_TBn_STATUS | spec -/
  latStatus : Nat := 0
  /-- 32 | 09 TBX_TBn_CAP_NS | spec 0 -/
  capNs : Nat := 0
  /-- 30 | 09 TBX_TBn_CAP_FRAC | spec 0 -/
  capFrac : Nat := 0
  /-- 16 | 09 TBX_TBn_CAP_INFO | spec 0 -/
  capCount : Nat := 0
  /-- 8 | 09 TBX_TBn_CAP_INFO | spec 0 -/
  capSource : Nat := 0
  capOverrun : Bool := false
  capValid : Bool := false
  capture : Option Capture := none
  /-- consecutive Syncs inside / outside ±1,000 ns, and valid ones in HOLDOVER | 09 R397 R398 | dc 0 -/
  inSyncs : Nat := 0
  outSyncs : Nat := 0
  validSyncs : Nat := 0
  /-- TB_OFFSET_LARGE already posted | 09 R400 | dc false -/
  largePosted : Bool := false
  /-- selected master, as it last announced itself | 09 R394 | dc none -/
  master : Option Announce := none
  /-- last valid Sync and last Announce, extended TB0 ns | 09 R398 | dc 0 -/
  lastSync : Nat := 0
  lastAnnounce : Nat := 0
  /-- the last valid Sync: extended value of the base, master's time | 09 R399 | dc none -/
  lastMaster : Option (Nat × Nat) := none
  /-- INC history, newest first: each INC of LOCKED with the instant from which it ran, and 0 from the instant at which the base left
  LOCKED; for the mean over 64 s in LOCKED | 09 R398 | dc empty -/
  incs : List (Nat × Nat) := []
  /-- expected PPS edge E; none before a SET | 09 R401 | spec none -/
  ppsE : Option Nat := none
  /-- last edge within E ± 1 ms, or the SET of E, extended TB0 ns | 09 R401 | dc 0 -/
  ppsNear : Nat := 0
  /-- SETs waiting for the next edge, oldest first: value, queue, SEQ | 09 R402 | dc empty -/
  ppsSets : List (Nat × Nat × Nat) := []
  goodEdges : Nat := 0
  /-- last edge of PPS_IN, extended TB0 ns | 09 R401 | dc 0 -/
  ppsAt : Nat := 0
  /-- PPS_OUT high on this base | 09 R403 | spec low -/
  ppsHigh : Bool := false
deriving DecidableEq, Repr

/-- Time bases and launch status registers. -/
structure Time where
  /-- TB0-TB3; TB0 runs FREE at cold start | 09 R391 | spec -/
  bases : Tab TimeBase := [(0, { state := 1, latStatus := 1 })]
  /-- 32 each | 09 TBX_LATE_COUNT_n | spec 0 -/
  lateCount : Tab Nat := []
  /-- 32 each | 09 TBX_LATE_MAX_n | spec 0 -/
  lateMax : Tab Nat := []
  /-- flows whose conformance flag is cleared | 09 TBX_C21_VIOL_m | spec 0 -/
  c21 : List Nat := []
deriving DecidableEq, Repr

/-- An AES3 input. -/
structure AudioIn where
  enabled : Bool := false
  rate : Nat := 0
  /-- 3 | 13 AUD_IN_STATUS_n | spec 0 -/
  state : Nat := 0
  /-- 4 | 13 AUD_IN_STATUS_n | spec 0 -/
  cls : Nat := 0
  /-- 1 | 13 R549 | spec 0 -/
  data : Bool := false
  /-- 18 | 13 R563 | spec 0 -/
  measHz : Nat := 0
  /-- 16 RC | 13 R546 | spec 0 -/
  subErr : Nat := 0
  /-- 16 RC | 13 R548 | spec 0 -/
  csErr : Nat := 0
  lost : Bool := false
  /-- consecutive subframes in error | 13 R547 | dc 0 -/
  badRun : Nat := 0
  /-- last good sample per channel | 13 R546 | dc 0 -/
  last : List Int := [0, 0]
  /-- held channel status, 24 bytes per channel | 13 R548 | dc zero -/
  cs : List (List Byte) := [List.replicate 24 0, List.replicate 24 0]
  /-- user bits of the last block per channel | 13 R548 | dc empty -/
  user : List (List Byte) := [[], []]
  /-- preambles timed in the window: first, last (extended ns), count | 13 R563 | dc none -/
  window : Option (Nat × Nat × Nat) := none
  /-- consecutive clean windows in one class | 13 R568 | dc 0 -/
  clean : Nat := 0
  /-- subframe error or rate change in this window -/
  dirty : Bool := false
  /-- finding to report at the end of the next whole window: 1 loss, 2 change; old rate; with holdover | 13 R567 | dc none -/
  finding : Option (Nat × Nat × Bool) := none
  /-- the window now open began before the finding -/
  partialWindow : Bool := false
  /-- last preamble of channel 0, extended TB0 ns | 13 R564 | dc none -/
  lastA : Option Nat := none
  /-- end of the window now open, extended TB0 ns | 13 R563 | dc 0 -/
  winEnd : Nat := 0
  /-- AUDIO_RESTORED is to be posted when a ramp-in ends | 13 R568 | dc false -/
  restoring : Bool := false
deriving DecidableEq, Repr

/-- Source of a route (R560). -/
inductive AudioSrc where
  | silence
  | input (n ch : Nat)
  | mic (pair ch : Nat)
  | flow (f ch : Nat)
deriving DecidableEq, Repr

/-- One destination channel: its route and its ramp. -/
structure Route where
  src : AudioSrc := .silence
  /-- new source after the ramp-out (R561) -/
  next : Option AudioSrc := none
  /-- 0 steady, 1 ramping in, 2 ramping out, 3 muted -/
  ramp : Nat := 3
  /-- mute cause: 0 none 1 loss 2 rate 3 DATA 4 route change -/
  cause : Nat := 0
  /-- samples of the ramp done, 0-64 | 13 R565 | dc 0 -/
  j : Nat := 0
  /-- present output sample, 24 bit | 13 | dc 0 -/
  sample : Int := 0
  /-- V (1), U (2) and C (4) bits of an AM824 source at that sample | 13 R556 | dc 0 -/
  tag : Nat := 0
  /-- elastic buffer to the destination's clock, oldest first, at most 64: sample and bits; centred at first | 13 R543 | dc 32 zeros -/
  fifo : List (Int × Nat) := List.replicate 32 (0, 0)
deriving DecidableEq, Repr

/-- An AES3 output or PDM pair. -/
structure AudioPort where
  enabled : Bool := false
  rate : Nat := 0
  csMode : Nat := 0
  csBytes : List Byte := []
  highpass : Bool := true
  /-- 0 disabled 1 starting 2 running (ramping and muted follow from its routes) 5 stopping | 13 AUD_OUT_STATUS | spec 0 -/
  state : Nat := 0
  /-- TB0 instant of the last start or stop | 13 R552, R555 | dc 0 -/
  since : Nat := 0
  /-- AUDIO_PORT_CONFIG that waits for the ramp | 13 R552 | dc none -/
  cmd : Option (Nat × Nat) := none
deriving DecidableEq, Repr

/-- Audio. -/
structure Audio where
  /-- AES_IN0-7 at 0-7; AUD_MCLK_IN, as far as it is measured, at 8 -/
  ins : Tab AudioIn := []
  /-- AES_OUT0-3 at 8-11, PDM pairs at 16-19 -/
  ports : Tab AudioPort := []
  /-- destination channel: packed (object class·2^24 + index)·64 + channel -/
  routes : Tab Route := []
  /-- 4 | 13 AUD_CLK_STATUS.REF | spec 0 -/
  ref : Nat := 0
  /-- 0 LOCKING 1 HOLDOVER 2 LOCKED | 13 AUD_CLK_STATUS.STATE | spec 2 -/
  clkState : Nat := 2
  async : Bool := false
  mclkMeas : Nat := 0
  mclkIn : Nat := 0
  mclkOut : Nat := 0
  /-- signed parts per 10^9 | 13 AUD_CLK_OFFSET | spec 0 -/
  ppb : Int := 0
  /-- 32 RC | 13 AUD_SLIPS | spec 0 -/
  slips : Nat := 0
  /-- 32 RC | 13 AUD_MISSING | spec 0 -/
  missing : Nat := 0
  /-- the audio clock runs (from the end of the initial fill) | 13 R542 | dc false -/
  clkRunning : Bool := false
  /-- fills of elastic buffers by object ID, centred at 32 | 13 R543 | spec 32 -/
  fills : Tab Nat := []
  /-- next sample index of each egress audio flow | 13 R558 | dc 0 -/
  txK : Tab Nat := []
deriving DecidableEq, Repr

end Sys2Proof.Machine
end

