-- ==== Sys2Proof/Machine/HifTypes.lean ====
section
/-!
DEFINITION. State of the command interface (02_command_interface.md, 17_command_reference.md): queues, journal,
replies, events, MSI-X. Each field's comment gives its width, the rule that names it, and where its reset value
comes from: spec, or dc (DESIGN CHOICE of log entry 3: the spec gives none).
-/
set_option Elab.async false
namespace Sys2Proof.Machine

/-- What the device puts on its interfaces, newest first in `State.out`. -/
inductive Output where
  /-- bytes written to host memory (replies, events, host buffers: R72, R78) -/
  | hostWrite (addr : Nat) (bytes : List Byte)
  /-- a UDP datagram sent from MG0/MG1 (R85, R659) -/
  | datagram (addr : List Byte) (port : Nat) (bytes : List Byte)
  /-- an MSI-X vector raised (R78) -/
  | msix (vector : Nat)
  /-- the value a register read returns -/
  | readData (value : Nat)
  /-- SMBus answer: none is a NACK (R571) -/
  | smbus (word : Option Nat)
  /-- an egress packet sent on a sub-port to its end: port, sub-port, flow, leg, the frame from destination address through FCS (08 R367) -/
  | wire (port sub flow leg : Nat) (frame : List Byte)
  /-- a packet of firmware started in Q0 on a sub-port -/
  | wireBe (port sub queue bytes : Nat)
  /-- a PTP event message started on a sub-port (R382) -/
  | wirePtp (port sub : Nat)
  /-- a block sent on a YT_TX strand, as its 32 code words (03 R139, R157) -/
  | yeluc (strand : Nat) (words : List Nat)
  /-- a datagram of tether path B: the MG port it leaves, the peer's address and UDP port, its bytes (10 R434) -/
  | tether (mg : Nat) (addr : List Byte) (port : Nat) (bytes : List Byte)
  /-- a command or alert pin: 0 ALERT_N, 1 THERM_N, 2 PPS_OUT; its level -/
  | pin (which : Nat) (level : Bool)
deriving DecidableEq, Repr

/-- A reply's content: KIND, STATUS, DETAIL, TIMESTAMP (R68). -/
structure Reply where
  kind : Nat := 1
  status : Nat := 0
  detail : Nat := 0
  ts : Nat := 0
deriving DecidableEq, Repr

/-- The journal's entry of one SEQ of the duplicate window (R65). -/
structure JEntry where
  seq : Nat := 0
  opcode : Nat := 0
  corr : Nat := 0
  accept : Reply := {}
  outcome : Option Reply := none
  quiet : Bool := false
deriving DecidableEq, Repr

/-- Where a reply goes: the ring, or the datagram's source (R85). -/
structure ReplyTo where
  udp : Bool := false
  addr : List Byte := []
  port : Nat := 0
deriving DecidableEq, Repr

/-- How far a taken command has come. -/
inductive Phase where
  /-- taken; its ACCEPT waits for the flash journal or the follower (R70) -/
  | accepting
  /-- OK_ACCEPTED decided; not yet started (R91, R93, R96) -/
  | accepted
  /-- started; its commit point has not passed -/
  | started
  /-- past its commit point, outcome still to come (R107) -/
  | committed
deriving DecidableEq, Repr

/-- A charge against an admission resource (R34), amounts in the unit of *Admission* (bytes, bit/s or 1/40040). -/
structure Charge where
  /-- object that holds the charge -/
  owner : Nat := 0
  /-- part of the owner the charge stands for: 0 the object, 1 its shadow state, 2 staging blocks, 3 the command -/
  slot : Nat := 0
  /-- resource code 1-6 -/
  res : Nat := 0
  amount : Nat := 0
  /-- acceptance position of the command that charged it (R37) -/
  pos : Nat := 0
deriving DecidableEq, Repr

/-- A power permit (R580): code, amount in 0.1 W, holder. -/
structure Permit where
  code : Nat := 0
  amount : Nat := 0
  /-- object ID of the part it is held for -/
  holder : Nat := 0
  /-- acceptance position of the command that asked for it; 0: no command -/
  pos : Nat := 0
deriving DecidableEq, Repr

/-- A taken command without an outcome. -/
structure Cmd where
  q : Nat := 0
  seq : Nat := 0
  opcode : Nat := 0
  flags : Nat := 0
  object : Nat := 0
  effTime : Nat := 0
  effTb : Nat := 0
  corr : Nat := 0
  /-- parameter bytes (R18) -/
  params : List Byte := []
  /-- host-memory bytes read for it -/
  hostData : List Byte := []
  /-- acceptance position (R96) -/
  pos : Nat := 0
  phase : Phase := .accepting
  replyTo : ReplyTo := {}
  /-- 33-bit stored time, of EFFECT_TIME or of UPDATE_SCHEDULE's A (R406) -/
  pend : Nat := 0
  /-- the base's extended count at which the stored time fires (R406) -/
  fireAt : Int := 0
  /-- waits for a clearing of this canopy (R99) -/
  clearOf : Option Nat := none
  /-- armed COMMIT (R201), an upload or load whose data has arrived (R218, R228), or a CANOPY_CONFIG whose geometry waits for
  its clearing (R696) -/
  armed : Bool := false
  /-- the clearing must be at or after this TB0 instant (R99, R201) -/
  notBefore : Option Nat := none
  /-- flash journal written (R70) -/
  flashDone : Bool := false
  /-- place in acceptance order among the commands that go to flash (R111) -/
  flashOrder : Nat := 0
  /-- follower has journaled it (R442) -/
  twinAcked : Bool := false
  /-- commit sequence number of its COMMIT_NOTE, when sent (R444) -/
  noted : Option Nat := none
  /-- value its COMPLETE reply carries in DETAIL -/
  result : Nat := 0
  /-- replayed from the flash journal (R656) -/
  replayed : Bool := false
  /-- the packet as taken, of a replicated command (10 R442) -/
  packet : List Byte := []
  /-- re-run from the journal: it starts after every earlier command that is re-run (R111) -/
  again : Bool := false
  /-- aborted while its ACCEPT still waits for a journal: its replies come once every journal holds it (R69, R70, R106) -/
  aborted : Bool := false
deriving DecidableEq, Repr

/-- A durable command in the flash journal (R103, R111). -/
structure FlashRec where
  q : Nat := 0
  seq : Nat := 0
  opcode : Nat := 0
  flags : Nat := 0
  object : Nat := 0
  corr : Nat := 0
  params : List Byte := []
  /-- place in acceptance order among the commands that go to flash (R111) -/
  order : Nat := 0
  /-- its command was aborted or rejected, so compaction may free the record -/
  done : Bool := false
deriving DecidableEq, Repr

/-- Transport binding of a queue (R84, R664). -/
structure Binding where
  udp : Bool := false
  depth : Nat := 32
  port : Nat := 23017
  ipVer : Nat := 0
  srcAddr : List Byte := List.replicate 16 0
  srcPort : Nat := 0
deriving DecidableEq, Repr

/-- One command queue CQn (CQn register block, R53-R88). -/
structure CmdQueue where
  /-- 20 | 02 CQn register block | spec 0 -/
  sqBaseLo : Nat := 0
  /-- 32 | 02 R16 | spec 0 -/
  sqBaseHi : Nat := 0
  /-- 52, the pair as taken | 02 R16 | spec 0 -/
  sqBase : Nat := 0
  /-- 20 | 02 CQn register block | spec 0 -/
  rqBaseLo : Nat := 0
  /-- 32 | 02 R16 | spec 0 -/
  rqBaseHi : Nat := 0
  /-- 52, the pair as taken | 02 R16 | spec 0 -/
  rqBase : Nat := 0
  /-- 17 | 02 R690 | spec 0x100 -/
  sqSize : Nat := 256
  /-- 17 | 02 R690 | spec 0x100 -/
  rqSize : Nat := 256
  /-- 16 | 02 R77 | spec 0 -/
  sqTail : Nat := 0
  /-- 16 | 02 R78 | spec 0 -/
  rqHead : Nat := 0
  /-- 16 | 02 R77 | spec 0 -/
  sqHead : Nat := 0
  /-- 16 | 02 R78 | spec 0 -/
  rqTail : Nat := 0
  /-- 1 | 02 R78 | spec 1 -/
  rqPhase : Bool := true
  /-- 5 | 02 HIF_CQn_CTRL | spec 0 -/
  vector : Nat := 0
  /-- 1 | 02 HIF_CQn_CTRL | spec 0 -/
  vectorEn : Bool := false
  /-- 1 | 02 HIF_CQn_CTRL | spec 0 -/
  enable : Bool := false
  /-- 8 | 02 R59 | spec 0 -/
  expAlive : Nat := 0
  /-- 1 | 02 R67 | spec 1 -/
  resyncState : Bool := true
  /-- 32 | 02 R61 | spec 0 -/
  expSeq : Nat := 0
  /-- 32 saturating | 02 R88 | spec 0 -/
  discards : Nat := 0
  /-- RESYNC asked for, not yet entered | 02 R67 | dc false -/
  resyncReq : Bool := false
  /-- after a takeover the first packet may carry any ALIVE | 02 R111, 10 R457 | dc false -/
  anyAlive : Bool := false
  /-- transport, depth, port, source | 02 R79 R82 R84 | spec -/
  bind : Binding := {}
  /-- a QUEUE_CONFIG of its own queue waiting for its COMPLETE reply | 17 R664 | dc none -/
  rebind : Option Binding := none
  /-- duplicate window, newest first, at most 1,024 | 02 R62 R65 | dc empty -/
  window : List JEntry := []
  /-- RQ entries (or reply room) reserved | 02 R79 R87 | dc 0 -/
  reserved : Nat := 0
  /-- datagrams past checks 1 and 2 that wait for the queue to be below its depth, oldest first | 02 R79 R87 | dc empty -/
  waiting : List Datagram := []
  /-- replies held during a PCIe or warm reset, oldest first | 14 R592 R595 | dc empty -/
  held : List (ReplyTo × List Byte) := []
  /-- RQ entries written and not yet freed by the host | 02 R78 R79 | dc 0 -/
  rqUsed : Nat := 0
deriving DecidableEq, Repr

/-- An event staged during a warm reset (R593). -/
structure EventRec where
  queue : Nat := 255
  event : Nat := 0
  object : Nat := 0
  d0 : Nat := 0
  d1 : Nat := 0
  ts : Nat := 0
  seq : Nat := 0
deriving DecidableEq, Repr

/-- The command interface. -/
structure Hif where
  /-- CQ0-CQ15; CQ14 is bound to UDP at cold start | 02 R84 | spec -/
  queues : Tab CmdQueue := [(14, { bind := { udp := true } })]
  /-- taken commands without an outcome, in acceptance order | 02 R65 R96 | dc empty -/
  cmds : List Cmd := []
  /-- next acceptance position, 64 | 02 R96 | dc 1 -/
  nextPos : Nat := 1
  /-- 20 | 02 Event ring registers | spec 0 -/
  evBaseLo : Nat := 0
  /-- 32 | 02 Event ring registers | spec 0 -/
  evBaseHi : Nat := 0
  /-- 52 | 02 R16 | spec 0 -/
  evBase : Nat := 0
  /-- 17 | 02 R690 | spec 0x100 -/
  evSize : Nat := 256
  /-- 16 | 02 R74 | spec 0 -/
  evHead : Nat := 0
  /-- 16 | 02 R74 | spec 0 -/
  evTail : Nat := 0
  /-- event entries written and not yet freed by the host | 02 R74 | dc 0 -/
  evUsed : Nat := 0
  /-- 1 | 02 R73 | spec 1 -/
  evPhase : Bool := true
  /-- 5 | 02 HIF_EV_CTRL | spec 0x1F -/
  evVector : Nat := 31
  /-- 1 | 02 HIF_EV_CTRL | spec 0 -/
  evVectorEn : Bool := false
  /-- 1 | 02 HIF_EV_CTRL | spec 0 -/
  evUdp : Bool := false
  /-- 1 | 02 HIF_EV_CTRL | spec 0 -/
  evEnable : Bool := false
  /-- 32 saturating | 02 R74 | spec 0 -/
  evLost : Nat := 0
  /-- 32, count of events raised | 02 R73 | dc 0 -/
  eventSeq : Nat := 0
  /-- 32 per group | 16 R649 | spec 0 -/
  evMask : Tab Nat := []
  /-- events staged in a warm reset, oldest first, at most 256 | 14 R593 | dc empty -/
  evStaged : List EventRec := []
  /-- MSI-X table words 0-127, unlisted words hold the PCI Express reset value | 02 R81, 14 R591 | presumed -/
  msix : Tab Nat := []
  /-- 32 pending bits | 02 R81 | presumed 0 -/
  msixPba : Nat := 0
  /-- PCIe link up | 14 R595 R599 | dc false -/
  linkUp : Bool := false
  /-- PERST_N high | 14 R599 | dc false -/
  perstHigh : Bool := false
  /-- bus mastering enabled | 14 R595 | dc false -/
  busMaster : Bool := false
deriving DecidableEq, Repr

end Sys2Proof.Machine
end

