-- ==== Sys2Proof/Machine/ProgramTypes.lean ====
section
/-!
DEFINITION. State of programs: encoding (06), rate control (07), dispatch (05), packetization and egress (08).
Field comments: width | rule | origin of the reset value (dc: log entry 3).
-/
set_option Elab.async false
namespace Sys2Proof.Machine

/-- PROGRAM_CONFIG's settings. -/
structure ProgCfg where
  codec : Nat := 0
  k : Nat := 2
  nref : Nat := 2
  priority : Nat := 1
  tileCols : Nat := 1
  tileRows : Nat := 1
  sliceMode : Nat := 0
  options : Nat := 0
  refreshMode : Nat := 0
  gdrLength : Nat := 8
  refreshPeriod : Nat := 1
  psInterval : Nat := 1
  colWidths : List Nat := []
  rowHeights : List Nat := []
deriving DecidableEq, Repr

/-- RATE_CONFIG's and RATE_BOUNDS's settings (07 *Rate settings*, *Rate-control bounds*). -/
structure RateCfg where
  bitRate : Nat := 20000000
  /-- 0 selects the default -/
  cpbSize : Nat := 0
  hrdMode : Nat := 0
  idrFactor : Nat := 8
  qpMin : Nat := 0
  /-- none: the codec's maximum -/
  qpMax : Option Nat := none
  fixedQp : Option Nat := none
  frameCap : Nat := 0
deriving DecidableEq, Repr

/-- What a program's graph and coding are built from (05 R233): fixed at PROGRAM_START's clearing, altered at the clearings of running
changes, and copied by each picture at its own clearing. -/
structure Plan where
  cfg : ProgCfg := {}
  rate : RateCfg := {}
  geom : CanopyGeom := {}
  /-- subpicture rectangles (x, y, w, h) in units of 128 -/
  tiling : List (Nat × Nat × Nat × Nat) := []
  /-- tile column and row boundaries in CTUs (06 R288, R292) -/
  cols : List Nat := []
  rows : List Nat := []
  /-- level idc and tier of each stream (06 R272) -/
  levels : Tab (Nat × Nat) := []
deriving DecidableEq, Repr

/-- What a rate stream fixed for one picture, and what the picture cost. -/
structure PicRate where
  /-- picture count -/
  n : Nat
  /-- header allowance O_n (R330) -/
  o : Nat := 0
  /-- frame budget B_n (R331) -/
  b : Nat := 0
  /-- drain D_n (R327) -/
  d : Nat := 0
  /-- size s_n in bits, once complete -/
  s : Option Nat := none
  /-- row of the stream -> (b_r, a_r, floor mode) (R337) -/
  rows : Tab (Nat × Nat × Bool) := []
  /-- row -> coded size, once complete -/
  actual : Tab Nat := []
  /-- row × 64 + segment -> l_s (R339) -/
  limits : Tab Nat := []
  /-- row × 64 + segment -> coded bits -/
  segBits : Tab Nat := []
  /-- row -> row QP (R344) -/
  qps : Tab Nat := []
  /-- bits of NAL units other than slice data formed so far -/
  header : Nat := 0
  /-- wire(m) of R333 so far -/
  wire : Nat := 0
deriving DecidableEq, Repr

/-- One rate stream (R321). -/
structure RateStream where
  /-- number of the stream (R349) -/
  stream : Nat := 0
  rb : Nat := 0
  s : Nat := 0
  /-- initial_cpb_removal_delay d | 07 R326 -/
  d : Nat := 0
  /-- S_e | 07 R327 -/
  se : Nat := 0
  /-- exact level V before picture vn | 07 R327 | spec 0 -/
  v : Int := 0
  vn : Nat := 0
  /-- exact levels before recent pictures | 07 R331 | spec 0 -/
  exact : Tab Int := []
  /-- V counted for the last decided picture | 07 R348 | dc 0 -/
  lastV : Int := 0
  debt : Nat := 0
  spill : Nat := 0
  /-- overruns by picture not yet added to the debt | 07 R334 | dc empty -/
  overruns : Tab Nat := []
  overrunTotal : Nat := 0
  lastB : Nat := 0
  lastS : Nat := 0
  rowQp : Nat := 0
  wantQp : Nat := 0
  clamped : Bool := false
  clamps : Nat := 0
  floorPictures : Nat := 0
  floorRows : Nat := 0
  cutovers : Nat := 0
  /-- pictures still counted, newest first -/
  pics : List PicRate := []
deriving DecidableEq, Repr

/-- A motion vector in 1/16 luma samples. -/
abbrev Mv := Int × Int

/-- A picture of the DPB (R279). -/
structure RefPic where
  poc : Nat
  picture : Nat
  /-- count of its canopy frame -/
  frame : Nat := 0
  available : Bool := true
  /-- later pictures may refer to it -/
  live : Bool := true
  /-- position and length of the sweep it belongs to (R305) -/
  sweep : Option (Nat × Nat) := none
  /-- its motion field (R295): CTU address -> final vectors, by the order count of the reference they point to -/
  motion : Tab (List (Nat × Mv)) := []
  /-- what its reconstruction depends on (R43, R318): CTU address -> digest, once the CTU is coded -/
  digests : Tab Nat := []
deriving DecidableEq, Repr

/-- What the grove chose for a block (R298, R299). -/
structure Block where
  x : Nat
  y : Nat
  w : Nat
  h : Nat
  /-- 0 intra 1 inter 2 merge 3 MMVD 4 affine 5 skip -/
  mode : Nat
  /-- intra prediction mode, when intra, and the luma column left of which its reference samples lie (R307) -/
  intra : Nat := 0
  intraEnd : Nat := 0
  /-- reference (order count) and vector, when inter -/
  ref : Nat := 0
  mv : Mv := (0, 0)
  /-- vector precision of AMVR in 1/16 samples: 4, 16 or 64 (R298) -/
  precision : Nat := 4
  /-- control-point vectors of an affine block (R298) -/
  points : List Mv := []
  /-- coding tools used, by number in *VVC SPS and PPS fields* (R284) -/
  tools : List Nat := []
deriving DecidableEq, Repr

/-- How a CTU was coded. -/
structure CtuCode where
  /-- 0 coded, 1 floor mode (R341), 2 concealed (R313) -/
  how : Nat := 0
  /-- CTU vector of each reference, by order count (R297) -/
  vectors : List (Nat × Mv) := []
  blocks : List Block := []
  /-- codes a residual, and carries cu_qp_delta (R285) -/
  residual : Bool := false
  qpDelta : Bool := false
  /-- ALF: 0 off, 1–16 a fixed set, 17 the filters of the APS (R286) -/
  alf : Nat := 0
  /-- CC-ALF of the two chroma components, each 0 off or 1–4 a filter of the APS: first + 5 × second (R286) -/
  ccAlf : Nat := 0
  /-- SAO: 0 parameters of its own, 1 merged from the left, 2 merged from above (R341) -/
  sao : Nat := 0
  /-- merge index of a skip in floor mode (R341) -/
  merge : Option Nat := none
  /-- colour that every sample is predicted as (R313) -/
  fill : Option (List Nat) := none
  bits : Nat := 0
deriving DecidableEq, Repr

/-- A NAL unit other than a slice, or the header of a slice, by its type and the fields that the spec gives it (R276). -/
structure Nal where
  /-- nal_unit_type -/
  typ : Nat
  fields : List (String × Nat) := []
  /-- repeated fields: subpictures, tile columns and rows, slice rectangles, reference lists, hash values -/
  lists : List (List Nat) := []
deriving DecidableEq, Repr

/-- A packet that PACK_ROW has formed: its RTP payload bytes, and the marker (R356–R358). -/
structure RowPkt where
  bytes : List Byte
  marker : Bool := false
deriving DecidableEq, Repr
/-- Length of its RTP payload. -/
def RowPkt.payload (p : RowPkt) : Nat := p.bytes.length

/-- A coded row of a stream in the coded-row store (08 R369, R370): its bytes and packet descriptors, and once launched how many of its
packets have still to end on a leg. -/
structure StoreRow where
  pic : Nat
  row : Nat
  stream : Nat
  bytes : Nat
  packets : Nat
  left : Option Nat := none
deriving DecidableEq, Repr

/-- What the frame budget of a picture changed in its program, as it stood before: a twin refresh that begins at the picture while its
row 0 is undecided decides the budget anew (10 R461). -/
structure BudgetUndo where
  sweep : Option (Nat × Nat × Bool)
  poc : Nat
  sincePs : Nat
  sinceRefresh : Nat
  sinceBp : Nat
  nextAps : Nat
  refLost : Bool
  refs : List RefPic
  emitting : List Nat
  streams : List RateStream
deriving DecidableEq, Repr

/-- A picture being coded, packed and launched. -/
structure Picture where
  /-- count of its canopy frame -/
  f : Nat
  /-- picture count since PROGRAM_START -/
  n : Nat
  /-- grid instant of its canopy frame, extended TB0 ns -/
  g : Nat
  /-- launch time, extended ns on the launch base (R413) -/
  launch : Nat
  launchArrived : Bool := false
  poc : Nat := 0
  /-- 0 TRAIL, 1 GDR start, 2 IDR -/
  kind : Nat := 0
  /-- what its graph and coding are built from (05 R233) -/
  plan : Plan := {}
  /-- configuration epoch (R317) -/
  epoch : Nat := 0
  /-- position and length of a GDR sweep; twin refresh -/
  sweep : Option (Nat × Nat × Bool) := none
  /-- pictures since the last buffering period (R326) -/
  sinceBp : Nat := 0
  /-- ID of the APS that it carries (R286) -/
  aps : Option Nat := none
  /-- CTU address -> how it was coded -/
  ctus : Tab CtuCode := []
  /-- row × 512 + stream -> NAL units formed, but for slice data -/
  nals : Tab (List Nal) := []
  /-- carries parameter sets (R280) -/
  ps : Bool := false
  /-- carries a buffering period (R326) -/
  bp : Bool := false
  /-- the program ends with it (R314) -/
  eos : Bool := false
  /-- refresh asked for at its clearing: 0 none, 1 GDR, 2 IDR, 3 twin refresh -/
  req : Nat := 0
  /-- streams that SUBPIC_MAP chooses at its clearing -/
  want : List Nat := []
  /-- emitted streams, and those of them that end with it (R352) -/
  emit : List Nat := []
  ends : List Nat := []
  /-- pictures (by count) of its reference lists, which both hold these (R279) -/
  refs : List Nat := []
  /-- frame budget decided (R329) -/
  decided : Bool := false
  /-- what its frame budget changed, until its row 0 is decided (10 R461) -/
  undo : Option BudgetUndo := none
  /-- REFRESH_STARTED has been posted for it (R308) -/
  refreshPosted : Bool := false
  /-- row -> QP, when decided (R336) -/
  qps : Tab Nat := []
  /-- row × 512 + stream -> packets formed -/
  packs : Tab (List RowPkt) := []
  /-- row × 512 + stream -> bytes of the access unit in that row (R355) -/
  coded : Tab (List Byte) := []
  /-- row × 512 + stream -> check value of the packet payloads, and their length (12 R522) -/
  rowCvs : Tab (Nat × Nat) := []
  /-- row CRC of each packed row (R363), with the extended instant it became ready (R452) -/
  crcs : Tab (Nat × Nat) := []
  /-- gate decision of each row: 0 launch, 1 launch alone, 2 muted (R453) -/
  gate : Tab Nat := []
  /-- rows with the FAULT flag of this device (R456) -/
  faultRows : List Nat := []
  /-- rows released by LAUNCH_ROW -/
  launched : List Nat := []
  /-- concealed CTUs (R313) -/
  concealed : List Nat := []
  /-- streams for which FLOOR was posted (R343) -/
  floorPosted : List Nat := []
deriving DecidableEq, Repr

/-- A program. -/
structure Program where
  /-- PROGRAM_CONFIG's settings | 06 R314 | spec none -/
  cfg : Option ProgCfg := none
  /-- rate settings and bounds | 07 | spec defaults -/
  rate : RateCfg := {}
  /-- | 06 R314 | dc false -/
  running : Bool := false
  /-- PROGRAM_START accepted, its clearing still to come | 06 R314 | dc none -/
  starting : Bool := false
  /-- stopped: its last pictures still launch; its charges are held | 01 R34 | dc false -/
  draining : Bool := false
  /-- SUBPIC_MAP mode 1 SUBPICTURES | 08 R350 | spec 1 -/
  mapMode : Nat := 1
  /-- emitted subpicture streams; none: every one | 08 R350 | spec every -/
  mapSet : Option (List Nat) := none
  /-- streams that have begun (R352) | 08 R352 | dc empty -/
  emitting : List Nat := []
  /-- launch base | 09 R412 | dc 0 (TB0) -/
  launchBase : Nat := 0
  /-- window; none: one frame period | 09 R412 | spec frame period -/
  window : Option Nat := none
  /-- what the present run's graph and coding are built from, with levels and tiers | 05 R233, 06 R272 | dc empty -/
  plan : Plan := {}
  /-- configuration epoch | 06 R317 | dc 0 -/
  epoch : Nat := 0
  /-- grid instant of the clearing at which it began | 06 R317 | dc 0 -/
  epochG : Nat := 0
  /-- pictures begun since PROGRAM_START | 06 R314 | dc 0 -/
  pictures : Nat := 0
  /-- pictures since the last IDR | 06 R278 | dc 0 -/
  poc : Nat := 0
  /-- pictures since the last parameter sets | 06 R280 | dc 0 -/
  sincePs : Nat := 0
  /-- pictures since the last buffering period | 06 R326 | dc 0 -/
  sinceBp : Nat := 0
  /-- next APS ID, 0-7 | 06 R286 | dc 0 -/
  nextAps : Nat := 0
  /-- pictures since the start of the last refresh | 06 R302 | dc 0 -/
  sinceRefresh : Nat := 0
  /-- refresh requested for the next picture begun: 0 none, 1 GDR, 2 IDR, 3 twin refresh | 06 R303, 10 R461 | dc 0 -/
  refreshReq : Nat := 0
  /-- a configuration epoch begins at the next clearing | 06 R317 | dc false -/
  epochDue : Bool := false
  /-- PROGRAM_STOP takes effect at the present clearing | 06 R314 | dc false -/
  stopNow : Bool := false
  /-- sweep in progress: next position, length, twin refresh | 06 R305 | dc none -/
  sweep : Option (Nat × Nat × Bool) := none
  /-- DPB, newest first: pictures that later ones may refer to, and those in flight or read by pictures in flight | 06 R279 | dc empty -/
  refs : List RefPic := []
  /-- a reference became unavailable: the next picture starts a refresh | 06 R311 | dc false -/
  refLost : Bool := false
  /-- rate streams | 07 R321 | dc empty -/
  streams : List RateStream := []
  /-- a rate change waits for the buffer level (R324) | 07 R324 | dc false -/
  rateWaits : Bool := false
  /-- pictures begun and not yet launched in full, oldest first | 06 | dc empty -/
  pics : List Picture := []
  /-- coded-row store: rows packed and not yet free | 08 R369 R370 | dc empty -/
  store : List StoreRow := []
  /-- maximum RTP payload p of each stream | 08 R354 | dc empty -/
  payload : Tab Nat := []
  /-- permitted unit sets: encode cores, pixel engines, packetizers; none: default | 05 R261 | spec every schedulable unit -/
  permitted : Option (List Nat × List Nat × List Nat) := none
  /-- muted on this device, with cause | 10 R454 | dc none -/
  muted : Option Nat := none
  /-- the row it is muted from: picture × 4,096 + row | 10 R454 | dc 0 -/
  mutedFrom : Nat := 0
  /-- muted on the peer, with cause | 10 R454 | dc none -/
  peerMuted : Option Nat := none
  /-- the row it is muted from on the peer | 10 R454 | dc 0 -/
  peerMutedFrom : Nat := 0
  /-- first picture gated after the last splice: row CRCs of earlier pictures no longer tell of a mute | 10 R464 | dc 0 -/
  splicedFrom : Nat := 0
  /-- pictures before this one had their budget from the launching device's records, and take their rows from them | 10 R464 | dc 0 -/
  followEnd : Nat := 0
  /-- records still go out for pictures before this one: their budgets were sent while the peer followed | 10 R464 | dc 0 -/
  recordsUntil : Nat := 0
  /-- | 10 R462 | dc false -/
  follow : Bool := false
  /-- SPLICE has allowed R464 | 10 R465 | dc false -/
  spliceOk : Bool := false
  /-- first picture gated after a splice: SPLICED is posted, and follow mode ends, at the next budget | 10 R464 | dc none -/
  splicedNow : Option Nat := none
  /-- LAUNCH_ALONE has been posted | 10 R454 | dc false -/
  aloneNoted : Bool := false
  /-- FAULT kept set until a whole picture agrees | 10 R456 | dc false -/
  faultSticky : Bool := false
  /-- whole-picture comparison: picture count -> rows whose CRCs agreed | 10 R456 R464 | dc empty -/
  agreed : Tab Nat := []
  /-- this device's row CRCs: picture × 4,096 + row -> CRC | 10 R455 | dc empty -/
  ownCrcs : Tab Nat := []
  /-- the peer's row CRCs: picture × 4,096 + row -> CRC × 2 + FAULT | 10 R453 | dc empty -/
  peerCrcs : Tab Nat := []
  /-- when the peer's row CRCs were ready, extended TB0 ns | 10 ROW_CRC | dc empty -/
  peerReady : Tab Nat := []
  /-- row records received in follow mode: (picture, row) -> bytes | 10 R462 | dc empty -/
  records : List (Nat × Nat × List Byte) := []
  /-- program start permit still held | 14 R580 | dc false -/
  permitHeld : Bool := false
deriving DecidableEq, Repr

/-- Kind of a dispatcher operation (Operation kinds). -/
inductive OpKind where
  | compose | finish | encode | pack | launch
deriving DecidableEq, Repr

/-- Names one operation: kind, program, picture count, row, segment/section/stream. -/
structure OpKey where
  kind : OpKind
  prog : Nat
  pic : Nat
  row : Nat
  seg : Nat
deriving DecidableEq, Repr

/-- The saved context of an encode core (*Saved context*): what a segment's later bits depend on, beside its CTUs and bits. -/
structure EncContext where
  /-- arithmetic coder range, low and outstanding bits -/
  range : Nat := 510
  low : Nat := 0
  outstanding : Nat := 0
  /-- context-variable set, and the set stored for the row below (WPP, R290) -/
  vars : Nat := 0
  wpp : Option Nat := none
  /-- merge and affine history lists -/
  history : Nat := 0
  /-- SAO and ALF row statistics -/
  stats : Nat := 0
  /-- bitstream write pointer in bits -/
  pointer : Nat := 0
  /-- digest of all that the segment's bits depend on so far (R318, R319) -/
  digest : Nat := 0
  /-- a cu_qp_delta has been sent in the segment (R285) -/
  qpSent : Bool := false
deriving DecidableEq, Repr

/-- The saved context of a packetizer (*Saved context*). -/
structure PackContext where
  /-- byte position in the row -/
  position : Nat := 0
  /-- RTP sequence number of each flow of the stream, by flow, and the timestamp -/
  seqs : Tab Nat := []
  ts : Nat := 0
  /-- running row CRC as a check-value context -/
  crc : Nat := 0
deriving DecidableEq, Repr

/-- An internal check-value context of CRC-32C (12 R518, R520): running value, bytes absorbed, alive count. -/
structure CvInner where
  value : Nat := 0xFFFFFFFF
  length : Nat := 0
  alive : Nat := 0
deriving DecidableEq, Repr

/-- An operation the dispatcher holds (R236-R248). -/
structure Op where
  key : OpKey
  /-- 0-7 (R238) -/
  level : Nat
  /-- D, extended TB0 ns (R239) -/
  deadline : Nat
  /-- unit running it -/
  unit : Option Nat := none
  /-- to be pre-empted at its next pre-emption point (R244) -/
  preempt : Bool := false
  /-- completed -/
  done : Bool := false
  /-- CTUs (or packets) checkpointed (R247) -/
  progress : Nat := 0
  /-- bits of the segment so far; packets formed -/
  bits : Nat := 0
  /-- in floor mode from a cutover on (R340) -/
  cut : Bool := false
  /-- microcode slot (R258) -/
  slot : Nat := 0
  /-- reissued or promoted: level 1 whatever the program's (R238) -/
  raised : Bool := false
  /-- unit that last ran it, whose slot of the context store holds its context (R247) -/
  lastUnit : Option Nat := none
  /-- saved contexts (R247) -/
  enc : EncContext := {}
  pack : PackContext := {}
  /-- PACK_ROW's own context in CV0-CV7, which its packetizer presents packets to (12 R522, R529) -/
  cv : CvInner := {}
  /-- reissued without a unit yet: REISSUE is recorded when one takes it (R252, R266) -/
  reissue : Bool := false
deriving DecidableEq, Repr

/-- A unit: encode core, pixel engine or packetizer, keyed by its object index (R10). -/
structure PUnit where
  /-- 0 schedulable, 1 warm spare, 2 retired, 3 self-test | 05 R251 | spec spares EC64-67, PE10-11, PK8-9 -/
  state : Nat := 0
  /-- operation running | 05 R243 | dc none -/
  op : Option OpKey := none
  /-- delivery not yet acknowledged | 05 R243 | dc false -/
  awaitAck : Bool := false
  /-- last progress report, extended TB0 ns | 05 R249 | dc 0 -/
  lastReport : Nat := 0
  /-- self-test or reset command: queue and SEQ | 05 R256 | dc none -/
  cmd : Option (Nat × Nat) := none
  /-- unit it stands for in permitted sets | 05 R250 | dc none -/
  standsFor : Option Nat := none
  /-- active microcode slot | 05 R258 | dc 0 -/
  slot : Nat := 0
deriving DecidableEq, Repr

/-- A trace record (R266), fields as in *Trace record*. -/
structure TraceRec where
  ts : Nat := 0
  decision : Nat := 0
  level : Nat := 0
  unitKind : Nat := 0
  unit : Nat := 0
  opKind : Nat := 0
  prog : Nat := 0
  frame : Nat := 0
  retired : Nat := 0
  row : Nat := 0
  seg : Nat := 0
  slack : Int := 0
deriving DecidableEq, Repr

/-- The dispatcher. -/
structure Disp where
  /-- operation store, at most 24,576 | 05 R237 | dc empty -/
  ops : List Op := []
  /-- units by object index; unlisted ones as at cold start | 05 R251 | spec -/
  units : Tab PUnit := []
  /-- restarting after a lockstep mismatch | 05 R254 | dc false -/
  restarting : Bool := false
  /-- completions gathered during a restart | 05 R254 | dc empty -/
  gathered : List Nat := []
  /-- end of the restart, extended TB0 ns | 05 R254 | dc 0 -/
  restartEnd : Nat := 0
  /-- units that ran the operations of recent rows: (operation, unit), newest first | 05 R259 | dc empty -/
  lastUnits : List (OpKey × Nat) := []
  /-- 1 | 05 TRC_CTRL | spec 1 -/
  trcEnable : Bool := true
  /-- 1 | 05 TRC_CTRL | spec 0 -/
  trcStop : Bool := false
  /-- 1 | 05 TRC_CTRL | spec 0 -/
  trcFreezeOnFault : Bool := false
  /-- frozen under R269 | dc false -/
  trcFrozen : Bool := false
  /-- 13 | 05 TRC_WR_IDX | spec 0 -/
  trcWr : Nat := 0
  /-- 13 | 05 TRC_RD_IDX | spec 0 -/
  trcRd : Nat := 0
  /-- unread records held, at most 8,192 | 05 R268 | dc 0 -/
  trcUnread : Nat := 0
  /-- 32 saturating | 05 TRC_LOST | spec 0 -/
  trcLost : Nat := 0
  /-- ring of 8,192 records | 05 R266 | dc empty -/
  trcRing : Tab TraceRec := []
  /-- four latched words | 05 TRC_DATA | spec 0 -/
  trcData : List Nat := [0, 0, 0, 0]
  /-- DECISIONS of TRACE_CONFIG | 17 | dc every code 1-10 -/
  trcDecisions : Nat := 0x7FE
  /-- PROGRAMS of TRACE_CONFIG | 17 | dc every program -/
  trcPrograms : Nat := 0xFFFF
  /-- 16 | 05 DSP_PLACE_CLAMPED | spec 0 -/
  placeClamped : Nat := 0
  /-- 32 each, saturating | 05 DSP_PLACE_CLAMPS_n | spec 0 -/
  placeClamps : Tab Nat := []
deriving DecidableEq, Repr

end Sys2Proof.Machine
end

