-- ==== Sys2Proof/Machine/SystemTypes.lean ====
section
/-!
DEFINITION. State of the twin (10), stacked DRAM (11), check-value units (12), power, clocks and reset (14), update and
life cycle (15), observability (16). Field comments: width | rule | origin of the reset value (dc: log entry 3).
-/
set_option Elab.async false
namespace Sys2Proof.Machine

/-- One tether path (A or B). -/
structure TPath where
  /-- | 10 R439 | spec 0 -/
  up : Bool := false
  /-- last valid heartbeat, extended TB0 ns | 10 R439 | dc none -/
  lastHb : Option Nat := none
  /-- timely heartbeats in a row | 10 R439 | dc 0 -/
  timely : Nat := 0
  /-- 32 | 10 R469 | dc 0 -/
  losses : Nat := 0
  /-- this device's last heartbeat on it, extended TB0 ns | 10 R438 | dc none -/
  sentHb : Option Nat := none
deriving DecidableEq, Repr

/-- What a COMMIT_NOTE says (R444, *Tether messages*). -/
structure Note where
  commitSeq : Nat
  effect : Nat
  kind : Nat
  tb : Nat
  status : Nat
  detail : Nat
deriving DecidableEq, Repr

/-- An epoch being received or sent (R448, R449). -/
structure EpochBuf where
  number : Nat
  kind : Nat := 0
  data : Tab Byte := []
  fails : Nat := 0
  /-- total length in bytes -/
  length : Nat := 0
  pos : Nat := 0
  apply : Nat := 0
  verified : Bool := false
deriving DecidableEq, Repr

/-- What R429 compares of the peer. -/
structure PeerFacts where
  /-- DEV_UID that it names as its peer -/
  names : Nat := 0
  /-- role asked for -/
  ask : Nat := 0
  part : Nat := 0
  stepping : Nat := 0
  fwSet : Nat := 0
  /-- mode, state and domain of its TB0 -/
  tbMode : Nat := 0
  tbState : Nat := 0
  domain : Nat := 0
  /-- each of its running programs uses WPP or slice mode ROW -/
  rows : Bool := false
deriving DecidableEq, Repr

/-- The twin (10_twin_operation.md). -/
structure Twin where
  /-- 2: 0 SINGLE 1 FORMING 2 LEAD 3 FOLLOWER | 10 R470 | spec 0 -/
  role : Nat := 0
  split : Bool := false
  peerLost : Bool := false
  pathA : TPath := {}
  pathB : TPath := {}
  /-- 32 | 10 R457 | dc 0 -/
  term : Nat := 0
  peerUid : Nat := 0
  askRole : Nat := 0
  autoSplice : Bool := true
  ytRate : Nat := 0
  mgPorts : Nat := 0
  udpPort : Nat := 23018
  ipVer : Nat := 0
  peerMg0 : List Byte := []
  peerMg1 : List Byte := []
  /-- what the last heartbeat said: role, TERM, muted, DEV_UID | 10 HEARTBEAT -/
  peerRole : Nat := 0
  peerTerm : Nat := 0
  peerMuted : Nat := 0
  peerSeenUid : Nat := 0
  /-- what R429 compares of the peer; no tether message carries it (log entry 98) -/
  peer : PeerFacts := {}
  /-- signed ns | 10 R469 | dc 0 -/
  tbDiff : Int := 0
  /-- 32 | 10 R469 | dc 0 -/
  lastEpoch : Nat := 0
  nextEpoch : Nat := 1
  /-- 64 | 10 R444 | dc 0 -/
  commitSeq : Nat := 0
  applied : Nat := 0
  /-- COMMANDs that a would-be follower holds until the join epoch applies: acceptance position, packet | 10 R431 | dc empty -/
  held : List (Nat × List Byte) := []
  /-- COMMIT_NOTEs not yet applied: acceptance position, note | 10 R444 | dc empty -/
  notes : List (Nat × Note) := []
  /-- highest acceptance position journaled | 10 HEARTBEAT | dc 0 -/
  journaled : Nat := 0
  /-- data epochs verified and not yet used | 10 R449 | dc empty -/
  verified : List EpochBuf := []
  /-- failures in a row of the epochs received | 10 R449 | dc 0 -/
  rxFails : Nat := 0
  /-- when TAKE was sent, extended TB0 ns | 10 R460 | dc 0 -/
  takeAt : Nat := 0
  sending : List EpochBuf := []
  /-- epochs of which some bytes have arrived, by number | 10 R449 | dc empty -/
  receiving : List EpochBuf := []
  /-- the join epoch verified and not yet applied | 10 R449 | dc none -/
  joinIn : Option EpochBuf := none
  joinApply : Option Nat := none
  /-- COMMANDs sent and not yet acknowledged: acceptance position, packet, instant of sending | 10 R442 | dc empty -/
  unacked : List (Nat × List Byte × Nat) := []
  /-- next MSG_SEQ by path and type | 10 R433 | dc 0 -/
  msgSeq : Tab Nat := []
  /-- MSG_SEQ that the next block or datagram received bears, by path and type | 10 R435 | dc none -/
  rxSeq : Tab Nat := []
  /-- bytes received of a message whose last fragment is still to come, by path and type | 10 R435 | dc none -/
  rxPart : Tab (List Byte) := []
  /-- blocks that wait for path A: priority, block; sorted, oldest first | 10 R436 | dc empty -/
  txA : List (Nat × List Byte) := []
  /-- instant at which path A can start its next block row, ns | 10 R433, R436 | dc 0 -/
  txFree : Nat := 0
  /-- counters DISAGREE_ROWS TIMEOUT_ROWS ALONE_ROWS FAULT_ROWS SPLICES TAKEOVERS EPOCH_FAILS | 10 R469 | dc 0 -/
  counters : Tab Nat := []
  /-- SWAP waiting (1), SWAP sent (3) or TAKE sent (2): kind, queue, SEQ | 10 R460 | dc none -/
  exchange : Option (Nat × Nat × Nat) := none
deriving DecidableEq, Repr

/-- An error table entry (R515). -/
structure EccEntry where
  channel : Nat := 0
  location : Nat := 0
  /-- in-channel address of the word | 11 R473, R508 -/
  ca : Nat := 0
  word : Nat := 0xFFFFFFFF
  kind : Nat := 0
  /-- 0 OPEN 1 WATCH 2 SOFT 3 HARD_PENDING 4 REPAIRED 5 EXHAUSTED -/
  state : Nat := 0
  pos0 : Nat := 255
  pos1 : Nat := 255
  synd : Nat := 0
  hits : Nat := 0
  first : Nat := 0
  last : Nat := 0
  /-- the model's own: instant of the last error, extended TB0 ns, by which entries are ordered | 11 R513 | dc 0 -/
  lastAt : Nat := 0
  reads : Nat := 0
deriving DecidableEq, Repr

/-- A physical DRAM channel, keyed by its object index. -/
structure Channel where
  /-- 80 bits each: stored words by word index (CA/8); unlisted words hold the fill, W = 0 | 11 R499 R503 | spec filled -/
  words : Tab Nat := []
  /-- 80 bits each: training area words | 11 R516 | dc empty -/
  training : Tab Nat := []
  /-- 1 | 11 R494 MEM_RETIRED_s | spec 0 -/
  retired : Bool := false
  /-- 1 | 11 R471 R488 | dc false -/
  selfRefresh : Bool := false
  /-- refresh debt of each bank group | 11 R483 | dc 0 -/
  debt : Tab Nat := []
  /-- open row by bank, with the instant it closes at when idle, extended TB0 ns | 11 R482 | dc empty -/
  openRows : Tab (Nat × Nat) := []
  /-- retraining: rate of the set trained, and the command | 11 R492 R498 | dc none -/
  retraining : Option (Nat × Option (Nat × Nat)) := none
  /-- an automatic retraining waits for its permit | 11 R493 | dc false -/
  waitPermit : Bool := false
  /-- temperature at the last training, signed 1/16 °C | 11 R492 | dc 0 -/
  trainedTemp : Int := 0
  /-- tracked margin, 1/256 UI | 11 R491 | dc 64 -/
  margin : Nat := 64
  /-- read and write delay, 1/256 UI | 11 R491 | dc 0 -/
  delays : Int × Int := (0, 0)
  /-- the logical channel that it served when it was retired | 11 R494 | dc none -/
  was : Option Nat := none
  /-- CA parity failures (extended TB0 ns) within 1 µs | 11 R494 | dc empty -/
  caFails : List Nat := []
  /-- uncorrectable reads within 1 ms: (extended TB0 ns, bank and row) | 11 R494 | dc empty -/
  ueReads : List (Nat × Nat) := []
  /-- correctable errors within 1 s of words not in the error table: (extended TB0 ns, lane) | 11 R492 | dc empty -/
  ceLanes : List (Nat × Nat) := []
  /-- remapped rows: (bank, row), each using one of its bank's 8 spare rows | 11 R511 | spec repair store -/
  repairs : List (Nat × Nat) := []
  /-- timing sets of the three rates | 11 R489 | dc none -/
  sets : List (Option EyeScan) := [none, none, none]
deriving DecidableEq, Repr

/-- A pool reservation: owner object, slot, and its pages, each as the logical channel and slot that the page map first gives it (R473,
R475); `Mem.placeOf` says where it stands. -/
structure Reservation where
  owner : Nat
  slot : Nat
  pages : List (Nat × Nat)
  mirror : List (Nat × Nat) := []
  filled : Bool := false
  cmd : Option (Nat × Nat) := none
deriving DecidableEq, Repr

/-- An ECC test in progress (R516): physical channel, word, data, flips, and the command that started it. -/
structure EctTest where
  channel : Nat
  word : Nat
  data : Nat
  flips : Nat
  cmd : Option (Nat × Nat)
deriving DecidableEq, Repr

/-- A MEM_FREQ in progress (R498). -/
structure FreqChange where
  rate : Nat
  cmd : Nat × Nat
  /-- stacks switched -/
  stage : Nat := 0
  /-- when S0 switched, extended TB0 ns -/
  since : Nat := 0
deriving DecidableEq, Repr

/-- Stacked DRAM. -/
structure Mem where
  channels : Tab Channel := []
  /-- logical channel 0-31 -> physical channel; none: unbacked; unlisted: as at cold start | 11 R472 | spec CHi -/
  map : Tab (Option Nat) := []
  /-- start channel s | 11 R475 | spec 0 -/
  start : Nat := 0
  reservations : List Reservation := []
  /-- pool mapping order | 11 R478 | spec 1 -/
  order : Nat := 1
  /-- 8 | 11 R482 | spec 32 -/
  pageIdle : Nat := 32
  /-- 0-8 | 11 R484 | spec 8 -/
  postpone : Nat := 8
  /-- °C | 11 R485 | spec 85 -/
  threshold : Nat := 85
  /-- modes of pools, lamp table, critical region: 0 CORRECT_KEEP 1 CORRECT_LOG 2 KEEP_LOG | 11 R507 | spec 2 -/
  eccModes : List Nat := [2, 2, 2]
  /-- error table, at most 64 | 11 R508 | dc empty -/
  table : Tab EccEntry := []
  scrubHours : Nat := 24
  /-- HOURS for the next pass | 17 SCRUB_CONFIG | dc none -/
  scrubNext : Option Nat := none
  /-- patrol position: physical channel, word | 11 R514 | dc 0 -/
  scrubPos : Nat × Nat := (0, 0)
  /-- signed 1/16 °C of S0 and S1 | 11 MEM_TEMP | spec 0 -/
  temps : List Int := [0, 0]
  doubled : List Bool := [false, false]
  /-- 2 | 11 MEM_REFPOST_CLAMPED | spec 0 -/
  postClamped : List Bool := [false, false]
  /-- 32 | 11 MEM_REFPOST_CLAMPS | spec 0 -/
  postClamps : Nat := 0
  ceCount : Nat := 0
  ueCount : Nat := 0
  unwritten : Nat := 0
  logFull : Nat := 0
  unbackedWrites : Nat := 0
  /-- 2 each | 11 MEM_RATE | spec 0 -/
  rates : List Nat := [0, 0]
  /-- rate change in progress | 11 R498 | dc none -/
  freq : Option FreqChange := none
  ectTarget : Nat := 0
  ectOffset : Nat := 0
  ectDataLo : Nat := 0
  ectDataHi : Nat := 0
  /-- 64, the pair as taken | 00 R16 | spec 0 -/
  ectData : Nat := 0
  ectFlip0 : Nat := 0
  ectFlip1 : Nat := 0
  ectFlip2 : Nat := 0
  ectBusy : Bool := false
  /-- the test running | 11 R516 | dc none -/
  ectTest : Option EctTest := none
  ectOutcome : Nat := 0
  ectW : Bool := false
  ectPos0 : Nat := 0
  ectPos1 : Nat := 0
  ectRd : Nat := 0
  ectSynd : Nat := 0
  /-- 64 | 11 R503 | spec 0 when none stored -/
  fill : Nat := 0
  /-- spares onto which mirrored content is being copied: physical channel | 11 R495 | dc empty -/
  copying : List Nat := []
  /-- spares whose copy waits for its permit | 11 R495, 14 R582 | dc empty -/
  copyWait : List Nat := []
  /-- exchanges of places in the page map, oldest first: pages moved off an unbacked channel | 11 R473, R496 | dc empty -/
  moved : List ((Nat × Nat) × (Nat × Nat)) := []
  /-- 64 data bits and 8 byte parities of the word that a unit's SRAM last took, from its fill or a read, by unit | 11 R503, 12 R532 | dc empty -/
  sram : Tab (Nat × Nat) := []
deriving DecidableEq, Repr

/-- A check-value unit (R520-R526). -/
structure CvUnit where
  algo : Nat := 0
  /-- running value, output orientation | 12 R520 | dc 0 -/
  value : Nat := 0
  /-- 48 | 12 R520 | dc 0 -/
  length : Nat := 0
  /-- 8 | 12 R520 | dc 0 -/
  alive : Nat := 0
  unwritten : Bool := false
  /-- 0 NONE 1 DRAM 2 CANOPY 3 STREAM 4 FLOW | 12 R523 | dc 0 -/
  tap : Nat := 0
  stream : Nat := 0
  source : Nat := 0
  da : Nat := 0
  dramLen : Nat := 0
  /-- 35, DA of the next word of a DRAM tap | 12 R525 | dc 0 -/
  at_ : Nat := 0
  /-- an uncorrectable word has ended the DRAM tap: DA[34:3] | 12 R525 | dc none -/
  bad : Option Nat := none
  /-- CV_CONFIG of a DRAM tap: queue and SEQ | 12 R525 | dc none -/
  cmd : Option (Nat × Nat) := none
  /-- last 16 results, newest first | 12 R524 | dc empty -/
  results : List Nat := []
  /-- instant at which the tap took effect, extended TB0 ns | 12 R524 | dc 0 -/
  since : Nat := 0
deriving DecidableEq, Repr

/-- Power, clocks and reset (14). -/
structure Power where
  /-- 4 | 14 PWR_STATUS | spec 0 -/
  bootStage : Nat := 0
  /-- 1 | 14 PWR_STATUS | spec 0 -/
  ready : Bool := false
  rstCause : Nat := 0
  warmCause : Nat := 0
  warmCount : Nat := 0
  /-- 2 | 14 PWR_STATUS | spec 0 (pair 0), 1 (pair 1) -/
  pair0 : Nat := 0
  pair1 : Nat := 1
  vinLow : Bool := false
  vinHigh : Bool := false
  /-- mV | 14 PWR_SUPPLY | spec 0 -/
  vin : Nat := 0
  /-- 10 mA | 14 PWR_SUPPLY | spec 0 -/
  iin : Nat := 0
  /-- 0.1 W mean of VIN·IIN | 14 R579 | dc 0 -/
  measured : Nat := 0
  permits : List Permit := []
  /-- refusals per permit code | 14 R584 | dc 0 -/
  refusals : Tab Nat := []
  /-- signed 1/16 °C | 14 PWR_THERMAL | spec 0 -/
  tj : Int := 0
  /-- mV and 1/16 °C, the levels last seen on the analog inputs: no registers, they stand through a cold start | 14 R568, R588 | dc 0 -/
  vinAt : Nat := 0
  tjAt : Int := 0
  /-- °C | 14 PWR_THERMAL | spec 0x64 -/
  threshold : Nat := 100
  /-- 0.1 A | 14 R572 | spec 520 -/
  limit : Nat := 520
  step : Nat := 0
  causeCurrent : Bool := false
  causeThermal : Bool := false
  /-- highest step and start of the throttle period | 16 THROTTLE_END | dc 0 -/
  maxStep : Nat := 0
  throttleSince : Nat := 0
  /-- 6 | 14 PWR_ALERT | spec 0 -/
  alert : Nat := 0
  /-- 6 | 14 PWR_ALERT | spec 0 -/
  alertMask : Nat := 0
  /-- mV per rail | 14 PWR_AVS_VOLT_d | spec 0 -/
  avsMv : Tab Nat := []
  avsClamped : List Nat := []
  avsClamps : Tab Nat := []
  /-- (min, max) per rail | 14 R586 | spec 600, 950 -/
  avsBounds : Tab (Nat × Nat) := []
  pllLocked : Bool := false
  refclkOk : Bool := false
  holdover : Bool := false
  refclkLostAt : Nat := 0
  /-- a warm reset is in progress | 14 R592 | dc false -/
  warm : Bool := false
  /-- what start-up waits for: 0 nothing, 1 power-on release, 2 RESET_N to rise, 3 the junction and power-on release | 14 R569 | spec power-on -/
  held : Nat := 1
  resetN : Bool := true
  /-- WARM_RESET command waiting for its reply | 14 R593 | dc none -/
  warmCmd : Option (Nat × Nat) := none
  vinUpdateMin : Nat := 2700
  /-- MC pair frozen/self-test | 14 R597 -/
  pairTest : Option Nat := none
  /-- configuration area writes in progress: 1 DEVICE_CONFIG, 2 POWER_BUDGET, with queue and SEQ | 17 R663 R668 | dc empty -/
  cfgWrites : List (Nat × Nat × Nat) := []
  /-- lanes recalibrating | 14 R580 | dc empty -/
  recal : List Nat := []
  recalWaiting : List Nat := []
  /-- records of the flash journal re-executed in this start-up | 02 R111 | dc 0 -/
  replayed : Nat := 0
  compactWaiting : Bool := false
deriving DecidableEq, Repr

/-- A part of the image set of a bank: its type, version, and the stored CRC-64/XZ of its image (15 R603). -/
structure BankPart where
  type : Nat := 0
  version : Nat := 0
  crc : Nat := 0
deriving DecidableEq, Repr

/-- A flash bank: one image set with its record (15 R603, R609). -/
structure Bank where
  data : Tab Byte := []
  /-- sectors erased / written in full -/
  erased : List Nat := []
  format : Nat := 0
  total : Nat := 0
  verified : Bool := false
  /-- record of an unfinished or whole download is present -/
  hasRecord : Bool := false
  /-- a whole container that a cold start or a cancellation under R613 left behind | 15 R611 | dc none -/
  left : Bool := false
  setVersion : Nat := 0
  secVersion : Nat := 0
  valid : Bool := false
  /-- parts of the set, those copied from the active bank among them | 15 R603, R605 | dc none -/
  parts : List BankPart := []
deriving DecidableEq, Repr

/-- A copy of the confirmed marker (15 *Confirmed marker*); its MAGIC and CRC are those of `Marker.record`. -/
structure Marker where
  seq : Nat := 1
  bank : Nat := 0
  secVersion : Nat := 0
  setVersion : Nat := 0
deriving DecidableEq, Repr

/-- Non-volatile content: flash settings, marker, banks, fuses. Kept by every reset (R591). -/
structure NonVol where
  /-- PART: 0x8216 or 0x8212 | 00 R8 | dc 0x8216 -/
  part : Nat := 0x8216
  grade : Nat := 0
  stepping : Nat := 2
  uid : Nat := 0
  /-- life-cycle state in fuses | 15 R633 | dc 2 FIELD -/
  lifecycle : Nat := 2
  nextLife : Nat := 2
  returns : Nat := 0
  antiRollback : Nat := 0
  revoked : List Nat := []
  keysProgrammed : Bool := true
  keyKill : Bool := false
  /-- V_fuse per rail, mV | 14 R586 | free (Config) -/
  limit : Option Nat := none
  throttle : Option Nat := none
  vinUpdateMin : Option Nat := none
  fill : Option Nat := none
  splits : List Nat := [0, 0, 0, 0]
  ownerLock : Option (List Byte) := none
  /-- confirmed marker copies, none: invalid | 15 R629 | dc bank A -/
  marker0 : Option Marker := some {}
  marker1 : Option Marker := none
  bankA : Bank := { valid := true, verified := true, hasRecord := true }
  bankB : Bank := {}
  /-- update state when power was lost: UPD_STATE code, or 8 between the marker and the end of the old pair's restart | 15 R630 | dc 0 -/
  updAtLoss : Nat := 0
  flash : List FlashRec := []
  repairs : Tab (List (Nat × Nat)) := []
  retired : List Nat := []
  eraseSettings : Bool := false
deriving DecidableEq, Repr

/-- The update engine and identity registers (15). -/
structure Update where
  /-- identity registers loaded from fuses | 00 R8 | spec 0 before the fuses are read -/
  fusesRead : Bool := false
  lifeState : Nat := 0
  lifeNext : Nat := 0
  fwSetVersion : Nat := 0
  fwSecVersion : Nat := 0
  fwConfirmed : Bool := false
  fwBank : Nat := 0
  fwLegacy : Bool := false
  /-- 4 | 15 UPD_STATE | spec 0 -/
  state : Nat := 0
  lastResult : Nat := 0
  code : Nat := 0
  received : Nat := 0
  format : Nat := 0
  total : Nat := 0
  verifyCmd : Option (Nat × Nat) := none
  scheduleCmd : Option (Nat × Nat) := none
  cancelCmd : Option (Nat × Nat) := none
  cancelPending : Bool := false
  dataCmd : Option (Nat × Nat) := none
  /-- activation time A: 33-bit stored value, extended instant | 15 R614 | dc none -/
  a : Option Nat := none
  aAt : Nat := 0
  window : Nat := 60
  hostConfirm : Bool := false
  hostConfirmed : Bool := false
  selfTestPassed : Bool := false
  startChecks : Bool := false
  fallbackAt : Option (Nat × Nat) := none
  /-- pair that runs the unconfirmed set | 15 R616 | dc none -/
  newPair : Option Nat := none
  /-- canopies whose units have still to switch slot at a clearing; the slot | 15 R616 | dc empty -/
  switching : List Nat := []
  slot : Nat := 0
  stagedSet : Option (Nat × Nat) := none
  /-- the staged container is a FAL-7408 one, and its REVOKE_BELOW slot -/
  stagedLegacy : Bool := false
  stagedRevoke : Option Nat := none
  phyStaged : Bool := false
  /-- lanes and channels (object ID, or lane index) that run the PHY tables of a set activated since the cold start: its SET_VERSION |
  15 R616 | dc none -/
  phy : Tab Nat := []
  recAddrLo : Nat := 0
  recAddrHi : Nat := 0
  recAddr : Nat := 0
  recLen : Nat := 0
  recBusy : Bool := false
  recCode : Nat := 0
  /-- present JTAG instruction | 15 R637 | dc BYPASS -/
  jtag : Nat := 0
deriving DecidableEq, Repr

/-- A performance counter (R638). -/
structure Pmc where
  count : Nat := 0
  enable : Bool := false
  chain : Bool := false
  leg : Nat := 0
  qual : Nat := 0
  event : Nat := 0
  object : Nat := 0
  /-- latched bits 47:32 -/
  hi : Nat := 0
  snap : Nat := 0
deriving DecidableEq, Repr

/-- A sample record (R647). -/
structure SampleRec where
  addr : Nat := 0
  insn : Nat := 0
  latency : Nat := 0
  event : Nat := 0
  flags : Nat := 0
  ts : Nat := 0
deriving DecidableEq, Repr

/-- Equalizer bounds of one lane (SET_LOOP_BOUNDS): CTLE, VGA, first DFE tap. -/
structure EqBounds where
  ctleMin : Int := 0
  ctleMax : Int := 31
  vgaMin : Int := 0
  vgaMax : Int := 31
  dfeMin : Int := -32
  dfeMax : Int := 31
deriving DecidableEq, Repr

/-- Counters and sampling (16). -/
structure Obs where
  pmcs : Tab Pmc := []
  /-- 128 overflow bits | 16 PMC_OVF_m | spec 0 -/
  ovf : List Nat := []
  snapSeq : Nat := 0
  snapBusy : Bool := false
  /-- half cycles of CLK_FAB not yet counted | 16 FAB_CYCLES | dc 0 -/
  fabHalf : Nat := 0
  /-- the model's own: 16ths of a CLK_ENC and 80ths of a CLK_PIX cycle not yet counted | 16 UNIT_BUSY | dc 0 -/
  encRem : Nat := 0
  pixRem : Nat := 0
  /-- sampling per pair: event, enable, period, events counted | 16 R645 | dc off -/
  sampling : Tab (Nat × Bool × Nat × Nat) := []
  smpWr : Nat := 0
  smpRd : Nat := 0
  smpUnread : Nat := 0
  smpLost : Nat := 0
  smpRing : Tab SampleRec := []
  smpData : List Nat := [0, 0, 0, 0, 0, 0]
  /-- clamped equalizer lanes | 16 OBS_EQ_CLAMPED | spec 0 -/
  eqClamped : List Nat := []
  /-- equalizer bounds by lane: CTLE, VGA, DFE (min, max) | 17 SET_LOOP_BOUNDS | dc full range -/
  eqBounds : Tab EqBounds := []
  /-- present equalizer settings by lane | 16 | dc 0 -/
  eqNow : Tab (Int × Int × Int) := []
  /-- 32 per lane, clamped decisions, saturating | 01 R48 | spec 0 -/
  eqClamps : Tab Nat := []
  /-- happenings counted by event code, object, qualifier, leg: counters outside PMC (chain failures, port counts) -/
  chainFails : Tab Nat := []
deriving DecidableEq, Repr

end Sys2Proof.Machine
end

