-- ==== Sys2Proof/Machine/State.lean ====
section
/-!
DEFINITION. The whole state of the block, the reasons a step can stop, and the state after reset. Every sub-structure's field
defaults ARE the reset values; their comments name the rule and say whether the spec gives the value (spec) or the model
does (dc: log entry 3; presumed: log entry 4).
-/
set_option Elab.async false
namespace Sys2Proof.Machine

/-- Why a step faults. -/
inductive Fault where
  /-- Raised by every meaning whose operand names a queue, an object, a port or a register that the spec says the
  device does not have. Safe: the device has no such thing to act on. -/
  | noSuchObject
deriving DecidableEq, Repr

/-- Why a command is refused. -/
inductive Refusal where
  /-- Raised by a refused arm of the dispatch only: the command has no meaning yet. Safe. -/
  | notModelled (mnemonic : String)
deriving DecidableEq, Repr

/-- The FAL-8216. -/
structure State where
  /-- command queues, journal, rings, events (02, 17) -/
  hif : Hif := {}
  /-- admission charges held (01 R34, R37) -/
  charges : List Charge := []
  /-- encode capacity lost beyond spares, in luma samples/s (01 R41) -/
  encLost : Nat := 0
  /-- 256 ingress flow contexts (03) -/
  rx : Tab RxFlow := []
  /-- YB0-YB3 at 0-3, YT at 4 (03, 10) -/
  braids : Tab Braid := []
  /-- canopies, layers, lamp table (04) -/
  comp : Compose := {}
  /-- P0-P15 (06, 07) -/
  progs : Tab Program := []
  /-- task dispatcher, units, trace (05) -/
  disp : Disp := {}
  /-- egress flows and sub-ports (08) -/
  egress : Egress := {}
  /-- time bases and launch status (09) -/
  time : Time := {}
  /-- audio ports, clock, routes (13) -/
  audio : Audio := {}
  /-- twin and tether (10) -/
  twin : Twin := {}
  /-- stacked DRAM (11) -/
  mem : Mem := {}
  /-- CV0-CV15 (12) -/
  cv : Tab CvUnit := []
  /-- power, permits, clocks, resets (14) -/
  power : Power := {}
  /-- flash and fuses, kept by every reset (14 R591, 15) -/
  nv : NonVol := {}
  /-- update engine, life cycle, recovery (15) -/
  upd : Update := {}
  /-- performance counters, sampling, equalizers (16) -/
  obs : Obs := {}
  /-- the model's own: what the device has put on its interfaces, newest first -/
  out : List Output := []
  /-- the model's own: how many free values have been drawn (log entry 5) -/
  free : Nat := 0
  /-- the model's own: commands waiting, first in first out -/
  pending : List Instr := []
deriving DecidableEq, Repr

/-- The machine with power applied and before power-on release: every field at its reset value (R17, R591). -/
def State.reset : State := {}

end Sys2Proof.Machine
end

