-- ==== Sys2Proof/Machine/Ops.lean ====
section
/-!
DEFINITION. The operations every family of commands shares: access to the banks of the state, time, events, replies and
outcomes of commands, permits, free values.
-/
set_option Elab.async false
namespace Sys2Proof.Machine

open Sys2Proof

/-- What a meaning answers. -/
abbrev Out := Host.Outcome State Fault Refusal

/-- A meaning whose operands name things the device has answers its next state; otherwise the model stops. -/
def need (ok : Bool) (s : State) : Out := if ok then .next s else .fault .noSuchObject

/-! ### Banks -/

def State.queue (s : State) (q : Nat) : CmdQueue := s.hif.queues.get {} q
def State.modQueue (s : State) (q : Nat) (f : CmdQueue → CmdQueue) : State :=
  { s with hif := { s.hif with queues := s.hif.queues.upd {} q f } }
def State.rxFlow (s : State) (i : Nat) : RxFlow := s.rx.get {} i
def State.modRx (s : State) (i : Nat) (f : RxFlow → RxFlow) : State := { s with rx := s.rx.upd {} i f }
def State.braid (s : State) (i : Nat) : Braid := s.braids.get {} i
def State.modBraid (s : State) (i : Nat) (f : Braid → Braid) : State := { s with braids := s.braids.upd {} i f }
def State.canopy (s : State) (i : Nat) : Canopy := s.comp.canopies.get {} i
def State.modCanopy (s : State) (i : Nat) (f : Canopy → Canopy) : State :=
  { s with comp := { s.comp with canopies := s.comp.canopies.upd {} i f } }
/-- VLn is layer n, GLn is layer 32 + n. -/
def State.layer (s : State) (i : Nat) : Layer := s.comp.layers.get {} i
def State.modLayer (s : State) (i : Nat) (f : Layer → Layer) : State :=
  { s with comp := { s.comp with layers := s.comp.layers.upd {} i f } }
def State.prog (s : State) (i : Nat) : Program := s.progs.get {} i
def State.modProg (s : State) (i : Nat) (f : Program → Program) : State := { s with progs := s.progs.upd {} i f }
def State.txFlow (s : State) (i : Nat) : TxFlow := s.egress.flows.get {} i
def State.modTx (s : State) (i : Nat) (f : TxFlow → TxFlow) : State :=
  { s with egress := { s.egress with flows := s.egress.flows.upd {} i f } }
def State.subPort (s : State) (port sub : Nat) : SubPort := s.egress.subPorts.get {} (4 * port + sub)
def State.modSub (s : State) (port sub : Nat) (f : SubPort → SubPort) : State :=
  { s with egress := { s.egress with subPorts := s.egress.subPorts.upd {} (4 * port + sub) f } }
def State.tb (s : State) (n : Nat) : TimeBase := s.time.bases.get {} n
def State.modTb (s : State) (n : Nat) (f : TimeBase → TimeBase) : State :=
  { s with time := { s.time with bases := s.time.bases.upd {} n f } }
def State.channel (s : State) (i : Nat) : Channel := s.mem.channels.get {} i
def State.modChannel (s : State) (i : Nat) (f : Channel → Channel) : State :=
  { s with mem := { s.mem with channels := s.mem.channels.upd {} i f } }
def State.cvUnit (s : State) (i : Nat) : CvUnit := s.cv.get {} i
def State.modCv (s : State) (i : Nat) (f : CvUnit → CvUnit) : State := { s with cv := s.cv.upd {} i f }
def State.audioIn (s : State) (i : Nat) : AudioIn := s.audio.ins.get {} i
def State.modIn (s : State) (i : Nat) (f : AudioIn → AudioIn) : State :=
  { s with audio := { s.audio with ins := s.audio.ins.upd {} i f } }
def State.audioPort (s : State) (i : Nat) : AudioPort := s.audio.ports.get {} i
def State.modPort (s : State) (i : Nat) (f : AudioPort → AudioPort) : State :=
  { s with audio := { s.audio with ports := s.audio.ports.upd {} i f } }
def State.route (s : State) (i : Nat) : Route := s.audio.routes.get {} i
def State.modRoute (s : State) (i : Nat) (f : Route → Route) : State :=
  { s with audio := { s.audio with routes := s.audio.routes.upd {} i f } }
def State.pmc (s : State) (i : Nat) : Pmc := s.obs.pmcs.get {} i
def State.modPmc (s : State) (i : Nat) (f : Pmc → Pmc) : State :=
  { s with obs := { s.obs with pmcs := s.obs.pmcs.upd {} i f } }

/-- Warm spares at cold start (R251): EC64–EC67, PE10, PE11, PK8, PK9. -/
def coldUnit (i : Nat) : PUnit :=
  let n := i % 65536
  let spare := (i / 65536 = 0 ∧ 64 ≤ n) ∨ (i / 65536 = 1 ∧ 10 ≤ n) ∨ (i / 65536 = 2 ∧ 8 ≤ n)
  if spare then { state := 1 } else {}

def State.unit (s : State) (i : Nat) : PUnit := s.disp.units.get (coldUnit i) i
def State.modUnit (s : State) (i : Nat) (f : PUnit → PUnit) : State :=
  { s with disp := { s.disp with units := s.disp.units.set i (f (s.unit i)) } }

/-! ### Object IDs (R9) -/

def progId (i : Nat) : Nat := 0x01000000 + i
def canopyId (i : Nat) : Nat := 0x02000000 + i
/-- Layer 0–31 is VLn, 32–63 is GLn. -/
def layerId (i : Nat) : Nat := if i < 32 then 0x03000000 + i else 0x04000000 + (i - 32)
def rxId (i : Nat) : Nat := 0x05000000 + i
def txId (i : Nat) : Nat := 0x06000000 + i
def braidId (i : Nat) : Nat := 0x07000000 + i
def tbId (i : Nat) : Nat := 0x08000000 + i
def channelId (i : Nat) : Nat := 0x09000000 + i
def cvId (i : Nat) : Nat := 0x0A000000 + i
def audioId (i : Nat) : Nat := 0x0B000000 + i
def unitId (i : Nat) : Nat := 0x0C000000 + i
def deviceId : Nat := 0x0D000000

/-! ### Time (09) -/

/-- 2^30, the units of a nanosecond in a time base (R388). -/
abbrev two30 : Nat := 1073741824

/-- The extended value of a base: firmware's wrap count and NS (R686). -/
def TimeBase.ext (b : TimeBase) : Nat := b.wraps * two32 + b.ns

/-- The extended value of TB0, the clock of every stamp in the state. -/
def State.now (s : State) : Nat := (s.tb 0).ext

/-- The TB0 value as replies and events carry it (R68, R73). -/
def State.ts (s : State) : Nat := s.now % two32

/-- Is the root PLL's clock there for the time bases (R388, R589)? -/
def State.clocked (s : State) : Bool := s.power.pllLocked || s.power.holdover

/-- c of R687. -/
def slewStep (limit : Nat) : Nat := limit * 1342177280 / 1000000

/-- How much a slew adds in `n` ticks, and what is left, in 2^-30 ns (R687). -/
def slewAdd (c : Nat) (left : Int) (n : Nat) : Int × Int :=
  let full := left.natAbs / c
  if c = 0 then (0, left)
  else if n ≤ full then
    let d : Int := if left < 0 then -((n * c : Nat) : Int) else ((n * c : Nat) : Int)
    (d, left - d)
  else (left, 0)

/-- A base with its value set to `u` units of 2^-30 ns, counted from extended 0; EPOCH inverts at each wrap (R390). -/
def TimeBase.setUnits (b : TimeBase) (u : Nat) : TimeBase :=
  let e := u / two30
  let crossed := e / two32 + b.wraps
  { b with ns := e % two32, frac := u % two30, wraps := e / two32, epoch := xor b.epoch (crossed % 2 = 1) }

/-- The base's value in 2^-30 ns. -/
def TimeBase.units (b : TimeBase) : Nat := b.ext * two30 + b.frac

/-- `n` ticks of a running base that is not in FOLLOW mode (R388, R687). -/
def TimeBase.tick (b : TimeBase) (n : Nat) : TimeBase :=
  if b.state = 0 ∨ b.mode = 3 then b
  else
    let (d, left) := match b.slew with
      | none => ((0 : Int), (0 : Int))
      | some sl => slewAdd (slewStep b.slewLimit) sl.left n
    let b' := b.setUnits ((b.units + n * b.inc : Nat) + d).toNat
    { b' with slew := b.slew.map (fun sl => { sl with left := left }) }

/-- The 64-bit extended count of a base as a signed number: a FOLLOW base shows one below 0 while TB0 is below OFFSET's size (R392). -/
def TimeBase.count (b : TimeBase) : Int := signed 64 b.ext
/-- A FOLLOW base shows TB0 + OFFSET, modulo 2^64 in its extended count (*Time-base modes*). -/
def TimeBase.followTb0 (b tb0 : TimeBase) : TimeBase :=
  if b.mode = 3 ∧ b.state ≠ 0 then
    b.setUnits (((tb0.units : Int) + b.follow * (two30 : Int)) % (2 ^ 64 * two30 : Nat)).toNat
  else b

/-! ### Free values (log entry 5) -/

/-- Draw a free value. -/
def State.draw (s : State) : Nat × State := (Config.fresh s.free, { s with free := s.free + 1 })

/-! ### What the device puts on its interfaces -/

def State.emit (s : State) (o : Output) : State := { s with out := o :: s.out }

/-- The endpoint may write host memory (R595). -/
def State.hostUp (s : State) : Bool := s.hif.linkUp && s.hif.busMaster

/-- Raise an MSI-X vector: sent when its table entry is not masked, else pending (R81, PCI Express). -/
def State.raiseMsix (s : State) (v : Nat) : State :=
  if s.hif.msix.get 1 (4 * v + 3) % 2 = 0 then s.emit (.msix v)
  else { s with hif := { s.hif with msixPba := s.hif.msixPba ||| 2 ^ v } }

/-! ### Events (R73, R648-R650) -/

/-- The 32 bytes of an event record with its ring phase (R73). -/
def eventBytes (e : EventRec) (phase : Bool) : List Byte :=
  withCrc (leBytes 1 e.queue ++ leBytes 1 3 ++ leBytes 2 e.event ++ leBytes 4 e.seq ++ leBytes 4 e.object ++
    leBytes 4 e.d0 ++ leBytes 4 e.d1 ++ leBytes 4 e.ts ++ leBytes 1 (b2n phase) ++ leBytes 3 0)

/-- A discarded event is counted (R74). -/
def State.eventLost (s : State) : State := { s with hif := { s.hif with evLost := satAdd 32 s.hif.evLost 1 } }

/-- Each event record also goes to the address bound to CQ14 when HIF_EV_CTRL.UDP is 1. -/
def State.eventDatagram (s : State) (e : EventRec) : State :=
  if s.hif.evUdp then
    s.emit (.datagram (s.queue 14).bind.srcAddr (s.queue 14).bind.srcPort (eventBytes e s.hif.evPhase))
  else s

/-- Write one event record at EV_TAIL (R73, R74); log entry 8 says what happens when the ring is disabled or DMA is
stopped. -/
def State.writeEvent (s : State) (e : EventRec) : State :=
  if s.hif.evEnable then
    if s.hif.evUsed ≥ s.hif.evSize ∨ s.hostUp = false then s.eventLost
    else
      let h := s.hif
      let tail' := (h.evTail + 1) % h.evSize
      let s1 := (s.eventDatagram e).emit (.hostWrite (h.evBase + 32 * h.evTail) (eventBytes e h.evPhase))
      let s2 := { s1 with hif := { s1.hif with
        evTail := tail', evUsed := h.evUsed + 1, evPhase := if tail' = 0 then !h.evPhase else h.evPhase } }
      if h.evVectorEn then s2.raiseMsix h.evVector else s2
  else s.eventDatagram e

/-- Raise an event for queue `q` (0xFF: no command), unless masked (R649); stage it during a warm reset (R593). A follower posts
none about replicated commands (10 R446). -/
def State.raiseFor (s : State) (q code object d0 d1 : Nat) : State :=
  if bit (s.hif.evMask.get 0 (code / 256)) (code % 256) ∨ (s.twin.role = 3 ∧ q < 15) then s
  else
    let seq := (s.hif.eventSeq + 1) % two32
    let e : EventRec := { queue := q, event := code, object := object, d0 := d0 % two32, d1 := d1 % two32, ts := s.ts, seq := seq }
    let s1 := { s with hif := { s.hif with eventSeq := seq } }
    if s.power.warm then
      if s.hif.evStaged.length < 256 then { s1 with hif := { s1.hif with evStaged := s.hif.evStaged ++ [e] } }
      else s1.eventLost
    else s1.writeEvent e

/-- Raise a device event. -/
def State.raise (s : State) (code object d0 d1 : Nat) : State := s.raiseFor 255 code object d0 d1

/-! ### Replies (R68-R70, R78, R85) -/

/-- The 24 bytes of a reply (R68). -/
def replyBytes (q seq corr : Nat) (r : Reply) : List Byte :=
  withCrc (leBytes 1 q ++ leBytes 1 r.kind ++ leBytes 2 r.status ++ leBytes 4 seq ++ leBytes 4 corr ++
    leBytes 4 r.detail ++ leBytes 4 r.ts)

/-- Put a reply's bytes in the RQ entry at RQ_TAIL, or send them as a datagram (R78, R85). -/
def State.writeReply (s : State) (q : Nat) (dst : ReplyTo) (bytes : List Byte) : State :=
  if dst.udp then s.emit (.datagram dst.addr dst.port bytes)
  else
    let c := s.queue q
    let tail' := (c.rqTail + 1) % c.rqSize
    let s1 := s.emit (.hostWrite (c.rqBase + 32 * c.rqTail) (bytes ++ leBytes 1 (b2n c.rqPhase) ++ leBytes 7 0))
    let s2 := s1.modQueue q (fun c => { c with
      rqTail := tail', rqPhase := if tail' = 0 then !c.rqPhase else c.rqPhase, rqUsed := c.rqUsed + 1 })
    if c.vectorEn then s2.raiseMsix c.vector else s2

/-- Send a reply; it is held during a warm reset (R592), or while the endpoint may not write (R595). -/
def State.reply (s : State) (q : Nat) (dst : ReplyTo) (bytes : List Byte) : State :=
  if s.power.warm ∨ (dst.udp = false ∧ s.hostUp = false) then
    s.modQueue q (fun c => { c with held := c.held ++ [(dst, bytes)] })
  else s.writeReply q dst bytes

/-- Reply room given back (R79). -/
def State.release (s : State) (q n : Nat) : State :=
  s.modQueue q (fun c => { c with reserved := c.reserved - n })

/-- Write the replies a queue holds, oldest first (R593, R595); those of a stopped endpoint stay. -/
def State.flushHeld (s : State) (q : Nat) : State :=
  if s.power.warm then s
  else
    let held := (s.queue q).held
    let s1 := s.modQueue q (fun c => { c with held := [] })
    held.foldl (fun s e => s.reply q e.1 e.2) s1

/-- Data for a host buffer: DMA to its address, or data datagrams of at most 1,408 bytes on a UDP queue (R658, R659). -/
def dataDatagrams (dst : ReplyTo) (q seq : Nat) : Nat → Nat → List Byte → List Output
  | 0, _, _ => []
  | fuel + 1, off, data =>
    if data = [] then []
    else
      let part := data.take 1408
      .datagram dst.addr dst.port (withCrc (leBytes 1 q ++ leBytes 1 4 ++ leBytes 2 0 ++ leBytes 4 seq ++ leBytes 4 off ++
        leBytes 4 part.length ++ part)) :: dataDatagrams dst q seq fuel (off + part.length) (data.drop 1408)

/-- A command that a formed twin replicates: on CQ0–CQ14, but for TWIN_ROLE (02 R89, 10 R460). -/
def Cmd.replicated (c : Cmd) : Bool := c.q != 15 && c.opcode != 0x0802

/-- A replicated command on a follower, which writes neither replies nor host memory for it (10 R446). -/
def State.mute (s : State) (c : Cmd) : Bool := s.twin.role == 3 && c.replicated

/-- Write a command's data to its host buffer before its COMPLETE reply (R72, R658, R659). While the endpoint's DMA is stopped the data
goes out all the same, and only the reply is held (log entry 131). -/
def State.writeBuf (s : State) (c : Cmd) (addr : Nat) (data : List Byte) : State :=
  if s.mute c then s
  else if c.replyTo.udp then
    { s with out := (dataDatagrams c.replyTo c.q c.seq (data.length / 1408 + 1) 0 data).reverse ++ s.out }
  else s.emit (.hostWrite addr data)

/-! ### Commands and their outcomes -/

/-- The taken command of a queue with a SEQ. -/
def State.findCmd (s : State) (q seq : Nat) : Option Cmd := s.hif.cmds.find? (fun c => c.q = q ∧ c.seq = seq)

def State.modCmd (s : State) (q seq : Nat) (f : Cmd → Cmd) : State :=
  { s with hif := { s.hif with cmds := s.hif.cmds.map (fun c => if c.q = q ∧ c.seq = seq then f c else c) } }

def State.dropCmd (s : State) (q seq : Nat) : State :=
  { s with hif := { s.hif with cmds := s.hif.cmds.filter (fun c => !(c.q = q ∧ c.seq = seq)) } }

/-- The QUIET flag. -/
def Cmd.quiet (c : Cmd) : Bool := bit c.flags 3
def Cmd.durable (c : Cmd) : Bool := bit c.flags 1
def Cmd.clearing (c : Cmd) : Bool := bit c.flags 2
/-- The HITCH flag, or the HITCH opcode (R97). -/
def Cmd.hitch (c : Cmd) : Bool := bit c.flags 0 || c.opcode == 0x0101

/-- Journal the outcome of a SEQ (R65). -/
def setOutcome (w : List JEntry) (seq : Nat) (r : Reply) : List JEntry :=
  w.map (fun e => if e.seq = seq then { e with outcome := some r } else e)

/-- The flash record of an aborted command has nothing to re-execute, so compaction may free it (R103, R106; log entry 59). -/
def flashDone (l : List FlashRec) (q seq : Nat) : List FlashRec :=
  l.map (fun r => if r.q = q ∧ r.seq = seq then { r with done := true } else r)

/-- A QUEUE_CONFIG of its own queue takes effect after its COMPLETE reply, and the queue is in the resync state (R664). -/
def State.applyRebind (s : State) (q : Nat) : State :=
  match (s.queue q).rebind with
  | none => s
  | some b => s.modQueue q (fun c => { c with bind := b, rebind := none, resyncState := true, window := [] })

/-- A command reaches its outcome: it is journaled, its one COMPLETE reply is written unless it is QUIET or was replayed from
flash before READY, and its reply room is used (R69, R104, R110, R111). -/
def State.complete (s : State) (c : Cmd) (status detail : Nat) : State :=
  let r : Reply := { kind := 2, status := status, detail := detail % two32, ts := s.ts }
  let s1 := s.dropCmd c.q c.seq
  let s2 := if status = 5 then { s1 with nv := { s1.nv with flash := flashDone s1.nv.flash c.q c.seq } } else s1
  let s3 := s2.modQueue c.q (fun k => { k with window := setOutcome k.window c.seq r })
  let s4 := if c.quiet ∨ c.replayed ∨ s.mute c then s3
    else (s3.release c.q 1).reply c.q c.replyTo (replyBytes c.q c.seq c.corr r)
  if c.opcode = 0x0102 then s4.applyRebind c.q else s4

/-- The ACCEPT reply that the journal holds for a SEQ. -/
def State.acceptOf (s : State) (q seq : Nat) : Reply :=
  (((s.queue q).window.find? (fun e => e.seq = seq)).map JEntry.accept).getD {}
/-- A taken command's ACCEPT reply with OK_ACCEPTED is written, and uses its reply room (R69, R70, R79). -/
def State.writeAccept (s : State) (c : Cmd) : State :=
  if s.mute c then s
  else (s.release c.q (if c.quiet then 2 else 1)).reply c.q c.replyTo (replyBytes c.q c.seq c.corr (s.acceptOf c.q c.seq))

/-- OK_COMPLETED. -/
def State.ok (s : State) (c : Cmd) (detail : Nat := 0) : State := s.complete c 2 detail

/-- Complete the command of a queue and SEQ, when it is there. -/
def State.completeId (s : State) (id : Nat × Nat) (status detail : Nat) : State :=
  match s.findCmd id.1 id.2 with
  | none => s
  | some c => s.complete c status detail

/-- Complete an optional command. -/
def State.completeOpt (s : State) (id : Option (Nat × Nat)) (status detail : Nat) : State :=
  match id with
  | none => s
  | some i => s.completeId i status detail

/-! ### Charges and permits (R34, R580-R584) -/

/-- Give back every charge that meets a test. -/
def State.uncharge (s : State) (p : Charge → Bool) : State := { s with charges := s.charges.filter (fun c => !p c) }

/-- Give back every permit that meets a test. -/
def State.unpermit (s : State) (p : Permit → Bool) : State :=
  { s with power := { s.power with permits := s.power.permits.filter (fun x => !p x) } }

/-- The budget of R579 in 0.1 W: VIN in mV, limit in 0.1 A. -/
def State.budget (s : State) : Nat := s.power.vin * s.power.limit * 9 / 10000

/-- Permits outstanding, the standing reserve included, in 0.1 W. -/
def State.outstanding (s : State) : Nat := (s.power.permits.map Permit.amount).sum

/-- The first permit, in ascending code order, at which the sum passes the budget (R581). -/
def firstOver (budget : Nat) : Nat → List Permit → Nat
  | _, [] => 0
  | sum, p :: ps => if sum + p.amount > budget then p.code else firstOver budget (sum + p.amount) ps

/-- Why a request (in ascending code order) is refused: DETAIL of ERR_PERMIT (R579, R581). -/
def State.permitRefusal (s : State) (req : List Permit) : Option Nat :=
  let whole := (req.map Permit.amount).sum
  let base := s.power.measured + s.outstanding
  if req = [] then none
  else if s.power.vinLow then some ((req.headD {}).code + 256 + 65536 * min whole 65535)
  else if base + whole ≤ s.budget then none
  else some (firstOver s.budget base req + 65536 * min (base + whole - s.budget) 65535)

/-- A refusal is counted by the code it names (R584). -/
def State.countRefusal (s : State) (code : Nat) : State :=
  { s with power := { s.power with refusals := s.power.refusals.upd 0 code (fun n => satAdd 16 n 1) } }

/-- Grant permits. -/
def State.grant (s : State) (req : List Permit) : State :=
  { s with power := { s.power with permits := s.power.permits ++ req } }

/-! ### Counters of events seen by the performance counters (R638-R641) -/

/-- Set an overflow bit; PMC_OVERFLOW is posted when it was 0 (R641). -/
def State.pmcOverflow (s : State) (n : Nat) : State :=
  if n ∈ s.obs.ovf then s
  else { s with obs := { s.obs with ovf := n :: s.obs.ovf } }.raise 0x010D deviceId n 0

/-- Add to counter `n`, wrapping at 2^48 into its overflow bit, or into the next odd counter when that one is chained. -/
def State.pmcAdd (s : State) (n inc : Nat) : State :=
  let total := (s.pmc n).count + inc
  let s1 := s.modPmc n (fun p => { p with count := total % 2 ^ 48 })
  if total < 2 ^ 48 then s1
  else if n % 2 = 0 ∧ (s1.pmc (n + 1)).chain then
    if (s1.pmc (n + 1)).enable then
      let t2 := (s1.pmc (n + 1)).count + total / 2 ^ 48
      let s2 := s1.modPmc (n + 1) (fun p => { p with count := t2 % 2 ^ 48 })
      if t2 < 2 ^ 48 then s2 else s2.pmcOverflow (n + 1)
    else s1
  else s1.pmcOverflow n

/-- Does counter `p` count event `ev` of `objects` with qualifier `qual` on `leg` (R638, R639)? -/
def Pmc.counts (p : Pmc) (odd : Bool) (ev : Nat) (objects : List Nat) (qual leg : Nat) : Bool :=
  p.enable && !(p.chain && odd) && p.event == ev && (p.object == 0 || objects.contains p.object) && p.qual == qual &&
    (p.leg == 0 || p.leg == leg + 1)

/-- A happening that the performance counters may count. -/
def State.happen (s : State) (ev : Nat) (objects : List Nat) (qual leg inc : Nat) : State :=
  s.obs.pmcs.foldl (fun acc e => if e.2.counts (e.1 % 2 == 1) ev objects qual leg then acc.pmcAdd e.1 inc else acc) s

/-- A failure of hand-off `n`, a row of *Chain of overlapping checks* counted from 1 (12 R536). -/
def State.chainFail (s : State) (n : Nat) : State :=
  ({ s with obs := { s.obs with chainFails := s.obs.chainFails.upd 0 n (fun k => satAdd 48 k 1) } }).happen 0x0501 [] n 0 1

/-! ### The passing of time (R388, 16 *Performance counter events*) -/

/-- UNIT_BUSY: cycles of the clocks of encoder cores, pixel engines and packetizers go to the units that run an operation. -/
def State.busyCycles (s : State) (enc pix fab : Nat) : State :=
  (s.disp.units.filter (fun e => e.2.op.isSome && !e.2.awaitAck)).foldl (fun s e =>
    s.happen 0x0106 [unitId e.1] 0 0 (if e.1 / 65536 = 0 then enc else if e.1 / 65536 = 1 then pix else fab)) s
/-- In `n` ticks CLK_FAB makes 3/2, CLK_ENC 2 and CLK_PIX 6/5 cycles a tick, the latter two less their throttled pulses (14 R574):
FAB_CYCLES and UNIT_BUSY count them. -/
def State.fabCycles (s : State) (n : Nat) : State :=
  let halves := s.obs.fabHalf + 3 * n
  let enc := s.obs.encRem + 2 * n * (16 - s.power.step)
  let pix := s.obs.pixRem + 6 * n * (16 - s.power.step)
  let s1 := { s with obs := { s.obs with fabHalf := halves % 2, encRem := enc % 16, pixRem := pix % 80 } }
  (s1.busyCycles (enc / 16) (pix / 80) (halves / 2)).obs.pmcs.foldl (fun acc e => if e.2.counts (e.1 % 2 == 1) 1 [] 0 0 then acc.pmcAdd e.1 (halves / 2) else acc)
    (s1.busyCycles (enc / 16) (pix / 80) (halves / 2))

/-- `n` ticks of the 800 MHz time-base clocks (R388). -/
def State.advance (s : State) (n : Nat) : State :=
  if s.clocked then
    let b0 := (s.tb 0).tick n
    { s with time := { s.time with
        bases := [(0, b0), (1, ((s.tb 1).tick n).followTb0 b0), (2, ((s.tb 2).tick n).followTb0 b0),
                  (3, ((s.tb 3).tick n).followTb0 b0)] } }.fabCycles n
  else s

/-- Ticks until a base has gained `u` units (R388, R687). -/
def TimeBase.ticksFor (b : TimeBase) (u : Nat) : Nat :=
  match b.slew with
  | none => cdiv u b.inc
  | some sl =>
    let c := slewStep b.slewLimit
    if c = 0 then cdiv u b.inc
    else
      let full := sl.left.natAbs / c
      let r := if sl.left < 0 then b.inc - c else b.inc + c
      if u ≤ full * r then cdiv u r
      else
        let u1 := u - full * r
        let rest := sl.left.natAbs % c
        let r1 := if sl.left < 0 then b.inc - rest else b.inc + rest
        if u1 ≤ r1 then full + 1 else full + 1 + cdiv (u1 - r1) b.inc

/-- Let time run until TB0 has reached extended value `t` (log entry 6); nothing happens when it has, or stands still. -/
def State.reach (s : State) (t : Nat) : State :=
  let b := s.tb 0
  if b.state ≠ 0 ∧ b.ext < t then s.advance (b.ticksFor (t * two30 - b.units)) else s

/-- Let time run until base `n` has reached extended value `t` on itself. -/
def State.reachOn (s : State) (n : Nat) (t : Int) : State :=
  let b := s.tb n
  if b.mode = 3 ∧ b.state ≠ 0 then s.reach (t - b.follow).toNat
  else if b.state ≠ 0 ∧ b.ext < t then s.advance (b.ticksFor (t.toNat * two30 - b.units)) else s

/-- The extended TB0 value that a 32-bit TB0 value names, nearest to now (the host's extension under R406). -/
def State.extend (s : State) (t : Nat) : Nat :=
  let d := (t + two32 - s.now % two32) % two32
  if d < 2147483648 then s.now + d else s.now + d - two32

/-- Time runs to the instant `t` (32 bits) at which an event from outside happens; an instant not after now is now. -/
def State.at32 (s : State) (t : Nat) : State := s.reach (s.extend t)

end Sys2Proof.Machine
end

