-- ==== Sys2Proof/Machine/Operands.lean ====
section
/-!
DEFINITION. How a command's operands are read: the opcode table of *Command reference* (R652-R655, R660), object classes
(R9-R11), parameter fields (R18), the verdicts of check 9 (R698), frame rates and pixel formats.
-/
set_option Elab.async false
namespace Sys2Proof.Machine

open Sys2Proof

/-! ### Parameter fields -/

/-- An unsigned parameter field: offset and size in bytes (R13, R18). -/
def Cmd.u (c : Cmd) (off n : Nat) : Nat := leNat ((c.params.drop off).take n)
/-- A signed parameter field. -/
def Cmd.i (c : Cmd) (off n : Nat) : Int := signed (8 * n) (c.u off n)
def Cmd.bytes (c : Cmd) (off n : Nat) : List Byte := (c.params.drop off).take n
/-- Index of the command's object. -/
def Cmd.idx (c : Cmd) : Nat := c.object % 16777216
/-- Class of the command's object. -/
def Cmd.cls (c : Cmd) : Nat := c.object / 16777216
/-- The layer number 0–63 of a command whose object is a layer. -/
def Cmd.layerIdx (c : Cmd) : Nat := if c.cls = 4 then 32 + c.idx else c.idx

/-- What check 9 finds: none, or a status and its DETAIL. -/
abbrev Verdict := Option (Nat × Nat)

/-- The lowest offset of the offences listed (R698). -/
def lowestBad : List (Nat × Bool) → Option Nat
  | [] => none
  | (o, b) :: l =>
    match b, lowestBad l with
    | true, some p => some (min o p)
    | true, none => some o
    | false, r => r

/-- ERR_RANGE for the lowest offending offset. -/
def badRange (l : List (Nat × Bool)) : Verdict := (lowestBad l).map (fun o => (0x0201, o))
/-- ERR_STATE with the object whose state forbids the command. -/
def badState (bad : Bool) (object : Nat) : Verdict := if bad then some (0x0202, object) else none
/-- A status and DETAIL when a condition holds. -/
def verdict (bad : Bool) (status detail : Nat) : Verdict := if bad then some (status, detail) else none
/-- The first offence in the order of check 9. -/
def firstOf : List Verdict → Verdict
  | [] => none
  | some v :: _ => some v
  | none :: l => firstOf l

/-- R654: unused fields and unlisted bytes must be zero. `used` and `unused` list (offset, size). -/
def Cmd.zeros (c : Cmd) (used unused : List (Nat × Nat)) : List (Nat × Bool) :=
  unused.map (fun f => (f.1, c.u f.1 f.2 != 0)) ++
  ((List.range c.params.length).filter
    (fun o => !(used ++ unused).any (fun f => f.1 ≤ o && o < f.1 + f.2))).map (fun o => (o, c.u o 1 != 0))

/-- A field lies outside its range. -/
def Cmd.outside (c : Cmd) (off n lo hi : Nat) : Nat × Bool := (off, c.u off n < lo || hi < c.u off n)

/-- BUF (R658, R659): one field of an address aligned to 64 bytes, not checked on a UDP queue, and a length of at least `n`. -/
def Cmd.buf (c : Cmd) (off n : Nat) : List (Nat × Bool) :=
  [(off, (!c.replyTo.udp && c.u off 8 % 64 != 0) || c.u (off + 8) 4 < n)]
/-- A BUF that length 0 leaves out (R654, R658): an offence in it is that of one field. -/
def Cmd.optBuf (c : Cmd) (off n : Nat) : Nat × Bool :=
  (off, c.u (off + 8) 4 != 0 && ((!c.replyTo.udp && c.u off 8 % 64 != 0) || decide (c.u (off + 8) 4 < n)))

/-! ### Objects (R9-R11) -/

/-- Does an object ID name an object (R9–R11), on this part (R6)? -/
def State.objectExists (s : State) (id : Nat) : Bool :=
  let i := id % 16777216
  let progs := if s.nv.part = 0x8212 then 12 else 16
  match id / 16777216 with
  | 0x01 => i < progs
  | 0x02 => i < progs
  | 0x03 => i < 32
  | 0x04 => i < 32
  | 0x05 => i < 256
  | 0x06 => i < 1024
  | 0x07 => i < 5
  | 0x08 => i < 4
  | 0x09 => isChannel i
  | 0x0A => i < 16
  | 0x0B => i < 12 || (16 ≤ i && i < 20)
  | 0x0C => (isUnit i && i / 256 % 256 = 0) || (196608 ≤ i && i < 196612)
  | 0x0D => i = 0
  | _ => false

/-- An ID that must name an object of a class; the field's offset and whether it does not. -/
def State.badObject (s : State) (c : Cmd) (off cls : Nat) : Nat × Bool :=
  (off, !(c.u off 4 / 16777216 == cls && s.objectExists (c.u off 4)))

/-- The object is a layer of either class. -/
def isLayerCls (k : Nat) : Bool := k == 3 || k == 4

/-- One row of *Opcodes* (R660). `flags`: C 1, E 2, D 4, Q 8. -/
structure OpRow where
  code : Nat
  classes : List Nat
  lo : Nat
  hi : Nat
  len : Nat
  flags : Nat
deriving DecidableEq, Repr

/-- The first half of *Opcodes*: object classes, permitted index range, LENGTH (0: by formula), flags. -/
def opRows1 : List OpRow :=
  [⟨0x0001, [13], 0, 0, 36, 8⟩, ⟨0x0002, [13], 0, 0, 48, 0⟩, ⟨0x0003, [12], 0, 196607, 36, 0⟩, ⟨0x0004, [13], 0, 0, 36, 0⟩,
   ⟨0x0005, [1, 13], 0, 15, 60, 4⟩, ⟨0x0006, [13], 0, 0, 52, 0⟩, ⟨0x0010, [13], 0, 0, 44, 0⟩, ⟨0x0101, [13], 0, 0, 36, 0⟩,
   ⟨0x0102, [13], 0, 0, 64, 4⟩, ⟨0x0103, [13], 0, 0, 52, 0⟩, ⟨0x0201, [5], 0, 255, 164, 4⟩, ⟨0x0202, [5], 0, 255, 36, 4⟩,
   ⟨0x0203, [7], 0, 3, 40, 4⟩, ⟨0x0204, [7], 0, 4, 68, 0⟩, ⟨0x0205, [7], 0, 4, 40, 0⟩, ⟨0x0206, [5], 0, 255, 44, 4⟩,
   ⟨0x0207, [5], 0, 255, 48, 0⟩, ⟨0x0208, [5], 0, 255, 64, 12⟩, ⟨0x0301, [2], 0, 15, 60, 7⟩, ⟨0x0302, [3, 4], 0, 31, 104, 7⟩,
   ⟨0x0303, [4], 0, 31, 60, 3⟩, ⟨0x0304, [2], 0, 15, 0, 6⟩, ⟨0x0305, [2], 0, 15, 48, 3⟩, ⟨0x0306, [2], 0, 15, 0, 4⟩,
   ⟨0x0307, [3], 0, 31, 48, 3⟩, ⟨0x0401, [1], 0, 15, 136, 7⟩, ⟨0x0402, [1], 0, 15, 36, 7⟩, ⟨0x0403, [1], 0, 15, 36, 7⟩,
   ⟨0x0404, [1], 0, 15, 40, 3⟩, ⟨0x0405, [1], 0, 15, 72, 7⟩, ⟨0x0501, [1], 0, 15, 48, 7⟩, ⟨0x0502, [1], 0, 15, 44, 7⟩,
   ⟨0x0503, [1], 0, 15, 52, 0⟩, ⟨0x0601, [6], 0, 1023, 188, 4⟩, ⟨0x0602, [6], 0, 1023, 36, 4⟩, ⟨0x0603, [6], 0, 1023, 68, 12⟩,
   ⟨0x0604, [6, 13], 0, 1023, 48, 12⟩, ⟨0x0701, [8], 0, 3, 60, 4⟩, ⟨0x0702, [8], 0, 3, 44, 2⟩, ⟨0x0703, [1], 0, 15, 44, 4⟩,
   ⟨0x0704, [8], 0, 3, 56, 0⟩]

/-- The second half of *Opcodes*. -/
def opRows2 : List OpRow :=
  [⟨0x0801, [13], 0, 0, 84, 0⟩, ⟨0x0802, [13], 0, 0, 40, 0⟩, ⟨0x0803, [13], 0, 0, 48, 0⟩, ⟨0x0804, [1], 0, 15, 36, 0⟩,
   ⟨0x0901, [13], 0, 0, 40, 4⟩, ⟨0x0902, [9], 0, 49, 36, 0⟩, ⟨0x0903, [13], 0, 0, 40, 4⟩, ⟨0x0904, [13], 0, 0, 40, 12⟩,
   ⟨0x0905, [13], 0, 0, 52, 0⟩, ⟨0x0906, [13], 0, 0, 40, 12⟩, ⟨0x0907, [9], 0, 49, 60, 0⟩, ⟨0x0A01, [10], 8, 15, 60, 0⟩,
   ⟨0x0A02, [10], 8, 15, 84, 0⟩, ⟨0x0B01, [11, 13], 0, 19, 64, 4⟩, ⟨0x0B02, [11, 6], 0, 1023, 44, 6⟩, ⟨0x0B03, [11], 0, 19, 48, 0⟩,
   ⟨0x0C01, [13], 0, 0, 44, 4⟩, ⟨0x0C02, [13], 0, 0, 48, 0⟩, ⟨0x0C03, [13], 0, 0, 44, 4⟩, ⟨0x0C04, [13], 0, 0, 48, 0⟩,
   ⟨0x0D01, [13], 0, 0, 44, 0⟩, ⟨0x0D02, [13], 0, 0, 0, 0⟩, ⟨0x0D03, [13], 0, 0, 36, 0⟩, ⟨0x0D04, [13], 0, 0, 44, 0⟩,
   ⟨0x0D05, [13], 0, 0, 36, 0⟩, ⟨0x0D06, [13], 0, 0, 36, 0⟩, ⟨0x0D07, [13], 0, 0, 48, 0⟩, ⟨0x0D08, [13], 0, 0, 40, 0⟩,
   ⟨0x0D09, [13], 0, 0, 240, 0⟩, ⟨0x0E01, [13], 0, 0, 48, 8⟩, ⟨0x0E02, [13], 0, 0, 44, 8⟩, ⟨0x0E03, [13], 0, 0, 44, 8⟩,
   ⟨0x0E04, [13], 0, 0, 44, 12⟩]

/-- The row of a known OPCODE. -/
def opRow (code : Nat) : Option OpRow := (opRows1 ++ opRows2).find? (fun r => r.code = code)

/-- LENGTH that a known opcode permits for this packet (R652), `p` its parameter bytes. -/
def permittedLength (r : OpRow) (p : List Byte) : Nat :=
  if r.len ≠ 0 then r.len
  else match r.code with
    | 0x0304 => 40 + 4 * leNat (p.take 1)
    | 0x0306 => 40 + 8 * leNat (p.take 2)
    | _ => if leNat ((p.drop 8).take 1) = 0 then 56 + leNat ((p.drop 4).take 4) else 56

/-- DETAIL of ERR_LENGTH at check 4: the permitted length, or the maximum of a variable-length opcode. -/
def maxLength (r : OpRow) : Nat :=
  if r.len ≠ 0 then r.len
  else match r.code with
    | 0x0304 => 100
    | 0x0306 => 2088
    | _ => 4096

/-- OBJECT names an object of a class that the opcode takes (R11, R653, R660, R6). -/
def State.objectOk (s : State) (r : OpRow) (object : Nat) : Bool :=
  let i := object % 16777216
  let k := object / 16777216
  r.classes.contains k && s.objectExists object && ((r.lo ≤ i && i ≤ r.hi) || k == 13) &&
    !(r.code == 0x0B02 && k == 11 && !(8 ≤ i && i ≤ 11)) && !(r.code == 0x0604 && k == 6 && !(i < 1024))

/-! ### Frame rates and formats -/

/-- Frame rates of *Headline figures*, numerator and denominator, by index 0–13. -/
def rateNum : Nat → Nat
  | 0 => 24000 | 1 => 24 | 2 => 25 | 3 => 30000 | 4 => 30 | 5 => 48000 | 6 => 48 | 7 => 50 | 8 => 60000 | 9 => 60
  | 10 => 100 | 11 => 120000 | 12 => 120 | _ => 240
def rateDen : Nat → Nat
  | 0 => 1001 | 3 => 1001 | 5 => 1001 | 8 => 1001 | 11 => 1001 | _ => 1

/-- A grid of a rate index and an offset (R407). -/
def gridOf (rate offset : Nat) : Grid := { num := rateNum rate, den := rateDen rate, offset := offset }

/-- The frame period rounded down, in ns. -/
def Grid.period (g : Grid) : Nat := 1000000000 * g.den / g.num
/-- G_k of R407. -/
def Grid.at (g : Grid) (k : Nat) : Nat := k * 1000000000 * g.den / g.num + g.offset
/-- The first k with G_k after `t` (R408). -/
def Grid.firstAfter (g : Grid) (t : Nat) : Nat :=
  let k := (t - g.offset) * g.num / (1000000000 * g.den)
  if g.at k > t then k else if g.at (k + 1) > t then k + 1 else k + 2

/-- Eighths of a byte per pixel of *Stored bytes per pixel*: format code 0 4:2:0 8-bit, 1 4:2:0 10-bit, 2 4:2:2, 3 4:4:4, 4 GBR. -/
def bpp8 : Nat → Nat
  | 0 => 12 | 1 => 15 | 2 => 20 | _ => 30

/-- Format code of a received flow (SAMPLING, DEPTH): as the codes of R142. -/
def rxFormat (sampling depth : Nat) : Nat :=
  if sampling = 0 then (if depth = 8 then 0 else 1) else sampling + 1

end Sys2Proof.Machine
end

