-- ==== Sys2Proof/Machine/Admission.lean ====
section
/-!
DEFINITION. Admission (01 R34-R42): the charges of commands, the limits of each resource, pool reservations' sizes. Amounts
of resources 1 and 2 are in 1/40040 of their unit, and those of resource 4 in 1/1001, so that every rate, bytes-per-pixel and pass count
is exact (R38, R39, R115).
-/
set_option Elab.async false
namespace Sys2Proof.Machine

open Sys2Proof

/-- 40040 = 1001 × 8 × 5: the common denominator of rates, bytes per pixel and the 0.2 pass. -/
abbrev unitScale : Nat := 40040

/-- Pictures per second of a rate index in 1/40040. -/
def rateScaled (rate : Nat) : Nat := rateNum rate * (unitScale / rateDen rate)

/-- Luma rate of a program (R38), scaled. -/
def lumaCharge (w h rate : Nat) : Nat := w * h * rateScaled rate

/-- `flow_charge` of R39, scaled. -/
def flowCharge (w h fmt rate : Nat) : Nat := w * h * bpp8 fmt * (rateScaled rate / 8)

/-- `prog_charge` of R39, scaled; `layerBits` is the sum over enabled layers of pixels × bpp in eighths of a byte. -/
def progCharge (w h fmt rate : Nat) (vvc lamp : Bool) (layerBits : Nat) : Nat :=
  let canvas := w * h * bpp8 fmt
  -- passes in tenths: 1 + 1 + ref + 1 + 0.2
  let tenths := if vvc then 57 else 52
  rateNum rate * (unitScale / rateDen rate / 40) *
    (canvas * tenths / 2 + 5 * layerBits + (if lamp then 160 * w * h else 0))

/-- Logical channels that are backed (R36, R41, R496). -/
def State.backed (s : State) (c : Nat) : Bool :=
  (s.mem.map.get (some (32 * (c / 16) + c % 16)) c).isSome

/-- Backed logical channels of a stack. -/
def State.activeChannels (s : State) (stack : Nat) : Nat :=
  ((List.range 16).filter (fun i => s.backed (16 * stack + i))).length

/-- 0.85 × a channel's peak data bandwidth at a transfer rate, bytes/s (R41). -/
def channelBw : Nat → Nat
  | 0 => 43520000000 | 1 => 32640000000 | _ => 21760000000

/-- Memory-bandwidth limit in bytes/s (R34, R41, R497). -/
def State.bwLimit (s : State) : Nat :=
  s.activeChannels 0 * channelBw (s.mem.rates.getD 0 0) + s.activeChannels 1 * channelBw (s.mem.rates.getD 1 0)

/-- Encode limit in luma samples/s (R34, R6, R41). -/
def State.encLimit (s : State) : Nat :=
  (if s.nv.part = 0x8212 then 48000000000 else 64000000000) - s.encLost

/-- Memory-space limit in bytes (R34, R36). -/
def State.spaceLimit (s : State) : Nat :=
  (31 - (32 - s.activeChannels 0 - s.activeChannels 1)) * 2 ^ 30

/-- The limit of a resource in the unit of its charges; 7 stands for the egress contexts of resource 6. -/
def State.resLimit (s : State) : Nat → Nat
  | 1 => s.encLimit * unitScale
  | 2 => s.bwLimit * unitScale
  | 3 => s.spaceLimit
  | 4 => 1600000000000 * 1001
  | 5 => 32000000000
  | 6 => 256
  | _ => 1024

/-- Σ of the charges of a resource. -/
def chargeSum (l : List Charge) (res : Nat) : Nat := ((l.filter (fun c => c.res = res)).map Charge.amount).sum

/-- The first limit that the charges held plus `new` would exceed (R34); `gone` are charges that the command replaces. A command charges
when some total rises by it; then every total has to stay within its limit. -/
def State.overLimit (s : State) (gone : Charge → Bool) (new : List Charge) : Option Nat :=
  let kept := s.charges.filter (fun c => !gone c)
  if [1, 2, 3, 4, 5, 6, 7].any (fun r => chargeSum s.charges r < chargeSum (kept ++ new) r) then
    ([1, 2, 3, 4, 5, 6, 7].find? (fun r => s.resLimit r < chargeSum (kept ++ new) r)).map (fun r => min r 6)
  else none

/-- ERR_CAPACITY with the resource code. -/
def State.badCapacity (s : State) (gone : Charge → Bool) (new : List Charge) : Verdict :=
  (s.overLimit gone new).map (fun r => (0x020B, r))

/-- The charges of an object in a resource: `settled` is what it charges now, and each command that waits for its effect, in acceptance
order, holds what it will charge beyond what is held before it (R37). `needs` gives the acceptance position and the amount of each. -/
def heldCharges (owner res settled : Nat) (needs : List (Nat × Nat)) : List Charge :=
  let base : Charge := { owner := owner, slot := 0, res := res, amount := settled, pos := 0 }
  (needs.foldl (fun l n =>
    if chargeSum l res < n.2 then l ++ [{ base with amount := n.2 - chargeSum l res, pos := n.1 }] else l) [base]).filter
    (fun c => c.amount ≠ 0)

/-- 8 × the strand rate (R116), in 1/1001 bit/s. -/
def braidCharge (rate : Nat) : Nat := 1001 * (225000000000 / 2 ^ rate)
/-- The ingress charges of a braid while the BRAID_CONFIGs of a list wait (R37, R116). -/
def State.braidCharges (s : State) (i : Nat) (l : List Cmd) : List Charge :=
  let b := s.braid i
  heldCharges (braidId i) 4 (if b.enabled then braidCharge b.rate else 0)
    (l.map (fun c => (c.pos, if c.u 0 1 = 1 then braidCharge (c.u 1 1) else 0)))
/-- Peak rates of a transmit flow's legs, with values that wait for the leg's next update (R374, R377). -/
def TxFlow.peaks (f : TxFlow) : List Nat := f.legs.map (fun l => (l.newSet.map BucketSet.pRate).getD l.p.rate)
/-- The peak rates after each of a list of SHAPER_SETs, as (acceptance position, their sum). -/
def peakNeeds : List Nat → List Cmd → List (Nat × Nat)
  | _, [] => []
  | r, c :: l => let r' := r.set (c.u 0 1) (c.u 12 8); (c.pos, r'.sum) :: peakNeeds r' l
/-- The egress charges of a flow while the SHAPER_SETs of a list wait (R37, R376). -/
def State.peakCharges (s : State) (i : Nat) (l : List Cmd) : List Charge :=
  heldCharges (txId i) 5 (s.txFlow i).peaks.sum (peakNeeds (s.txFlow i).peaks l)
/-- The commands of an opcode and object that wait for their effect, in acceptance order. -/
def State.waitingFor (s : State) (code object : Nat) : List Cmd := s.hif.cmds.filter (fun c => c.opcode = code ∧ c.object = object)
/-- Every charge of a resource that an object holds is replaced. -/
def State.rechargeObject (s : State) (owner res : Nat) (l : List Charge) : State :=
  { s with charges := s.charges.filter (fun c => !(c.owner = owner ∧ c.res = res)) ++ l }

/-- Hold charges (R37). -/
def State.charge (s : State) (new : List Charge) : State := { s with charges := s.charges ++ new }

/-- Give back the first `n` reservations of a kind. -/
def dropPages (p : Reservation → Bool) : Nat → List Reservation → List Reservation
  | _, [] => []
  | 0, l => l
  | n + 1, r :: l => if p r then dropPages p n l else r :: dropPages p (n + 1) l
/-- A staging block of a canopy that no loaded region occupies (04 R228). -/
def State.freeBlock (s : State) (k : Nat) (r : Reservation) : Bool :=
  let c := s.canopy k
  let used := c.staged.map (fun e => e.2.pages) ++ (c.arrived.flatMap Prod.snd).map (fun e => e.2.pages) ++
    (s.comp.canopies.flatMap (fun e => e.2.copies)).flatMap (fun x => x.2.2.regions.map (fun e => e.2.pages))
  r.owner == canopyId k && r.slot == 2 && !used.contains r.pages

/-- Give back the first `n` charges of an owner in a slot. -/
def dropCharges (owner slot : Nat) : Nat → List Charge → List Charge
  | _, [] => []
  | 0, l => l
  | n + 1, r :: l => if r.owner = owner ∧ r.slot = slot then dropCharges owner slot n l else r :: dropCharges owner slot (n + 1) l

/-- Free staging blocks of a canopy are released, with their charge (R228). -/
def State.dropBlocks (s : State) (k n : Nat) : State :=
  let cs := dropCharges (canopyId k) 2 n s.charges
  let rs := dropPages (s.freeBlock k) n s.mem.reservations
  { s with charges := cs, mem := { s.mem with reservations := rs } }

/-- CAPACITY_REDUCED with the new limits (R41). -/
def State.capacityReduced (s : State) : State :=
  s.raise 0x0101 deviceId (s.encLimit / 1000000) (s.bwLimit / 1000000)

end Sys2Proof.Machine
end

