-- ==== Sys2Proof/Machine/Scramble.lean ====
section
/-!
DEFINITION. Code words and scrambling of a strand (03 R139, R140), as YT_TX sends them; a Yeluc receiver reads them in IngestEvents.
-/
set_option Elab.async false
namespace Sys2Proof.Machine

open Sys2Proof

/-- Header of a code word: 3 marks a data code word, 12 a control code word, any other is a header error (R139). -/
def codeHeader (w : Nat) : Nat := w % 16
/-- The 128 payload bits of a code word. -/
def codePayload (w : Nat) : Nat := w / 16 % 2 ^ 128

/-- The scrambler of R140, `k` groups of 39 bits. -/
def scramble : Nat → Nat → Nat → Nat
  | 0, _, _ => 0
  | k + 1, past, data =>
    let s := (data ^^^ past ^^^ (past / 2 ^ 19)) % 2 ^ 39
    s + 2 ^ 39 * scramble k ((past + s * 2 ^ 58) / 2 ^ 39) (data / 2 ^ 39)

/-- The payloads of a list of code words as one number, the first in its low bits. -/
def payloadBits : List Nat → Nat
  | [] => 0
  | w :: ws => codePayload w + 2 ^ 128 * payloadBits ws

/-- The 32 data code words of a block's 512 scrambled bytes. -/
def codeWords : Nat → Nat → List Nat
  | 0, _ => []
  | n + 1, line => (3 + 16 * (line % 2 ^ 128)) :: codeWords n (line / 2 ^ 128)

/-- A strand of YT_TX sends a block (R140): its code words, and the strand afterwards. -/
def Strand.send (x : Strand) (bytes : List Byte) : List Nat × Strand :=
  let line := scramble 106 x.sent (leNat bytes) % 2 ^ 4096
  (codeWords 32 line, { x with sent := (x.sent + line * 2 ^ 58) / 2 ^ 4096 })

/-- XOR of byte strings of one length. -/
def xorBytes : List Byte → List Byte → List Byte
  | x :: xs, y :: ys => (x ^^^ y) :: xorBytes xs ys
  | _, _ => []

end Sys2Proof.Machine
end

