-- ==== Sys2Proof/Machine/Engine.lean ====
section
/-!
DEFINITION. The command engine between acceptance and outcome (02 R91–R102): conflicts, fences, when a taken command may
start, when its effect comes, and the COMMIT_NOTE of a replicated command (10 R444, R445).
-/
set_option Elab.async false
namespace Sys2Proof.Machine

open Sys2Proof

/-! ### Tether messages (10 R433, R441) -/

/-- In a formed twin (10 R427): one device is LEAD and the other FOLLOWER; a lead that has lost its peer has no follower (R458). -/
def State.formed (s : State) : Bool := (s.twin.role == 2 && !s.twin.peerLost) || s.twin.role == 3
def State.isLead (s : State) : Bool := s.twin.role == 2
def State.isFollower (s : State) : Bool := s.twin.role == 3

/-- The payloads of a message's fragments; `fuel` at least their number (R435). -/
def fragmentsOf (size : Nat) : Nat → List Byte → List (List Byte)
  | 0, _ => []
  | fuel + 1, l => if l.length ≤ size then [l] else l.take size :: fragmentsOf size fuel (l.drop size)

/-- One tether block (path A) or datagram (path B) (R433, R434). -/
def tetherBlock (path type seq : Nat) (first last : Bool) (part : List Byte) : List Byte :=
  let head := leBytes 1 type ++ leBytes 1 (b2n first + 2 * b2n last) ++ leBytes 2 part.length ++ leBytes 4 seq
  withCrc (head ++ part ++ (if path = 0 then List.replicate (500 - part.length) 0 else []))

/-- Priority of a message type on path A (R436). -/
def tetherPriority : Nat → Nat
  | 1 => 0 | 2 => 0 | 5 => 1 | 4 => 1 | 8 => 1 | 9 => 1 | 3 => 2 | 10 => 2 | _ => 3
/-- Time of a block row on path A in ns, rounded up: 32 code words of 132 bits on each strand (R433, 03 R138, R139). -/
def State.tetherTime (s : State) : Nat :=
  cdiv (32 * 132 * 100000 * 2 ^ s.twin.ytRate) 2812500
/-- `n` IDLE blocks, each with its MSG_SEQ (R433, *Tether messages*). -/
def State.idleBlocks (s : State) (n : Nat) : List (List Byte) :=
  (List.range n).map (fun i => tetherBlock 0 0 ((s.twin.msgSeq.get 0 0 + i) % two32) true true [])
/-- YT_TX sends a block on each strand of the list (R433). -/
def State.sendStrands (s : State) (l : List (Nat × List Byte)) : State :=
  l.foldl (fun s e =>
    let r := ((s.braid 4).strands.get {} e.1).send e.2
    let s1 := s.modBraid 4 (fun b => { b with strands := b.strands.set e.1 r.2 })
    { s1 with out := Output.yeluc e.1 r.1 :: s1.out }) s
/-- A block row of YT_TX: up to four blocks on S0–S3, completed by IDLE, and their XOR on the spare strand (R433). -/
def State.sendRow (s : State) (blocks : List (List Byte)) : State :=
  let n := 4 - blocks.length
  let row := blocks ++ s.idleBlocks n
  let spare := row.foldl xorBytes (List.replicate 512 (0 : Byte))
  let s1 := { s with twin := { s.twin with msgSeq := s.twin.msgSeq.set 0 ((s.twin.msgSeq.get 0 0 + n) % two32) } }
  s1.sendStrands ((row.zipIdx).map (fun e => (e.2, e.1)) ++ [(8, spare)])
/-- Rows that path A has started by now go out, in the order of the queue (R436). -/
def State.drainTether : Nat → State → State
  | 0, s => s
  | fuel + 1, s =>
    if s.twin.txA = [] ∨ s.now < s.twin.txFree then s
    else
      State.drainTether fuel (State.sendRow { s with
        twin := { s.twin with txA := s.twin.txA.drop 4, txFree := s.twin.txFree + s.tetherTime } } ((s.twin.txA.take 4).map Prod.snd))
/-- While nothing waits, path A carries rows of IDLE alone, which are not written down: what they leave in the scramblers is open (log
entry 149). -/
def State.idleTether (s : State) : State :=
  if s.twin.txA = [] ∧ s.twin.txFree < s.now then
    let (v, s1) := s.draw
    let idle (t : Tab Strand) (k : Nat) : Tab Strand := t.upd {} k (fun x => { x with sent := v / 2 ^ (58 * k) % 2 ^ 58 })
    let s2 := s1.modBraid 4 (fun b => { b with strands := [0, 1, 2, 3, 8].foldl idle b.strands })
    { s2 with twin := { s2.twin with txFree := s.now } }
  else s
/-- A block enters path A's queue behind those of its priority and above (R436). -/
def queueBlock (l : List (Nat × List Byte)) (e : Nat × List Byte) : List (Nat × List Byte) :=
  l.takeWhile (fun x => x.1 ≤ e.1) ++ e :: l.dropWhile (fun x => x.1 ≤ e.1)
/-- Blocks of a message enter path A's queue; those that it can start at once go out (log entry 149). -/
def State.pathASend (s : State) (type : Nat) (blocks : List (List Byte)) : State :=
  let s1 := (State.drainTether s.twin.txA.length s).idleTether
  let q := blocks.foldl (fun q b => queueBlock q (tetherPriority type, b)) s1.twin.txA
  State.drainTether q.length { s1 with twin := { s1.twin with txA := q } }

/-- A datagram of path B goes out on each MG port that TWIN_CONFIG names (R434). -/
def State.pathBSend (s : State) (bytes : List Byte) : State :=
  let one (mg : Nat) (addr : List Byte) : List Output := if bit s.twin.mgPorts mg then [.tether mg addr s.twin.udpPort bytes] else []
  { s with out := one 1 s.twin.peerMg1 ++ one 0 s.twin.peerMg0 ++ s.out }

/-- Send a message on a path, cut into fragments with the MSG_SEQ of its path and type (R433–R435); none during a warm reset
(14 R591). -/
def State.tetherOn (s : State) (path type : Nat) (payload : List Byte) : State :=
  if s.power.warm then s
  else
    let size := if path = 0 then 500 else 1400
    let parts := fragmentsOf size (payload.length / size + 1) payload
    let key := path * 256 + type
    let seq := s.twin.msgSeq.get 0 key
    let blocks := (parts.zipIdx).map (fun e =>
      tetherBlock path type ((seq + e.2) % two32) (e.2 == 0) (e.2 + 1 == parts.length) e.1)
    let s1 := { s with twin := { s.twin with msgSeq := s.twin.msgSeq.set key ((seq + parts.length) % two32) } }
    if path = 0 then s1.pathASend type blocks else blocks.foldl State.pathBSend s1

/-- A message other than HEARTBEAT: on path A while it is up, else on path B (R441). -/
def State.tetherSend (s : State) (type : Nat) (payload : List Byte) : State :=
  s.tetherOn (if s.twin.pathA.up then 0 else 1) type payload

/-- The bytes of an epoch that one EPOCH_DATA message carries at an offset, and the EPOCH_END after the last (R449). -/
def State.sendEpoch (s : State) (kind pos apply length : Nat) (data : Tab Byte) : State :=
  let n := s.twin.nextEpoch
  let bytes := (List.range length).map (fun i => data.get 0 i)
  let s1 := { s with twin := { s.twin with
    nextEpoch := (n + 1) % two32,
    sending := s.twin.sending ++ [({ number := n, kind := kind, data := data, pos := pos, apply := apply, length := length } : EpochBuf)] } }
  (s1.tetherSend 6 (leBytes 4 n ++ leBytes 8 0 ++ bytes)).tetherSend 7 (leBytes 4 n ++ leBytes 1 kind ++ leBytes 3 0 ++
    leBytes 8 length ++ leBytes 4 (crc32c bytes) ++ leBytes 4 apply ++ leBytes 8 pos)

/-- A would-be lead's join epoch is on its way or waits for its clearing (R431, R458). -/
def State.joining (s : State) : Bool :=
  ((s.twin.role == 1 && s.twin.askRole == 2) || s.isLead) &&
    (s.twin.sending.any (fun e => e.kind == 0) || s.twin.joinApply.isSome)
/-- Commands go to the peer: a follower, or a device that will be one (R431, R442). -/
def State.replicates (s : State) : Bool := (s.isLead && !s.twin.peerLost) || s.joining
/-- The host data of a replicated command goes to the peer as a data epoch before the command commits (R446). -/
def State.sendsData (s : State) (c : Cmd) : Bool := s.replicates && c.replicated
/-- The data epoch of a command, unless one is already on its way. -/
def State.dataEpoch (s : State) (c : Cmd) (length : Nat) (data : Tab Byte) : State :=
  if s.twin.sending.any (fun e => e.kind = 1 && e.pos = c.pos) then s else s.sendEpoch 1 c.pos 0 length data

/-- The bytes of an epoch. -/
def EpochBuf.bytes (b : EpochBuf) : List Byte := (List.range b.length).map (fun i => b.data.get 0 i)
/-- Lamp entries in an epoch: entry number and value. -/
def EpochBuf.entries (b : EpochBuf) : List (Nat × Nat) :=
  ((b.data.map (fun e => e.1 / 4)).dedup).map (fun i => (i, leNat ((List.range 4).map (fun k => b.data.get 0 (4 * i + k)))))
/-- The data epoch of a command has been verified (R449). -/
def State.epochOf (s : State) (pos : Nat) : Option EpochBuf := s.twin.verified.find? (fun b => b.pos = pos)

/-- The host data of a command that is about to take effect: of one that a former follower replays, its verified data epoch (R449, R457). -/
def State.dataFor (s : State) (c : Cmd) (host : List Byte) : List Byte := ((s.epochOf c.pos).map EpochBuf.bytes).getD host
def State.entriesFor (s : State) (c : Cmd) (host : List (Nat × Nat)) : List (Nat × Nat) :=
  ((s.epochOf c.pos).map EpochBuf.entries).getD host

/-! ### Conflicts (R92) -/

/-- Object IDs that a command's parameters name (R92), by opcode; 0 and unused fields name none. -/
def Cmd.paramObjects (c : Cmd) : List Nat :=
  let ids : List Nat := match c.opcode with
    | 0x0201 => if c.u 0 1 = 1 then [c.u 16 4] else []
    | 0x0206 => [c.u 0 4]
    | 0x0302 => [c.u 0 4, c.u 4 4]
    | 0x0304 => (List.range (c.u 0 1)).map (fun i => c.u (4 + 4 * i) 4)
    | 0x0601 => if c.u 0 1 = 0 then [c.u 4 4] else []
    | 0x0704 => [c.u 4 4]
    | 0x0A01 => [c.u 4 4]
    | 0x0B02 => [c.u 4 4]
    | _ => []
  ids.filter (fun i => i ≠ 0)

/-- The objects a command names (R92). -/
def Cmd.objects (c : Cmd) : List Nat := c.object :: c.paramObjects

/-- Two commands conflict (R92). -/
def Cmd.conflicts (c d : Cmd) : Bool :=
  c.object == deviceId || d.object == deviceId || c.objects.any (fun o => d.objects.contains o)

/-- Not yet started. -/
def Cmd.waitingToStart (c : Cmd) : Bool := c.phase == .accepting || c.phase == .accepted

/-- May a taken command start now? R91 and R93 within its queue, R96 across queues, R105 for ABORT, R111 among commands re-run from
the journal; nothing starts while a warm reset holds the command engine (R591). -/
def State.startable (s : State) (c : Cmd) : Bool :=
  c.phase == .accepted && !s.power.warm && !s.mute c &&
  (c.opcode == 0x0010 ||
    s.hif.cmds.all (fun d =>
      d.pos ≥ c.pos ||
      ((d.q != c.q || !d.waitingToStart) &&
       (d.q != c.q || !c.conflicts d) &&
       !(c.again && d.again && d.waitingToStart) &&
       !c.hitch && !d.hitch)))

/-! ### Target canopy and effect time (R99–R102) -/

/-- The canopy that a layer is bound to: in shadow, else active (R99). -/
def State.layerCanopy (s : State) (i : Nat) : Option Nat :=
  match (s.layer i).shadow.canopy with
  | some c => some c
  | none => (s.layer i).active.canopy

/-- The target canopy of a CLEARING command (R99). -/
def State.targetCanopy (s : State) (object : Nat) : Option Nat :=
  match object / 16777216 with
  | 1 => some (object % 16777216)
  | 2 => some (object % 16777216)
  | 3 => s.layerCanopy (object % 16777216)
  | 4 => s.layerCanopy (32 + object % 16777216)
  | _ => none

/-! ### A replicated effect fails (10 R447) -/

/-- The programs that a command's effect concerns. -/
def State.concerns (s : State) (c : Cmd) (p : Nat) : Bool :=
  c.objects.any (fun o => o % 16777216 == p && (o / 16777216 == 1 || o / 16777216 == 2)) ||
    (isLayerCls c.cls && s.layerCanopy c.layerIdx == some p) || c.object == deviceId
/-- A replicated effect fails here: TWIN_REPLICA_FAULT, and FAULT on the rows of the programs concerned. -/
def State.replicaFailed (s : State) (c : Cmd) : State :=
  let s1 := s.raise 0x070E deviceId (c.pos % two32) 0
  { s1 with progs := s1.progs.map (fun (e : Nat × Program) =>
      (e.1, if e.2.running && s.concerns c e.1 then { e.2 with faultSticky := true } else e.2)) }
/-- A command ends with an execution fault; a follower's own application of a replicated one has failed. -/
def State.fail (s : State) (c : Cmd) (status detail : Nat) : State :=
  (if s.mute c then s.replicaFailed c else s).complete c status detail
/-- A command whose ERR_STATE of check 9 has come to hold by the time it starts completes with FAULT_INTERNAL and changes nothing (log
entry 156). -/
def State.unlessNow (s : State) (c : Cmd) (bad : Bool) (s' : State) : State := if bad then s.fail c 0x0303 c.object else s'

/-- The same for the command of a queue and SEQ, when it is there. -/
def State.failOpt (s : State) (id : Option (Nat × Nat)) (status detail : Nat) : State :=
  match id.bind (fun i => s.findCmd i.1 i.2) with
  | none => s
  | some c => s.fail c status detail

/-- The running canopy for whose clearing a CLEARING command waits when it starts. A canopy that has stopped since check 9 has no clearing
to wait for, and the command takes effect at once (R691); so does one whose layer has been unbound since (log entry 132). -/
def State.clearingOf (s : State) (c : Cmd) : Option Nat :=
  if c.clearing then (s.targetCanopy c.object).filter (fun k => (s.canopy k).running) else none

/-- The 33-bit value of a base (R390). -/
def TimeBase.value33 (b : TimeBase) : Nat := b2n b.epoch * two32 + b.ns

/-- The stored value of an accepted future time (R406). -/
def TimeBase.store33 (b : TimeBase) (t : Nat) : Nat :=
  let after := (t + two32 - b.ns) % two32
  let e := if 1 ≤ after ∧ t > b.ns then b.epoch else !b.epoch
  b2n e * two32 + t

/-- Has a pending time fired, the base showing `v` (R406)? -/
def fired33 (v pend : Nat) : Bool := (v + 2 * two32 - pend) % (2 * two32) < two32

/-- The extended count of base `n` at which a time stored now fires. -/
def State.pendExt (s : State) (n pend : Nat) : Int :=
  (s.tb n).count + ((pend + 2 * two32 - (s.tb n).value33) % (2 * two32) : Nat)
/-- The pending time of a command has fired: its base has reached it at some tick since it was accepted (R406). -/
def State.fired (s : State) (c : Cmd) : Bool := decide (c.fireAt ≤ (s.tb c.effTb).count)

/-- R101, R405, R445: a given future instant must lie strictly ahead and less than 2^31 ns ahead; ERR_STATE on a base
that is not running. -/
def State.badTime (s : State) (n t : Nat) (replicated : Bool) : Verdict :=
  let b := s.tb n
  let ahead := (t + two32 - b.ns) % two32
  let lo := if replicated && s.formed then 20000 else 0
  if b.state = 0 then some (0x0202, tbId n)
  else verdict (ahead ≤ lo || 2147483648 ≤ ahead) 0x0205 b.ns

/-! ### Commit notes (R444, R445) -/

/-- The COMMIT_NOTE of a replicated command. -/
def State.commitNote (s : State) (c : Cmd) (kind value tb status detail : Nat) : State :=
  if (s.isLead ∨ s.joining) ∧ c.replicated then
    let n := s.twin.commitSeq + 1
    let s1 := { s with twin := { s.twin with commitSeq := n } }
    let s2 := if s.replicates then s1.tetherSend 5 (leBytes 8 c.pos ++ leBytes 8 n ++ leBytes 4 value ++ leBytes 1 kind ++
      leBytes 1 tb ++ leBytes 2 status ++ leBytes 4 detail) else s1
    s2.modCmd c.q c.seq (fun c => { c with noted := some n })
  else s

/-- The first grid instant of a canopy that a command started now may take effect at: at least 20 µs ahead for a
replicated one (R445). A canopy that does not run yet would start on its grid. -/
def State.nextClearing (s : State) (canopy : Nat) (replicated : Bool) : Nat :=
  let k := s.canopy canopy
  let gr := gridOf k.geom.rate k.geom.offset
  let ahead := if s.formed ∧ replicated then s.now + 20000 else s.now
  if !k.running then gr.at (gr.firstAfter ahead)
  else if s.formed ∧ replicated ∧ k.g < ahead then gr.at (gr.firstAfter k.g)
  else k.g

/-- A command without CLEARING that takes effect at a clearing by its nature: the settings, start and stop of a program (06 R314–R317;
07 R324; 08 R350). -/
def State.awaitsClearing (s : State) (c : Cmd) : Option Nat :=
  let run := (s.prog (c.object % 16777216)).running
  let settings := c.opcode == 0x0401 || c.opcode == 0x0403 || c.opcode == 0x0405 || c.opcode == 0x0501 || c.opcode == 0x0502
  if c.opcode == 0x0402 || (settings && run) then some (c.object % 16777216) else none

/-! ### Starting -/

/-- The status and detail that the journal holds as a command's outcome; OK_COMPLETED while it holds none. -/
def State.outcomeOf (s : State) (c : Cmd) : Nat × Nat :=
  match ((s.queue c.q).window.find? (fun e => e.seq = c.seq)).bind JEntry.outcome with
  | some r => (r.status, r.detail)
  | none => (2, 0)
/-- The note of a command that has taken effect, with the outcome that the effect gave it (R444). -/
def State.noteOutcome (s : State) (c : Cmd) (kind value : Nat) : State :=
  let r := s.outcomeOf c
  s.commitNote c kind value 0 r.1 r.2

/-- The command starts: its effect comes at its clearing (R99), at its time (R101) or at once (R102). -/
def State.begin (s : State) (c : Cmd) (eff : Cmd → State → State) : State :=
  let c1 : Cmd := { c with phase := .started }
  let s1 := s.modCmd c.q c.seq (fun c => { c with phase := .started })
  if c.clearing then match s.clearingOf c with
    | some k =>
      let at_ := s.nextClearing k c.replicated
      let kind := if c.effTime = 0 then 1 else 2
      (s1.modCmd c.q c.seq (fun c => { c with clearOf := some k, notBefore := some at_ })).commitNote c1 kind
        (if c.effTime = 0 then at_ % two32 else c.effTime) (if c.effTime = 0 then 0 else c.effTb) 2 0
    | none => (eff c1 s1).noteOutcome c1 0 0
  else if c.effTime ≠ 0 then s1.commitNote c1 2 c.effTime c.effTb 2 0
  else match s.awaitsClearing c with
    | some k =>
      let at_ := s.nextClearing k c.replicated
      (eff c1 (s1.modCmd c.q c.seq (fun c => { c with notBefore := some at_ }))).noteOutcome c1 1 (at_ % two32)
    | none => (eff c1 s1).noteOutcome c1 0 0

/-- The row of an opcode: the command engine starts the accepted command with that SEQ if it may start now; otherwise
nothing happens (log entry 2). -/
def State.runOp (s : State) (code q seq : Nat) (eff : Cmd → State → State) : State :=
  match s.findCmd q seq with
  | none => s
  | some c => if c.opcode = code ∧ s.startable c then s.begin c eff else s

/-- The row of an opcode that times its own effect (COMMIT R201, LAYER_UPLOAD R218, LAMP_TABLE_LOAD R228). -/
def State.runSelfTimed (s : State) (code q seq : Nat) (eff : Cmd → State → State) : State :=
  match s.findCmd q seq with
  | none => s
  | some c =>
    if c.opcode = code ∧ s.startable c then
      eff { c with phase := .started } (s.modCmd q seq (fun c => { c with phase := .started }))
    else s

/-- A meaning of an opcode row. -/
def opOut (q : Nat) (s' : State) : Out := need (isQueue q) s'

end Sys2Proof.Machine
end

