-- ==== Sys2Proof/Machine/Flags.lean ====
section
/-!
DEFINITION. Status registers as the host reads them (00 R8, 02, 09, 10, 14, 16): the value each field of the state gives
its register. Side effects of reads have rows of their own.
-/
set_option Elab.async false
namespace Sys2Proof.Machine

open Sys2Proof

/-- DEV_ID (00 R8). -/
def State.devIdReg (s : State) : Nat := if s.upd.fusesRead then s.nv.part * 65536 + s.nv.grade else 0
/-- STEPPING (00 R8). -/
def State.steppingReg (s : State) : Nat := if s.upd.fusesRead then s.nv.stepping else 0
/-- DEV_UID_LO (00 R8). -/
def State.devUidLoReg (s : State) : Nat := if s.upd.fusesRead then s.nv.uid % two32 else 0
/-- DEV_UID_HI (00 R8). -/
def State.devUidHiReg (s : State) : Nat := if s.upd.fusesRead then s.nv.uid / two32 % two32 else 0
/-- LIFECYCLE (15). -/
def State.lifecycleReg (s : State) : Nat :=
  s.upd.lifeNext * 65536 + (if s.upd.fusesRead then s.nv.returns * 16 else 0) + s.upd.lifeState
/-- FW_SET (15). -/
def State.fwSetReg (s : State) : Nat :=
  s.upd.fwSetVersion % 65536 * 65536 + s.upd.fwSecVersion % 64 * 1024 + b2n s.upd.fwConfirmed * 512 + s.upd.fwBank % 2 * 256 +
    b2n s.upd.fwLegacy * 128
/-- A splice is in progress: some program is muted on one device of a formed twin (10 R466). -/
def State.splicing (s : State) : Bool :=
  s.formed && (List.range 16).any (fun p => (s.prog p).muted.isSome || (s.prog p).peerMuted.isSome)
/-- MUTED of TWIN_ROLE and of HEARTBEAT. -/
def State.mutedMask (s : State) : Nat :=
  ((List.range 16).map (fun p => if (s.prog p).muted.isSome then 2 ^ p else 0)).sum
/-- TWIN_ROLE (10 R470). -/
def State.twinRoleReg (s : State) : Nat :=
  s.mutedMask * 65536 + b2n s.twin.split * 4096 + b2n s.twin.peerLost * 2048 + b2n s.splicing * 1024 +
    b2n s.twin.pathB.up * 512 + b2n s.twin.pathA.up * 256 + s.twin.role % 4
/-- UPD_STATE (15). -/
def State.updStateReg (s : State) : Nat :=
  s.upd.state % 16 * 2 ^ 28 + s.upd.lastResult % 16 * 2 ^ 24 + s.upd.code % 256 * 65536 + s.upd.received / 4096 % 65536
/-- PWR_STATUS (14). -/
def State.pwrStatusReg (s : State) : Nat :=
  s.power.bootStage % 16 * 2 ^ 28 + b2n s.power.ready * 2 ^ 27 + s.power.rstCause % 8 * 2 ^ 24 + s.power.warmCause % 4 * 2 ^ 22 +
    s.power.warmCount % 64 * 65536 + s.power.pair1 % 4 * 1024 + s.power.pair0 % 4 * 256 + b2n s.power.vinLow
/-- PWR_SUPPLY (14). -/
def State.pwrSupplyReg (s : State) : Nat := s.power.iin % 65536 * 65536 + s.power.vin % 65536
/-- PWR_PERMIT (14 R579). -/
def State.pwrPermitReg (s : State) : Nat := s.outstanding % 65536 * 65536 + s.budget % 65536
/-- CAUSE of PWR_THERMAL. -/
def State.throttleCause (s : State) : Nat := b2n s.power.causeCurrent + 2 * b2n s.power.causeThermal
/-- PWR_THERMAL (14). -/
def State.pwrThermalReg (s : State) : Nat :=
  wrapInt 16 s.power.tj * 65536 + s.power.threshold % 256 * 256 + s.throttleCause * 16 + s.power.step % 16
/-- PWR_ALERT (14). -/
def State.pwrAlertReg (s : State) : Nat := s.power.alertMask % 64 * 256 + s.power.alert % 64
/-- CLK_STATUS (14). -/
def State.clkStatusReg (s : State) : Nat := b2n s.power.holdover * 4 + b2n s.power.refclkOk * 2 + b2n s.power.pllLocked
/-- PWR_AVS_VOLT_d (14). -/
def State.avsVoltReg (s : State) (d : Nat) : Nat :=
  b2n (s.power.avsClamped.contains d) * 2 ^ 31 + s.power.avsMv.get 0 d % 65536

/-- The effective depth of a queue: min(D, RQ entries / 2) on rings, D on UDP (R79, R87). -/
def CmdQueue.effDepth (c : CmdQueue) : Nat := if c.bind.udp then c.bind.depth else min c.bind.depth (c.rqSize / 2)
/-- Taken commands of a queue without an outcome (R66). -/
def State.outstandingOn (s : State) (q : Nat) : Nat := (s.hif.cmds.filter (fun c => c.q = q)).length
/-- Free RQ entries (R79). -/
def CmdQueue.freeRq (c : CmdQueue) : Nat := c.rqSize - c.rqUsed - c.reserved - c.held.length
/-- Fetching is held by depth, reply room or RESYNC (HIF_CQn_STATUS.FETCH_HELD). -/
def State.fetchHeld (s : State) (q : Nat) : Bool :=
  let c := s.queue q
  c.resyncReq || c.effDepth ≤ s.outstandingOn q || (!c.bind.udp && c.freeRq < 2)
/-- HIF_CQn_STATUS (02). -/
def State.cqStatusReg (s : State) (q : Nat) : Nat :=
  let c := s.queue q
  c.expAlive % 256 * 2 ^ 24 + b2n c.resyncState * 2 ^ 23 + b2n c.bind.udp * 2 ^ 22 + b2n (q == 15 && s.formed) * 2 ^ 21 +
    b2n (s.fetchHeld q) * 2 ^ 17 + s.outstandingOn q % 512

/-- Is a base in use (R393)? -/
def State.tbInUse (s : State) (n : Nat) : Bool :=
  (n == 0 && (List.range 16).any (fun i => (s.canopy i).running)) ||
  (List.range 16).any (fun p => (s.prog p).running && (s.prog p).launchBase == n) ||
  s.hif.cmds.any (fun c => c.effTime != 0 && c.effTb == n && !s.fired c) ||
  (n == 0 && (s.upd.a.isSome || s.hif.cmds.any (fun c => c.opcode == 0x0D04))) ||
  (s.tb n).capture.isSome
/-- TBX_TBn_STATUS (09). -/
def State.tbStatusReg (s : State) (n : Nat) : Nat :=
  let b := s.tb n
  b2n b.epoch * 1024 + b2n (s.tbInUse n) * 512 + b2n b.slew.isSome * 256 + b.mode % 8 * 16 + b.state % 8
/-- TBX_TBn_CAP_INFO (09). -/
def TimeBase.capInfoReg (b : TimeBase) : Nat :=
  b.capCount % 65536 * 65536 + b.capSource % 256 * 16 + b2n b.capOverrun * 2 + b2n b.capValid
/-- TBX_C21_VIOL_m (09). -/
def State.c21Reg (s : State) (m : Nat) : Nat :=
  ((List.range 32).map (fun b => if s.time.c21.contains (32 * m + b) then 2 ^ b else 0)).sum
/-- PMC_SEL_n (16). -/
def Pmc.selReg (p : Pmc) : Nat :=
  b2n p.enable * 2 ^ 31 + b2n p.chain * 2 ^ 30 + p.leg % 4 * 2 ^ 28 + p.qual % 256 * 2 ^ 20 + p.event % 65536
/-- PMC_OVF_m (16). -/
def State.pmcOvfReg (s : State) (m : Nat) : Nat :=
  ((List.range 32).map (fun b => if s.obs.ovf.contains (32 * m + b) then 2 ^ b else 0)).sum
/-- OBS_EQ_CLAMPEDm (16 R651). -/
def State.eqClampedReg (s : State) (m : Nat) : Nat :=
  ((List.range 32).map (fun b => if s.obs.eqClamped.contains (32 * m + b) then 2 ^ b else 0)).sum

/-- ALERT_N follows PWR_ALERT and its mask (R601): emitted when its level changes. -/
def State.setAlert (s : State) (alert mask : Nat) : State :=
  let was := (s.power.alert &&& (63 - s.power.alertMask % 64)) != 0
  let now := (alert &&& (63 - mask % 64)) != 0
  let s1 := { s with power := { s.power with alert := alert, alertMask := mask } }
  if was = now then s1 else s1.emit (.pin 0 (!now))

/-- Set one bit of PWR_ALERT. -/
def State.alertBit (s : State) (n : Nat) : State := s.setAlert (s.power.alert ||| 2 ^ n) s.power.alertMask

end Sys2Proof.Machine
end

