-- ==== Sys2Proof/Machine/Units.lean ====
section
/-!
DEFINITION. Schedulable units and warm spares (05 R250–R252, R256): which spare takes a unit's place, and how a unit is retired.
-/
set_option Elab.async false
namespace Sys2Proof.Machine

open Sys2Proof

/-- Units of a class: 68 encode cores, 12 pixel engines, 10 packetizers. -/
def unitCount : Nat → Nat
  | 0 => 68 | 1 => 12 | _ => 10

/-- The lowest-numbered warm spare of a unit's class (R250; DESIGN CHOICE which one, log entry 9). -/
def State.spareOf (s : State) (u : Nat) : Option Nat :=
  let k := u / 65536
  ((List.range (unitCount k)).map (fun n => 65536 * k + n)).find? (fun i => (s.unit i).state = 1)

/-- A servicing command of an opcode stands accepted without an outcome for the part of an index: the part is being serviced (01 R45;
log entry 134). -/
def State.serviced (s : State) (code idx : Nat) : Bool := s.hif.cmds.any (fun d => d.opcode == code && d.object % 16777216 == idx)

/-- Replace a unit number in a permitted set. -/
def swapIn (old new : Nat) (l : List Nat) : List Nat := l.map (fun n => if n = old then new else n)

/-- The spare takes the retired unit's place in every permitted set (R250). -/
def swapPermitted (u sp : Nat) (p : Program) : Program :=
  { p with permitted := p.permitted.map (fun t =>
    let (e, x, k) := t
    match u / 65536 with
    | 0 => (swapIn (u % 65536) (sp % 65536) e, x, k)
    | 1 => (e, swapIn (u % 65536) (sp % 65536) x, k)
    | _ => (e, x, swapIn (u % 65536) (sp % 65536) k)) }

/-- A warm spare comes into service: it leaves the warm-spare state and gives its standing permit back (R580 code 7). -/
def State.bringIn (s : State) (u sp : Nat) : State :=
  let s1 := s.modUnit sp (fun x => { x with state := 0, standsFor := some u })
  let s2 := { s1 with progs := s1.progs.map (fun (e : Nat × Program) => (e.1, swapPermitted u sp e.2)) }
  s2.unpermit (fun p => p.code = 7 && p.holder = unitId sp)

/-- A unit is retired: it runs nothing more. -/
def State.retireUnit (s : State) (u : Nat) : State :=
  s.modUnit u (fun x => { x with state := 2, op := none, awaitAck := false })

/-! ### Trace records (R266) -/

/-- Put a record in the trace ring. -/
def Disp.record (d : Disp) (r : TraceRec) : Disp :=
  let full := 8192 ≤ d.trcUnread
  if full ∧ d.trcStop then { d with trcLost := satAdd 32 d.trcLost 1 }
  else
    let wr := (d.trcWr + 1) % 8192
    { d with trcRing := d.trcRing.set d.trcWr r, trcWr := wr, trcRd := if full then wr else d.trcRd,
             trcUnread := if full then 8192 else d.trcUnread + 1, trcLost := if full then satAdd 32 d.trcLost 1 else d.trcLost }

/-- A decision on a unit that runs no operation: its record is of no program and follows DECISIONS alone (17 TRACE_CONFIG); what would
name the operation is 0 (log entry 167). -/
def State.traceIdle (s : State) (decision kind unit retired : Nat) : State :=
  let d := s.disp
  if d.trcEnable ∧ !d.trcFrozen ∧ bit d.trcDecisions decision then
    { s with disp := d.record { ts := s.ts, decision := decision, unitKind := kind, unit := unit, retired := retired } }
  else s
/-- SPARE_SWAP of a unit that runs nothing. -/
def State.traceSwap (s : State) (u sp : Nat) : State := s.traceIdle 7 (u / 65536) (sp % 65536) (u % 65536)

end Sys2Proof.Machine
end

