-- ==== Sys2Proof/Machine/SystemOps.lean ====
section
/-!
DEFINITION. The system and queue opcodes of *Command reference* (0x0001–0x0103, but WARM_RESET): check 9 of each (checkX), its
effect (effX), its row (execX).
-/
set_option Elab.async false
namespace Sys2Proof.Machine

open Sys2Proof

/-! ### NOP, HITCH (R97, R660) -/

def checkNop (_ : State) (_ : Cmd) : Verdict := none
def effNop (c : Cmd) (s : State) : State := s.ok c
def execNop (q seq : Nat) (s : State) : Out := opOut q (s.runOp 0x0001 q seq effNop)

def checkHitch (_ : State) (_ : Cmd) : Verdict := none
/-- HITCH completes as soon as its fence lets it start (R97). -/
def effHitch (c : Cmd) (s : State) : State := s.ok c
def execHitch (q seq : Nat) (s : State) : Out := opOut q (s.runOp 0x0101 q seq effHitch)

/-! ### GET_INFO (R7, *Information record*) -/

def checkGetInfo (_ : State) (c : Cmd) : Verdict := badRange (c.buf 0 64)
/-- *Information record*. -/
def State.infoRecord (s : State) : List Byte :=
  leBytes 4 s.nv.part ++ leBytes 1 s.nv.grade ++ leBytes 1 s.nv.stepping ++ leBytes 2 0 ++ leBytes 8 s.nv.uid ++
  leBytes 4 s.fwSetReg ++ leBytes 4 s.lifecycleReg ++ leBytes 4 s.twinRoleReg ++ leBytes 4 s.pwrStatusReg ++
  leBytes 4 (s.encLimit / 1000000) ++ leBytes 4 (s.bwLimit / 1000000) ++ leBytes 4 (s.spaceLimit / 1048576) ++
  (s.egress.splits.take 4).map (fun n => BitVec.ofNat 8 n) ++ leBytes 16 0
def effGetInfo (c : Cmd) (s : State) : State := (s.writeBuf c (c.u 0 8) s.infoRecord).ok c 64
def execGetInfo (q seq : Nat) (s : State) : Out := opOut q (s.runOp 0x0002 q seq effGetInfo)

/-! ### RESET_UNIT (05 R256, R257) -/

/-- Permits that RESET_UNIT asks for: a spare-core bring-up permit for a retired unit (R257). -/
def State.resetUnitPermits (s : State) (c : Cmd) : List Permit :=
  if (s.unit c.idx).state = 2 then [{ code := 7, amount := 15, holder := c.object, pos := c.pos }] else []
/-- R45, R256, R257; a warm spare has nothing to be reset for (log entry 10). -/
def checkResetUnit (s : State) (c : Cmd) : Verdict :=
  let u := s.unit c.idx
  firstOf [badState (u.state = 1 || (u.state = 0 && (s.spareOf c.idx).isNone)) c.object,
           verdict (u.cmd.isSome || u.state = 3 || s.serviced 0x0003 c.idx) 0x0203 c.object,
           (s.permitRefusal (s.resetUnitPermits c)).map (fun d => (0x0208, d))]
/-- The bring-up permit of a retired unit is held from acceptance (14 R581). -/
def acceptResetUnit (c : Cmd) (s : State) : State := s.grant (s.resetUnitPermits c)
/-- Retire an idle unit for its spare, or mark its operation to move at its next pre-emption point; a retired unit starts
its self-test. -/
def effResetUnit (c : Cmd) (s : State) : State :=
  let u := s.unit c.idx
  let s1 := s.modCmd c.q c.seq (fun c => { c with phase := .committed })
  if u.state = 2 then s1.modUnit c.idx (fun x => { x with state := 3, cmd := some (c.q, c.seq) })
  else match u.op, s.spareOf c.idx with
    | none, some sp => (((s1.retireUnit c.idx).bringIn c.idx sp).traceSwap c.idx sp).ok c (unitId sp)
    | none, none => s1.fail c 0x0303 c.object
    | some k, _ =>
      let s2 := s1.modUnit c.idx (fun x => { x with cmd := some (c.q, c.seq) })
      { s2 with disp := { s2.disp with ops := s2.disp.ops.map (fun o => if o.key = k then { o with preempt := true } else o) } }
def execResetUnit (q seq : Nat) (s : State) : Out := opOut q (s.runOp 0x0003 q seq effResetUnit)

/-! ### SET_LOOP_BOUNDS (R49, 05 R261, 16 R651) -/

/-- Numbers of the set bits of a mask of `n` bits. -/
def bitsSet (n m : Nat) : List Nat := (List.range n).filter (fun i => bit m i)
/-- A set names a unit that is not schedulable (R261). -/
def State.namesUnschedulable (s : State) (kind : Nat) (l : List Nat) : Bool :=
  l.any (fun n => unitCount kind ≤ n || (s.unit (65536 * kind + n)).state != 0)
/-- R49, R261, R651. -/
def checkSetLoopBounds (s : State) (c : Cmd) : Verdict :=
  let loop := c.u 0 1
  if loop ≤ 1 ∧ c.cls ≠ (if loop = 0 then 1 else 13) then some (0x0201, 0xFFFF000C)
  else if loop = 0 then
    let g := (s.canopy c.idx).geom
    let luma := g.width * g.height * rateScaled g.rate
    let e := bitsSet 128 (c.u 4 16)
    let p := bitsSet 16 (c.u 20 2)
    let k := bitsSet 16 (c.u 22 2)
    badRange ([(4, s.namesUnschedulable 0 e || e.length < cdiv luma (1000000000 * unitScale)),
      (20, s.namesUnschedulable 1 p || p.length < cdiv luma (6400000000 * unitScale)),
      (22, s.namesUnschedulable 2 k || k.isEmpty)] ++ c.zeros [(0, 1), (4, 16), (20, 2), (22, 2)] [])
  else
    badRange ([(0, decide (loop > 1)), (4, !(isLane (c.u 4 1)) && c.u 4 1 != 255),
      (5, c.u 5 1 > 31 || c.u 5 1 > c.u 6 1), (6, c.u 6 1 > 31), (7, c.u 7 1 > 31 || c.u 7 1 > c.u 8 1), (8, c.u 8 1 > 31),
      (9, c.i 9 1 < -32 || c.i 9 1 > 31 || c.i 9 1 > c.i 10 1), (10, c.i 10 1 < -32 || c.i 10 1 > 31)] ++
      c.zeros [(0, 1), (4, 7)] [])
/-- New bounds stand for the loop's next decision (R50). -/
def effSetLoopBounds (c : Cmd) (s : State) : State :=
  if c.u 0 1 = 0 then
    let sets := (bitsSet 128 (c.u 4 16), bitsSet 16 (c.u 20 2), bitsSet 16 (c.u 22 2))
    (s.modProg c.idx (fun p => { p with permitted := some sets })).ok c
  else
    let b : EqBounds := {
      ctleMin := c.u 5 1, ctleMax := c.u 6 1, vgaMin := c.u 7 1, vgaMax := c.u 8 1,
      dfeMin := c.i 9 1, dfeMax := c.i 10 1 }
    let lanes := if c.u 4 1 = 255 then (List.range 78).filter isLane else [c.u 4 1]
    let t := lanes.foldl (fun t l => t.set l b) s.obs.eqBounds
    State.ok { s with obs := { s.obs with eqBounds := t } } c
def execSetLoopBounds (q seq : Nat) (s : State) : Out := opOut q (s.runOp 0x0005 q seq effSetLoopBounds)

/-! ### DEVICE_CONFIG (R663) -/

/-- A flash-programming permit (14 R580 code 4). -/
def flashPermit (holder pos : Nat) : Permit := { code := 4, amount := 8, holder := holder, pos := pos }
def checkDeviceConfig (s : State) (c : Cmd) : Verdict :=
  firstOf [badRange ((List.range 4).map (fun k => (k, decide (c.u k 1 > 2))) ++ [c.outside 4 1 0 1] ++
      (if c.u 4 1 = 0 then c.zeros [(0, 4), (4, 1)] [(8, 8)] else c.zeros [(0, 4), (4, 1), (8, 8)] [])),
    (s.permitRefusal [flashPermit deviceId c.pos]).map (fun d => (0x0208, d))]
def acceptDeviceConfig (c : Cmd) (s : State) : State := s.grant [flashPermit deviceId c.pos]
/-- The write to the configuration area starts; FLASH_WRITE_END completes it. -/
def effDeviceConfig (c : Cmd) (s : State) : State :=
  let s1 := s.modCmd c.q c.seq (fun c => { c with phase := .committed })
  { s1 with power := { s1.power with cfgWrites := s1.power.cfgWrites ++ [(1, c.q, c.seq)] } }
def execDeviceConfig (q seq : Nat) (s : State) : Out := opOut q (s.runOp 0x0006 q seq effDeviceConfig)

/-! ### What an ABORT checks and undoes (R105–R109); the opcode itself stands in TwinOps.lean -/

def checkAbort (_ : State) (c : Cmd) : Verdict := badRange ([c.outside 0 1 0 15] ++ c.zeros [(0, 1), (4, 4)] [])
/-- An upload of a layer is given up before its commit point: what it was written into is as it was before the upload began (R106). -/
def Layer.restoreBack (l : Layer) : Layer :=
  let l1 := { l with uploading := none, backOf := none, before := none }
  match l.before with
  | none => l1
  | some (b, waits) => if l.newPair.isSome then { l1 with newPair := some b, pending := waits } else { l1 with back := b, pending := waits }
/-- What a command has taken in hand is given up when it is aborted: an upload, a load, a capture, a schedule, a SET that
waits for its PPS edge, charges, permits, reservations (R37, R106, R581). -/
def State.undoCmd (s : State) (t : Cmd) : State :=
  let id := (t.q, t.seq)
  let s1 := s.uncharge (fun ch => ch.pos = t.pos)
  let s2 := s1.unpermit (fun p => p.pos = t.pos)
  let s3 := { s2 with mem := { s2.mem with reservations := s2.mem.reservations.filter (fun r => r.cmd ≠ some id) } }
  match t.opcode with
  | 0x0203 =>
    s3.rechargeObject t.object 4 (s.braidCharges t.idx ((s.waitingFor 0x0203 t.object).filter (fun d => d.pos ≠ t.pos)))
  | 0x0603 =>
    s3.rechargeObject t.object 5 (s.peakCharges t.idx ((s.waitingFor 0x0603 t.object).filter (fun d => d.pos ≠ t.pos)))
  | 0x0303 => s3.modLayer t.layerIdx (fun l =>
      if l.uploading = some id ∨ l.backOf = some id then l.restoreBack else l)
  | 0x0305 =>
    let own := (s.charges.filter (fun x => x.owner = t.object && x.slot = 2 && x.pos = t.pos)).length
    (s3.modCanopy t.idx (fun k => { k with
      loading := if k.loading = some id then none else k.loading,
      arrived := k.arrived.filter (fun e => e.1 ≠ id) })).dropBlocks t.idx (t.u 1 1 - own)
  | 0x0402 => s3.modProg t.idx (fun p => { p with starting := false })
  | 0x0501 =>
    let others := s.hif.cmds.any (fun d => d.opcode = 0x0501 && d.object = t.object && d.clearOf.isSome && (d.q, d.seq) ≠ id)
    s3.modProg t.idx (fun p => { p with rateWaits := p.rateWaits && others })
  | 0x0702 => s3.modTb t.idx (fun b => { b with ppsSets := b.ppsSets.filter (fun x => x.2 ≠ id) })
  | 0x0704 => s3.modTb t.idx (fun b => { b with capture := b.capture.filter (fun k => k.continuous ∨ (k.q, k.seq) ≠ id) })
  | 0x0903 =>
    let chans := s3.mem.channels.map (fun (e : Nat × Channel) =>
      (e.1, if e.2.retraining.any (fun r => r.2 == some id) then { e.2 with retraining := none } else e.2))
    { s3 with mem := { s3.mem with freq := s3.mem.freq.filter (fun f => f.cmd ≠ id), channels := chans } }
  | 0x0D02 => { s3 with upd := { s3.upd with dataCmd := if s3.upd.dataCmd = some id then none else s3.upd.dataCmd } }
  | 0x0D04 =>
    if s3.upd.scheduleCmd = some id then
      { s3 with upd := { s3.upd with state := if s3.upd.state = 5 then 4 else s3.upd.state, a := none, scheduleCmd := none } }
    else s3
  | _ => s3
/-! ### QUEUE_CONFIG (R664) -/

/-- The binding that a QUEUE_CONFIG asks for. -/
def Cmd.binding (c : Cmd) : Binding :=
  { udp := c.u 1 1 = 1, depth := c.u 2 2, port := if c.u 4 2 = 0 then 23017 else c.u 4 2, ipVer := c.u 6 1,
    srcAddr := c.bytes 8 16, srcPort := c.u 24 2 }
/-- QUEUE_CONFIG is checked (R664). CQ14 has no IP_VER until a QUEUE_CONFIG gives it one, which one of its own may do (log entry 133). -/
def checkQueueConfig (s : State) (c : Cmd) : Verdict :=
  let t := c.u 1 1
  let b := (s.queue (c.u 0 1)).bind
  let n := c.binding
  let used := [(0, 1), (1, 1), (2, 2)]
  let net := [(4, 2), (6, 1), (8, 16), (24, 2)]
  firstOf [
    badRange ([c.outside 0 1 0 15, c.outside 1 1 0 1, c.outside 2 2 1 256,
        (6, t = 1 && c.u 6 1 != 4 && c.u 6 1 != 6), (8, t = 1 && c.u 6 1 = 4 && c.u 12 12 != 0)] ++
      (if t = 0 then c.zeros used net else c.zeros (used ++ net) [])),
    badState (c.u 0 1 = c.q && (n.udp != b.udp || n.depth != b.depth || (n.udp && (n.port != b.port || (b.ipVer != 0 && n.ipVer != b.ipVer)))))
      deviceId,
    badState (s.hif.cmds.any (fun d => d.q = c.u 0 1)) deviceId]
/-- The binding takes effect at once, or after the COMPLETE reply on its own queue (R664). Datagrams that wait in a queue which another
queue's command rebinds to PCIe stay where they are, unanswered (log entry 158). -/
def effQueueConfig (c : Cmd) (s : State) : State :=
  let q := c.u 0 1
  let b := (s.queue q).bind
  let n := c.binding
  let moved := n.udp != b.udp || n.srcAddr != b.srcAddr || n.srcPort != b.srcPort
  if q = c.q then
    (if moved then s.modQueue q (fun k => { k with rebind := some n }) else s).ok c
  else if moved then (s.modQueue q (fun k => { k with bind := n, resyncState := true, window := [] })).ok c
  else (s.modQueue q (fun k => { k with bind := n })).ok c
def execQueueConfig (q seq : Nat) (s : State) : Out := opOut q (s.runOp 0x0102 q seq effQueueConfig)

/-! ### JOURNAL_QUERY (R66) -/

def checkJournalQuery (_ : State) (c : Cmd) : Verdict :=
  badRange ([c.outside 0 1 0 15] ++ c.buf 4 16 ++ c.zeros [(0, 1), (4, 12)] [])
/-- SEQ of the last DURABLE command of a queue that the flash journal holds, which holds them in acceptance order (R66, R103). -/
def lastDurableIn (l : List FlashRec) (q : Nat) : Option Nat :=
  ((l.filter (fun r => r.q = q && bit r.flags 1)).getLast?).map FlashRec.seq
/-- The journal record. -/
def State.journalRecord (s : State) (q : Nat) : List Byte :=
  let k := s.queue q
  let last := lastDurableIn s.nv.flash q
  leBytes 4 k.expSeq ++ leBytes 1 k.expAlive ++ leBytes 1 (b2n k.resyncState) ++ leBytes 2 (s.outstandingOn q) ++
  leBytes 4 (last.getD 0) ++ leBytes 1 (b2n last.isSome) ++ leBytes 3 0
def effJournalQuery (c : Cmd) (s : State) : State := (s.writeBuf c (c.u 4 8) (s.journalRecord (c.u 0 1))).ok c 16
def execJournalQuery (q seq : Nat) (s : State) : Out := opOut q (s.runOp 0x0103 q seq effJournalQuery)

end Sys2Proof.Machine
end

