-- ==== Sys2Proof/Machine/Pool.lean ====
section
/-!
DEFINITION. Pool reservations of stacked DRAM (11 R473–R475, R504): placement of pages, fill permits, and giving pages back.
-/
set_option Elab.async false
namespace Sys2Proof.Machine

open Sys2Proof

/-! ### The page map (R472–R474, R476–R478) -/

/-- Slots 0–511 of each logical channel hold its lamp and critical pages (R474; which slots, log entry 11). -/
abbrev fixedSlots : Nat := 512

/-- The region of a page: 1 lamp table, 2 critical, 0 pools (R474; which slots, log entry 11). -/
def slotRegion (slot : Nat) : Nat := if slot < 256 then 1 else if slot < fixedSlots then 2 else 0
/-- Two places exchanged. -/
def swapPlaces (x : (Nat × Nat) × (Nat × Nat)) (e : Nat × Nat) : Nat × Nat := if e = x.1 then x.2 else if e = x.2 then x.1 else e
/-- Where a page stands now, as (logical channel, slot). A page is named by the place that the map first gave it: its DA stays the same
(R473, R496). -/
def Mem.placeOf (m : Mem) (page : Nat × Nat) : Nat × Nat := m.moved.foldl (fun e x => swapPlaces x e) page
/-- The page that stands at a place. -/
def Mem.homeOf (m : Mem) (place : Nat × Nat) : Nat × Nat := m.moved.foldr swapPlaces place
/-- The physical channel of a logical one. -/
def State.physical (s : State) (c : Nat) : Option Nat := s.mem.map.get (some (32 * (c / 16) + c % 16)) c
/-- The logical channel that a physical channel serves (R472). -/
def State.logicalOf (s : State) (ch : Nat) : Option Nat := (List.range 32).find? (fun c => s.physical c == some ch)
/-- The page that a word of a channel belongs to. -/
def State.pageAt (s : State) (ch ca : Nat) : Option (Nat × Nat) := (s.logicalOf ch).map (fun c => s.mem.homeOf (c, ca / 65536))
/-- The region of a word; a word of a spare is where its slot says. -/
def State.regionAt (s : State) (ch ca : Nat) : Nat := slotRegion (((s.pageAt ch ca).map Prod.snd).getD (ca / 65536))
/-- Bank (bank group × 4 + bank), row and column of a CA in a mapping order. -/
def mapCa (order ca : Nat) : Nat × Nat × Nat :=
  match order with
  | 0 => (bits ca 12 11 * 4 + bits ca 14 13, bits ca 29 15, bits ca 10 6)
  | 1 =>
    let row := bits ca 29 15
    ((bits ca 7 6 ^^^ bits row 3 2) * 4 + (bits ca 12 11 ^^^ bits row 1 0), row, bits ca 14 13 * 8 + bits ca 10 8)
  | _ => (bits ca 29 28 * 4 + bits ca 27 26, bits ca 25 11, bits ca 10 6)
/-- The mapping order at a word (R478). -/
def State.orderAt (s : State) (ch ca : Nat) : Nat := if s.regionAt ch ca = 0 then s.mem.order else 1
/-- The mirror copy of a page: of the critical region, or of a mirrored reservation (R474–R476). -/
def State.mirrorOf (s : State) (page : Nat × Nat) : Option (Nat × Nat) :=
  if slotRegion page.2 = 2 then (if page.1 < 16 then some (16 + page.1, page.2) else none)
  else s.mem.reservations.findSome? (fun r => ((r.pages.zip r.mirror).find? (fun e => e.1 = page)).map Prod.snd)
/-- The other copy of a page that has two. -/
def State.otherCopy (s : State) (page : Nat × Nat) : Option (Nat × Nat) :=
  match s.mirrorOf page with
  | some m => some m
  | none =>
    if slotRegion page.2 = 2 then some (page.1 - 16, page.2)
    else s.mem.reservations.findSome? (fun r => ((r.pages.zip r.mirror).find? (fun e => e.2 = page)).map Prod.fst)

/-! ### Reservations (R475) -/

/-- The first number from `n` on that a list does not hold, in at most `fuel` tries. -/
def firstGap (used : List Nat) : Nat → Nat → Nat
  | 0, n => n
  | fuel + 1, n => if used.contains n then firstGap used fuel (n + 1) else n

/-- Pages in use, as the places where they stand: those of reservations, of loaded lamp regions, and moved lamp and critical pages. -/
def State.usedPages (s : State) : List (Nat × Nat) :=
  let ends := s.mem.moved.map Prod.fst ++ s.mem.moved.map Prod.snd
  (s.mem.reservations.flatMap (fun r => r.pages ++ r.mirror) ++ s.comp.lampTable.flatMap (fun e => e.2.pages) ++
    ends.filter (fun e => e.2 < fixedSlots)).map s.mem.placeOf

/-- The first free slot of a channel; 16,384 when it has none or is unbacked. -/
def State.freeSlot (s : State) (used : List (Nat × Nat)) (c : Nat) : Nat :=
  if s.backed c then
    let l := (used.filter (fun e => e.1 = c)).map Prod.snd
    firstGap l l.length fixedSlots
  else 16384

/-- Place one page on channel `c`, or the next in ascending order of `chans` that has a free slot (R475). -/
def State.placePage (s : State) (used : List (Nat × Nat)) (base count c : Nat) : Nat × Nat :=
  let order := (List.range count).map (fun k => base + (c + k) % count)
  match order.find? (fun k => s.freeSlot used k < 16384) with
  | some k => (k, s.freeSlot used k)
  | none => (base + c % count, 16384)

/-- The pages of a reservation of `n` pages: page p on logical channel (s + p) mod 32 (R475). -/
def State.placePages (s : State) (base count start : Nat) : Nat → Nat → List (Nat × Nat) → List (Nat × Nat)
  | 0, _, _ => []
  | n + 1, p, used =>
    let e := s.placePage used base count ((start + p) % count)
    e :: s.placePages base count start n (p + 1) (e :: used)

/-- Pages of `bytes` bytes. -/
def pagesFor (bytes : Nat) : Nat := cdiv bytes 65536

/-- The reservation that a command would make now. -/
def State.newReservation (s : State) (owner slot bytes : Nat) (mirrored : Bool) (cmd : Option (Nat × Nat)) : Reservation :=
  let n := pagesFor bytes
  if mirrored then
    { owner := owner, slot := slot, pages := (s.placePages 0 16 s.mem.start n 0 s.usedPages).map s.mem.homeOf,
      mirror := (s.placePages 16 16 s.mem.start n 0 s.usedPages).map s.mem.homeOf, cmd := cmd }
  else { owner := owner, slot := slot, pages := (s.placePages 0 32 s.mem.start n 0 s.usedPages).map s.mem.homeOf, cmd := cmd }

/-- Make it; the start channel advances by 7 (R475). -/
def State.reserve (s : State) (r : Reservation) : State :=
  { s with mem := { s.mem with reservations := s.mem.reservations ++ [r], start := (s.mem.start + 7) % 32 } }

/-- Give back the pages that an owner holds in a slot. -/
def State.freePages (s : State) (owner slot : Nat) : State :=
  { s with mem := { s.mem with reservations :=
      s.mem.reservations.filter (fun r => !(r.owner = owner ∧ r.slot = slot)) } }

/-- A memory-fill permit for each stack that holds a page of the reservations (R504, R580 code 3, R581). -/
def State.fillPermits (s : State) (rs : List Reservation) (pos : Nat) : List Permit :=
  let pages := (rs.flatMap (fun r => r.pages ++ r.mirror)).map s.mem.placeOf
  ([0, 1].filter (fun k => pages.any (fun e => e.1 / 16 = k))).map
    (fun k => { code := 3, amount := 60, holder := k, pos := pos })

/-- A check of permits: ERR_PERMIT with its DETAIL (R581). -/
def State.badPermit (s : State) (req : List Permit) : Verdict := (s.permitRefusal req).map (fun d => (0x0208, d))

/-! ### Outcome of a command that reserves pages (R504) -/

/-- Is a page of the command's reservations still to be filled? -/
def State.filling (s : State) (q seq : Nat) : Bool := s.mem.reservations.any (fun r => r.cmd == some (q, seq) && !r.filled)

/-- The command's reservations are no longer tied to it. -/
def State.settlePages (s : State) (q seq : Nat) : State :=
  let l := s.mem.reservations.map (fun r => if r.cmd = some (q, seq) then { r with cmd := none } else r)
  { s with mem := { s.mem with reservations := l } }

/-- A command has had its effect: it completes, after the fill of the pages it reserved. -/
def State.finish (s : State) (c : Cmd) (detail : Nat := 0) : State :=
  if s.filling c.q c.seq then s.modCmd c.q c.seq (fun c => { c with phase := .committed, result := detail, clearOf := none })
  else (s.settlePages c.q c.seq).ok c detail

/-- The words of a channel with those of a page at `slot` replaced by a list that counts them from 0. -/
def putPage (slot : Nat) (l words : Tab Nat) : Tab Nat :=
  words.filter (fun w => w.1 / 8192 < slot) ++
    (l.map (fun e => (8192 * slot + e.1, e.2)) ++ words.filter (fun w => slot < w.1 / 8192))
/-- A page's words are replaced where it stands. -/
def State.setPage (s : State) (page : Nat × Nat) (l : Tab Nat) : State :=
  let e := s.mem.placeOf page
  match s.physical e.1 with
  | none => s
  | some ch => s.modChannel ch (fun x => { x with words := putPage e.2 l x.words })
/-- A page of a reservation as a fill leaves it: the fill pattern with W 0 (R504), or written zeros in the pages of graphic buffers (04
R217). -/
def State.fillPage (s : State) (gfx : Bool) (page : Nat × Nat) : State :=
  s.setPage page (if gfx then (List.range 8192).map (fun i => (i, eccEncode 0 1)) else [])

/-- A command whose pages are all filled gives its fill permits back, and completes once it has had its effect. -/
def State.fillEnded (s : State) (id : Nat × Nat) : State :=
  match s.findCmd id.1 id.2 with
  | none => s
  | some c =>
    if s.filling c.q c.seq then s
    else
      let s1 := s.unpermit (fun p => p.code = 3 && p.pos = c.pos)
      if c.phase = .committed ∧ c.clearOf.isNone then (s1.settlePages c.q c.seq).ok c c.result else s1
/-- The fill of an owner's reservations in a slot ends, of every one that was still to be filled. -/
def execFillComplete (owner slot : Nat) (s : State) : Out :=
  need (owner < 16777216 * 16) <|
    let rs := s.mem.reservations.filter (fun r => r.owner = owner && r.slot = slot && !r.filled)
    let s1 := (rs.flatMap (fun r => r.pages ++ r.mirror)).foldl (fun s e => s.fillPage (owner / 16777216 = 4) e) s
    let l := s1.mem.reservations.map (fun x => if x.owner = owner ∧ x.slot = slot then { x with filled := true } else x)
    (rs.filterMap Reservation.cmd).foldl State.fillEnded { s1 with mem := { s1.mem with reservations := l } }

/-- Charges and pages that an owner holds in a slot stand in another slot from now on. -/
def State.reslot (s : State) (owner slot slot' : Nat) : State :=
  let cs := s.charges.map (fun c => if c.owner = owner ∧ c.slot = slot then { c with slot := slot' } else c)
  let rs := s.mem.reservations.map (fun r => if r.owner = owner ∧ r.slot = slot then { r with slot := slot' } else r)
  { s with charges := cs, mem := { s.mem with reservations := rs } }

/-- Give back charges and pages of an owner in a slot. -/
def State.releaseSlot (s : State) (owner slot : Nat) : State :=
  (s.uncharge (fun c => c.owner = owner && c.slot = slot)).freePages owner slot

/-- The charges of a command stand for what it has made from now on. -/
def State.settleCharges (s : State) (pos : Nat) : State :=
  { s with charges := s.charges.map (fun c => if c.pos = pos then { c with pos := 0 } else c) }

/-! ### Stored words, and writes of their owners (R481, R496, R508, R510) -/

def State.modEntry (s : State) (i : Nat) (f : EccEntry → EccEntry) : State :=
  { s with mem := { s.mem with table := s.mem.table.upd {} i f } }

/-- An entry enters WATCH, unless it waits for its repair. -/
def State.enterWatch (s : State) (i : Nat) : State :=
  s.modEntry i (fun e => if e.state = 3 then e else { e with state := 1, reads := 0 })

/-- A stored word. -/
def State.storedWord (s : State) (ch ca : Nat) : Nat := (s.channel ch).words.get (eccEncode s.mem.fill 0) (ca / 8)
/-- A word is written; one that holds the fill is not listed. -/
def State.putWord (s : State) (ch ca w : Nat) : State :=
  s.modChannel ch (fun x => { x with
    words := if w = eccEncode s.mem.fill 0 then x.words.erase (ca / 8) else x.words.set (ca / 8) w })

/-- A lane or channel ends its recalibration or retraining with the PHY tables of the active set (15 R604, R616). -/
def State.takePhy (s : State) (id : Nat) : State :=
  { s with upd := { s.upd with phy := s.upd.phy.set id s.upd.fwSetVersion } }

/-- An access opens its row for the page idle time (R482). -/
def State.openRow (s : State) (ch ca : Nat) : State :=
  let (bank, row, _) := mapCa (s.orderAt ch ca) ca
  let open_ := ((s.channel ch).openRows.find bank).any (fun e => e.1 = row)
  let s1 := s.modChannel ch (fun x => { x with
    openRows := if s.mem.pageIdle = 0 then x.openRows.erase bank
                else x.openRows.set bank (row, s.now + cdiv (5 * s.mem.pageIdle) 4) })
  if open_ then s1 else s1.happen 0x0403 [channelId ch] 0 0 1
/-- A burst is read: its row, and DRAM_RD_BYTES (16 *Performance counter events*). -/
def State.touchRow (s : State) (ch ca : Nat) : State := (s.openRow ch ca).happen 0x0401 [channelId ch] 0 0 64
/-- A burst is written: the word, its row, and DRAM_WR_BYTES. -/
def State.writeWord (s : State) (ch ca w : Nat) : State := ((s.putWord ch ca w).openRow ch ca).happen 0x0402 [channelId ch] 0 0 64

/-- Some page of an owner stands where no channel backs it (R496). -/
def State.unbackedPage (s : State) (owner : Nat) : Bool :=
  s.mem.reservations.any (fun r => r.owner == owner && r.pages.any (fun e => (s.physical (s.mem.placeOf e).1).isNone))
/-- The owner of a page. -/
def State.pageOwner (s : State) (page : Nat × Nat) : Nat :=
  ((s.mem.reservations.find? (fun r => r.pages.contains page || r.mirror.contains page)).map (fun r => r.owner)).getD 0

/-- A word of one copy of a page is written, at byte `off` of the page; where no channel backs it the write is discarded and counted
(R496). -/
def State.writeCopy (s : State) (page : Nat × Nat) (off w : Nat) : State :=
  let e := s.mem.placeOf page
  match s.physical e.1 with
  | some ch => s.writeWord ch (e.2 * 65536 + off) w
  | none => { s with mem := { s.mem with unbackedWrites := satAdd 32 s.mem.unbackedWrites 1 } }
/-- A word of a page is written: both copies of a mirrored one (R476). -/
def State.writePage (s : State) (page : Nat × Nat) (off w : Nat) : State :=
  match s.otherCopy page with
  | some o => (s.writeCopy page off w).writeCopy o off w
  | none => s.writeCopy page off w
/-- Entries of the error table for a word of a page enter WATCH (R508, R510). -/
def State.watchPage (s : State) (page : Nat × Nat) (off : Nat) : State :=
  (s.mem.table.filter (fun e => s.pageAt e.2.channel e.2.ca == some page && e.2.ca % 65536 / 8 == off / 8)).foldl
    (fun s e => s.enterWatch e.1) s
/-- The owner of a page writes a word of it whole: `w` is the word as it is stored (R502, R508, R510). -/
def State.ownWrite (s : State) (page : Nat × Nat) (off w : Nat) : State :=
  let s1 := (s.writePage page off w).watchPage page off
  match s.otherCopy page with
  | some o => s1.watchPage o off
  | none => s1
/-- At most `n` words that an owner writes to its pages, stored by `enc`; which words, and what data, is open, since the layout of its data
in them is (log entry 151). -/
def State.ownerPuts (s : State) (owner n : Nat) (enc : Nat → Nat) : State :=
  let pages := (s.mem.reservations.filter (fun r => r.owner = owner)).flatMap Reservation.pages
  if pages = [] then s
  else
    let (v, s1) := s.draw
    ((Config.pageWrites v).take n).foldl (fun s e =>
      s.ownWrite (pages.getD (e.1 / 8192 % pages.length) (0, 0)) (8 * (e.1 % 8192)) (enc e.2)) s1
/-- An owner writes to its pages, with W 1; one operation writes fewer than 2^32 words. -/
def State.ownerWrites (s : State) (owner : Nat) : State := s.ownerPuts owner two32 (fun x => eccEncode x 1)
/-- A word that an owner wrote with wrong byte parities stands poisoned (12 R533); whether the error lay there is open. -/
def State.ownerPoisons (s : State) (owner : Nat) : State := s.ownerPuts owner 1 eccPoison

end Sys2Proof.Machine
end

