-- ==== Sys2Proof/Machine/IngestOps.lean ====
section
/-!
DEFINITION. The ingest opcodes of *Command reference* (0x0201–0x0208, but SOURCE_STATUS): check 9 (checkX), what acceptance
takes (acceptX), the effect (effX) and the row (execX) of each. 03 R113–R117, R130, R136–R138, R145, R151–R153, R157–R159, R693.
-/
set_option Elab.async false
namespace Sys2Proof.Machine

open Sys2Proof

/-! ### FLOW_RX_OPEN -/

/-- Pixels of one line in a pgroup of ST 2110-20, by SAMPLING and DEPTH (PRESUMED from the standard, log entry 12). -/
def pgroupPixels (sampling depth : Nat) : Nat :=
  match sampling, depth with
  | 0, 8 => 2 | 0, _ => 4 | 1, _ => 2 | _, 8 => 1 | _, 10 => 4 | _, _ => 2

/-- Bytes of a pgroup of ST 2110-20 (PRESUMED from the standard, log entry 12). -/
def pgroupBytes (sampling depth : Nat) : Nat :=
  match sampling, depth with
  | 0, 8 => 6 | 0, _ => 15 | 1, 8 => 4 | 1, 10 => 5 | 1, _ => 6 | _, 8 => 3 | _, 10 => 15 | _, _ => 9

/-- Sub-ports of an MP port under its split: 1, 2 or 4. -/
def State.subPorts (s : State) (port : Nat) : Nat :=
  match s.egress.splits.getD port 0 with
  | 0 => 1 | 1 => 2 | _ => 4

/-- Offences in a receive leg block at an offset. -/
def State.badRxLeg (s : State) (c : Cmd) (o : Nat) : List (Nat × Bool) :=
  [c.outside o 1 0 3, (o + 1, s.subPorts (c.u o 1) ≤ c.u (o + 1) 1), (o + 2, c.u (o + 2) 1 != 4 && c.u (o + 2) 1 != 6),
   c.outside (o + 3) 1 96 127, (o + 4, c.u (o + 2) 1 == 4 && c.u (o + 8) 12 != 0),
   (o + 20, c.u (o + 2) 1 == 4 && c.u (o + 24) 12 != 0), c.outside (o + 36) 2 1 65535,
   (o + 40, c.u (o + 44) 1 == 0 && c.u (o + 40) 4 != 0), c.outside (o + 44) 1 0 1]

/-- Fields of a receive leg block. -/
def rxLegFields (o : Nat) : List (Nat × Nat) :=
  [(o, 1), (o + 1, 1), (o + 2, 1), (o + 3, 1), (o + 4, 16), (o + 20, 16), (o + 36, 2), (o + 40, 4), (o + 44, 1)]

/-- A receive leg from its block, buckets of R135 (rate R as a fraction num/den of bytes/s). -/
def Cmd.rxLeg (c : Cmd) (o now rNum rDen lmax : Nat) : RxLeg :=
  { port := c.u o 1, sub := c.u (o + 1) 1, ipVer := c.u (o + 2) 1, pt := c.u (o + 3) 1, dstAddr := c.bytes (o + 4) 16,
    srcAddr := c.bytes (o + 20) 16, dstPort := c.u (o + 36) 2,
    ssrc := if c.u (o + 44) 1 = 1 then some (c.u (o + 40) 4) else none,
    c := { rate := cdiv (105 * rNum) (100 * rDen), depth := 256 * lmax, credit := 256 * lmax * 1024, rem := 0 },
    p := { rate := cdiv (4 * rNum) rDen, depth := 16 * lmax, credit := 16 * lmax * 1024, rem := 0 },
    tLast := now }

/-- Packets per second of the flow a FLOW_RX_OPEN declares, as num/den (R115, R135; audio NPKT is per second). -/
def Cmd.pktRate (c : Cmd) : Nat × Nat :=
  if c.u 0 1 = 0 then (c.u 20 4 * rateNum (c.u 11 1), rateDen (c.u 11 1)) else (c.u 20 4, 1)

/-- Ingress charge of a FLOW_RX_OPEN in 1/1001 bit/s, over its legs (R35, R115); none for a ply (R116). -/
def Cmd.ingressCharge (c : Cmd) : Nat :=
  if c.u 0 1 = 1 then 0
  else c.u 1 1 * (c.pktRate.1 * (c.u 24 2 + 20) * 8 * (1001 / c.pktRate.2))

/-- Bytes of a flow's frame buffers (R114); a fraction of a byte of their sum is dropped (log entry 135). -/
def Cmd.bufferBytes (c : Cmd) : Nat :=
  if c.u 0 1 ≤ 1 then c.u 2 1 * c.u 4 2 * c.u 6 2 * bpp8 (rxFormat (c.u 8 1) (c.u 9 1)) / 8 else 0

/-- What FLOW_RX_OPEN charges (R34, R39, R114–R116). -/
def Cmd.rxCharges (c : Cmd) : List Charge :=
  let f := rxFormat (c.u 8 1) (c.u 9 1)
  let ch (res amount : Nat) : Charge := { owner := c.object, slot := 0, res := res, amount := amount, pos := c.pos }
  (if c.u 0 1 ≤ 1 then [ch 2 (flowCharge (c.u 4 2) (c.u 6 2) f (c.u 11 1)), ch 3 c.bufferBytes] else []) ++
  (if c.u 0 1 = 1 then [] else [ch 4 c.ingressCharge]) ++ [ch 6 1]

/-- Ply rate in bit/s, scaled (R145). -/
def plyRate (w h fmt rate : Nat) : Nat := w * h * bpp8 fmt * rateScaled rate

/-- The ply rate that a FLOW_RX_OPEN declares, scaled. -/
def Cmd.plyRate (c : Cmd) : Nat := Machine.plyRate (c.u 4 2) (c.u 6 2) (rxFormat (c.u 8 1) (c.u 9 1)) (c.u 11 1)
/-- Accepted FLOW_RX_OPENs of plies of a braid that have not opened their flow yet. -/
def State.plyOpens (s : State) (braid : Nat) : List Cmd :=
  s.hif.cmds.filter (fun c => c.opcode = 0x0201 ∧ c.u 0 1 = 1 ∧ c.u 16 4 % 16777216 = braid ∧ c.phase ≠ .committed)
/-- Rates of the plies open on a braid, with those of accepted commands that will open one, scaled (R145, R37). -/
def State.plyLoad (s : State) (braid : Nat) : Nat :=
  ((s.rx.filter (fun e => e.2.isOpen && e.2.kind == 1 && e.2.braid == braid)).map
    (fun e => plyRate e.2.width e.2.height (rxFormat e.2.sampling e.2.depth) e.2.rate)).sum +
  ((s.plyOpens braid).map Cmd.plyRate).sum

/-- Ply capacity of a braid: 213.07 Gbit/s at the full strand rate (R145), scaled. -/
def plyCapacity (rate : Nat) : Nat := 213070000000 * unitScale / 2 ^ rate

/-- The reservation of a FLOW_RX_OPEN. -/
def State.rxReservation (s : State) (c : Cmd) : List Reservation :=
  if c.u 0 1 ≤ 1 then [s.newReservation c.object 0 c.bufferBytes false (some (c.q, c.seq))] else []

/-- Depth of the pgroups in which a flow's lines arrive: plies carry the stored depth (R141, R142). -/
def lineDepth (kind sampling depth : Nat) : Nat := if kind = 1 ∧ (sampling ≠ 0 ∨ depth ≠ 8) then 10 else depth
/-- Range offences of FLOW_RX_OPEN (R122, R654, R694, *FLOW_RX_OPEN parameters*). The pgroups of R122 are those that the
flow's lines carry: of its declared depth for packets, of its stored format for a ply (R141; log entry 136). -/
def State.badRxParams (s : State) (c : Cmd) : List (Nat × Bool) :=
  let kind := c.u 0 1
  let video := kind ≤ 1
  let sa := c.u 8 1
  let de := c.u 9 1
  let legs := c.u 1 1
  let vidF := [(2, 1), (4, 2), (6, 2), (8, 1), (9, 1), (11, 1), (12, 1), (13, 1), (14, 1)]
  let audF := [(26, 1), (27, 1), (28, 4)]
  let netF := [(3, 1), (20, 4), (24, 2)]
  let plyF := [(15, 1), (16, 4)]
  let used := [(0, 1), (1, 1)] ++ (if video then vidF else audF) ++ (if kind = 1 then plyF else netF ++ rxLegFields 32) ++
    (if kind = 0 then [(10, 1)] else []) ++ (if kind ≠ 1 ∧ legs = 2 then rxLegFields 80 else [])
  let unused := (if video then audF else vidF) ++ (if kind = 1 then netF ++ rxLegFields 32 else plyF) ++
    (if kind = 0 then [] else [(10, 1)]) ++ (if kind ≠ 1 ∧ legs = 2 then [] else rxLegFields 80)
  [c.outside 0 1 0 3, (1, legs < 1 || legs > 2 || (kind == 1 && legs != 1))] ++
  (if video then
    [c.outside 2 1 2 8, (4, c.u 4 2 < 64 || c.u 4 2 > 16384 || c.u 4 2 % pgroupPixels sa (lineDepth kind sa de) != 0),
     (6, c.u 6 2 < 64 || c.u 6 2 > 8192 || (sa == 0 && c.u 6 2 % 2 != 0)), c.outside 8 1 0 3,
     (9, !(de == 8 || de == 10 || (de == 12 && sa != 0))), c.outside 11 1 0 13, c.outside 12 1 0 1, c.outside 13 1 0 2,
     c.outside 14 1 0 1]
   else [(26, c.u 26 1 < (if kind = 3 then 2 else 1) || c.u 26 1 > (if kind = 3 then 16 else 64)), (27, decide (c.u 27 1 > 7)),
     c.outside 28 4 250000 20000000]) ++
  (if kind = 1 then [c.outside 15 1 0 3, (16, (s.badObject c 16 7).2 || c.u 16 4 % 16777216 > 3)]
   else [c.outside 3 1 0 1, c.outside 20 4 1 16777215, c.outside 24 2 64 9216] ++ s.badRxLeg c 32 ++
     (if legs = 2 then s.badRxLeg c 80 else [])) ++
  (if kind = 0 then [c.outside 10 1 0 1] else []) ++ c.zeros used unused

def checkFlowRxOpen (s : State) (c : Cmd) : Verdict :=
  let b := c.u 16 4 % 16777216
  firstOf [badRange (s.badRxParams c), badState (s.rxFlow c.idx).isOpen c.object,
    s.badCapacity (fun _ => false) c.rxCharges,
    verdict (c.u 0 1 = 1 && plyCapacity (s.braid b).rate < s.plyLoad b + c.plyRate) 0x020B 4,
    s.badPermit (s.fillPermits (s.rxReservation c) c.pos)]

def acceptFlowRxOpen (c : Cmd) (s : State) : State :=
  let rs := s.rxReservation c
  (rs.foldl State.reserve (s.charge c.rxCharges)).grant (s.fillPermits rs c.pos)

/-- The flow is open; a flow with buffers completes when its pages are filled (R504), an audio flow at once. -/
def effFlowRxOpen (c : Cmd) (s : State) : State :=
  let kind := c.u 0 1
  let r := c.pktRate
  let leg (o : Nat) : RxLeg := c.rxLeg o s.now (r.1 * c.u 24 2) r.2 (c.u 24 2)
  let f : RxFlow := {
    isOpen := true, kind := kind, buffers := c.u 2 1, merge := c.u 3 1, width := c.u 4 2, height := c.u 6 2,
    sampling := c.u 8 1, depth := c.u 9 1, packing := c.u 10 1, rate := c.u 11 1, colorimetry := c.u 12 1,
    transfer := c.u 13 1, tsCheck := c.u 14 1 = 1, ply := c.u 15 1, braid := c.u 16 4 % 16777216, npkt := c.u 20 4,
    lmax := c.u 24 2, channels := c.u 26 1, audio := c.u 27 1, linkOffset := c.u 28 4,
    legs := if kind = 1 then [] else if c.u 1 1 = 2 then [leg 32, leg 80] else [leg 32],
    nextFrame := (s.rxFlow c.idx).nextFrame }
  let s1 := s.modRx c.idx (fun _ => f)
  -- a ply starts at its next frame-start block
  let s2 := if kind = 1 then s1.modBraid f.braid (fun b => { b with plyFrames := b.plyFrames.erase f.ply }) else s1
  s2.finish c
def execFlowRxOpen (q seq : Nat) (s : State) : Out := opOut q (s.runOp 0x0201 q seq effFlowRxOpen)

/-! ### FLOW_RX_CLOSE (R117) -/

/-- Layers that name a flow in active or shadow state. -/
def State.layersNaming (s : State) (flow : Nat) : List Nat :=
  (List.range 32).filter (fun i =>
    let l := s.layer i
    (l.active.canopy.isSome && l.active.source == flow) || (l.shadow.canopy.isSome && l.shadow.source == flow))
def checkFlowRxClose (s : State) (c : Cmd) : Verdict :=
  badState (!(s.rxFlow c.idx).isOpen || !(s.layersNaming c.idx).isEmpty) c.object
def effFlowRxClose (c : Cmd) (s : State) : State :=
  (((s.modRx c.idx (fun f => { nextFrame := f.nextFrame })).uncharge (fun ch => ch.owner = c.object)).freePages c.object 0).ok c
def execFlowRxClose (q seq : Nat) (s : State) : Out := opOut q (s.runOp 0x0202 q seq effFlowRxClose)

/-! ### BRAID_CONFIG (R116, R138, R665) -/

def State.openOnBraid (s : State) (b : Nat) : Bool := s.rx.any (fun e => e.2.isOpen && e.2.kind == 1 && e.2.braid == b)
/-- The ingress charges of a braid once a BRAID_CONFIG is accepted (R37, R116). -/
def State.braidConfigCharges (s : State) (c : Cmd) : List Charge := s.braidCharges c.idx (s.waitingFor 0x0203 c.object ++ [c])
def checkBraidConfig (s : State) (c : Cmd) : Verdict :=
  let b := s.braid c.idx
  firstOf [badRange ([c.outside 0 1 0 1, c.outside 1 1 0 2, c.outside 2 1 0 1] ++ c.zeros [(0, 3)] []),
    badState (s.openOnBraid c.idx && (c.u 0 1 = 0 || c.u 1 1 != b.rate)) c.object,
    s.badCapacity (fun ch => ch.owner = c.object && ch.res = 4) (s.braidConfigCharges c)]
/-- From acceptance the braid's charge is the larger of what it holds and what it will hold (R37). -/
def acceptBraidConfig (c : Cmd) (s : State) : State := s.rechargeObject c.object 4 (s.braidConfigCharges c)
/-- The lock sequence starts anew (R154): at enabling, at the loss of lock and at BRAID_LOCK_FAIL. That signal returned on every strand
has no instant of its own (log entry 159). -/
def Braid.restartLock (b : Braid) (now : Nat) : Braid :=
  { b with locked := false, lockStart := now, strands := [], goodRows := 0, restranded := none, matched := 0,
           clockLost := false, plyFrames := [] }
def effBraidConfig (c : Cmd) (s : State) : State :=
  let b := s.braid c.idx
  let on := c.u 0 1 = 1
  let restart := !on || !b.enabled || b.rate != c.u 1 1
  let s1 := (s.modBraid c.idx (fun b =>
    let b' := if restart then b.restartLock s.now else b
    { b' with enabled := on, rate := c.u 1 1, autoRestrand := c.u 2 1 = 1 })).ok c
  s1.rechargeObject c.object 4 (s1.braidCharges c.idx (s1.waitingFor 0x0203 c.object))
def execBraidConfig (q seq : Nat) (s : State) : Out := opOut q (s.runOp 0x0203 q seq effBraidConfig)

/-! ### BRAID_LOOPBACK (R157) -/

/-- A flow of the braid is the source of a layer of a running canopy. -/
def State.braidFeedsRunning (s : State) (b : Nat) : Bool :=
  s.rx.any (fun e => e.2.isOpen && e.2.kind == 1 && e.2.braid == b &&
    (List.range 32).any (fun i =>
      let a := (s.layer i).active
      a.source == e.1 && (a.canopy.any (fun k => (s.canopy k).running))))
/-- R157. A second loop on a braid whose loop runs is rejected too (log entry 161). -/
def checkBraidLoopback (s : State) (c : Cmd) : Verdict :=
  let loop := c.u 0 1
  if loop = 2 ∧ c.idx ≠ 4 then some (0x0201, 0xFFFF000C)
  else firstOf [badRange ([c.outside 0 1 0 2, c.outside 4 4 1 60000] ++
      (List.range 9).map (fun i => (8 + i, decide (c.u (8 + i) 1 > (if loop = 1 then 64 else 0)))) ++
      [c.optBuf 20 80] ++
      c.zeros [(0, 1), (4, 4), (8, 9), (20, 12)] []),
    badState (s.braidFeedsRunning c.idx || (c.idx = 4 && s.formed) || (s.braid c.idx).loop.isSome) c.object]
def effBraidLoopback (c : Cmd) (s : State) : State :=
  (s.modBraid c.idx (fun b => { b with
    loop := some { q := c.q, seq := c.seq, kind := c.u 0 1, stop := s.now + c.u 4 4 * 1000000 } })).modCmd c.q c.seq
    (fun c => { c with phase := .committed })
def execBraidLoopback (q seq : Nat) (s : State) : Out := opOut q (s.runOp 0x0204 q seq effBraidLoopback)

/-! ### BRAID_RESTRAND (R152, R153) -/

/-- A second failure of the braid could not be rebuilt (R153). -/
def Braid.unprotected (b : Braid) : Bool := b.restranded.isSome || (b.strands.get {} 8).failing
def checkBraidRestrand (s : State) (c : Cmd) : Verdict :=
  let b := s.braid c.idx
  let op := c.u 1 1
  firstOf [badRange ([c.outside 0 1 0 (if c.idx = 4 then 3 else 7), c.outside 1 1 0 1] ++ c.zeros [(0, 2)] []),
    badState (if op = 0 then b.unprotected else b.restranded != some (c.u 0 1)) c.object,
    verdict (b.restoring.isSome || s.serviced 0x0205 c.idx) 0x0203 c.object]
/-- BRAID_UNPROTECTED when a restrand is turned away (R153; log entry 13). -/
def rejectBraidRestrand (c : Cmd) (s : State) : State :=
  let b := s.braid c.idx
  if c.u 1 1 = 0 ∧ b.unprotected then s.raiseFor c.q 0x0307 c.object (b.restranded.getD 8) 0 else s
/-- R152. Blocks count toward a restore from its start on (log entry 160). -/
def effBraidRestrand (c : Cmd) (s : State) : State :=
  if c.u 1 1 = 0 then
    let s1 := s.modBraid c.idx (fun b => { b with restranded := some (c.u 0 1), matched := 0 })
    (s1.raiseFor c.q 0x0306 c.object (c.u 0 1) 1).ok c
  else
    let s1 := s.modBraid c.idx (fun b => { b with restoring := some (c.q, c.seq, s.now + 100000000), matched := 0 })
    s1.modCmd c.q c.seq (fun c => { c with phase := .committed })
def execBraidRestrand (q seq : Nat) (s : State) : Out := opOut q (s.runOp 0x0205 q seq effBraidRestrand)

/-! ### SOURCE_BIND (R158, R159, R693) -/

/-- R158. An audio flow is no source: ERR_STATE, as for a flow that is not open (log entry 162). -/
def checkSourceBind (s : State) (c : Cmd) : Verdict :=
  let k := s.canopy (c.u 0 4 % 16777216)
  let g := gridOf k.geom.rate k.geom.offset
  let f := s.rxFlow c.idx
  let a := c.u 4 4
  let badA := a != 0xFFFFFFFF && (a > 2000000 || 4 * a * g.num > 1000000000 * g.den)
  firstOf [badRange [s.badObject c 0 2],
    badRange [(0, f.isOpen && k.configured && f.kind ≤ 1 && f.rate != k.geom.rate), (4, k.configured && badA)],
    badState (!k.configured) (c.u 0 4), badState (!f.isOpen || f.kind > 1) c.object]
/-- What a source still declares and marks on its bound grid. -/
def RxFlow.watch (f : RxFlow) : Option GridWatch :=
  match f.bound, f.nextGrid with
  | some _, some n => some {
      grid := f.grid, era := f.era, next := n, stop := n, allowance := f.allowance, lineGrid := f.lineGrid, nextLine := f.nextLine }
  | _, _ => none
/-- The source moves to the canopy's grid; periods of a former grid up to now keep their declarations and late allowance (R693). -/
def RxFlow.bindTo (f : RxFlow) (canopy : Nat) (g : Grid) (now : Nat) : RxFlow :=
  let first := g.at (g.firstAfter now)
  { f with
    former := f.former ++ (f.watch.filter (fun w => w.next ≤ now)).toList.map (fun w => { w with stop := now })
    era := f.era + 1, bound := some canopy, grid := g, nextGrid := some first, lineGrid := first, nextLine := 0 }
def effSourceBind (c : Cmd) (s : State) : State :=
  let i := c.u 0 4 % 16777216
  let k := s.canopy i
  let a := if c.u 4 4 = 0xFFFFFFFF then 100000 else c.u 4 4
  (s.modRx c.idx (fun f => { f.bindTo i (gridOf k.geom.rate k.geom.offset) s.now with allowance := a })).ok c
def execSourceBind (q seq : Nat) (s : State) : Out := opOut q (s.runOp 0x0206 q seq effSourceBind)

/-! ### POLICER_SET (R136, R137) -/

def checkPolicerSet (s : State) (c : Cmd) : Verdict :=
  let f := s.rxFlow c.idx
  firstOf [badRange ([c.outside 0 1 0 (max 1 f.legs.length - 1),
      (4, c.u 4 8 < 125000 || c.u 4 8 > 50000000000 || c.u 12 8 < c.u 4 8), c.outside 12 8 125000 50000000000,
      (20, c.u 20 4 < 1538 || c.u 20 4 > 16777215 || c.u 24 4 > c.u 20 4), c.outside 24 4 1538 16777215] ++
      c.zeros [(0, 1), (4, 24)] []),
    badState (!f.isOpen || f.kind == 1) c.object]
def effPolicerSet (c : Cmd) (s : State) : State :=
  let n : BucketSet := { cRate := c.u 4 8, pRate := c.u 12 8, cDepth := c.u 20 4, pDepth := c.u 24 4, overhead := 0 }
  (s.modRx c.idx (fun f => { f with legs := f.legs.modify (c.u 0 1) (fun l => { l with newSet := some n }) })).ok c
def execPolicerSet (q seq : Nat) (s : State) : Out := opOut q (s.runOp 0x0208 q seq effPolicerSet)

end Sys2Proof.Machine
end

