-- ==== Sys2Proof/Machine/IngestEvents.lean ====
section
/-!
DEFINITION. What happens to ingest from outside (03): packets, legs, deadlines and source states, Yeluc block rows, markers,
locks, and what their end does to layers (04 R212–R214) and to the chain of checks (12 R531, R536).
-/
set_option Elab.async false
namespace Sys2Proof.Machine

open Sys2Proof

/-! ### Shared -/


/-- Counters that per-packet steps add to. -/
inductive RxCount where
  | rxPkts | polDrop | dup | tooOld | range | ts | late | rebuilt | lost | notAdmitted
deriving DecidableEq, Repr

/-- Add one to a per-flow counter, 48 bits saturating. -/
def FlowCounters.add (k : FlowCounters) : RxCount → FlowCounters
  | .rxPkts => { k with rxPkts := satAdd 48 k.rxPkts 1 }
  | .polDrop => { k with polDrop := satAdd 48 k.polDrop 1 }
  | .dup => { k with dupDiscard := satAdd 48 k.dupDiscard 1 }
  | .tooOld => { k with tooOld := satAdd 48 k.tooOld 1 }
  | .range => { k with rangeDrop := satAdd 48 k.rangeDrop 1 }
  | .ts => { k with tsDrop := satAdd 48 k.tsDrop 1 }
  | .late => { k with lateDrop := satAdd 48 k.lateDrop 1 }
  | .rebuilt => { k with rebuilt := satAdd 48 k.rebuilt 1 }
  | .lost => { k with lostBlocks := satAdd 48 k.lostBlocks 1 }
  | .notAdmitted => { k with notAdmitted := satAdd 48 k.notAdmitted 1 }

def RxFlow.count (f : RxFlow) (x : RxCount) : RxFlow := { f with counters := f.counters.add x }

/-! ### Geometry of a received frame: bytes as received; R119 converts them when they are read -/

/-- Lines that one pgroup row covers: 2 for 4:2:0 (R701). -/
def RxFlow.linesPer (f : RxFlow) : Nat := if f.sampling = 0 then 2 else 1
/-- Depth of the bytes in the buffer (R142). -/
def RxFlow.wireDepth (f : RxFlow) : Nat := lineDepth f.kind f.sampling f.depth
/-- Bytes of one line, or line pair (R144, R701). -/
def RxFlow.lineBytes (f : RxFlow) : Nat :=
  f.width / pgroupPixels f.sampling f.wireDepth * pgroupBytes f.sampling f.wireDepth

/-- Deadline of line `l` for grid instant `g` (R159 pseudocode). -/
def RxFlow.lineDeadline (f : RxFlow) (gr : Grid) (g l : Nat) : Nat :=
  g + cdiv ((l + 1) * 1000000000 * gr.den) (f.height * gr.num) + 6000
/-- Frame deadline for grid instant `g`. -/
def RxFlow.frameDeadline (f : RxFlow) (gr : Grid) (g : Nat) : Nat :=
  g + cdiv (1000000000 * gr.den) gr.num + 6000 + f.allowance

/-- The grid instants of a grid around a time: the period within T/div of it (R143). -/
def Grid.within (gr : Grid) (x div : Nat) : Option Nat :=
  let k := (x - gr.offset) * gr.num / (1000000000 * gr.den)
  let near (g : Nat) : Bool := ((if g ≤ x then x - g else g - x) * gr.num * div ≤ 1000000000 * gr.den)
  [gr.at k, gr.at (k + 1)].find? near

/-- Extended TAI ns of a 90 kHz RTP timestamp nearest to `now` (R143; rounding: log entry 14). -/
def rtpTime (now stamp : Nat) : Nat :=
  let n90 := now * 9 / 100000
  let d := (stamp + two32 - n90 % two32) % two32
  let t := if d < 2147483648 then n90 + d else n90 + d - two32
  t * 100000 / 9

/-- What a source still declares and marks: former grids first, then its bound grid (R693). -/
def RxFlow.watches (f : RxFlow) : List GridWatch := f.former ++ f.watch.toList

/-- A declaration of the frame's period is still to come. -/
def RxFlow.awaits (f : RxFlow) (x : Frame) : Bool :=
  !x.declared && f.watches.any (fun w => w.era == x.era && decide (w.next ≤ x.grid) && (w.era == f.era || decide (x.grid ≤ w.stop)))

/-- A frame other than the held frame holds a buffer: it was admitted, and it is not past its frame deadline, or a canopy frame still
composites from it (R163). -/
def RxFlow.occupies (f : RxFlow) (now : Nat) (x : Frame) : Bool :=
  !x.notAdmitted && f.held.all (fun h => h.id != x.id) && (f.awaits x || decide (now < x.due) || !x.readers.isEmpty)

/-- Frame buffers in use (R163). -/
def RxFlow.inUse (f : RxFlow) (now : Nat) : Nat := (f.frames.filter (f.occupies now)).length + f.held.toList.length

/-- A later packet of a frame that has its period: the checks of steps 6 and 7 (R143, R166). -/
def Frame.target (x : Frame) (now : Nat) : PlyTarget :=
  if x.on.at (x.on.firstAfter now) < x.grid then .noPeriod
  else if x.declared ∨ x.due ≤ now then .tooLate
  else .frame x.id

/-- A frame's first packet or frame-start block: its period on the bound grid, and its admission (R21, R22, R143, R166). `time` is the
frame's time when the timestamp check is on. While the source is bound to no grid, no period exists (log entry 137); of two periods
equally near, the earlier is taken. A line whose deadline has passed is missing already (R160). -/
def RxFlow.assign (f : RxFlow) (now stamp count time : Nat) : RxFlow × PlyTarget :=
  if f.bound.isNone then (f, .noPeriod)
  else match f.grid.within (if f.tsCheck then time else now) (if f.tsCheck then 4 else 2) with
    | none => (f, .noPeriod)
    | some g =>
      if f.grid.at (f.grid.firstAfter now) < g then (f, .noPeriod)
      else if f.frameDeadline f.grid g ≤ now then (f, .tooLate)
      else
        let full := f.buffers ≤ f.inUse now
        let x : Frame := {
          id := f.nextFrame, on := f.grid, era := f.era, grid := g, due := f.frameDeadline f.grid g, stamp := stamp, count := count,
          notAdmitted := full, missing := (List.range f.height).filter (fun l => f.lineDeadline f.grid g l ≤ now) }
        let f1 := { f with frames := x :: f.frames, nextFrame := f.nextFrame + 1 }
        (if full then f1.count .notAdmitted else f1, .frame x.id)

/-- Ticks of 90 kHz in ns for half the span of a timestamp: a timestamp names the frame nearest to now (log entry 14). -/
abbrev stampSpan : Nat := 2147483648 * 100000 / 9

/-- Where a packet of a timestamp goes: to its frame, when that is known, else its frame begins with it (R143, R166). -/
def RxFlow.place (f : RxFlow) (now stamp time : Nat) : RxFlow × PlyTarget :=
  match f.frames.find? (fun x => x.stamp = stamp ∧ now < x.due + stampSpan) with
  | some x => (f, x.target now)
  | none => if f.past.any (fun e => e.1 == stamp && decide (now < e.2 + stampSpan)) then (f, .tooLate) else f.assign now stamp 0 time

/-- A packet or block discarded under R143 (R165). -/
def RxFlow.dropTs (f : RxFlow) (now : Nat) : RxFlow := { f.count .ts with lastTsDrop := some now }

/-- Store bytes of frame `id` at line `l`, byte offset `o`; the lines they complete become available (R160, R701). -/
def RxFlow.store (f : RxFlow) (now id l o : Nat) (data : List Byte) : RxFlow :=
  let lb := f.lineBytes
  let base := l / f.linesPer * lb
  let put (x : Frame) : Frame :=
    if x.notAdmitted ∨ x.discarded then x
    else
      let d := (data.zipIdx o).foldl (fun t e => Tab.set t (base + e.2) e.1) x.data
      let whole := (List.range lb).all (fun i => (Tab.find d (base + i)).isSome)
      let ls := (List.range f.linesPer).map (fun i => l + i)
      { x with
        data := d,
        lineAt := if whole ∧ (x.lineAt.find l).isNone then ls.foldl (fun t i => t.set i now) x.lineAt else x.lineAt }
  { f with frames := f.frames.map (fun x => if x.id = id then put x else x) }

/-! ### Policer (R132–R137) -/

/-- New values take effect after the refill; credit above a new depth is cut (R137). -/
def Bucket.retune (b : Bucket) (rate depth : Nat) : Bucket :=
  let full := depth * 1024 ≤ b.credit
  { rate := rate, depth := depth, credit := min b.credit (depth * 1024), rem := if full then 0 else b.rem }

/-- The refill of one bucket (R133). -/
def Bucket.refill (b : Bucket) (dt : Nat) : Bucket :=
  let acc := b.rem + dt * b.rate * 1024
  let cr := min (b.depth * 1024) (b.credit + acc / 1000000000)
  { b with credit := cr, rem := if cr = b.depth * 1024 then 0 else acc % 1000000000 }

def Bucket.fill (b : Bucket) : Bucket := { b with credit := b.depth * 1024, rem := 0 }
def Bucket.take (b : Bucket) (len : Nat) : Bucket := { b with credit := b.credit - len * 1024 }

/-- The time from one instant to another as a 32-bit difference (R133, R372). -/
def elapsed32 (last now : Nat) : Nat := (((now : Int) - last) % 4294967296).toNat

/-- The policer of a leg at an arrival (R133, R134): the leg afterwards, and whether the packet passes. -/
def RxLeg.police (l : RxLeg) (now len : Nat) : RxLeg × Bool :=
  let idle := 2147483648 < now - l.tLast
  let dt := elapsed32 l.tLast now
  let c1 := if idle then l.c.fill else l.c.refill dt
  let p1 := if idle then l.p.fill else l.p.refill dt
  let c2 := match l.newSet with | some n => c1.retune n.cRate n.cDepth | none => c1
  let p2 := match l.newSet with | some n => p1.retune n.pRate n.pDepth | none => p1
  let l1 := { l with tLast := now, newSet := none, c := c2, p := p2 }
  if len * 1024 ≤ c2.credit ∧ len * 1024 ≤ p2.credit then ({ l1 with c := c2.take len, p := p2.take len }, true) else (l1, false)

/-! ### Legs (R130) -/

/-- T of R130 in ns as num/den: the frame period, or 8 packet times. -/
def RxFlow.legPeriod (f : RxFlow) : Nat × Nat :=
  if f.kind ≤ 1 then (1000000000 * rateDen f.rate, rateNum f.rate)
  else (if bit f.audio 2 then 1000000 else 8000000, 1)

/-- A packet counts for its leg: the run of R130. Answers the leg and whether it comes up. -/
def RxLeg.arrive (l : RxLeg) (now : Nat) (tp : Nat × Nat) : RxLeg × Bool :=
  let start := match l.lastRx, l.runStart with
    | some x, some r => if 4 * (now - x) * tp.2 ≤ tp.1 then r else now
    | _, _ => now
  let ups := !l.up && tp.1 ≤ (now - start) * tp.2
  ({ l with lastRx := some now, runStart := some start, up := l.up || ups }, ups)

/-! ### PACKET_ARRIVAL (R124) -/

/-- Does a leg receive the packet (step 1)? An address is one of the leg's IP version. -/
def RxLeg.matches (l : RxLeg) (p : RxPkt) : Bool :=
  let n := if l.ipVer = 4 then 4 else 16
  l.ipVer == p.ipVer && l.port == p.port && l.sub == p.sub && l.dstAddr.take n == p.dst.take n && l.dstPort == p.dport &&
    (l.srcAddr.all (fun b => b == 0) || l.srcAddr.take n == p.src.take n)

/-- The open flow and leg that a packet matches. -/
def State.matchRx (s : State) (p : RxPkt) : Option (Nat × Nat) :=
  (s.rx.flatMap (fun e => if e.2.isOpen then (e.2.legs.zipIdx).filterMap (fun l => if l.1.matches p then some (e.1, l.2) else none)
    else [])).head?

/-- The merge span in sequence numbers (R128). -/
def RxFlow.span (f : RxFlow) : Nat :=
  let ms := if f.merge = 0 then 10 else 50
  let (n, d) := if f.kind = 0 then (f.npkt * rateNum f.rate, rateDen f.rate) else (f.npkt, 1)
  min 524288 (cdiv (ms * n) (1000 * d))

/-- Step 4: the merge by extended sequence number (R127, R129). -/
def RxFlow.mergeStep (f : RxFlow) (seq : Nat) : RxFlow × Option RxCount :=
  let newest := f.newest.getD seq
  let ahead := (seq + two32 - newest) % two32
  let behind := (newest + two32 - seq) % two32
  if f.newest.isSome ∧ 2147483648 ≤ ahead ∧ f.span < behind then (f.count .tooOld, some .tooOld)
  else if f.seen.contains seq then (f.count .dup, some .dup)
  else
    let n := if f.newest.isNone ∨ ahead < 2147483648 then seq else newest
    ({ f with newest := some n, seen := seq :: f.seen.filter (fun x => (n + two32 - x) % two32 ≤ f.span) }, none)

/-- Step 5: sample row data headers (R120, R121, R701). -/
def RxFlow.headersOk (f : RxFlow) (p : RxPkt) : Bool :=
  let pg := pgroupBytes f.sampling f.depth
  p.srds.length ≤ 3 && p.srds.all (fun h =>
    !h.field && h.line + f.linesPer ≤ f.height && h.line % f.linesPer == 0 && h.data.length % pg == 0 &&
    h.offset + h.data.length / pg * pgroupPixels f.sampling f.depth ≤ f.width)

/-- Byte offset within its line of a sample row. -/
def RxFlow.srdOffset (f : RxFlow) (h : Srd) : Nat :=
  h.offset / pgroupPixels f.sampling f.depth * pgroupBytes f.sampling f.depth

/-- Steps 5–7 and the write of a video packet. -/
def RxFlow.videoPacket (f : RxFlow) (now : Nat) (p : RxPkt) : RxFlow :=
  if !f.headersOk p then f.count .range
  else
    let (f1, r) := f.place now p.stamp (rtpTime now p.stamp)
    match r with
    | .noPeriod => f1.dropTs now
    | .tooLate => f1.count .late
    | .frame id =>
      if f1.frames.any (fun x => x.id = id && !x.notAdmitted) then
        (p.srds.foldl (fun f h => f.store now id h.line (f.srdOffset h) h.data) f1).count .rxPkts
      else f1

/-- An audio packet's samples, channel by channel within each sample time, kept by (RTP timestamp, channel) (13 R556, R557); L16
samples enter as x << 8; an AM824 subframe keeps its label. -/
def RxFlow.audioPacket (f : RxFlow) (p : RxPkt) : RxFlow :=
  let n := max 1 f.channels
  let shift : Int := if f.kind = 2 ∧ !bit f.audio 1 then 256 else 1
  let key (i : Nat) : Nat := (p.stamp + i / n) % two32 * 64 + i % n
  let put (t : Tab Int) (e : Int × Nat) : Tab Int := t.set (key e.2) (e.1 * shift)
  if f.kind = 3 then
    RxFlow.count { f with
      samples := (p.audio.zipIdx).foldl (fun (t : Tab Int) e => t.set (key e.2) (signed 24 (wrapInt 24 e.1))) f.samples,
      labels := (p.audio.zipIdx).foldl (fun (t : Tab Nat) e => t.set (key e.2) (wrapInt 32 e.1 / 2 ^ 24)) f.labels } .rxPkts
  else RxFlow.count { f with samples := (p.audio.zipIdx).foldl put f.samples } .rxPkts

/-- Steps 2–7 of *Per-packet checks on ST 2110-20 flows* for a packet of a leg. A packet whose internal check fails at the
write leaves no mark in the merge record (12, *Chain of overlapping checks*). -/
def RxFlow.packet (f : RxFlow) (now leg : Nat) (p : RxPkt) : RxFlow :=
  match f.legs[leg]? with
  | none => f
  | some l =>
    let (l1, pass) := l.police now p.len
    let f1 := { f with legs := f.legs.set leg l1 }
    if !pass then f1.count .polDrop
    else if p.version ≠ 2 ∨ p.pt ≠ l.pt ∨ (l.ssrc.any (fun x => x != p.ssrc)) then f1.count .range
    else
      let (f2, drop) := f1.mergeStep p.seq
      if drop.isSome then f2
      else if !p.internalOk then f1
      else if f.kind ≤ 1 then f2.videoPacket now p else f2.audioPacket p

/-- A packet arrives on an MP sub-port (R124, R382). A frame over 9,216 bytes is not accepted by the port (R123), and counts nowhere
(log entry 138). -/
def execPacketArrival (t : Nat) (p : RxPkt) (s : State) : Out :=
  need (p.port < 4 && p.sub < 4) <|
    let s0 := s.at32 t
    let port := 4 * p.port + p.sub
    if 9216 < p.len then s0
    else
    let s1 := s0.happen 0x0201 [] port 0 1
    if !p.fcsOk then s1.happen 0x0202 [] port 0 1
    else if p.pause then s1.happen 0x0204 [] port 0 1
    else match s1.matchRx p with
      | none => s1.happen 0x0203 [] port 0 1
      | some (i, leg) =>
        let f := s1.rxFlow i
        let (l1, ups) := (f.legs.getD leg {}).arrive s1.now f.legPeriod
        let f1 := { f with legs := f.legs.set leg l1 }
        let s2 := (s1.modRx i (fun _ => f1.packet s1.now leg p)).ownerWrites (rxId i)
        let s3 := if ups then s2.raise 0x0302 (rxId i) leg 0 else s2
        if p.internalOk then s3 else s3.chainFail 2

/-- A leg that was up has delivered nothing for 2T (R130). -/
def execLegDown (flow leg : Nat) (s : State) : Out :=
  need (flow < 256 && leg < 2) <|
    let f := s.rxFlow flow
    match f.legs[leg]? with
    | none => s
    | some l =>
      if l.up then
        let tp := f.legPeriod
        let s1 := s.reach (l.lastRx.getD 0 + cdiv (2 * tp.1) tp.2)
        (s1.modRx flow (fun f => { f with legs := f.legs.set leg { l with up := false, runStart := none } })).raise
          0x0301 (rxId flow) leg 0
      else s

/-! ### Deadlines and source states (R158–R166) -/

/-- The frame of a period of a binding that is judged and held for it: the newest one, where frames of several timestamps fell into the
period (log entry 139). -/
def RxFlow.frameOf (f : RxFlow) (era g : Nat) : Option Frame := f.frames.find? (fun x => x.era = era ∧ x.grid = g ∧ !x.declared)

/-- A line has been available from before an instant on (R131, R160). -/
def Frame.before (x : Frame) (l t : Nat) : Bool := (x.lineAt.find l).any (fun a => a < t)

/-- Mark a line on time or missing at its deadline (R160). -/
def RxFlow.markLine (f : RxFlow) (w : GridWatch) : RxFlow :=
  let l := w.nextLine
  { f with
    frames := f.frames.map (fun x =>
      if x.era = w.era ∧ x.grid = w.lineGrid ∧ !x.declared ∧ !x.missing.contains l then
        if x.before l (f.lineDeadline w.grid w.lineGrid l) then { x with onTime := l :: x.onTime }
        else { x with missing := l :: x.missing }
      else x) }

/-- The instant of a grid after one of its instants. -/
def Grid.succ (gr : Grid) (g : Nat) : Nat := gr.at (gr.firstAfter g)

/-- The next line deadline after the one marked: of the same period, or of the next. -/
def GridWatch.lineMarked (w : GridWatch) (height : Nat) : GridWatch :=
  if w.nextLine + 1 < height then { w with nextLine := w.nextLine + 1 }
  else { w with lineGrid := w.grid.succ w.lineGrid, nextLine := 0 }

/-- Put back what a source still declares and marks on one of its grids; a former grid whose last period is declared is forgotten. -/
def RxFlow.setWatch (f : RxFlow) (w : GridWatch) : RxFlow :=
  if w.era = f.era then { f with nextGrid := some w.next, lineGrid := w.lineGrid, nextLine := w.nextLine }
  else { f with former := f.former.filterMap (fun o => if o.era ≠ w.era then some o else if w.next ≤ w.stop then some w else none) }

/-- The entry of a list that comes first in time. -/
def earliest (due : GridWatch → Nat) : List GridWatch → Option GridWatch
  | [] => none
  | w :: ws => match earliest due ws with
    | some v => if due v < due w then some v else some w
    | none => some w

/-- Deadline of the line that is next to mark on a grid. -/
def RxFlow.lineDue (f : RxFlow) (w : GridWatch) : Nat := f.lineDeadline w.grid w.lineGrid w.nextLine

/-- The next line deadline of a source's periods (R160). -/
def execLineDeadline (flow : Nat) (s : State) : Out :=
  need (flow < 256) <|
    let f := s.rxFlow flow
    match earliest f.lineDue (f.watches.filter (fun w => w.era == f.era || decide (w.lineGrid ≤ w.stop))) with
    | some w => (s.reach (f.lineDue w)).modRx flow (fun f => (f.markLine w).setWatch (w.lineMarked f.height))
    | none => s

/-- Frame deadline of the period that is next to declare on a grid (R159). -/
def GridWatch.due (w : GridWatch) : Nat := w.next + cdiv (1000000000 * w.grid.den) w.grid.num + 6000 + w.allowance

/-- State of the next period of a grid: 0 COMPLETE, 1 LATE, 2 UNDERRUN (R161), and its late lines. -/
def RxFlow.judge (f : RxFlow) (w : GridWatch) : Nat × Nat :=
  match f.frameOf w.era w.next with
  | none => (2, 0)
  | some x =>
    let late := ((List.range f.height).filter (fun l => x.before l w.due && !x.before l (f.lineDeadline w.grid w.next l))).length
    let absent := (List.range f.height).any (fun l => !x.before l w.due)
    if x.notAdmitted ∨ x.discarded ∨ absent then (2, late) else if late = 0 then (0, 0) else (1, late)

/-- The frame deadline before the next one of a grid. -/
def GridWatch.lastDue (w : GridWatch) : Nat := { w with next := w.grid.at (w.grid.firstAfter w.next - 2) }.due

/-- D1 of SOURCE_UNDERRUN (R165). -/
def RxFlow.cause (f : RxFlow) (w : GridWatch) : Nat :=
  match f.frameOf w.era w.next with
  | some x => if x.notAdmitted then 3 else if x.discarded then 2 else 0
  | none => if f.lastTsDrop.any (fun t => w.lastDue ≤ t) then 1 else 4

/-- Declare the next period of a grid (R161–R163, R165). A period of a former grid leaves the held frame (R693). -/
def RxFlow.declare (f : RxFlow) (w : GridWatch) : RxFlow :=
  let (st, late) := f.judge w
  let k := f.counters
  let taken := st ≤ 1 ∧ w.era = f.era
  let old := if taken then f.held.toList.filter (fun h => !f.frames.any (fun x => x.id = h.id)) else []
  let frames := f.frames.map (fun x => if x.era = w.era ∧ x.grid = w.next then { x with declared := true } else x) ++ old
  { f with
    state := st, lastGrid := w.next, frames := frames,
    held := if taken then (f.frameOf w.era w.next).map (fun x => { x with declared := true }) else f.held,
    notComplete := if st = 0 then 0 else f.notComplete + 1,
    counters := { k with
      lateLines := satAdd 48 k.lateLines late,
      nComplete := satAdd 48 k.nComplete (if st = 0 then 1 else 0),
      nLate := satAdd 48 k.nLate (if st = 1 then 1 else 0),
      nUnderrun := satAdd 48 k.nUnderrun (if st = 2 then 1 else 0) } }

/-- A layer after a period of its source (04 R212–R214). -/
def Layer.afterPeriod (l : Layer) (st : Nat) : Layer :=
  match st with
  | 2 =>
    let n := l.underruns + 1
    { l with underruns := n, fallDue := l.fallDue || (l.active.holdLimit != 255 && l.active.holdLimit ≤ n) }
  | 1 => { l with underruns := 0 }
  | _ => { l with underruns := 0, fallDue := false, returnDue := true }

/-- Every layer bound to the source counts the period. -/
def State.layersAfter (s : State) (flow st : Nat) : State :=
  (List.range 32).foldl (fun s i =>
    let a := (s.layer i).active
    if a.canopy.isSome ∧ a.source = flow then s.modLayer i (fun l => l.afterPeriod st) else s) s

/-- The event of a declaration (R165). -/
def State.declareEvent (s : State) (flow st g before late cause : Nat) : State :=
  match st with
  | 0 => if before = 0 then s else s.raise 0x0308 (rxId flow) (g % two32) before
  | 1 => s.raise 0x0309 (rxId flow) (g % two32) late
  | _ => s.raise 0x030A (rxId flow) (g % two32) cause

/-- A grid after its next period has been declared: no line of a declared period is left to mark. -/
def GridWatch.declared (w : GridWatch) : GridWatch :=
  let n := w.grid.succ w.next
  if w.lineGrid ≤ w.next then { w with next := n, lineGrid := n, nextLine := 0 } else { w with next := n }

/-- The next frame deadline of a source, on whichever of its grids it comes first (R161, R693). -/
def State.frameDeadlinePassed (s : State) (flow : Nat) : State :=
  match earliest GridWatch.due (s.rxFlow flow).watches with
  | none => s
  | some w =>
    let s1 := s.reach w.due
    let f1 := s1.rxFlow flow
    let (st, late) := f1.judge w
    let s2 := s1.modRx flow (fun f => (f.declare w).setWatch w.declared)
    (s2.layersAfter flow st).declareEvent flow st w.next f1.notComplete late (f1.cause w)

/-! ### Code words (R139–R141) -/

/-- A block as the receiver reads it: 512 unscrambled bytes, or a header error. -/
structure RxBlock where
  headerError : Bool
  bytes : List Byte
deriving DecidableEq, Repr

/-- The descrambler x^58 + x^39 + 1 over `n` bits as received, bit 0 first (R140): each bit with those received 39 and 58 bits before it.
`past` holds the 58 bits before them, the oldest in bit 0. Answers the payload, and the past of the next bits. -/
def descramble (past n line : Nat) : Nat × Nat :=
  let all := past + line * 2 ^ 58
  ((line ^^^ all ^^^ (all / 2 ^ 19)) % 2 ^ n, all / 2 ^ n % 2 ^ 58)

/-- A strand reads a block (R139–R141): a word with a header other than that of a data code word is a header error. -/
def Strand.read (x : Strand) (b : YBlock) : RxBlock × Strand :=
  let r := descramble x.past 4096 (payloadBits b.words)
  ({ headerError := b.words.length != 32 || b.words.any (fun w => codeHeader w != 3), bytes := leBytes 512 r.1 }, { x with past := r.2 })

/-! ### Yeluc braids (R142–R157) -/

/-- Data strands of a braid: 8, or 4 on YT. -/
def dataStrands (b : Nat) : Nat := if b = 4 then 4 else 8
/-- The data strands and the spare strand. -/
def strandsOf (b : Nat) : List Nat := List.range (dataStrands b) ++ [8]

/-- The block's own CRC matches (R141). -/
def yGood (b : RxBlock) : Bool :=
  !b.headerError && b.bytes.length == 512 && leNat (b.bytes.drop 508) == crc32c (b.bytes.take 508)

/-- A strand fails under R151. -/
def Strand.isFailing (x : Strand) : Bool :=
  !x.locked || 2 ≤ x.missedMarkers || 16 ≤ (x.history.filter (fun e => e)).length

/-- Every condition of R154 holds. -/
def Braid.lockReady (b : Braid) (n : Nat) : Bool :=
  let xs := (List.range n ++ [8]).map (fun i => b.strands.get ({} : Strand) i)
  b.enabled && 1024 ≤ b.goodRows &&
    xs.all (fun x => x.locked && 2 ≤ x.markers && xs.all (fun y => x.skew ≤ y.skew + 64))

/-- The braid becomes LOCKED when its conditions hold (R154). -/
def State.tryLock (s : State) (i : Nat) : State :=
  let b := s.braid i
  if !b.locked ∧ b.lockReady (dataStrands i) then
    (s.modBraid i (fun b => { b with locked := true })).raise 0x0303 (braidId i) 0 0
  else s

/-- A fault in a braid under service: its BRAID_RESTRAND completes with FAULT_INTERNAL and the braid's ID (01 R46). -/
def State.braidFault (s : State) (i : Nat) : State :=
  match (s.braid i).restoring with
  | none => s
  | some (q, seq, _) => (s.modBraid i (fun b => { b with restoring := none, matched := 0 })).failOpt (some (q, seq)) 0x0303 (braidId i)

/-- Failing strands are judged at a block-row boundary: restrand (R151), unprotected (R153), loss of lock (R156). A strand that was
failing already is restranded as soon as AUTO_RESTRAND allows it. BRAID_UNPROTECTED is posted when the spare starts to fail and when a
second strand fails beside a restranded one (log entry 13). -/
def State.judgeStrands (s : State) (i : Nat) : State :=
  let b := s.braid i
  if !b.locked then s
  else
    let bad := (strandsOf i).filter (fun k => (b.strands.get ({} : Strand) k).isFailing)
    let fresh := bad.filter (fun k => !(b.strands.get ({} : Strand) k).failing)
    let s0 := if fresh.isEmpty then s else s.braidFault i
    let s1 := s0.modBraid i (fun b => { b with
      strands := (strandsOf i).foldl
        (fun t k => Tab.upd ({} : Strand) t k (fun (x : Strand) => { x with failing := bad.contains k })) b.strands })
    match bad with
    | [] => s1
    | [k] =>
      if k = 8 then (if fresh.isEmpty then s1 else s1.raise 0x0307 (braidId i) 8 0)
      else if b.restranded = some k then s1
      else if b.restranded.isSome then (if fresh.isEmpty then s1 else s1.raise 0x0307 (braidId i) (b.restranded.getD 8) 0)
      else if b.autoRestrand then
        (s1.modBraid i (fun b => { b with restranded := some k, matched := 0 })).raise 0x0306 (braidId i) k 0
      else s1
    | _ => s1.modBraid i (fun b => b.restartLock s.now)

/-- The open flow of a ply. -/
def State.plyFlow (s : State) (braid ply : Nat) : Option Nat :=
  (s.rx.find? (fun e => e.2.isOpen && e.2.kind == 1 && e.2.braid == braid && e.2.ply == ply)).map Prod.fst

/-- A frame of a ply is discarded (R144). -/
def RxFlow.discard (f : RxFlow) (id : Nat) : RxFlow :=
  { f with frames := f.frames.map (fun x => if x.id = id then { x with discarded := true } else x) }

/-- The descriptor of a frame-start block equals the flow's configuration (R142, R144). -/
def RxFlow.descriptorOk (f : RxFlow) (p : List Byte) : Bool :=
  leNat (p.take 2) == f.width && leNat ((p.drop 2).take 2) == f.height &&
    leNat ((p.drop 4).take 1) == rxFormat f.sampling f.depth && leNat ((p.drop 5).take 1) == f.rate

/-- The 32-bit time nearest to `now`, extended. -/
def extendNear (now t : Nat) : Nat :=
  let d := (t + two32 - now % two32) % two32
  if d < 2147483648 then now + d else now + d - two32

/-- KIND, PLY and FRAME of a block (R141). -/
def blockKind (bytes : List Byte) : Nat := leNat (bytes.take 1) / 4 % 4
def blockPly (bytes : List Byte) : Nat := leNat (bytes.take 1) % 4
def blockFrame (bytes : List Byte) : Nat := leNat (bytes.take 1) / 16

/-- A frame-start block: a frame of the ply begins with it, whatever its GRID_TIME (R142–R144). -/
def State.frameStart (s : State) (braid i : Nat) (bytes : List Byte) : State :=
  let payload := bytes.drop 8
  let stamp := leNat ((payload.drop 6).take 4)
  let (f, r) := (s.rxFlow i).assign s.now stamp (blockFrame bytes) (extendNear s.now stamp)
  let s1 := s.modBraid braid (fun b => { b with plyFrames := b.plyFrames.set (blockPly bytes) (blockFrame bytes, r) })
  match r with
  | .noPeriod => s1.modRx i (fun _ => f.dropTs s.now)
  | .tooLate => s1.modRx i (fun _ => f.count .late)
  | .frame id =>
    s1.modRx i (fun _ =>
      if !f.descriptorOk payload then f.discard id
      else if f.frames.any (fun x => x.id = id && x.notAdmitted) then f else f.count .rxPkts)

/-- A video block of the frame `id` of its ply (R141–R144, R166, R701). What the rules leave open of LINE, LEN and the counters:
log entry 140. -/
def RxFlow.videoBlock (f : RxFlow) (now id count : Nat) (bytes : List Byte) : RxFlow :=
  let l := leNat ((bytes.drop 1).take 2) % 16384
  let o := leNat ((bytes.drop 3).take 2)
  let len := leNat ((bytes.drop 5).take 2) % 512
  match f.frames.find? (fun x => x.id = id) with
  | none => f.count .late
  | some x => match x.target now with
    | .noPeriod => f.dropTs now
    | .tooLate => f.count .late
    | .frame _ =>
      if blockFrame bytes ≠ count ∨ f.height < l + f.linesPer ∨ l % f.linesPer ≠ 0 ∨ f.lineBytes < o + len then f.discard id
      else if x.notAdmitted ∨ x.discarded then f
      else (f.store now id l o ((bytes.drop 8).take len)).count .rxPkts

/-- A good or rebuilt block reaches its flow (R141–R144, R166). -/
def State.takeBlock (s : State) (braid : Nat) (bytes : List Byte) : State :=
  match s.plyFlow braid (blockPly bytes) with
  | none => s
  | some i =>
    if blockKind bytes = 1 then s.frameStart braid i bytes
    else if blockKind bytes = 0 then
      match (s.braid braid).plyFrames.find (blockPly bytes) with
      | none => s
      | some (_, .noPeriod) => s.modRx i (fun f => f.dropTs s.now)
      | some (_, .tooLate) => s.modRx i (fun f => f.count .late)
      | some (n, .frame id) => (s.modRx i (fun f => f.videoBlock s.now id n bytes)).ownerWrites (rxId i)
    else s

/-- Count REBUILT or LOST_BLOCKS for the flow of the block's ply (log entry 15: the PLY as received); the PLY of an idle block is ignored
(R142). -/
def State.countBlock (s : State) (braid : Nat) (bytes : List Byte) (x : RxCount) : State :=
  if blockKind bytes = 2 then s
  else match s.plyFlow braid (blockPly bytes) with
    | none => s
    | some i => s.modRx i (fun f => f.count x)

/-- The history of a strand after one more block (R151). -/
def Strand.note (x : Strand) (bad : Bool) : Strand := { x with history := (bad :: x.history).take 4096 }

/-- Blocks between two markers of a strand (R146). -/
abbrev markerSpacing : Nat := 16384
/-- A block passes on a strand: where its marker was due before it, that marker has been missed (R146, R151). -/
def Strand.passBlock (x : Strand) : Strand :=
  match x.sinceMarker with
  | none => x
  | some n =>
    if n < markerSpacing then { x with sinceMarker := some (n + 1) }
    else { x with sinceMarker := some 1, missedMarkers := x.missedMarkers + 1, markers := 0 }

/-- The strands of a braid read the blocks of a row; a strand with none counts as a header error. -/
def Braid.readRow (b : Braid) : List Nat → List YBlock → Braid × List RxBlock
  | [], _ => (b, [])
  | k :: ks, [] =>
    let (b', l) := Braid.readRow { b with strands := b.strands.upd {} k Strand.passBlock } ks []
    (b', { headerError := true, bytes := [] } :: l)
  | k :: ks, w :: ws =>
    let (r, x) := (b.strands.get {} k).read w
    let (b', l) := Braid.readRow { b with strands := b.strands.set k x.passBlock } ks ws
    (b', r :: l)

/-- The blocks of a row as read, by strand. -/
def rowBlock (blocks : List RxBlock) (i : Nat) : RxBlock := blocks.getD i { headerError := true, bytes := [] }
/-- Data strands whose own block of a row is bad. -/
def badStrands (braid : Nat) (blocks : List RxBlock) : List Nat :=
  (List.range (dataStrands braid)).filter (fun i => !(yGood (rowBlock blocks i)))
/-- A row's errors, counted and noted by strand; the spare strand is judged by its parity over the unscrambled blocks (R149, R151). -/
def State.noteRow (s0 : State) (braid : Nat) (blocks : List RxBlock) : State :=
  let data := List.range (dataStrands braid)
  let spare := rowBlock blocks (dataStrands braid)
  let badOwn := badStrands braid blocks
  let parity := data.foldl (fun acc i => xorBytes acc (rowBlock blocks i).bytes) (List.replicate 512 (0 : Byte))
  let spareBad := spare.headerError || (badOwn.isEmpty && parity != spare.bytes)
  let s1 := badOwn.foldl (fun s i => (s.happen 0x0205 [braidId braid] i 0 1).chainFail 3) s0
  let s2 := if spareBad then s1.happen 0x0205 [braidId braid] 8 0 1 else s1
  let hist (tb : Tab Strand) : Tab Strand :=
    Tab.upd ({} : Strand) (data.foldl (fun tb i => Tab.upd ({} : Strand) tb i (fun x => x.note (badOwn.contains i))) tb) 8 (fun x => x.note spareBad)
  let allGood := badOwn.isEmpty && !spareBad
  s2.modBraid braid (fun b => { b with
    strands := hist b.strands, goodRows := if allGood then min 1024 (b.goodRows + 1) else 0 })
/-- Data strands whose own block of a row is not used: bad ones, and a restranded one (R149–R151). -/
def Braid.lostOf (b : Braid) (braid : Nat) (blocks : List RxBlock) : List Nat :=
  (List.range (dataStrands braid)).filter (fun i => !(yGood (rowBlock blocks i)) || b.restranded == some i)
/-- The block that the spare strand and the used data strands of a row give (R150). -/
def Braid.rebuiltOf (b : Braid) (braid : Nat) (blocks : List RxBlock) : List Byte :=
  (List.range (dataStrands braid)).foldl
    (fun acc i => if (b.lostOf braid blocks).contains i then acc else xorBytes acc (rowBlock blocks i).bytes)
    (rowBlock blocks (dataStrands braid)).bytes
/-- One block of a row is not used, and its rebuilt copy's own CRC matches (R150). -/
def Braid.canRebuild (b : Braid) (braid : Nat) (blocks : List RxBlock) : Bool :=
  (b.lostOf braid blocks).length == 1 && yGood { headerError := false, bytes := b.rebuiltOf braid blocks }
/-- The blocks of a row as used, in the order of their strands (R150). -/
def Braid.usedOf (b : Braid) (braid : Nat) (blocks : List RxBlock) : List (List Byte) :=
  (List.range (dataStrands braid)).filterMap (fun i =>
    if !(b.lostOf braid blocks).contains i then some (rowBlock blocks i).bytes
    else if b.canRebuild braid blocks then some (b.rebuiltOf braid blocks) else none)
/-- The blocks of a row on a locked braid: taken, rebuilt from the spare strand, or lost; a restranded strand is compared with its rebuilt
copy (R149, R150, R152). A strand that delivers no block counts its lost one for the flow of ply 0 (log entry 15). -/
def State.takeRow (s3 : State) (braid : Nat) (blocks : List RxBlock) (b : Braid) : State :=
  let data := List.range (dataStrands braid)
  let blk := rowBlock blocks
  let lost := b.lostOf braid blocks
  let rebuilt := b.rebuiltOf braid blocks
  let canRebuild := b.canRebuild braid blocks
  let s4 := data.foldl (fun s i =>
    if !lost.contains i then s.takeBlock braid (blk i).bytes
    else if canRebuild then (s.takeBlock braid rebuilt).countBlock braid rebuilt .rebuilt
    else s.countBlock braid (blk i).bytes .lost) s3
  let s5 := match b.restranded with
    | none => s4
    | some r =>
      let same := canRebuild && yGood (blk r) && (blk r).bytes == rebuilt
      let m := if same then b.matched + 1 else 0
      match b.restoring with
      | some (q, seq, _) =>
        if 1024 ≤ m then
          (s4.modBraid braid (fun b => { b with restranded := none, restoring := none, matched := 0 })).completeId (q, seq) 2 0
        else s4.modBraid braid (fun b => { b with matched := m })
      | none => s4.modBraid braid (fun b => { b with matched := m })
  s5.judgeStrands braid

/-- A near-end test loop runs: the balls of the braid are ignored (R157). -/
def Braid.deaf (b : Braid) : Bool := b.loop.any (fun l => l.kind < 2)

/-- Every block of a row goes back on YT_TX on its strand while the far-end loop runs (R157); `strands` names them. -/
def State.returnRow (s : State) (braid : Nat) : List Nat → List RxBlock → State
  | k :: ks, r :: rs =>
    if r.bytes = [] then s.returnRow braid ks rs
    else
      let (ws, x) := ((s.braid braid).strands.get {} k).send r.bytes
      ((s.modBraid braid (fun b => { b with
        strands := b.strands.set k x, loop := b.loop.map (fun l => { l with returned := l.returned + 1 }) })).emit
          (.yeluc k ws)).returnRow braid ks rs
  | _, _ => s

/-- A block row: checks, rebuild (R150), restore (R152), delivery, failing strands, lock. -/
def State.blockRow (s0 : State) (braid : Nat) (blocks : List YBlock) : State :=
  let b := s0.braid braid
  if !b.enabled ∨ b.deaf then s0
  else
    let r := b.readRow (strandsOf braid) blocks
    let s1 := s0.modBraid braid (fun _ => r.1)
    let s2 := if b.loop.isSome then s1.returnRow braid (strandsOf braid) r.2 else s1
    let s3 := s2.noteRow braid r.2
    if !b.locked then s3.tryLock braid else s3.takeRow braid r.2 b

/-- A strand receives its marker (R146): a count that follows the last one at the spacing of R146 is a marker at the correct spacing. -/
def Strand.marker (x : Strand) (count skew : Nat) : Strand :=
  let right := x.sinceMarker == some markerSpacing && x.markerCount.any (fun c => (c + 1 + x.missedMarkers) % 65536 == count)
  { x with markers := if right then x.markers + 1 else 1, markerCount := some count, sinceMarker := some 0, missedMarkers := 0, skew := skew }

/-- A code word that is an alignment marker of a strand: a control code word whose payload is as R146 lays it out, unscrambled (R140).
Answers its count. -/
def markerOf (strand header payload : Nat) : Option Nat :=
  if header = 12 ∧ payload % 256 = 0x4D ∧ payload / 256 % 256 = strand ∧ payload / 2 ^ 32 = 0 then some (payload / 65536 % 65536) else none

/-- An alignment-marker code word on a strand, with the skew measured on it (R146, R147). Any other control code word is ignored. -/
def execAlignmentMarker (braid strand header payload skew : Nat) (s : State) : Out :=
  need (braid < 5 && strand < 9) <|
    let b := s.braid braid
    match (if b.enabled ∧ !b.deaf then markerOf strand header payload else none) with
    | none => s
    | some count =>
      ((s.modBraid braid (fun b => { b with
        strands := b.strands.upd {} strand (fun x => x.marker count skew) })).judgeStrands braid).tryLock braid

/-- The clock strand fails: the braid stays locked (R148). It counts as failed until the lock sequence starts again (log entry 164). -/
def execClockStrandLost (braid : Nat) (s : State) : Out :=
  need (braid < 5) <|
    if (s.braid braid).enabled ∧ !(s.braid braid).clockLost ∧ !(s.braid braid).deaf then
      ((s.braidFault braid).modBraid braid (fun b => { b with clockLost := true })).raise 0x0305 (braidId braid) 0 0
    else s

/-- The first strand that keeps the braid from its lock; 0 when no single strand does (log entry 163). -/
def Braid.firstUnlocked (b : Braid) (n : Nat) : Nat :=
  ((List.range n ++ [8]).find? (fun k => let x := b.strands.get ({} : Strand) k; !x.locked || x.markers < 2 || x.isFailing)).getD 0

/-- The braid is not LOCKED in time: the sequence restarts (R155). -/
def execBraidLockFail (braid : Nat) (s : State) : Out :=
  need (braid < 5) <|
    let b := s.braid braid
    if b.enabled ∧ !b.locked then
      let s1 := s.reach (b.lockStart + 20000000 * 2 ^ b.rate)
      (s1.raise 0x0304 (braidId braid) (b.firstUnlocked (dataStrands braid)) 0).modBraid braid (fun b => b.restartLock s1.now)
    else s

/-- A restore has not matched 1,024 blocks within 100 ms (R152). -/
def execRestoreTimeout (braid : Nat) (s : State) : Out :=
  need (braid < 5) <|
    match (s.braid braid).restoring with
    | none => s
    | some (q, seq, t) =>
      ((s.reach t).modBraid braid (fun b => { b with restoring := none, matched := 0 })).failOpt (some (q, seq)) 0x0302 0

/-- A test loop has run for its duration: its error counts for S0–S7, SP, CK go to the buffer, and DETAIL carries their sum, or of the
far-end loop the blocks returned (R157, *BRAID_LOOPBACK parameters*). What a near-end loop counts depends on the strands under test:
the counts come with the event. -/
def execLoopbackEnd (braid : Nat) (errors : List Nat) (s : State) : Out :=
  need (braid < 5) <|
    match (s.braid braid).loop with
    | none => s
    | some run =>
      let s0 := s.reach run.stop
      let s1 := s0.modBraid braid (fun b => { b with loop := none })
      match s1.findCmd run.q run.seq with
      | none => s1
      | some c =>
        let data := ((List.range 10).map (fun i => leBytes 8 (errors.getD i 0))).flatten
        let s2 := if c.u 28 4 = 0 then s1 else s1.writeBuf c (c.u 20 8) data
        s2.ok c (min (if run.kind = 2 then run.returned else (errors.take 10).sum) 4294967295)

/-- A strand gains code-word lock after 64 valid headers in a row, or loses it (R139, R154, R156). -/
def execCodeWordLock (braid strand : Nat) (locked : Bool) (s : State) : Out :=
  need (braid < 5 && strand < 9) <|
    if !(s.braid braid).enabled ∨ (s.braid braid).deaf then s
    else
      let s1 := s.modBraid braid (fun b => { b with
        strands := Tab.upd ({} : Strand) b.strands strand (fun x => { x with locked := locked, goodHeaders := if locked then 64 else 0 }) })
      (s1.judgeStrands braid).tryLock braid

end Sys2Proof.Machine
end

