-- ==== Sys2Proof/Machine/PixelPath.lean ====
section
/-!
DEFINITION. The pixel path (04 R183–R199, R210, R215, R222–R226): reading stored samples, chroma, the polyphase scaler, colour
matrices, blending, lamp correction and the write of a band. Integer arithmetic throughout, as the spec writes it.
-/
set_option Elab.async false
namespace Sys2Proof.Machine

open Sys2Proof

/-! ### Stage 1: stored samples (R118, R119, R183) -/

/-- Samples of a pgroup in their order on the wire: (component, x, line within the group); PRESUMED from ST 2110-20 (log 12). -/
def pgroupOrder (sampling depth : Nat) : List (Nat × Nat × Nat) :=
  match sampling with
  | 0 =>
    let half (x : Nat) : List (Nat × Nat × Nat) := [(0, x, 0), (0, x + 1, 0), (0, x, 1), (0, x + 1, 1), (1, x / 2, 0), (2, x / 2, 0)]
    if depth = 8 then half 0 else half 0 ++ half 2
  | 1 => [(1, 0, 0), (0, 0, 0), (2, 0, 0), (0, 1, 0)]
  | 2 => ((List.range (pgroupPixels 2 depth)).map (fun x => [(1, x, 0), (0, x, 0), (2, x, 0)])).flatten
  | _ => ((List.range (pgroupPixels 3 depth)).map (fun x => [(2, x, 0), (0, x, 0), (1, x, 0)])).flatten

/-- Stage 1 for a video sample: 8-bit × 4, 12-bit rounded to 10 bits (R119, R183). -/
def toTenBit (depth v : Nat) : Int :=
  if depth = 8 then (4 * v : Nat) else if depth = 12 then (min ((v + 2) / 4) 1023 : Nat) else (v : Nat)

/-- Component `k` at its stored position x in source line y of a frame (a chroma row belongs to both lines of its pair, R701); none where a byte of its pgroup is unwritten or unreadable. -/
def RxFlow.stored (f : RxFlow) (d : Tab Byte) (k x y : Nat) : Option Int :=
  let de := f.wireDepth
  let pw := pgroupPixels f.sampling de
  let pb := pgroupBytes f.sampling de
  let cx := if k = 0 ∨ f.sampling ≥ 2 then pw else pw / 2
  let line := y / f.linesPer
  let sub := if k = 0 ∧ f.sampling = 0 then y % 2 else 0
  let base := line * f.lineBytes + x / cx * pb
  let bytes := (List.range pb).map (fun i => d.find (base + i))
  if bytes.all Option.isSome then
    let n := bytes.foldl (fun acc b => acc * 256 + (b.getD 0).toNat) 0
    (((pgroupOrder f.sampling de).zipIdx).find? (fun e => e.1 = (k, x % cx, sub))).map
      (fun e => toTenBit de (n / 2 ^ (8 * pb - de * (e.2 + 1)) % 2 ^ de))
  else none

/-! ### Stage 2: chroma upsampling (R184) -/

/-- Index `i` kept within 0 … n − 1. -/
def edge (n : Nat) (i : Int) : Nat := if i < 0 then 0 else min i.toNat (n - 1)

/-- The source line through which vertical upsampling of line y reads its neighbouring chroma row: c[j − 1] for y = 2j, c[j + 1] for
y = 2j + 1, the edge row repeated (R184). -/
def chromaLine (h y : Nat) : Nat := if y % 2 = 0 then edge h ((y : Int) - 1) else edge h ((y : Int) + 1)

/-- Vertically upsampled chroma of a 4:2:0 frame; otherwise the stored sample. `c` reads the chroma row of a source line. -/
def chromaV (sampling h : Nat) (c : Nat → Nat → Option Int) (x y : Nat) : Option Int :=
  if sampling = 0 then
    match c x y, c x (chromaLine h y) with
    | some a, some b => some ((3 * a + b + 2) / 4)
    | _, _ => none
  else c x y

/-- Chroma at full resolution. -/
def chromaFull (sampling w h : Nat) (c : Nat → Nat → Option Int) (x y : Nat) : Option Int :=
  if sampling ≤ 1 then
    let k := x / 2
    let a := chromaV sampling h c k y
    if x % 2 = 0 then a
    else match a, chromaV sampling h c (edge ((w + 1) / 2) ((k : Int) + 1)) y with
      | some a, some b => some ((a + b + 1) / 2)
      | _, _ => none
  else c x y

/-! ### Stage 3: the scaler (R189–R193) -/

/-- N of R189 for crop / dst. -/
def taps (crop dst : Nat) : Nat := 2 * max 1 (cdiv crop dst) + 4

/-- `pos` of R190. -/
def scalePos (s0 crop dst i : Nat) : Int :=
  ((s0 * 65536 + (2 * i + 1) * crop * 65536 / (2 * dst) : Nat) : Int) - 32768
def scaleIp (s0 crop dst i : Nat) : Int := scalePos s0 crop dst i / 65536
def scalePhase (s0 crop dst i : Nat) : Nat := (scalePos s0 crop dst i / 1024 % 64).toNat

/-- The kernel of R192 at tap n of phase p, times a common positive factor: 2·64³ for r ≤ 1, 64·dst for r > 1. -/
def kernel (crop dst p n : Nat) : Int :=
  let d : Nat := (64 * ((n : Int) - ((taps crop dst / 2 : Nat) - 1)) - p).natAbs
  if crop ≤ dst then
    if d ≤ 64 then ((3 * d ^ 3 + 524288 : Nat) : Int) - (320 * d ^ 2 : Nat)
    else if d < 128 then ((320 * d ^ 2 + 1048576 : Nat) : Int) - (d ^ 3 + 32768 * d : Nat)
    else 0
  else max 0 ((64 * crop : Nat) - (dst * d : Nat) : Int)

/-- Add `x` to the first of the largest entries. -/
def addToLargest (l : List Int) (x : Int) : List Int :=
  let m := l.foldl max (l.headD 0)
  match l.findIdx? (fun e => e = m) with
  | none => l
  | some i => l.set i (m + x)

/-- The generated coefficients of a phase (R192). -/
def generated (crop dst p : Nat) : List Int :=
  let ks := (List.range (taps crop dst)).map (kernel crop dst p)
  let sum := ks.sum
  let cs := ks.map (fun k => roundHalfAway (1024 * k) sum.toNat)
  if cs.sum = 1024 then cs else addToLargest cs (1024 - cs.sum)

/-- Coefficients of a phase: a custom set (R193), else generated. -/
def phaseCoefs (custom : CoefSet) (crop dst p : Nat) : List Int :=
  match custom with
  | some t => t.getD p []
  | none => generated crop dst p

/-- One filtered value: taps at ip − (N/2 − 1) + n, clipped to the crop (R190); none where a tap is unreadable (R215). -/
def filter1 (cs : List Int) (s0 crop : Nat) (ip : Int) (src : Nat → Option Int) : Option Int :=
  let n := cs.length
  (cs.zipIdx).foldl (fun acc e =>
    let i := ip - ((n / 2 : Nat) - 1) + e.2
    let j := (clip i s0 ((s0 + crop : Nat) - 1)).toNat
    match acc, src j with
    | some a, some v => some (a + e.1 * v)
    | _, _ => none) (some 0)

/-- Stage 3 for one sample: vertical, then horizontal (R191); bypassed when both ratios are 1 (R194). -/
def scaleSample (l : LayerCfg) (i j : Nat) (src : Nat → Nat → Option Int) : Option Int :=
  if l.cropW = l.dstW ∧ l.cropH = l.dstH then src (l.cropX + i) (l.cropY + j)
  else
    let cv := phaseCoefs l.vCoefs l.cropH l.dstH (scalePhase l.cropY l.cropH l.dstH j)
    let ch := phaseCoefs l.hCoefs l.cropW l.dstW (scalePhase l.cropX l.cropW l.dstW i)
    let v (x : Nat) : Option Int :=
      (filter1 cv l.cropY l.cropH (scaleIp l.cropY l.cropH l.dstH j) (fun y => src x y)).map
        (fun a => clip ((a + 128) / 256) 0 4095)
    (filter1 ch l.cropX l.cropW (scaleIp l.cropX l.cropW l.dstW i) v).map (fun a => clip ((a + 2048) / 4096) 0 1023)

/-! ### Stage 4: the colour matrix (R186–R188) -/

/-- AUTO coefficients (R187): source GBR?, canopy GBR?, colorimetry. -/
def autoMatrix (srcGbr dstGbr : Bool) (colorimetry : Nat) : List Int :=
  match srcGbr, dstGbr, colorimetry with
  | false, true, 0 => [4783, -876, -2189, 4783, 8678, 0, 4783, 0, 7365]
  | false, true, _ => [4783, -770, -2672, 4783, 8799, 0, 4783, 0, 6896]
  | true, false, 0 => [2509, 253, 746, -1383, 1794, -411, -1629, -165, 1794]
  | true, false, _ => [2378, 208, 921, -1293, 1794, -501, -1650, -144, 1794]
  | _, _, _ => [4096, 0, 0, 0, 4096, 0, 0, 0, 4096]

/-- Offsets of a colour space: narrow YCbCr, or full GBR. -/
def spaceOffset (gbr : Bool) : List Int := if gbr then [0, 0, 0] else [64, 512, 512]
/-- The canopy's component range (R199). -/
def rangeLo (wall : Bool) : Int := if wall then 0 else 4
def rangeHi (wall : Bool) : Int := if wall then 1023 else 1019

/-- R186. -/
def matrixOut (m ioff ooff inp : List Int) (lo hi : Int) : List Int :=
  let g (l : List Int) (i : Nat) : Int := l.getD i 0
  (List.range 3).map (fun i =>
    clip ((g m (3 * i) * (g inp 0 - g ioff 0) + g m (3 * i + 1) * (g inp 1 - g ioff 1) + g m (3 * i + 2) * (g inp 2 - g ioff 2) +
      g ooff i * 4096 + 2048) / 4096) lo hi)

/-- Stage 4 of a layer. -/
def LayerCfg.colour (l : LayerCfg) (srcGbr : Bool) (wall : Bool) (colorimetry : Nat) (inp : List Int) : List Int :=
  if l.matrix = 0 then
    matrixOut (autoMatrix srcGbr wall colorimetry) (spaceOffset srcGbr) (spaceOffset wall) inp (rangeLo wall) (rangeHi wall)
  else matrixOut l.coefs l.inOffset l.outOffset inp (rangeLo wall) (rangeHi wall)

/-! ### Stage 5: blending (R173, R197–R199) -/

/-- R197. -/
def effAlpha (ap ag : Nat) : Nat := (ap * ag + 511) / 1023
/-- R198. -/
def blend1 (a : Nat) (fg bg : Int) : Int := ((a : Int) * fg + (1023 - (a : Int)) * bg + 511) / 1023
def blend (a : Nat) (fg bg : List Int) : List Int := List.zipWith (blend1 a) fg bg

/-- A layer's global and stage order: the layers of a canopy in the order of R173, by their active state. -/
def State.layerOrder (s : State) (k : Nat) : List Nat :=
  let ls := (List.range 64).filter (fun i => (s.layer i).active.canopy = some k)
  ((List.range 16).map (fun z => ls.filter (fun i => (s.layer i).active.z = z))).flatten

/-- The frame that a live source holds of the period at `g` (R179). -/
def RxFlow.liveFrame (f : RxFlow) (g : Nat) : Option Frame := f.frames.find? (fun x => x.grid = g ∧ x.on = f.grid)

/-- Where a source line of a layer comes from, and whether it is a held line (R181, R210, R211); a line that the source has no held frame
for is none. A held frame of the canopy frame's own period never stands in for that period's lines. -/
def State.lineData (s : State) (fr : CanFrame) (sh : LayerShot) (y : Nat) : Option (Tab Byte) × Bool :=
  let f := s.rxFlow sh.cfg.source
  if sh.deferred then (sh.held.map Frame.data, false)
  else
    let held := match f.held with
      | some x => if x.grid < fr.g then some x else sh.held
      | none => none
    match f.liveFrame fr.g with
    | some x =>
      if x.before y (f.lineDeadline x.on x.grid y) ∧ !x.lost.contains y then (some x.data, false) else (held.map Frame.data, held.isSome)
    | none => (held.map Frame.data, held.isSome)

/-- A stored sample of a source line, which is none where no frame has it readable (R210, R215). -/
def State.storedSample (s : State) (fr : CanFrame) (sh : LayerShot) (comp x y : Nat) : Option Int :=
  (s.lineData fr sh y).1.bind (fun d => (s.rxFlow sh.cfg.source).stored d comp x y)

/-- A layer's GBR or YCbCr input at a source position, 4:4:4 (stages 1 and 2). -/
def State.srcSample (s : State) (fr : CanFrame) (sh : LayerShot) (comp x y : Nat) : Option Int :=
  let f := s.rxFlow sh.cfg.source
  let at_ (x y : Nat) : Option Int := s.storedSample fr sh comp x y
  if comp = 0 then at_ x y else chromaFull f.sampling f.width f.height at_ x y

/-- Stage 1 for a graphic pixel: (G, B, R, A) in 10 bits; ARGB8 expands as (x << 2) | (x >> 6) (R183). -/
def gfxTen (fmt v : Nat) : Nat := if fmt = 0 then v * 4 + v / 64 else v % 1024

/-- What a layer shows at a canopy pixel: its colour and effective alpha; none outside its rectangle, when it is hidden, or
in a hidden fallback (R197, R213, R215). -/
def State.layerPixel (s : State) (fr : CanFrame) (sh : LayerShot) (x y : Nat) : Option (List Int × Nat) :=
  let a := sh.cfg
  let wall := fr.geom.mode == 1
  let fall : Option (List Int × Nat) :=
    if a.fallback = 1 then some (a.fallbackColour.map (fun n => (n : Int)), effAlpha 1023 a.alpha) else none
  if x < a.dstX ∨ a.dstX + a.dstW ≤ x ∨ y < a.dstY ∨ a.dstY + a.dstH ≤ y then none
  else if sh.fall then fall
  else if sh.index < 32 then
    let px := (List.range 3).map (fun comp => scaleSample a (x - a.dstX) (y - a.dstY) (fun u v => s.srcSample fr sh comp u v))
    if px.all Option.isSome then
      some (a.colour ((s.rxFlow a.source).sampling == 3) wall fr.geom.colorimetry (px.map (fun o => o.getD 0)), effAlpha 1023 a.alpha)
    else fall
  else
    let p := sh.front.get [0, 0, 0, 0] ((y - a.dstY) * a.dstW + (x - a.dstX))
    let v (n : Nat) : Nat := gfxTen a.gfxFormat (p.getD n 0)
    some (a.colour true wall fr.geom.colorimetry [(v 0 : Int), (v 1 : Int), (v 2 : Int)], effAlpha (v 3) a.alpha)

/-- Stage 5 of one canopy pixel. -/
def State.composePixel (s : State) (fr : CanFrame) (x y : Nat) : List Int :=
  fr.layers.foldl (fun bg sh => match s.layerPixel fr sh x y with
    | none => bg
    | some (fg, a) => blend a fg bg) (fr.look.background.map (fun n => (n : Int)))

/-- Source lines that destination line `y` of a video layer reads. -/
def LayerCfg.linesRead (a : LayerCfg) (y : Nat) : List Nat :=
  if a.cropH = a.dstH ∧ a.cropW = a.dstW then [a.cropY + (y - a.dstY)]
  else
    let n := match a.vCoefs with | some t => (t.getD 0 []).length | none => taps a.cropH a.dstH
    let ip := scaleIp a.cropY a.cropH a.dstH (y - a.dstY)
    ((List.range n).map (fun e => (clip (ip - ((n / 2 : Nat) - 1) + e) a.cropY ((a.cropY + a.cropH : Nat) - 1)).toNat)).dedup

/-- Source lines that destination line `y` of a layer of a source reads: those of its taps, and of 4:2:0 the lines of the chroma rows beside
them (R184). -/
def RxFlow.linesRead (f : RxFlow) (a : LayerCfg) (y : Nat) : List Nat :=
  let ls := a.linesRead y
  if f.sampling = 0 then (ls.flatMap (fun l => [l, chromaLine f.height l])).dedup else ls

/-- A layer has pixels in columns x0 … x1 − 1. -/
def LayerCfg.coversColumns (a : LayerCfg) (x0 x1 : Nat) : Bool := a.dstX < x1 && x0 < a.dstX + a.dstW
/-- Live video layers of a frame that are not in fallback. -/
def CanFrame.liveShots (fr : CanFrame) : List LayerShot :=
  fr.layers.filter (fun sh => sh.index < 32 && !sh.deferred && !sh.fall)

/-- Canopy lines from y0 up to y1 that a layer covers. -/
def LayerCfg.coverLines (a : LayerCfg) (y0 y1 : Nat) : List Nat :=
  ((List.range (y1 - y0)).map (fun d => y0 + d)).filter (fun y => a.dstY ≤ y && y < a.dstY + a.dstH)

/-- Held lines that the live layers use in lines y0 … y1 − 1 of columns x0 … x1 − 1, as layer × 65,536 + line (R210). -/
def State.heldLines (s : State) (fr : CanFrame) (y0 y1 x0 x1 : Nat) : List Nat :=
  ((fr.liveShots).filter (fun sh => sh.cfg.coversColumns x0 x1)).flatMap (fun sh => (sh.cfg.coverLines y0 y1).flatMap (fun y =>
    (((s.rxFlow sh.cfg.source).linesRead sh.cfg y).filter (fun l => (s.lineData fr sh l).2)).map (fun l => sh.index * 65536 + l)))

/-- Every source line that lines y0 … y1 − 1 of columns x0 … x1 − 1 read is available or past its deadline (R235, R160). -/
def State.linesDue (s : State) (fr : CanFrame) (y0 y1 x0 x1 : Nat) : Bool :=
  ((fr.liveShots).filter (fun sh => sh.cfg.coversColumns x0 x1)).all (fun sh =>
    let f := s.rxFlow sh.cfg.source
    (sh.cfg.coverLines y0 y1).all (fun y => (f.linesRead sh.cfg y).all (fun l =>
      decide (f.lineDeadline f.grid fr.g l ≤ s.now) || ((f.liveFrame fr.g).bind (fun x => x.lineAt.find l)).isSome)))

/-! ### Stage 6: lamp correction (R222–R226) -/

/-- Entry index of a canopy pixel (R222). -/
def lampIndex (base x y : Nat) : Nat := (base + y / 128) * 2097152 + (y % 128) * 16384 + x

/-- The entry of an index; none when it reads as unwritten or with an uncorrectable error (R226). -/
def lampFind (table : Tab LampRegion) (i : Nat) : Option Nat :=
  (table.find (i / 2097152)).bind (fun t =>
    let e := t.entries.get 0 (i % 2097152)
    if e < two32 ∧ !t.lost.contains (i % 2097152 / 16384) then some e else none)

/-- An entry; one that cannot be read acts as MODE 3 (R226). -/
def lampEntry (table : Tab LampRegion) (base x y : Nat) : Nat := (lampFind table (lampIndex base x y)).getD 0xC0000000

def lampMode (e : Nat) : Nat := e / 2 ^ 30 % 4
/-- Gain of component k of (G, B, R). -/
def lampGain (e k : Nat) : Nat := match k with
  | 0 => e / 1024 % 1024
  | 1 => e % 1024
  | _ => e / 2 ^ 20 % 1024
/-- `corr` of R224. -/
def lampCorr (e k v : Nat) : Nat := min ((v * lampGain e k + 256) / 512) 1023

/-- R224 for one component of one pixel; `px` gives the blended values. -/
def lampOut (table : Tab LampRegion) (look : CanopyLook) (w h k x y : Nat) (px : Nat → Nat → Nat) : Nat :=
  let e := lampEntry table look.lampBase x y
  if lampMode e = 1 ∨ lampMode e = 2 then 0
  else
    let base := if lampMode e = 3 then px x y else lampCorr e k (px x y)
    let around := (if 0 < x then [(x - 1, y)] else []) ++ (if x + 1 < w then [(x + 1, y)] else []) ++
      (if 0 < y then [(x, y - 1)] else []) ++ (if y + 1 < h then [(x, y + 1)] else [])
    let add := (around.map (fun q =>
      let eq := lampEntry table look.lampBase q.1 q.2
      if lampMode eq = 1 then lampCorr eq k (px q.1 q.2) * look.share / 1024 else 0)).sum
    min (base + add) 1023

/-! ### Stages 7 and 8 -/

/-- A composed sample. -/
def CanFrame.composedAt (c : CanFrame) (plane x y : Nat) : Int := (c.composed.get [] (plane * 65536 + y)).getD x 0

/-- Lamp correction runs in this frame. -/
def CanFrame.lampOn (c : CanFrame) : Bool := c.geom.mode == 1 && c.look.lamp

/-- Stage 6 output, or stage 5 where no lamp correction is on. -/
def CanFrame.finished (c : CanFrame) (plane x y : Nat) : Int :=
  if c.lampOn then
    (lampOut c.lamp c.look c.geom.width c.geom.height plane x y (fun u v => (c.composedAt plane u v).toNat) : Nat)
  else c.composedAt plane x y

/-- Chroma downsampled to the canopy format (R185). -/
def CanFrame.downChroma (c : CanFrame) (plane x y : Nat) : Int :=
  let g := c.geom
  let hor (y : Nat) : Int :=
    if g.format ≤ 2 then
      let at_ (i : Int) : Int := c.finished plane (edge g.width i) y
      (at_ (2 * (x : Int) - 1) + 2 * at_ (2 * (x : Int)) + at_ (2 * (x : Int) + 1) + 2) / 4
    else c.finished plane x y
  if g.format ≤ 1 then (hor (edge g.height (2 * (y : Int))) + hor (edge g.height (2 * (y : Int) + 1)) + 1) / 2 else hor y

/-- The stored value: 8 bits for a 4:2:0 8-bit canopy (R185). -/
def storeSample (format plane : Nat) (v : Int) : Nat :=
  if format = 0 then
    let r := min ((v + 2) / 4) 254
    (if plane = 0 then max 1 r else r).toNat
  else v.toNat

/-- Samples x0 … x1 − 1 of one line of a plane as they are written (R170, R183 stage 8). -/
def CanFrame.lineOut (c : CanFrame) (plane y x0 x1 : Nat) : List Nat :=
  (List.range (x1 - x0)).map (fun d =>
    storeSample c.geom.format plane (if plane = 0 then c.finished 0 (x0 + d) y else c.downChroma plane (x0 + d) y))

/-- Put `row` at column `x0` of a stored line. -/
def putRow {α : Type} (t : Tab (List α)) (key x0 : Nat) (zero : α) (row : List α) : Tab (List α) :=
  let old := t.get [] key
  t.set key ((old ++ List.replicate (x0 - old.length) zero).take x0 ++ row ++ old.drop (x0 + row.length))

/-! ### Bands and sections (R169, R234) -/

/-- CTU rows, or bands, of a frame. -/
def CanFrame.rows (c : CanFrame) : Nat := cdiv c.geom.height c.band
/-- Band sections of a frame. -/
def CanFrame.sections (c : CanFrame) : Nat := cdiv c.geom.width 512

def State.frame (s : State) (k num : Nat) : Option CanFrame := (s.canopy k).frames.find? (fun c => c.num = num)
def State.modFrame (s : State) (k num : Nat) (f : CanFrame → CanFrame) : State :=
  s.modCanopy k (fun c => { c with frames := c.frames.map (fun x => if x.num = num then f x else x) })

/-- Lines that a COMPOSE_SECTION of band r composites: the band's own, with the guard lines of a lamp-corrected frame (R235). -/
def CanFrame.composeRange (c : CanFrame) (r : Nat) : Nat × Nat :=
  let y0 := r * c.band
  let y1 := min c.geom.height (y0 + c.band)
  if c.lampOn then (y0 - 1, min c.geom.height (y1 + 1)) else (y0, y1)

/-- A layer of the frame in fallback touches lines y0 … y1 − 1 of columns x0 … x1 − 1. -/
def CanFrame.fallsIn (c : CanFrame) (y0 y1 x0 x1 : Nat) : Bool :=
  c.layers.any (fun sh => sh.fall && sh.cfg.coversColumns x0 x1 && !(sh.cfg.coverLines y0 y1).isEmpty)

/-- Stages 1–5 of a band section (COMPOSE_SECTION); held lines are counted once in a frame (R210, R216). -/
def State.composeSection (s : State) (k num r sec : Nat) : State :=
  match s.frame k num with
  | none => s
  | some c =>
    let (y0, y1) := c.composeRange r
    let x0 := 512 * sec
    let x1 := min c.geom.width (x0 + 512)
    let fresh := ((s.heldLines c y0 y1 x0 x1).filter (fun e => !c.heldSet.contains e)).dedup
    let touched := !(s.heldLines c y0 y1 x0 x1).isEmpty || c.fallsIn y0 y1 x0 x1
    let rows := (List.range (y1 - y0)).map (fun d =>
      (y0 + d, (List.range (x1 - x0)).map (fun e => s.composePixel c (x0 + e) (y0 + d))))
    let store := rows.foldl (fun t row => [0, 1, 2].foldl
      (fun t p => putRow t (p * 65536 + row.1) x0 0 (row.2.map (fun px => px.getD p 0))) t) c.composed
    let s1 := s.modFrame k num (fun x => { x with
      composed := store, heldSet := x.heldSet ++ fresh, composeDone := (r * 32 + sec) :: x.composeDone,
      faultBands := if touched then (r :: x.faultBands).dedup else x.faultBands })
    fresh.foldl (fun s e => s.modLayer (e / 65536) (fun l => { l with heldLines := satAdd 32 l.heldLines 1 })) s1

/-- Regions whose unreadable entries lines y0 … y1 − 1 use (R226). -/
def CanFrame.lampFaultRegions (c : CanFrame) (y0 y1 x0 x1 : Nat) : List Nat :=
  if c.lampOn then
    (((List.range (y1 - y0)).filter (fun d => (List.range (x1 - x0)).any (fun x =>
      (lampFind c.lamp (lampIndex c.look.lampBase (x0 + x) (y0 + d))).isNone))).map
        (fun d => c.look.lampBase + (y0 + d) / 128)).dedup
  else []

/-- Stages 6–8 of a band section (FINISH_SECTION); LAMP_REGION_FAULT once per region and frame (R226). -/
def State.finishSection (s : State) (k num r sec : Nat) : State :=
  match s.frame k num with
  | none => s
  | some c =>
    let g := c.geom
    let y0 := r * c.band
    let y1 := min g.height (y0 + c.band)
    let x0 := 512 * sec
    let x1 := min g.width (x0 + 512)
    let bad := c.lampFaultRegions y0 y1 x0 x1
    let faults := bad.filter (fun e => !c.lampFaults.contains e)
    let half (p n : Nat) : Nat := if p = 0 ∨ g.format ≥ 2 then n else n / 2
    let halfW (p n : Nat) : Nat := if p = 0 ∨ g.format ≥ 3 then n else n / 2
    let out := [0, 1, 2].foldl (fun t p =>
      (List.range (half p y1 - half p y0)).foldl (fun t d =>
        let y := half p y0 + d
        putRow t (p * 65536 + y) (halfW p x0) 0 (c.lineOut p y (halfW p x0) (halfW p x1))) t) c.frame
    let s1 := s.modFrame k num (fun x => { x with
      frame := out, lampFaults := x.lampFaults ++ faults, finishDone := (r * 32 + sec) :: x.finishDone,
      faultBands := if bad.isEmpty then x.faultBands else (r :: x.faultBands).dedup })
    faults.foldl (fun s e => s.raise 0x0405 (canopyId k) e 0) s1

/-- Every band section has been composited, or finished. -/
def CanFrame.composedAll (c : CanFrame) : Bool := c.composeDone.dedup.length == c.rows * c.sections
def CanFrame.finishedAll (c : CanFrame) : Bool := c.finishDone.dedup.length == c.rows * c.sections

/-- LAYER_SUBSTITUTED when the last band has been composited (R216). -/
def State.frameComposed (s : State) (k num : Nat) : State :=
  match s.frame k num with
  | none => s
  | some c =>
    let used := c.heldSet.length
    let before := (s.canopy k).prevHeldUsed
    let s1 := s.modCanopy k (fun x => { x with prevHeldUsed := used })
    if used ≠ 0 ∧ before = 0 then s1.raise 0x0403 (canopyId k) (c.g % two32) used else s1

/-- Luma activity of the canopy samples in a rectangle: differences of adjacent pairs inside it (R338). -/
def CanFrame.activity (c : CanFrame) (x0 x1 y0 y1 : Nat) : Nat :=
  let v (x y : Nat) : Int := (((c.frame.get [] y).getD x 0 : Nat) : Int)
  ((List.range (y1 - y0)).map (fun j => ((List.range (x1 - x0)).map (fun i =>
    let x := x0 + i
    let y := y0 + j
    (if x + 1 < x1 then (v x y - v (x + 1) y).natAbs else 0) + (if y + 1 < y1 then (v x y - v x (y + 1)).natAbs else 0))).sum)).sum

/-! ### Source frames in use (03 R163) -/

/-- A canopy frame still composites from a frame of a source. -/
def State.readsFrame (s : State) (flow : Nat) (x : Frame) (k : Nat) : Bool :=
  (s.canopy k).frames.any (fun c => !c.composedAll && c.layers.any (fun sh => sh.index < 32 && sh.cfg.source == flow &&
    ((sh.held.map Frame.id) == some x.id || (!sh.deferred && c.g == x.grid))))

/-- A source's frames with their readers of now; a frame that is past its deadline and that nothing reads leaves its buffer, and only its
timestamp stays known (R163, R166). -/
def State.refreshReaders (s : State) (flow : Nat) : State :=
  s.modRx flow (fun f =>
    let frames := f.frames.map (fun x => { x with readers := (List.range 16).filter (fun k => s.readsFrame flow x k) })
    let stays (x : Frame) : Bool := f.awaits x || decide (s.now < x.due) || !x.readers.isEmpty
    let gone := (frames.filter (fun x => !stays x)).map (fun x => (x.stamp, x.due))
    { f with frames := frames.filter stays, past := gone ++ f.past.filter (fun e => s.now < e.2 + stampSpan && !gone.contains e) })

/-- The same for every source of a canopy. -/
def State.refreshCanopy (s : State) (k : Nat) : State :=
  let flows := ((s.canopy k).frames.flatMap (fun c => (c.layers.filter (fun sh => sh.index < 32)).map (fun sh => sh.cfg.source))).dedup
  flows.foldl (fun s f => s.refreshReaders f) s

/-- A frame deadline passes (03 R161, R163): the period is declared and its buffers looked over. -/
def execFrameDeadline (flow : Nat) (s : State) : Out :=
  need (flow < 256) <| (s.frameDeadlinePassed flow).refreshReaders flow

end Sys2Proof.Machine
end

