-- ==== Sys2Proof/Machine/ComposeOps.lean ====
section
/-!
DEFINITION. The composition opcodes of *Command reference* (0x0301–0x0307, SOURCE_STATUS) with the ends of uploads and lamp loads:
04 R167–R182, R187, R188, R193–R196, R200–R209, R212, R217–R221, R223, R227–R232, R695–R697, R700.
-/
set_option Elab.async false
namespace Sys2Proof.Machine

open Sys2Proof

/-! ### Layers and their charges -/

/-- Layers bound to a canopy in active state. -/
def State.boundActive (s : State) (k : Nat) : List Nat := (List.range 64).filter (fun i => (s.layer i).active.canopy == some k)
/-- Layers bound to a canopy in shadow state. -/
def State.boundShadow (s : State) (k : Nat) : List Nat := (List.range 64).filter (fun i => (s.layer i).shadow.canopy == some k)
/-- Layers bound in active or shadow state. -/
def State.bound (s : State) (k : Nat) : List Nat :=
  (List.range 64).filter (fun i => (s.layer i).active.canopy == some k || (s.layer i).shadow.canopy == some k)

/-- A layer's share of the layers term, in eighths of a byte (R39, R177). -/
def State.layerBits (s : State) (i : Nat) (l : LayerCfg) : Nat :=
  if 32 ≤ i then l.dstW * l.dstH * (if l.gfxFormat = 0 then 32 else 64)
  else
    let f := s.rxFlow l.source
    f.width * f.height * bpp8 (rxFormat f.sampling f.depth)

/-- The program of a canopy codes in VVC; a program without configuration counts as VVC (log entry 21). -/
def State.isVvc (s : State) (k : Nat) : Bool := ((s.prog k).cfg.map ProgCfg.codec).getD 0 == 0

/-- The memory-bandwidth charge of a canopy's program: the larger of active and shadow (R39, R209); `alt` stands for one layer's
shadow state. -/
def State.progLoad (s : State) (k : Nat) (alt : Option (Nat × LayerCfg)) : Nat :=
  let c := s.canopy k
  let g := c.geom
  let sh (i : Nat) : LayerCfg := match alt with
    | some (j, l) => if i = j then l else (s.layer i).shadow
    | none => (s.layer i).shadow
  let act := ((s.boundActive k).map (fun i => s.layerBits i (s.layer i).active)).sum
  let shd := (((List.range 64).filter (fun i => (sh i).canopy == some k)).map (fun i => s.layerBits i (sh i))).sum
  let vvc := s.isVvc k
  max (progCharge g.width g.height g.format g.rate vvc c.look.lamp act)
    (progCharge g.width g.height g.format g.rate vvc c.shadowLook.lamp shd)

/-- The charge that a program holds for memory bandwidth. -/
def State.progHeld (s : State) (k : Nat) : Option Nat :=
  (s.charges.find? (fun c => c.owner = progId k && c.slot = 0 && c.res = 2)).map Charge.amount

/-- A program's memory-bandwidth charge follows its layers and lamp correction (R209). -/
def State.recharge (s : State) (k : Nat) : State :=
  let n := s.progLoad k none
  let cs := s.charges.map (fun c => if c.owner = progId k ∧ c.slot = 0 ∧ c.res = 2 then { c with amount := n } else c)
  { s with charges := cs }

/-- Size and format of a graphic layer's buffers, while it is bound. -/
def LayerCfg.gfxGeom (l : LayerCfg) : Option (Nat × Nat × Nat) := l.canopy.map (fun _ => (l.dstW, l.dstH, l.gfxFormat))
/-- Bytes of a pair of graphic buffers (R176). -/
def pairBytes (w h fmt : Nat) : Nat := 2 * (w * h * (if fmt = 0 then 4 else 8))

/-! ### Uploads -/

/-- An armed COMMIT holds a completed upload of the layer (R220). -/
def State.uploadArmed (s : State) (i : Nat) : Bool :=
  s.comp.canopies.any (fun e => e.2.copies.any (fun x => x.2.2.uploads.contains i))

/-- Every accepted LAYER_UPLOAD of a layer ends with OK_ABORTED (R697). -/
def State.endUploads (s : State) (i : Nat) : State :=
  let cs := s.hif.cmds.filter (fun c => c.opcode = 0x0303 && c.layerIdx = i)
  (cs.foldl (fun s c => s.complete c 5 0) s).modLayer i (fun l => { l with uploading := none })

/-- Buffers that an upload accepted now would be written to: those of shadow, else those of active state (R697). -/
def Layer.uploadGeom (l : Layer) : Option (Nat × Nat × Nat) := l.shadow.gfxGeom.orElse (fun _ => l.active.gfxGeom)

/-- The next upload of a layer that waits begins (R217, R220); it waits while another runs or an armed COMMIT holds one. A completed upload
that still stands in the back buffer is discarded. -/
def State.kickUpload (s : State) (i : Nat) : State :=
  let l := s.layer i
  match s.hif.cmds.find? (fun c => c.opcode = 0x0303 && c.layerIdx = i && c.phase == .started && !c.armed) with
  | none => s
  | some c =>
    if l.uploading.isSome ∨ s.uploadArmed i then s
    else match l.uploadGeom with
      | none => s.complete c 5 0
      | some _ =>
        let copy := c.u 20 1 = 1
        s.modLayer i (fun l =>
          let l1 := { l with uploading := some (c.q, c.seq), pending := false, backOf := none, before := some (l.newPair.getD l.back, l.pending) }
          match l.newPair with
          | some b => { l1 with newPair := some (if copy then [] else b) }
          | none => { l1 with back := if copy then l.front else l.back })

/-! ### Publishing -/

/-- A layer leaves its fallback when its source or canopy changes (R212). -/
def State.leaveFallback (s : State) (i g : Nat) : State :=
  let was := (s.layer i).inFallback
  let s1 := s.modLayer i (fun l => { l with underruns := 0, fallDue := false, inFallback := false, returnDue := false })
  if was then s1.raise 0x0402 (layerId i) g 0 else s1

/-- Buffers of a graphic layer when `cfg` is published: `pair` a new pair with its back buffer as it was copied, `upload` a
completed upload with it (R217, R218, R697). The back buffer of a new pair is the second in its pages (log entry 141). -/
def Layer.publishBuffers (l : Layer) (pair : Option GfxBuf) (upload replaced : Bool) : Layer :=
  match pair with
  | some p =>
    let front := if upload then p else []
    let back := if replaced then [] else if upload then [] else l.newPair.getD []
    { l with
      front := front, back := back, newPair := if replaced then l.newPair else none,
      frontSecond := upload, pairs := l.pairs + 1, pending := l.pending && (replaced || !upload), lost := l.lost && !upload }
  | none =>
    if upload then
      { l with front := l.back, back := l.front, frontSecond := !l.frontSecond, pending := l.pending && l.newPair.isSome, lost := false }
    else l

/-- A layer's parameters become active, with a new pair of buffers or a completed upload where the commit holds one; `g` is the
instant. The pair that it replaces is released (R34, R697). `slot` holds the pages of the new pair: 1 shadow state, 4 a pair that an armed
COMMIT has kept from a later one. -/
def State.publishLayer (s : State) (i : Nat) (cfg : LayerCfg) (pair : Option GfxBuf) (slot : Nat) (upload : Bool) (g : Nat) : State :=
  let old := (s.layer i).active
  let id := layerId i
  let s1 := if old.canopy ≠ cfg.canopy ∨ old.source ≠ cfg.source then s.leaveFallback i g else s
  let replaced := slot == 4
  let s2 := s1.modLayer i (fun l => { l.publishBuffers pair upload replaced with active := cfg })
  let s3 := if pair.isSome then (s2.releaseSlot id 0).reslot id slot 0 else s2
  let s4 :=
    if cfg.canopy.isNone ∧ old.canopy.isSome ∧ 32 ≤ i then
      let s5 := (s3.releaseSlot id 0).modLayer i (fun l => { l with front := [], back := [], backOf := none, frontSecond := false, lost := false })
      if (s5.layer i).shadow.canopy.isNone then s5.endUploads i else s5
    else s3
  s4.kickUpload i

/-- The active background and lamp settings change; turning lamp correction off releases the free staging blocks (R228). -/
def State.publishLook (s : State) (k : Nat) (l : CanopyLook) : State :=
  let c := s.canopy k
  let s1 := s.modCanopy k (fun c => { c with look := l })
  if c.look.lamp ∧ !l.lamp then (s1.dropBlocks k c.freeBlocks).modCanopy k (fun c => { c with freeBlocks := 0 }) else s1

/-- The page of a region's block that holds its entries from 16,384 · p on (R228; 11 R474). -/
def LampRegion.page (t : LampRegion) (r p : Nat) : Nat × Nat :=
  if t.pages.isEmpty then ((r * 128 + p) % 32, (r * 128 + p) / 32) else t.pages.getD p (0, 0)
/-- A word of a region's page: two entries, the first in its low half (R222). -/
def LampRegion.word (t : LampRegion) (p i : Nat) : Nat :=
  t.entries.get 0 (p * 16384 + 2 * i) + t.entries.get 0 (p * 16384 + 2 * i + 1) * two32
/-- A load writes the entries of a region to its block. -/
def State.writeRegion (s : State) (r : Nat) (t : LampRegion) : State :=
  (List.range 128).foldl (fun s p => (List.range 8192).foldl (fun s i => s.ownWrite (t.page r p) (8 * i) (eccEncode (t.word p i) 1)) s) s
/-- Loaded regions come into use; the blocks they replace become free staging blocks (R228). -/
def State.swapRegions (s : State) (k : Nat) (r : Tab LampRegion) : State :=
  let t := r.foldl (fun t e => Tab.set t e.1 e.2) s.comp.lampTable
  let old (e : Nat × LampRegion) : List (Nat × Nat) :=
    (List.range 128).map (fun p => (s.comp.lampTable.get {} e.1).page e.1 p)
  let free (x : Reservation) : Reservation :=
    match r.find? (fun e => x.owner == canopyId k && x.slot == 2 && e.2.pages == x.pages) with
    | some e => { x with pages := old e }
    | none => x
  let rs := s.mem.reservations.map free
  { s with comp := { s.comp with lampTable := t }, mem := { s.mem with reservations := rs } }.modCanopy k (fun c => { c with freeBlocks := c.freeBlocks + r.length })

/-- Copy of a canopy's shadow state (R201); what it holds of uploads and loads leaves shadow with it. -/
def State.takeCopy (s : State) (k : Nat) : CommitCopy × State :=
  let c := s.canopy k
  let ls := s.bound k
  let gfx := ls.filter (fun i => decide (32 ≤ i))
  let copy : CommitCopy := {
    canopy := k, look := c.shadowLook, layers := ls.map (fun i => (i, (s.layer i).shadow)),
    uploads := gfx.filter (fun i => (s.layer i).pending),
    pairs := gfx.filterMap (fun i => (s.layer i).newPair.map (fun b => (i, b))),
    regions := c.staged }
  let s1 := s.modCanopy k (fun c => { c with staged := [] })
  (copy, gfx.foldl (fun s i => s.modLayer i (fun l => { l with pending := false })) s1)

/-- A commit's copy of one canopy takes effect at instant `g` (R206). -/
def State.applyCopy (s : State) (c : CommitCopy) (g : Nat) : State :=
  let s1 := (s.swapRegions c.canopy c.regions).publishLook c.canopy c.look
  let s2 := c.layers.foldl (fun s e =>
    let slot := if s.charges.any (fun x => x.owner = layerId e.1 && x.slot = 4) then 4 else 1
    s.publishLayer e.1 e.2 ((c.pairs.find? (fun p => p.1 = e.1)).map Prod.snd) slot (c.uploads.contains e.1) g) s1
  s2.recharge c.canopy

/-! ### CANOPY_CONFIG -/

def Cmd.canopyGeom (c : Cmd) : CanopyGeom :=
  { mode := c.u 1 1, format := c.u 2 1, rate := c.u 3 1, width := c.u 4 2, height := c.u 6 2, offset := c.u 8 4,
    colorimetry := c.u 12 1, transfer := c.u 13 1 }
def Cmd.canopyLook (c : Cmd) : CanopyLook :=
  { background := [c.u 16 2, c.u 18 2, c.u 20 2], lamp := c.u 14 1 = 1, lampBase := c.u 15 1, share := c.u 22 2 }

/-- Regions that a wall canopy uses (R223): first and count. -/
def lampRange (g : CanopyGeom) (l : CanopyLook) : Option (Nat × Nat) :=
  if g.mode = 1 ∧ l.lamp then some (l.lampBase, g.height / 128) else none

def overlap (a b : Option (Nat × Nat)) : Bool :=
  match a, b with
  | some x, some y => decide (x.1 < y.1 + y.2 ∧ y.1 < x.1 + x.2)
  | _, _ => false

/-- A component lies outside the canopy's range (R199). -/
def offRange (wall : Bool) (v : Nat) : Bool := if wall then 1023 < v else v < 4 || 1019 < v

/-- AUTO is not permitted for a layer in a canopy (R187). -/
def State.badAuto (s : State) (i : Nat) (l : LayerCfg) (colorimetry transfer : Nat) : Bool :=
  if l.matrix ≠ 0 then false
  else if 32 ≤ i then l.gfxColorimetry != colorimetry
  else
    let f := s.rxFlow l.source
    f.isOpen && (f.colorimetry != colorimetry || f.transfer != transfer)

/-- Range offences of CANOPY_CONFIG's own fields (R167, R199, R407, R666). -/
def Cmd.badCanopyFields (c : Cmd) : List (Nat × Bool) :=
  let wall := c.u 1 1 = 1
  let w := c.u 4 2
  let h := c.u 6 2
  let lamp := c.u 14 1
  [c.outside 0 1 0 1, (1, c.u 1 1 > 1 || (c.u 2 1 ≤ 4 && wall != (c.u 2 1 == 4))), c.outside 2 1 0 4,
   (3, c.u 3 1 > 13 || (c.u 3 1 == 13 && (wall || w > 4096 || h > 2160))),
   (4, if wall then w < 512 || w > 16384 || w % 128 != 0 else w < 256 || w > 8192 || w % 8 != 0),
   (6, if wall then h < 256 || h > 8192 || h % 128 != 0 else h < 128 || h > 4320 || h % 8 != 0),
   (8, c.u 3 1 ≤ 13 && (gridOf (c.u 3 1) 0).period ≤ c.u 8 4),
   c.outside 12 1 0 1, c.outside 13 1 0 2, (14, lamp > (if wall then 1 else 0)), (15, c.u 15 1 > (if lamp = 1 then 63 else 0)),
   (16, offRange wall (c.u 16 2)), (18, offRange wall (c.u 18 2)), (20, offRange wall (c.u 20 2)),
   (22, c.u 22 2 > (if lamp = 1 then 256 else 0))]

/-- Offences against other canopies' lamp ranges and the layers bound (R223, R696). -/
def State.badCanopyRelations (s : State) (c : Cmd) : List (Nat × Bool) :=
  let g := c.canopyGeom
  let r := lampRange g c.canopyLook
  let clash := (List.range 16).any (fun j => j != c.idx &&
    (overlap r (lampRange (s.canopy j).geom (s.canopy j).look) || overlap r (lampRange (s.canopy j).geom (s.canopy j).shadowLook)))
  let cfgs := (List.range 64).flatMap (fun i =>
    ([(s.layer i).active, (s.layer i).shadow].filter (fun l => l.canopy == some c.idx)).map (fun l => (i, l)))
  [(6, r.any (fun x => 64 < x.1 + x.2) || clash),
   (4, cfgs.any (fun e => g.width < e.2.dstX + e.2.dstW)), (6, cfgs.any (fun e => g.height < e.2.dstY + e.2.dstH)),
   (1, cfgs.any (fun e => s.badAuto e.1 e.2 g.colorimetry g.transfer ||
     (e.2.fallback == 1 && e.2.fallbackColour.any (offRange (g.mode == 1)))))]

/-- A source is bound to the canopy (R158). -/
def State.sourceBound (s : State) (k : Nat) : Bool := s.rx.any (fun e => e.2.bound == some k)

/-- A COMMIT that names the canopy is accepted and not complete (R695). -/
def State.commitOpen (s : State) (k : Nat) : Bool :=
  s.hif.cmds.any (fun d => d.opcode == 0x0304 && d.objects.contains (canopyId k))

/-- R167, R168, R411, R666, R695, R696. -/
def checkCanopyConfig (s : State) (c : Cmd) : Verdict :=
  let k := s.canopy c.idx
  let run := c.u 0 1 = 1
  let g := c.canopyGeom
  let p := s.prog c.idx
  let active := p.running || p.starting
  firstOf [badRange (c.badCanopyFields ++ s.badCanopyRelations c),
    badState (active && (!run || (k.nextGeom.getD k.geom) != g)) (progId c.idx),
    badState (k.configured && g.rate != k.geom.rate && s.sourceBound c.idx) c.object,
    badState (s.commitOpen c.idx && (run != k.running || g.rate != k.geom.rate || g.offset != k.geom.offset)) c.object,
    badState (run && !k.running && (s.tb 0).state = 0) (tbId 0)]

/-- The grid of a canopy changed: bound sources move with it (R158, R693). -/
def State.moveSources (s : State) (k : Nat) : State :=
  let g := (s.canopy k).geom
  let gr := gridOf g.rate g.offset
  { s with rx := s.rx.map (fun (e : Nat × RxFlow) =>
      if e.2.bound = some k ∧ e.2.grid ≠ gr then (e.1, e.2.bindTo k gr s.now) else e) }

/-- Geometry takes effect; another mode or size discards the tiling (R231). -/
def State.setGeom (s : State) (k : Nat) (g : CanopyGeom) : State :=
  let old := (s.canopy k).geom
  let keep := old.mode = g.mode ∧ old.width = g.width ∧ old.height = g.height
  ((s.modCanopy k (fun c => { c with geom := g, nextGeom := none, tiling := if keep then c.tiling else [] })).moveSources k).recharge k

/-- The next grid instant after now and the remainder of the grid generator (R408). -/
def State.aimGrid (s : State) (k : Nat) : State :=
  let g := (s.canopy k).geom
  let gr := gridOf g.rate g.offset
  let k0 := gr.firstAfter s.now
  s.modCanopy k (fun c => { c with g := gr.at k0, rem := k0 * 1000000000 * gr.den % gr.num })

/-- The canopy starts on its grid (R408, R696). -/
def State.startCanopy (s : State) (k : Nat) : State :=
  (s.aimGrid k).modCanopy k (fun c => { c with running := true, stopping := false, frameCount := 0, prevHeldUsed := 0 })

/-- R205, R696: what takes effect at once, and what waits for a clearing. -/
def effCanopyConfig (c : Cmd) (s : State) : State :=
  let i := c.idx
  let k := s.canopy i
  let run := c.u 0 1 = 1
  let g := c.canopyGeom
  let both := !k.configured || c.clearing
  let s1 := s.modCanopy i (fun x => { x with configured := true, shadowLook := c.canopyLook })
  let s2 := if both then s1.publishLook i c.canopyLook else s1
  if !k.running then
    let s3 := s2.setGeom i g
    (if run then s3.startCanopy i else s3).ok c
  else if run ∧ (k.nextGeom.getD k.geom) = g ∧ !k.stopping then (s2.recharge i).ok c
  else
    let s3 := s2.modCanopy i (fun x => { x with nextGeom := some g, stopping := !run })
    (s3.recharge i).modCmd c.q c.seq (fun d => { d with phase := .committed, armed := true })
def execCanopyConfig (q seq : Nat) (s : State) : Out := opOut q (s.runOp 0x0301 q seq effCanopyConfig)

/-! ### LAYER_SET -/

/-- `n` signed 16-bit values from an offset. -/
def Cmd.signedList (c : Cmd) (off n : Nat) : List Int := (List.range n).map (fun k => c.i (off + 2 * k) 2)

/-- The parameters of a LAYER_SET; coefficient sets stay those of the layer. -/
def Cmd.layerCfg (c : Cmd) (old : LayerCfg) : LayerCfg :=
  if c.u 0 4 = 0 then { hCoefs := old.hCoefs, vCoefs := old.vCoefs }
  else {
    canopy := some (c.u 0 4 % 16777216), source := c.u 4 4 % 16777216, cropX := c.u 8 2, cropY := c.u 10 2, cropW := c.u 12 2,
    cropH := c.u 14 2, dstX := c.u 16 2, dstY := c.u 18 2, dstW := c.u 20 2, dstH := c.u 22 2, z := c.u 24 1,
    gfxFormat := c.u 25 1, alpha := c.u 26 2, matrix := c.u 28 1, gfxColorimetry := c.u 29 1, holdLimit := c.u 30 1,
    fallback := c.u 31 1, fallbackColour := [c.u 32 2, c.u 34 2, c.u 36 2], coefs := c.signedList 38 9,
    inOffset := c.signedList 56 3, outOffset := c.signedList 62 3, hCoefs := old.hCoefs, vCoefs := old.vCoefs }

/-- Fields of two bytes from an offset. -/
def fields2 (off n : Nat) : List (Nat × Nat) := (List.range n).map (fun k => (off + 2 * k, 2))

/-- Range offences of LAYER_SET's own fields (R174, R175, R188, R654, R700). -/
def Cmd.badLayerFields (c : Cmd) (video : Bool) : List (Nat × Bool) :=
  let canopy := [(0, 4)]
  let vid := [(4, 4), (8, 2), (10, 2), (12, 2), (14, 2), (30, 1)]
  let gfx := [(25, 1), (29, 1)]
  let both := fields2 16 4 ++ [(24, 1), (26, 2), (28, 1), (31, 1)]
  let colour := fields2 32 3
  let matrix := fields2 38 15
  if c.u 0 4 = 0 then c.zeros canopy (vid ++ gfx ++ both ++ colour ++ matrix)
  else
    let explicit := c.u 28 1 = 1
    let cw := c.u 12 2
    let ch := c.u 14 2
    let dw := c.u 20 2
    let dh := c.u 22 2
    [c.outside 24 1 0 15, c.outside 26 2 0 1023, c.outside 28 1 0 1, c.outside 31 1 0 1, (20, decide (dw < 16)), (22, decide (dh < 16))] ++
    (if video then
      [(12, cw < 16 || dw > 16 * cw || cw > 16 * dw), (14, ch < 16 || dh > 16 * ch || ch > 8 * dh)]
     else [c.outside 25 1 0 1, c.outside 29 1 0 1]) ++
    (if explicit then
      (List.range 6).map (fun k => (56 + 2 * k, c.i (56 + 2 * k) 2 < -1024 || c.i (56 + 2 * k) 2 > 1023)) else []) ++
    c.zeros (canopy ++ both ++ (if video then vid else gfx) ++ (if c.u 31 1 = 1 then colour else []) ++ (if explicit then matrix else []))
      ((if video then gfx else vid) ++ (if c.u 31 1 = 1 then [] else colour) ++ (if explicit then [] else matrix))

/-- The tap count of a loaded set. -/
def setTaps (s : CoefSet) : Nat := (s.map (fun t => (t.headD []).length)).getD 0

/-- Offences against the canopy, the source and loaded sets (R171–R174, R187, R193, R199). While an accepted CANOPY_CONFIG's geometry
still waits for its clearing, the canopy's present geometry counts (log entry 166). -/
def State.badLayerRelations (s : State) (c : Cmd) : List (Nat × Bool) :=
  let i := c.layerIdx
  let video := i < 32
  if c.u 0 4 = 0 then []
  else
    let k := c.u 0 4 % 16777216
    let can := s.canopy k
    let l := c.layerCfg (s.layer i).shadow
    let f := s.rxFlow l.source
    let others := ((s.boundShadow k).filter (fun j => j != i)).length
    [s.badObject c 0 2, (0, decide (16 ≤ others))] ++
    (if video then
      [s.badObject c 4 5, (8, f.isOpen && f.width < l.cropX + l.cropW), (10, f.isOpen && f.height < l.cropY + l.cropH),
       (12, taps l.cropW l.dstW < max (setTaps l.hCoefs) (if c.clearing then setTaps (s.layer i).active.hCoefs else 0)),
       (14, taps l.cropH l.dstH < max (setTaps l.vCoefs) (if c.clearing then setTaps (s.layer i).active.vCoefs else 0))]
     else []) ++
    (if can.configured then
      [(16, decide (can.geom.width < l.dstX + l.dstW)), (18, decide (can.geom.height < l.dstY + l.dstH)),
       (28, s.badAuto i l can.geom.colorimetry can.geom.transfer)] ++
      (if l.fallback = 1 then (List.range 3).map (fun n => (32 + 2 * n, offRange (can.geom.mode == 1) (c.u (32 + 2 * n) 2))) else [])
     else [])

/-- R194, R195. -/
def Cmd.badLineBuf (c : Cmd) : Verdict :=
  let cw := c.u 12 2
  let ch := c.u 14 2
  let dh := c.u 22 2
  let lines := 6 + 2 * max 1 (cdiv ch dh)
  let most := ((List.range 8).filter (fun n => cw * (6 + 2 * (n + 1)) ≤ 98304)).length
  verdict ((cw != c.u 20 2 || ch != dh) && cw * lines > 98304) 0x0204 (98304 / lines * 65536 + most)

/-- A new pair of buffers is needed: bound with a size or format that the layer does not have, in shadow state, or in active state where
shadow state has unbound it (R176, R697); or that another LAYER_SET, accepted and still without effect, would take away (log entry 165). -/
def State.needsPair (s : State) (c : Cmd) : Bool :=
  let l := s.layer c.layerIdx
  let geom (d : Cmd) : Option (Nat × Nat × Nat) := (d.layerCfg l.shadow).gfxGeom
  let ahead := s.hif.cmds.filter (fun d => d.opcode == 0x0302 && d.object == c.object && d.phase != .committed)
  32 ≤ c.layerIdx && (geom c).isSome && (geom c != l.uploadGeom || ahead.any (fun d => geom d != geom c))
/-- The charge of the pair that a LAYER_SET reserves. It and the pair's pages stand in slot 6 until the command takes effect, then in
slot 1 while shadow state has the pair, in slot 0 once active state has it; slot 4 holds a pair for an armed COMMIT. -/
def Cmd.pairCharge (c : Cmd) (l : LayerCfg) : Charge :=
  { owner := c.object, slot := 6, res := 3, amount := pairBytes l.dstW l.dstH l.gfxFormat, pos := c.pos }

/-- What a LAYER_SET charges: the new pair of buffers, and the rise of the program's bandwidth (R40, R176, R209). -/
def State.layerCharges (s : State) (c : Cmd) : List Charge :=
  let i := c.layerIdx
  let l := c.layerCfg (s.layer i).shadow
  let pair := if s.needsPair c then [c.pairCharge l] else []
  let rise := match l.canopy with
    | none => []
    | some k => match s.progHeld k with
      | none => []
      | some held =>
        let n := s.progLoad k (some (i, l))
        if held < n then [({ owner := layerId i, slot := 3, res := 2, amount := n - held, pos := c.pos } : Charge)] else []
  rise ++ pair

def State.layerReservation (s : State) (c : Cmd) : List Reservation :=
  if s.needsPair c then
    let l := c.layerCfg (s.layer c.layerIdx).shadow
    [s.newReservation c.object 6 (pairBytes l.dstW l.dstH l.gfxFormat) false (some (c.q, c.seq))]
  else []

def checkLayerSet (s : State) (c : Cmd) : Verdict :=
  let i := c.layerIdx
  let video := i < 32
  let k := c.u 0 4 % 16777216
  let elsewhere (x : Option Nat) : Bool := x.any (fun j => j != k)
  let binds := c.u 0 4 != 0
  firstOf [badRange (c.badLayerFields video ++ s.badLayerRelations c),
    badState (binds && (elsewhere (s.layer i).active.canopy || elsewhere (s.layer i).shadow.canopy)) c.object,
    badState (binds && !(s.canopy k).configured) (c.u 0 4),
    badState (binds && video && !((s.rxFlow (c.u 4 4 % 16777216)).isOpen && (s.rxFlow (c.u 4 4 % 16777216)).kind ≤ 1)) (c.u 4 4),
    if binds ∧ video then c.badLineBuf else none,
    s.badCapacity (fun _ => false) (s.layerCharges c),
    s.badPermit (s.fillPermits (s.layerReservation c) c.pos)]

def acceptLayerSet (c : Cmd) (s : State) : State :=
  let rs := s.layerReservation c
  (rs.foldl State.reserve (s.charge (s.layerCharges c))).grant (s.fillPermits rs c.pos)

/-- The last source line that destination line `y` of a layer uses (R180). -/
def LayerCfg.lastLine (l : LayerCfg) (y : Nat) : Nat :=
  if l.cropH = l.dstH then l.cropY + (y - l.dstY)
  else min (l.cropY + l.cropH - 1) (scaleIp l.cropY l.cropH l.dstH (y - l.dstY) + (taps l.cropH l.dstH / 2 : Nat)).toNat

/-- R180: the mapping of a video layer is causal; `lamp` says whether lamp correction is on in the state that the layer belongs to. -/
def State.causal (s : State) (l : LayerCfg) (lamp : Canopy → Bool) : Bool :=
  match l.canopy with
  | none => true
  | some k =>
    let c := s.canopy k
    let band := if s.isVvc k then 128 else 64
    let guard := if c.geom.mode = 1 ∧ lamp c then 1 else 0
    let hs := (s.rxFlow l.source).height
    (List.range (cdiv c.geom.height band)).all (fun r =>
      let last := min (l.dstY + l.dstH - 1) ((r + 1) * band - 1 + guard)
      let touches := l.dstY ≤ (r + 1) * band - 1 + guard && r * band ≤ l.dstY + l.dstH - 1
      !touches || 2 * (l.lastLine last + 1) * c.geom.height ≤ (2 * r + 3) * band * hs)

/-- Lamp correction of a canopy in active and in shadow state. -/
def Canopy.activeLamp (c : Canopy) : Bool := c.look.lamp
def Canopy.shadowLamp (c : Canopy) : Bool := c.shadowLook.lamp
/-- R179: a video layer reads deferred. -/
def State.deferred (s : State) (i : Nat) (l : LayerCfg) (lamp : Canopy → Bool) : Bool :=
  match l.canopy with
  | none => false
  | some k =>
    let g := (s.canopy k).geom
    let f := s.rxFlow l.source
    let same := f.bound.isSome && f.grid.num * rateDen g.rate == f.grid.den * rateNum g.rate && f.grid.offset == g.offset
    decide (i < 32) && !(same && s.causal l lamp)

/-- The pair that a LAYER_SET reserved and does not need is given back. -/
def State.dropPair (s : State) (c : Cmd) : State :=
  let s1 := (s.uncharge (fun x => x.owner = c.object && x.slot = 6 && x.pos = c.pos)).unpermit (fun p => p.code = 3 && p.pos = c.pos)
  let rs := s1.mem.reservations.filter (fun r => !(r.owner = c.object ∧ r.slot = 6 ∧ r.cmd = some (c.q, c.seq)))
  { s1 with mem := { s1.mem with reservations := rs } }
/-- The pair of a LAYER_SET takes the place of shadow state's pair, which stays only for an armed COMMIT that publishes it (R697). One for
which nothing was reserved at acceptance is reserved now (log entry 165). -/
def State.takePair (s : State) (c : Cmd) (n : LayerCfg) : State :=
  let i := c.layerIdx
  let own (x : Charge) : Bool := x.owner = c.object && x.slot = 6 && x.pos = c.pos
  let s1 := if s.charges.any own ∨ n.canopy.isNone then s
    else (s.charge [c.pairCharge n]).reserve
      (s.newReservation c.object 6 (pairBytes n.dstW n.dstH n.gfxFormat) false (some (c.q, c.seq)))
  let held := s1.comp.canopies.any (fun e => e.2.copies.any (fun x => x.2.2.pairs.any (fun p => p.1 = i)))
  let s2 := if held then s1.reslot c.object 1 4 else s1.releaseSlot c.object 1
  let cs := s2.charges.map (fun x => if own x then { x with slot := 1 } else x)
  let rs := s2.mem.reservations.map (fun r =>
    if r.owner = c.object ∧ r.slot = 6 ∧ r.cmd = some (c.q, c.seq) then { r with slot := 1 } else r)
  State.settleCharges { s2 with charges := cs, mem := { s2.mem with reservations := rs } } c.pos
/-- R171, R200, R205, R697: the change goes to shadow state; with CLEARING to the active state too. -/
def effLayerSet (c : Cmd) (s : State) : State :=
  let i := c.layerIdx
  let id := layerId i
  let old := (s.layer i).shadow
  let n := c.layerCfg old
  -- another size or format, or a new pair that the unbinding gives up
  let moved := decide (32 ≤ i) && (if n.canopy.isSome then n.gfxGeom != (s.layer i).uploadGeom else (s.layer i).newPair.isSome)
  let s1 := s.uncharge (fun x => x.owner = id && x.slot = 3 && x.pos = c.pos)
  let s2 :=
    if !moved then s1.dropPair c
    else ((s1.takePair c n).modLayer i (fun l => { l with
      newPair := if n.canopy.isSome then some [] else none, pending := false, backOf := none })).endUploads i
  let s7 := s2.modLayer i (fun l => { l with shadow := n })
  -- the custom coefficient sets of active state stay (R205)
  let act := (s7.layer i).active
  let s8 := if c.clearing then
      s7.publishLayer i { n with hCoefs := act.hCoefs, vCoefs := act.vCoefs } (if n.canopy.isSome then (s7.layer i).newPair else none)
        1 false s7.now
    else s7
  let ks := ([n.canopy, old.canopy].filterMap (fun o => o)).dedup
  let s9 := ks.foldl State.recharge s8
  s9.finish c (b2n (s9.deferred i n Canopy.shadowLamp))
def execLayerSet (q seq : Nat) (s : State) : Out := opOut q (s.runOp 0x0302 q seq effLayerSet)

/-! ### LAYER_UPLOAD, UPLOAD_COMPLETE (R217–R220, R446, R697) -/

def checkLayerUpload (s : State) (c : Cmd) : Verdict :=
  let l := s.layer c.layerIdx
  match l.uploadGeom with
  | none =>
    firstOf [badRange ([(16, c.u 16 2 == 0), (18, c.u 18 2 == 0), c.outside 20 1 0 1] ++
      c.zeros [(0, 8), (8, 4), (12, 2), (14, 2), (16, 2), (18, 2), (20, 1)] []), badState true c.object]
  | some (w, h, fmt) =>
    badRange ([(8, decide (c.u 8 4 < c.u 16 2 * (if fmt = 0 then 4 else 8))), (12, decide (w < c.u 12 2 + c.u 16 2)),
      (14, decide (h < c.u 14 2 + c.u 18 2)), (16, c.u 16 2 == 0), (18, c.u 18 2 == 0), c.outside 20 1 0 1] ++
      c.zeros [(0, 8), (8, 4), (12, 2), (14, 2), (16, 2), (18, 2), (20, 1)] [])

/-- The upload begins, or waits for its turn (R220). -/
def startLayerUpload (c : Cmd) (s : State) : State := s.kickUpload c.layerIdx
/-- The completed upload becomes the pending buffer; with CLEARING it swaps alone (R218). An upload that a newer one has discarded since,
or buffers of another size, completes without effect (R220; log entry 142). -/
def effLayerUpload (c : Cmd) (s : State) : State :=
  let i := c.layerIdx
  let mine := (s.layer i).backOf == some (c.q, c.seq)
  let s1 := if mine then s.modLayer i (fun l => { l with pending := true, backOf := none }) else s
  let s2 := if c.clearing ∧ mine ∧ (s1.layer i).newPair.isNone then
      s1.publishLayer i (s1.layer i).active none 1 true s1.now else s1
  (s2.ok c).kickUpload i
def execLayerUpload (q seq : Nat) (s : State) : Out := opOut q (s.runSelfTimed 0x0303 q seq startLayerUpload)

/-- A pixel of host memory as (G, B, R, A) (R176). -/
def gfxPixel (fmt : Nat) (b : List Byte) : List Nat :=
  if fmt = 0 then [leNat ((b.drop 1).take 1), leNat (b.take 1), leNat ((b.drop 2).take 1), leNat ((b.drop 3).take 1)]
  else
    let v (k : Nat) : Nat := leNat ((b.drop (2 * k)).take 2) % 1024
    [v 1, v 0, v 2, v 3]

/-- Write a rectangle of host memory, `data` from ADDR on, into a buffer of width `w`. -/
def writeRect (b : GfxBuf) (w fmt : Nat) (c : Cmd) (data : List Byte) : GfxBuf :=
  let n := if fmt = 0 then 4 else 8
  let cells := (List.range (c.u 18 2)).flatMap (fun y => (List.range (c.u 16 2)).map (fun x =>
    ((c.u 14 2 + y) * w + c.u 12 2 + x, gfxPixel fmt ((data.drop (y * c.u 8 4 + n * x)).take n))))
  cells.foldl (fun b e => Tab.set b e.1 e.2) b

/-- Bytes as a table by offset. -/
def bytesTab (l : List Byte) : Tab Byte := (l.zipIdx).map (fun e => (e.2, e.1))

/-- A command whose data has arrived takes effect at the next clearing of a canopy (R218, R228; 10 R445). -/
def State.armClearing (s : State) (c : Cmd) (k : Nat) : State :=
  let at_ := s.nextClearing k c.replicated
  (s.modCmd c.q c.seq (fun d => { d with clearOf := some k, notBefore := some (max at_ (s.now + 1)) })).commitNote c 1 (at_ % two32) 0 2 0

/-- An upload has arrived, on a twin also at the follower: it takes effect at once, at its clearing or at its time. -/
def State.uploadArrived (s : State) (layer : Nat) (data : List Byte) : State :=
    let l := s.layer layer
    match l.uploading.bind (fun id => s.findCmd id.1 id.2), l.uploadGeom with
    | some c, some (w, _, fmt) =>
      let s1 := s.modLayer layer (fun l =>
        match l.newPair with
        | some b => { l with uploading := none, backOf := some (c.q, c.seq), newPair := some (writeRect b w fmt c data) }
        | none => { l with uploading := none, backOf := some (c.q, c.seq), back := writeRect l.back w fmt c data })
      let c1 : Cmd := { c with armed := true }
      let s2 := s1.modCmd c.q c.seq (fun d => { d with armed := true })
      if c.clearing then
        match s2.targetCanopy c.object with
        | some k =>
          if (s2.canopy k).running then s2.armClearing c k else effLayerUpload c1 (s2.commitNote c 0 0 0 2 0)
        | none => effLayerUpload c1 (s2.commitNote c 0 0 0 2 0)
      else if c.effTime ≠ 0 ∧ !s2.fired c then s2.commitNote c 2 c.effTime c.effTb 2 0
      else effLayerUpload c1 (s2.commitNote c 0 0 0 2 0)
    | _, _ => s

/-- The data of an upload has been read and written to the layer's pages; a lead sends it to its follower first (10 R446). -/
def execUploadComplete (layer : Nat) (data : List Byte) (s : State) : Out :=
  need (32 ≤ layer && layer < 64) <|
    match (s.layer layer).uploading.bind (fun id => s.findCmd id.1 id.2) with
    | none => s
    | some c =>
      let s1 := s.ownerWrites (layerId layer)
      if s1.sendsData c then s1.dataEpoch c data.length (bytesTab data) else s1.uploadArrived layer (s1.dataFor c data)

/-! ### COMMIT, COMMIT_ARM (R201–R204, R695) -/

/-- Canopies that a COMMIT names. -/
def Cmd.commitCanopies (c : Cmd) : List Nat := (c.objects.map (fun o => o % 16777216)).dedup

/-- Two canopies are on the same frame grid (R409). -/
def State.sameGrid (s : State) (a b : Nat) : Bool :=
  let x := (s.canopy a).geom
  let y := (s.canopy b).geom
  rateNum x.rate * rateDen y.rate == rateNum y.rate * rateDen x.rate && x.offset == y.offset

def checkCommit (s : State) (c : Cmd) : Verdict :=
  let n := c.u 0 1
  let ks := c.commitCanopies
  let anyRuns := ks.any (fun k => (s.canopy k).running)
  let bad := ks.find? (fun k => anyRuns && (!(s.canopy k).running || !s.sameGrid k c.idx))
  firstOf [badRange ([c.outside 0 1 0 15] ++ (List.range (min n 15)).map (fun i => s.badObject c (4 + 4 * i) 2) ++
      c.zeros ((0, 1) :: (List.range (min n 15)).map (fun i => (4 + 4 * i, 4))) []),
    badState bad.isSome (canopyId (bad.getD 0))]

/-- Another armed COMMIT names one of the canopies (R203). -/
def State.commitBlocked (s : State) (c : Cmd) : Bool :=
  s.hif.cmds.any (fun d => d.opcode == 0x0304 && d.armed && d.commitCanopies.any (fun k => c.commitCanopies.contains k))

/-- Arm a COMMIT (R201), or copy at once when no canopy it names runs (R204). -/
def State.armCommit (s : State) (c : Cmd) : State :=
  let ks := c.commitCanopies
  if ks.any (fun k => (s.canopy k).running) then
    let at_ := ks.foldl (fun m k => max m (s.nextClearing k (c.q != 15))) 0
    let s1 := ks.foldl (fun s k =>
      let (copy, s') := s.takeCopy k
      s'.modCanopy k (fun x => { x with copies := x.copies ++ [(c.q, c.seq, copy)] })) s
    let s2 := s1.modCmd c.q c.seq (fun d => { d with phase := .committed, armed := true, notBefore := some (max at_ (s.now + 1)) })
    if c.effTime = 0 then s2.commitNote c 1 (at_ % two32) 0 2 0 else s2.commitNote c 2 c.effTime c.effTb 2 0
  else
    let s1 := s.commitNote c 0 0 0 2 0
    (ks.foldl (fun s k =>
      let (copy, s') := s.takeCopy k
      s'.applyCopy copy s.now) s1).ok c

def effCommit (c : Cmd) (s : State) : State := if s.commitBlocked c then s else s.armCommit c
def execCommit (q seq : Nat) (s : State) : Out := opOut q (s.runSelfTimed 0x0304 q seq effCommit)
/-- A started COMMIT whose turn has come is armed (R203). -/
def execCommitArm (q seq : Nat) (s : State) : Out :=
  opOut q <| match s.findCmd q seq with
    | none => s
    | some c => if c.opcode = 0x0304 ∧ c.phase = .started ∧ !c.armed ∧ !s.commitBlocked c then s.armCommit c else s

/-! ### LAMP_TABLE_LOAD, LAMP_LOAD_COMPLETE (R227–R229) -/

/-- Bytes of one staging block. -/
abbrev lampBlock : Nat := 8388608
/-- Staging blocks that a load needs beyond the free ones of its canopy. -/
def State.newBlocks (s : State) (c : Cmd) : Nat := c.u 1 1 - (s.canopy c.idx).freeBlocks
def State.lampCharges (s : State) (c : Cmd) : List Charge :=
  List.replicate (s.newBlocks c) { owner := c.object, slot := 2, res := 3, amount := lampBlock, pos := c.pos }
/-- The reservations of new staging blocks, one for each block, with the state after making them. -/
def State.reserveBlocks (s : State) (c : Cmd) : Nat → List Reservation → List Reservation × State
  | 0, l => (l, s)
  | n + 1, l =>
    let r := s.newReservation c.object 2 lampBlock false (some (c.q, c.seq))
    (s.reserve r).reserveBlocks c n (l ++ [r])
def State.lampPermits (s : State) (c : Cmd) : List Permit :=
  s.fillPermits (s.reserveBlocks c (s.newBlocks c) []).1 c.pos ++ [{ code := 6, amount := 30, holder := c.object, pos := c.pos }]
def checkLampTableLoad (s : State) (c : Cmd) : Verdict :=
  let k := s.canopy c.idx
  let first := c.u 0 1
  let n := c.u 1 1
  firstOf [badRange ([(0, first > 63 || !((lampRange k.geom k.shadowLook).any (fun r => r.1 ≤ first && first + n ≤ r.1 + r.2))),
      c.outside 1 1 1 64] ++ c.zeros [(0, 1), (1, 1), (4, 8)] []),
    verdict (s.serviced 0x0305 c.idx) 0x0203 c.object,
    s.badCapacity (fun _ => false) (s.lampCharges c), s.badPermit (s.lampPermits c)]
def acceptLampTableLoad (c : Cmd) (s : State) : State :=
  let s1 := (s.charge (s.lampCharges c)).grant (s.lampPermits c)
  (s1.reserveBlocks c (s.newBlocks c) []).2.modCanopy c.idx (fun k => { k with freeBlocks := k.freeBlocks - c.u 1 1 })
/-- A load begins; while another load of the canopy runs it waits (log entry 22). -/
def State.kickLoad (s : State) (k : Nat) : State :=
  match s.hif.cmds.find? (fun c => c.opcode = 0x0305 && c.idx = k && c.phase == .started && !c.armed) with
  | none => s
  | some c => if (s.canopy k).loading.isSome then s else s.modCanopy k (fun x => { x with loading := some (c.q, c.seq) })
def startLampTableLoad (c : Cmd) (s : State) : State := s.kickLoad c.idx
/-- The loaded regions of a command in their staging blocks, from the entries that arrived with it. -/
def Cmd.lampRegions (c : Cmd) (blocks : List (List (Nat × Nat))) (entries : List (Nat × Nat)) : Tab LampRegion :=
  (List.range (c.u 1 1)).map (fun r => (c.u 0 1 + r,
    { entries := (entries.filter (fun e => e.1 / 2097152 = r)).foldl (fun t e => Tab.set t (e.1 % 2097152) (e.2 % two32)) [],
      pages := blocks.getD r [] }))
/-- The regions of a load enter shadow together; superseded blocks become free (R228). -/
def State.stageRegions (s : State) (k : Nat) (r : Tab LampRegion) : State :=
  s.modCanopy k (fun c =>
    let gone := (r.filter (fun e => (c.staged.find e.1).isSome)).length
    { c with staged := r.foldl (fun t e => Tab.set t e.1 e.2) c.staged, freeBlocks := c.freeBlocks + gone })
/-- The regions of a load that waits for its clearing or its time. -/
def State.arrived (s : State) (c : Cmd) : Tab LampRegion :=
  ((s.canopy c.idx).arrived.find? (fun e => e.1 = (c.q, c.seq))).elim [] Prod.snd
/-- R228: into shadow, or with CLEARING into use. -/
def effLampTableLoad (c : Cmd) (s : State) : State :=
  let r := s.arrived c
  let s1 := (s.modCanopy c.idx (fun k => { k with arrived := k.arrived.filter (fun e => e.1 ≠ (c.q, c.seq)) })).settleCharges c.pos
  if c.clearing then
    let gone := (r.filter (fun e => ((s1.canopy c.idx).staged.find e.1).isSome)).length
    let s2 := s1.modCanopy c.idx (fun k => { k with
      staged := k.staged.filter (fun e => !(r.any (fun x => x.1 = e.1))), freeBlocks := k.freeBlocks + gone })
    (s2.swapRegions c.idx r).finish c
  else (s1.stageRegions c.idx r).finish c
def execLampTableLoad (q seq : Nat) (s : State) : Out := opOut q (s.runSelfTimed 0x0305 q seq startLampTableLoad)

/-- A load has arrived: entry numbers count from the first entry of its first region. -/
def State.lampArrived (s : State) (canopy : Nat) (entries : List (Nat × Nat)) : State :=
    match (s.canopy canopy).loading.bind (fun id => s.findCmd id.1 id.2) with
    | none => s
    | some c =>
      let blocks := (s.mem.reservations.filter (s.freeBlock canopy)).map Reservation.pages
      let regions := c.lampRegions blocks entries
      let s0 := regions.foldl (fun s e => s.writeRegion e.1 e.2) s
      let s1 := s0.modCanopy canopy (fun k => { k with loading := none, arrived := k.arrived ++ [((c.q, c.seq), regions)] })
      let s2 := (s1.unpermit (fun p => p.code = 6 && p.pos = c.pos)).modCmd c.q c.seq (fun d => { d with armed := true })
      let c1 : Cmd := { c with armed := true }
      let s3 :=
        if c.clearing ∧ (s2.canopy canopy).running then s2.armClearing c canopy
        else if !c.clearing ∧ c.effTime ≠ 0 ∧ !s2.fired c then s2.commitNote c 2 c.effTime c.effTb 2 0
        else effLampTableLoad c1 (s2.commitNote c 0 0 0 2 0)
      s3.kickLoad canopy

/-- The entries of a load have been read; a lead sends them to its follower first (10 R446). -/
def execLampLoadComplete (canopy : Nat) (entries : List (Nat × Nat)) (s : State) : Out :=
  need (canopy < 16) <|
    match (s.canopy canopy).loading.bind (fun id => s.findCmd id.1 id.2) with
    | none => s
    | some c =>
      if s.sendsData c then
        let cells := entries.flatMap (fun e => ((leBytes 4 e.2).zipIdx).map (fun b => (4 * e.1 + b.2, b.1)))
        s.dataEpoch c (c.u 1 1 * 8388608) (cells.foldl (fun t e => Tab.set t e.1 e.2) [])
      else s.lampArrived canopy (s.entriesFor c entries)

/-! ### WALL_TILING (R230, R231) -/

/-- A rectangle of a WALL_TILING, in units of 128. -/
def Cmd.rect (c : Cmd) (i : Nat) : Nat × Nat × Nat × Nat := (c.u (4 + 8 * i) 2, c.u (6 + 8 * i) 2, c.u (8 + 8 * i) 2, c.u (10 + 8 * i) 2)
/-- A rectangle breaks a limit of R230 of its own. -/
def badRect (rate : Nat) (r : Nat × Nat × Nat × Nat) : Bool :=
  let (_, _, w, h) := r
  let area := w * h * 16384
  w < 4 || h < 2 || w * 128 > 16888 || h * 128 > 16888 || area > 35651584 || area * rateNum rate > 4278190080 * rateDen rate
def rectsMeet (a b : Nat × Nat × Nat × Nat) : Bool :=
  let (ax, ay, aw, ah) := a
  let (bx, by_, bw, bh) := b
  ax < bx + bw && bx < ax + aw && ay < by_ + bh && by_ < ay + ah
def checkWallTiling (s : State) (c : Cmd) : Verdict :=
  let k := s.canopy c.idx
  let n := c.u 0 2
  let wall := k.configured && k.geom.mode == 1
  let w := k.geom.width / 128
  let h := k.geom.height / 128
  let rs := (List.range (min n 256)).map c.rect
  let bad (i : Nat) : Bool :=
    let r := rs.getD i (0, 0, 0, 0)
    wall && (badRect k.geom.rate r || w < r.1 + r.2.2.1 || h < r.2.1 + r.2.2.2 || (rs.take i).any (fun o => rectsMeet o r))
  let area := (rs.map (fun r => r.2.2.1 * r.2.2.2)).sum
  let elems := (List.range (min n 256)).map (fun i => (4 + 8 * i, bad i))
  let anyBad := elems.any Prod.snd
  firstOf [badRange ([(0, n < 1 || n > 256 || (wall && !anyBad && area != w * h))] ++ elems ++ [(2, c.u 2 2 != 0)]),
    badState (!wall) c.object,
    badState ((s.prog c.idx).running || (s.prog c.idx).starting) (progId c.idx)]
def effWallTiling (c : Cmd) (s : State) : State :=
  (s.modCanopy c.idx (fun k => { k with tiling := (List.range (c.u 0 2)).map c.rect })).ok c
def execWallTiling (q seq : Nat) (s : State) : Out := opOut q (s.runOp 0x0306 q seq effWallTiling)

/-! ### SCALER_COEFS (R193) -/

/-- The coefficients read from host memory: phase by phase. -/
def Cmd.coefSet (c : Cmd) : List (List Int) :=
  let nc := c.u 2 1
  (List.range 64).map (fun p => (List.range nc).map (fun n => signed 16 (leNat ((c.hostData.drop (2 * (p * nc + n))).take 2))))
def checkScalerCoefs (s : State) (c : Cmd) : Verdict :=
  let l := (s.layer c.idx).shadow
  let nc := c.u 2 1
  let n := if c.u 0 1 = 0 then taps l.cropW l.dstW else taps l.cropH l.dstH
  let unbound := l.canopy.isNone
  let set := c.coefSet
  let badSet := set.any (fun p => p.sum != 1024 || p.any (fun v => v < -2048 || v > 2047))
  firstOf [badRange ([c.outside 0 1 0 1, c.outside 1 1 0 1] ++
      (if c.u 1 1 = 1 then
        [(2, nc < 2 || nc > 36 || nc % 2 != 0 || (!unbound && nc > n)), (4, !unbound && !c.replyTo.udp && badSet)] ++ c.zeros [(0, 3), (4, 8)] []
       else c.zeros [(0, 2)] [(2, 1), (4, 8)])),
    badState unbound c.object]
def effScalerCoefs (c : Cmd) (s : State) : State :=
  let set : CoefSet := if c.u 1 1 = 1 then some c.coefSet else none
  let put (l : LayerCfg) : LayerCfg := if c.u 0 1 = 0 then { l with hCoefs := set } else { l with vCoefs := set }
  (s.modLayer c.idx (fun l => { l with shadow := put l.shadow, active := if c.clearing then put l.active else l.active })).ok c
def execScalerCoefs (q seq : Nat) (s : State) : Out := opOut q (s.runOp 0x0307 q seq effScalerCoefs)

/-! ### SOURCE_STATUS (R165, R182, R216) -/

/-- Layers using a source, in active state. -/
def State.usersOf (s : State) (flow : Nat) : List Nat :=
  (List.range 32).filter (fun i => (s.layer i).active.canopy.isSome && (s.layer i).active.source == flow)
def checkSourceStatus (s : State) (c : Cmd) : Verdict :=
  firstOf [badRange (c.buf 0 (128 + 16 * (s.usersOf c.idx).length) ++ c.zeros [(0, 12)] []),
    badState (!(s.rxFlow c.idx).isOpen) c.object]
/-- *SOURCE_STATUS parameters and record*. -/
def State.sourceRecord (s : State) (flow : Nat) : List Byte :=
  let f := s.rxFlow flow
  let k := f.counters
  let ls := s.usersOf flow
  let counts := [k.rxPkts, k.polDrop, k.dupDiscard, k.tooOld, k.rangeDrop, k.tsDrop, k.lateDrop, k.rebuilt, k.lostBlocks,
    k.notAdmitted, k.lateLines, k.nComplete, k.nLate, k.nUnderrun]
  let up (n : Nat) : Nat := b2n ((f.legs.map RxLeg.up).getD n false)
  leBytes 1 f.state ++ leBytes 1 (b2n f.held.isSome) ++ leBytes 2 0 ++ leBytes 4 f.lastGrid ++ (counts.map (leBytes 8)).flatten ++
  leBytes 4 (up 0 + 2 * up 1) ++ leBytes 4 ls.length ++
  (ls.map (fun i =>
    let l := s.layer i
    leBytes 4 (layerId i) ++ leBytes 4 (b2n (s.deferred i l.active Canopy.activeLamp) + 2 * b2n l.inFallback) ++ leBytes 4 l.heldLines ++
    leBytes 4 l.fallbackFrames)).flatten
def effSourceStatus (c : Cmd) (s : State) : State :=
  let r := s.sourceRecord c.idx
  (s.writeBuf c (c.u 0 8) r).ok c r.length
def execSourceStatus (q seq : Nat) (s : State) : Out := opOut q (s.runOp 0x0207 q seq effSourceStatus)

end Sys2Proof.Machine
end

