-- ==== Sys2Proof/Machine/Coding.lean ====
section
/-!
DEFINITION. What a program's settings fix before any picture is coded: CTUs, row times, tile grids and the segment rule (06
R270, R288–R292), coded streams (08 R349), levels and tiers (06 R272–R274), HRD values of the rate streams (07 R322–R327), and plans (05 R233).
-/
set_option Elab.async false
namespace Sys2Proof.Machine

open Sys2Proof

/-! ### CTUs and row times (R29, R242, R330) -/

/-- Lines of a CTU row: 128 for VVC, 64 for HEVC. -/
def ctuLines (codec : Nat) : Nat := if codec = 0 then 128 else 64
/-- t_ctu in ns. -/
def tCtu (codec : Nat) : Nat := if codec = 0 then 10240 else 2560
/-- f_ctu in bits. -/
def fCtu (codec : Nat) : Nat := if codec = 0 then 96 else 64
/-- Highest QP of the hardware range. -/
def qpTop (codec : Nat) : Nat := if codec = 0 then 63 else 51

/-- Row time as a fraction of ns (R29). -/
def rowTime (g : CanopyGeom) (codec : Nat) : Nat × Nat :=
  (1000000000 * rateDen g.rate * ctuLines codec, rateNum g.rate * g.height)
/-- `m` row times, rounded up. -/
def rowTimes (g : CanopyGeom) (codec m : Nat) : Nat := cdiv (m * (rowTime g codec).1) (rowTime g codec).2

/-- CTUs that a row segment may hold (R291). -/
def segmentLimit (g : CanopyGeom) (codec : Nat) : Nat :=
  4 * (rowTime g codec).1 / (5 * (rowTime g codec).2) / tCtu codec

/-- Width and height of a picture in CTUs. -/
def ctuWide (g : CanopyGeom) (codec : Nat) : Nat := cdiv g.width (ctuLines codec)
def ctuHigh (g : CanopyGeom) (codec : Nat) : Nat := cdiv g.height (ctuLines codec)

/-! ### Tile grids (R288, R291, R292) -/

def ProgCfg.wpp (c : ProgCfg) : Bool := bit c.options 0
def ProgCfg.hash (c : ProgCfg) : Bool := bit c.options 2
def ProgCfg.explicit (c : ProgCfg) : Bool := bit c.options 3

/-- Boundaries of `n` uniform parts of `total` (R288). -/
def uniform (total n : Nat) : List Nat := (List.range (n + 1)).map (fun i => i * total / n)
/-- Boundaries of parts of given widths. -/
def boundsOf : Nat → List Nat → List Nat
  | at_, [] => [at_]
  | at_, w :: ws => at_ :: boundsOf (at_ + w) ws
/-- Neighbouring boundaries as intervals. -/
def spans (l : List Nat) : List (Nat × Nat) := l.zip l.tail

/-- Distinct numbers below `n` that a list holds, in rising order. -/
def rising (n : Nat) (l : List Nat) : List Nat := (List.range n).filter (fun i => l.contains i)

/-- Tile-column boundaries of a wall canopy (R292). -/
def wallColumns (g : CanopyGeom) (tiling : List (Nat × Nat × Nat × Nat)) : List Nat :=
  let w := g.width / 128
  let edges := rising (w + 1) (0 :: w :: tiling.flatMap (fun r => [r.1, r.1 + r.2.2.1]))
  let lim := segmentLimit g 0
  let inner := (spans edges).flatMap (fun e =>
    let n := max 1 (cdiv (e.2 - e.1) lim)
    ((uniform (e.2 - e.1) n).take n).map (fun b => e.1 + b))
  inner ++ [w]

/-- Tile-row boundaries of a wall canopy (R292). -/
def wallRows (g : CanopyGeom) (tiling : List (Nat × Nat × Nat × Nat)) : List Nat :=
  let h := g.height / 128
  rising (h + 1) (0 :: h :: tiling.flatMap (fun r => [r.2.1, r.2.1 + r.2.2.2]))

/-- Tile-column and tile-row boundaries of a program in CTUs. -/
def tileGrid (g : CanopyGeom) (tiling : List (Nat × Nat × Nat × Nat)) (c : ProgCfg) : List Nat × List Nat :=
  if g.mode = 1 then (wallColumns g tiling, wallRows g tiling)
  else if c.explicit then (boundsOf 0 c.colWidths, boundsOf 0 c.rowHeights)
  else (uniform (ctuWide g c.codec) c.tileCols, uniform (ctuHigh g c.codec) c.tileRows)

/-- Offences of a broadcast tile grid, by parameter offset of PROGRAM_CONFIG (R288, R291, R698). -/
def badGrid (g : CanopyGeom) (c : ProgCfg) : List (Nat × Bool) :=
  let wc := ctuWide g c.codec
  let hc := ctuHigh g c.codec
  let lim := segmentLimit g c.codec
  let narrow (l : List (Nat × Nat)) : Bool := l.dropLast.any (fun e => (e.2 - e.1) * ctuLines c.codec < 512)
  let long (l : List (Nat × Nat)) : Bool := l.any (fun e => lim < e.2 - e.1)
  if g.mode = 1 then []
  else if c.explicit then
    let cols := spans (boundsOf 0 c.colWidths)
    [(4, c.colWidths.sum != wc || long cols), (5, c.rowHeights.sum != hc)] ++
    (c.colWidths.zipIdx).map (fun e => (16 + 2 * e.2, e.1 == 0 || (e.1 * ctuLines c.codec < 512 && e.2 + 1 != c.colWidths.length))) ++
    (c.rowHeights.zipIdx).map (fun e => (56 + 2 * e.2, e.1 == 0))
  else
    let cols := spans (uniform wc c.tileCols)
    [(4, decide (wc < c.tileCols) || narrow cols || long cols), (5, decide (hc < c.tileRows))]

/-! ### Coded streams (R349) -/

/-- One coded stream with its rectangle in CTUs and its size in luma samples. -/
structure StreamGeo where
  num : Nat
  x0 : Nat
  x1 : Nat
  y0 : Nat
  y1 : Nat
  w : Nat
  h : Nat
deriving DecidableEq, Repr

def StreamGeo.area (x : StreamGeo) : Nat := x.w * x.h
def StreamGeo.ctus (x : StreamGeo) : Nat := (x.x1 - x.x0) * (x.y1 - x.y0)
def StreamGeo.rows (x : StreamGeo) : Nat := x.y1 - x.y0

/-- More than one subpicture. -/
def multi (g : CanopyGeom) (tiling : List (Nat × Nat × Nat × Nat)) : Bool := g.mode == 1 && 1 < tiling.length

/-- The program's own stream 0. -/
def wholeGeo (g : CanopyGeom) (codec : Nat) : StreamGeo :=
  { num := 0, x0 := 0, x1 := ctuWide g codec, y0 := 0, y1 := ctuHigh g codec, w := g.width, h := g.height }

/-- The streams that have a rate stream (R321): stream 0, or stream 1 + i for subpicture i. -/
def rateGeos (g : CanopyGeom) (tiling : List (Nat × Nat × Nat × Nat)) (codec : Nat) : List StreamGeo :=
  if multi g tiling then
    (tiling.zipIdx).map (fun e => { num := 1 + e.2, x0 := e.1.1, x1 := e.1.1 + e.1.2.2.1, y0 := e.1.2.1,
                                    y1 := e.1.2.1 + e.1.2.2.2, w := 128 * e.1.2.2.1, h := 128 * e.1.2.2.2 })
  else [wholeGeo g codec]

/-- The geometry of any stream of a program. -/
def streamGeo (g : CanopyGeom) (tiling : List (Nat × Nat × Nat × Nat)) (codec n : Nat) : Option StreamGeo :=
  if n = 0 then some (wholeGeo g codec) else (rateGeos g tiling codec).find? (fun x => x.num = n)

/-- Tile columns, as boundary intervals, inside a stream. -/
def StreamGeo.cols (x : StreamGeo) (bounds : List Nat) : List (Nat × Nat) :=
  (spans bounds).filter (fun e => x.x0 ≤ e.1 && e.2 ≤ x.x1)
def StreamGeo.tileRows (x : StreamGeo) (bounds : List Nat) : List (Nat × Nat) :=
  (spans bounds).filter (fun e => x.y0 ≤ e.1 && e.2 ≤ x.y1)

/-! ### Profiles, levels and tiers (R270, R272–R274) -/

/-- The combination of codec and canopy format has a profile, and walls code in VVC (R167, R270). -/
def profileOk (codec : Nat) (g : CanopyGeom) : Bool := codec == 0 || (g.format ≤ 2 && g.mode == 0)

/-- The bit-rate factor f. -/
def brFactor (codec format : Nat) : Nat :=
  if format ≤ 1 then 1100 else if codec = 0 then 2750 else 2200

/-- One row of *Level limits*; `high` 0 where there is no high tier. Tile limits are those of the codec standards, which R272
names and the spec does not restate (PRESUMED, log entry 24): tiles and columns for VVC; rows and columns for HEVC. -/
structure LevelRow where
  vvc : Nat
  hevc : Nat
  maxPs : Nat
  maxSr : Nat
  main : Nat
  high : Nat
  vvcTiles : Nat
  vvcCols : Nat
  hevcRows : Nat
  hevcCols : Nat
deriving DecidableEq, Repr

/-- *Level limits* (R272). -/
def levelRows : List LevelRow :=
  [⟨48, 90, 552960, 16588800, 6000, 0, 4, 2, 2, 2⟩, ⟨51, 93, 983040, 33177600, 10000, 0, 9, 3, 3, 3⟩,
   ⟨64, 120, 2228224, 66846720, 12000, 30000, 25, 5, 5, 5⟩, ⟨67, 123, 2228224, 133693440, 20000, 50000, 25, 5, 5, 5⟩,
   ⟨80, 150, 8912896, 267386880, 25000, 100000, 110, 10, 11, 10⟩, ⟨83, 153, 8912896, 534773760, 40000, 160000, 110, 10, 11, 10⟩,
   ⟨86, 156, 8912896, 1069547520, 60000, 240000, 110, 10, 11, 10⟩, ⟨96, 180, 35651584, 1069547520, 60000, 240000, 440, 20, 22, 20⟩,
   ⟨99, 183, 35651584, 2139095040, 120000, 480000, 440, 20, 22, 20⟩, ⟨102, 186, 35651584, 4278190080, 240000, 800000, 440, 20, 22, 20⟩]

/-- A level admits a stream's size, luma rate and tiles. -/
def LevelRow.admits (l : LevelRow) (codec : Nat) (x : StreamGeo) (rate cols rows : Nat) : Bool :=
  x.area ≤ l.maxPs && x.w * x.w ≤ 8 * l.maxPs && x.h * x.h ≤ 8 * l.maxPs && x.area * rateNum rate ≤ l.maxSr * rateDen rate &&
  (if codec = 0 then cols ≤ l.vvcCols && cols * rows ≤ l.vvcTiles else rows ≤ l.hevcRows && cols ≤ l.hevcCols)

def LevelRow.idc (l : LevelRow) (codec : Nat) : Nat := if codec = 0 then l.vvc else l.hevc

/-- Level idc and tier of a stream (R272); none when no level admits it. -/
def chooseLevel (codec format rate : Nat) (x : StreamGeo) (cols rows br : Nat) : Option (Nat × Nat) :=
  let f := brFactor codec format
  let ok := levelRows.filter (fun l => l.admits codec x rate cols rows)
  (ok.find? (fun l => br ≤ l.main * f || (l.high != 0 && br ≤ l.high * f))).map
    (fun l => (l.idc codec, if br ≤ l.main * f then 0 else 1))

/-- max_br × f of a level and tier; 4 Gbit/s at level 15.5 (R275, R323). -/
def levelRate (codec format : Nat) (lv : Nat × Nat) : Nat :=
  match levelRows.find? (fun l => l.idc codec = lv.1) with
  | some l => (if lv.2 = 0 then l.main else l.high) * brFactor codec format
  | none => 4000000000

/-! ### Rate streams (R322, R326, R327, R330) -/

/-- qp_max in force (*Rate-control bounds*). -/
def RateCfg.top (r : RateCfg) (codec : Nat) : Nat := r.qpMax.getD (qpTop codec)
/-- The CPB size in force, 0 standing for the default of *Rate settings*. -/
def RateCfg.cpb (r : RateCfg) (rate : Nat) : Nat :=
  if r.cpbSize = 0 then 16 * cdiv (2 * r.bitRate * rateDen rate) (16 * rateNum rate) else r.cpbSize

/-- Rb of a stream (R274, R322). -/
def streamRate (br : Nat) (g : CanopyGeom) (x : StreamGeo) : Nat :=
  if x.num = 0 then br else cdiv (br * x.area) (g.width * g.height)
/-- S of a stream (R322). -/
def streamCpb (cpb : Nat) (g : CanopyGeom) (x : StreamGeo) : Nat :=
  if x.num = 0 then cpb else cpb * x.area / (g.width * g.height * 16) * 16
/-- d of R326. -/
def hrdDelay (rb s : Nat) : Nat := 90000 * s / rb
/-- S_e of R327. -/
def hrdSize (rb s : Nat) : Nat := hrdDelay rb s * rb / 90000
/-- D_max and D_min of R323. -/
def drainMax (rb rate : Nat) : Nat := cdiv (rb * rateDen rate) (rateNum rate)
def drainMin (rb rate : Nat) : Nat := rb * rateDen rate / rateNum rate

/-- Levels of a program's streams (R272–R274): level 15.5 for the full-canopy stream of several subpictures. -/
def programLevels (g : CanopyGeom) (tiling : List (Nat × Nat × Nat × Nat)) (c : ProgCfg) (br : Nat) :
    List (Nat × Option (Nat × Nat)) :=
  let (cols, rows) := tileGrid g tiling c
  (if multi g tiling then [(0, some (255, 0))] else []) ++
  (rateGeos g tiling c.codec).map (fun x =>
    (x.num, chooseLevel c.codec g.format g.rate x (x.cols cols).length (x.tileRows rows).length (streamRate br g x)))

/-! ### Plans (05 R233) -/

/-- Its rate streams' rectangles. -/
def Plan.geos (x : Plan) : List StreamGeo := rateGeos x.geom x.tiling x.cfg.codec
/-- The geometry of a stream. -/
def Plan.stream (x : Plan) (n : Nat) : Option StreamGeo := streamGeo x.geom x.tiling x.cfg.codec n
/-- More than one subpicture. -/
def Plan.multi (x : Plan) : Bool := Machine.multi x.geom x.tiling
/-- Bands, or CTU rows. -/
def Plan.rowCount (x : Plan) : Nat := ctuHigh x.geom x.cfg.codec
/-- Segments of each row as CTU intervals. -/
def Plan.segs (x : Plan) : List (Nat × Nat) := spans x.cols
/-- `m` row times, rounded up. -/
def Plan.rowTimes (x : Plan) (m : Nat) : Nat := Machine.rowTimes x.geom x.cfg.codec m
/-- The lag L of R329. -/
def Plan.lag (x : Plan) : Nat :=
  let (n, d) := rowTime x.geom x.cfg.codec
  max 1 (cdiv ((x.rowCount + x.cfg.k + 1) * n * rateNum x.geom.rate) (d * 1000000000 * rateDen x.geom.rate))
/-- lat of R413. -/
def Plan.latency (x : Plan) : Nat := x.rowTimes (x.cfg.k + 1) + 64000
/-- The first and last CTU row, plus one, of the tile that holds a row. -/
def Plan.tileRow (x : Plan) (row : Nat) : Nat × Nat :=
  ((spans x.rows).find? (fun e => e.1 ≤ row && row < e.2)).getD (row, row + 1)
/-- The rate stream whose rectangle holds a segment, with the segment's number inside it. -/
def Plan.segStream (x : Plan) (row seg : Nat) : Option (StreamGeo × Nat) :=
  let e := x.segs.getD seg (0, 0)
  (x.geos.find? (fun g => g.x0 ≤ e.1 && e.2 ≤ g.x1 && g.y0 ≤ row && row < g.y1)).map
    (fun g => (g, (g.cols x.cols).findIdx (fun c => c.1 = e.1)))

/-- All that a plan sets, as numbers (R43). -/
def Plan.key (x : Plan) : List Nat :=
  let c := x.cfg
  let r := x.rate
  let g := x.geom
  [c.codec, c.k, c.nref, c.sliceMode, c.options, c.gdrLength, r.bitRate, r.cpbSize, r.hrdMode, r.idrFactor, r.qpMin, r.top c.codec,
   r.fixedQp.getD 255, r.frameCap, g.mode, g.format, g.rate, g.width, g.height, g.colorimetry, g.transfer] ++ x.cols ++ x.rows

/-! ### A program as it stands -/

/-- The geometry that a canopy has, or will have from its next clearing (04 R696). -/
def Canopy.comingGeom (k : Canopy) : CanopyGeom := k.nextGeom.getD k.geom
/-- The tiling that goes with it: another mode or size discards it (04 R231). -/
def Canopy.comingTiling (k : Canopy) : List (Nat × Nat × Nat × Nat) :=
  let g := k.comingGeom
  if k.geom.mode = g.mode ∧ k.geom.width = g.width ∧ k.geom.height = g.height then k.tiling else []

/-- The plan that PROGRAM_START would fix from the settings in force, with the levels that R272 chooses. -/
def State.startPlan (s : State) (p : Nat) : Plan :=
  let k := s.canopy p
  let x := s.prog p
  let cfg := x.cfg.getD {}
  let g := k.comingGeom
  let (cols, rows) := tileGrid g k.comingTiling cfg
  { cfg := cfg, rate := x.rate, geom := g, tiling := k.comingTiling, cols := cols, rows := rows,
    levels := (programLevels g k.comingTiling cfg x.rate.bitRate).filterMap (fun e => e.2.map (fun v => (e.1, v))) }
/-- The plan of a program: of its run while it runs or drains, else as it would start. -/
def State.plan (s : State) (p : Nat) : Plan :=
  let x := s.prog p
  if x.running || x.draining then x.plan else s.startPlan p
def State.pcfg (s : State) (p : Nat) : ProgCfg := (s.plan p).cfg
def State.geom (s : State) (p : Nat) : CanopyGeom := (s.plan p).geom
def State.geos (s : State) (p : Nat) : List StreamGeo := (s.plan p).geos
def State.rowCount (s : State) (p : Nat) : Nat := (s.plan p).rowCount
/-- window_ns of R412. -/
def State.windowOf (s : State) (p : Nat) : Nat := ((s.prog p).window).getD (gridOf (s.geom p).rate 0).period

end Sys2Proof.Machine
end

