-- ==== Sys2Proof/Machine/Bitstream.lean ====
section
/-!
DEFINITION. What the NAL units of a coded stream say (06 R270, R271, R276–R287, R308; 07 R325, R326; 08 R364): parameter sets, VUI,
HRD parameters, SEI messages, picture and slice headers, in the order of an access unit; the header allowance and the floors that
follow (07 R330), and the offences of rate settings (07 R323). Field names and values are the spec's; nal_unit_type numbers, NAL
headers and the code points of colour are those of H.266, H.265 and H.273, which the spec names (PRESUMED, log entry 143).
-/
set_option Elab.async false
namespace Sys2Proof.Machine

open Sys2Proof

/-- Fields of a syntax structure by name. -/
abbrev Fields := List (String × Nat)

/-! ### Unit types (R276, R277) -/

/-- Kinds of NAL units. -/
inductive NalKind where
  | trail | idr | gdr | vps | sps | pps | aps | ph | aud | eos | prefixSei | suffixSei | filler
deriving DecidableEq, Repr

/-- nal_unit_type in VVC and HEVC; HEVC has no GDR picture type (TRAIL_R), no APS and no picture header. -/
def nalType (codec : Nat) (k : NalKind) : Nat :=
  if codec = 0 then
    match k with
    | .trail => 0 | .idr => 8 | .gdr => 10 | .vps => 14 | .sps => 15 | .pps => 16 | .aps => 17 | .ph => 19 | .aud => 20 | .eos => 21
    | .prefixSei => 23 | .suffixSei => 24 | .filler => 25
  else
    match k with
    | .trail => 1 | .idr => 20 | .gdr => 1 | .vps => 32 | .sps => 33 | .pps => 34 | .aps => 0 | .ph => 0 | .aud => 35 | .eos => 36
    | .prefixSei => 39 | .suffixSei => 40 | .filler => 38

/-- The 2-byte NAL header: layer 0, TemporalId 0 (R277). -/
def nalHeader (codec typ : Nat) : List Byte :=
  if codec = 0 then [0, BitVec.ofNat 8 (8 * typ + 1)] else [BitVec.ofNat 8 (2 * typ), 1]

/-- Type of the slices of a picture of a kind: 0 TRAIL, 1 GDR start, 2 IDR (R277). -/
def sliceNal (codec kind : Nat) : Nat := nalType codec (match kind with | 2 => .idr | 1 => .gdr | _ => .trail)

/-! ### Profile, constraint flags, VUI (R270, R271, R281) -/

/-- general_profile_idc (R270). -/
def profileIdc (codec format : Nat) : Nat :=
  if codec = 0 then (if format ≤ 1 then 1 else 2) else (if format = 0 then 1 else if format = 1 then 2 else 4)
/-- Constraint flags (R271); every one not listed is 0. -/
def constraintFlags (codec format : Nat) : Fields :=
  if codec = 1 ∧ format = 2 then
    [("general_max_12bit_constraint_flag", 1), ("general_max_10bit_constraint_flag", 1), ("general_max_8bit_constraint_flag", 0),
     ("general_max_422chroma_constraint_flag", 1), ("general_max_420chroma_constraint_flag", 0),
     ("general_max_monochrome_constraint_flag", 0), ("general_intra_constraint_flag", 0),
     ("general_one_picture_only_constraint_flag", 0), ("general_lower_bit_rate_constraint_flag", 1)]
  else []
/-- Profile, tier and level of a stream. -/
def Plan.ptl (x : Plan) (stream : Nat) : Fields :=
  let lv := x.levels.get (255, 0) stream
  [("general_profile_idc", profileIdc x.cfg.codec x.geom.format), ("general_tier_flag", lv.2), ("general_level_idc", lv.1)] ++
  constraintFlags x.cfg.codec x.geom.format

/-- VUI values (R281). -/
def CanopyGeom.vui (g : CanopyGeom) : Fields :=
  [("colour_primaries", if g.colorimetry = 0 then 1 else 9),
   ("transfer_characteristics", match g.transfer with | 1 => 16 | 2 => 18 | _ => if g.colorimetry = 0 then 1 else 14),
   ("matrix_coeffs", if g.format = 4 then 0 else if g.colorimetry = 0 then 1 else 9),
   ("video_full_range_flag", if g.mode = 1 then 1 else 0), ("chroma_sample_loc_type", 0),
   ("num_units_in_tick", rateDen g.rate), ("time_scale", rateNum g.rate)]

/-! ### HRD parameters (07 R325) -/

/-- Rb and S of a stream. -/
def Plan.rb (x : Plan) (s : StreamGeo) : Nat := streamRate x.rate.bitRate x.geom s
def Plan.cpb (x : Plan) (s : StreamGeo) : Nat := streamCpb (x.rate.cpb x.geom.rate) x.geom s
/-- A stream signals an HRD: every one but the full-canopy stream of several subpictures. -/
def Plan.hasHrd (x : Plan) (s : StreamGeo) : Bool := !(s.num == 0 && x.multi)
/-- HRD parameters of a stream. -/
def Plan.hrd (x : Plan) (s : StreamGeo) : Fields :=
  let present := if x.cfg.codec = 0 then "sps_timing_hrd_params_present_flag" else "vui_hrd_parameters_present_flag"
  if x.hasHrd s then
    [(present, 1), ("nal_hrd_parameters_present_flag", 1), ("vcl_hrd_parameters_present_flag", 0), ("du_hrd_params_present_flag", 0),
     ("cpb_cnt_minus1", 0), ("bit_rate_scale", 0), ("cpb_size_scale", 0), ("bit_rate_value_minus1", cdiv (x.rb s) 64 - 1),
     ("cpb_size_value_minus1", x.cpb s / 16 - 1), ("cbr_flag", x.rate.hrdMode),
     ("initial_cpb_removal_delay_length_minus1", 31)]
  else [(present, 0)]

/-! ### VVC and HEVC parameter sets (R283, R287; 08 R364) -/

/-- Coding tools of VVC with their enabling flags (R283, R284), as the format and PROGRAM_CONFIG set them. -/
def vvcTools (c : ProgCfg) (format : Nat) : Fields :=
  [("sps_entropy_coding_sync_enabled_flag", b2n c.wpp), ("sps_qtbtt_dual_tree_intra_flag", 1), ("sps_max_luma_transform_size_64_flag", 1),
   ("sps_transform_skip_enabled_flag", 1), ("sps_sign_data_hiding_enabled_flag", b2n (bit c.options 1)),
   ("sps_dep_quant_enabled_flag", b2n (!bit c.options 1)), ("sps_sao_enabled_flag", 1), ("sps_alf_enabled_flag", 1),
   ("sps_ccalf_enabled_flag", if format = 0 then 0 else 1), ("sps_temporal_mvp_enabled_flag", 1), ("sps_amvr_enabled_flag", 1),
   ("sps_mmvd_enabled_flag", 1), ("sps_affine_enabled_flag", 1), ("sps_6param_affine_enabled_flag", 0), ("sps_affine_amvr_enabled_flag", 1),
   ("sps_affine_prof_enabled_flag", 0), ("sps_mrl_enabled_flag", 1), ("sps_cclm_enabled_flag", 1), ("sps_gdr_enabled_flag", 1),
   ("sps_gpm_enabled_flag", 0), ("sps_isp_enabled_flag", 0), ("sps_mip_enabled_flag", 0), ("sps_lfnst_enabled_flag", 0),
   ("sps_sbt_enabled_flag", 0), ("sps_bdof_enabled_flag", 0), ("sps_dmvr_enabled_flag", 0), ("sps_lmcs_enabled_flag", 0),
   ("sps_palette_enabled_flag", 0), ("sps_ibc_enabled_flag", 0), ("sps_ref_pic_resampling_enabled_flag", 0),
   ("sps_mts_enabled_flag", 0), ("sps_joint_cbcr_enabled_flag", 0), ("sps_act_enabled_flag", 0), ("sps_smvd_enabled_flag", 0),
   ("sps_bcw_enabled_flag", 0), ("sps_ciip_enabled_flag", 0), ("sps_bdpcm_enabled_flag", 0),
   ("sps_explicit_scaling_list_enabled_flag", 0), ("sps_long_term_ref_pics_flag", 0), ("sps_virtual_boundaries_enabled_flag", 1)]
/-- Coding tools of HEVC with their enabling flags (R287). -/
def hevcTools (c : ProgCfg) : Fields :=
  [("amp_enabled_flag", 1), ("sample_adaptive_offset_enabled_flag", 1), ("strong_intra_smoothing_enabled_flag", 1),
   ("sps_temporal_mvp_enabled_flag", 1), ("scaling_list_enabled_flag", 0), ("pcm_enabled_flag", 0),
   ("long_term_ref_pics_present_flag", 0), ("sps_range_extension_flag", 0), ("sps_scc_extension_flag", 0),
   ("transform_skip_enabled_flag", 1), ("sign_data_hiding_enabled_flag", 1), ("entropy_coding_sync_enabled_flag", b2n c.wpp)]
/-- Tool flags of a plan. -/
def Plan.tools (x : Plan) : Fields := if x.cfg.codec = 0 then vvcTools x.cfg x.geom.format else hevcTools x.cfg
/-- A tool, by its number in `Plan.tools`, is enabled (R284). -/
def Plan.toolOn (x : Plan) (n : Nat) : Bool := ((x.tools[n]?).map Prod.snd).getD 0 != 0

/-- chroma_format_idc and bit depth minus 8. -/
def chromaIdc (format : Nat) : Nat := if format ≤ 1 then 1 else if format = 2 then 2 else 3
def depthMinus8 (format : Nat) : Nat := if format = 0 then 0 else 2

/-- Tiles that a stream covers, as (x0, y0, x1, y1) in CTUs, in raster order. -/
def Plan.tilesOf (x : Plan) (s : StreamGeo) : List (Nat × Nat × Nat × Nat) :=
  (s.tileRows x.rows).flatMap (fun r => (s.cols x.cols).map (fun c => (c.1, r.1, c.2, r.2)))
/-- A slice: its rectangle in CTUs, its subpicture, and its index in the stream or subpicture. -/
structure SliceAt where
  x0 : Nat
  y0 : Nat
  x1 : Nat
  y1 : Nat
  subpic : Option Nat := none
  address : Nat := 0
deriving DecidableEq, Repr

/-- Rectangles of the slices inside a stream: one for each tile, or one for each CTU row of each tile (R289). -/
def Plan.sliceRects (x : Plan) (s : StreamGeo) : List (Nat × Nat × Nat × Nat) :=
  if x.cfg.sliceMode = 0 then x.tilesOf s
  else (x.tilesOf s).flatMap (fun t => (List.range (t.2.2.2 - t.2.1)).map (fun j => (t.1, t.2.1 + j, t.2.2.1, t.2.1 + j + 1)))
/-- Slices of a stream in order: tile raster order within each subpicture, in subpicture index order (R276, R293). -/
def Plan.slicesOf (x : Plan) (s : StreamGeo) : List SliceAt :=
  let mk (subpic : Option Nat) (g : StreamGeo) : List SliceAt := ((x.sliceRects g).zipIdx).map (fun e =>
    { x0 := e.1.1, y0 := e.1.2.1, x1 := e.1.2.2.1, y1 := e.1.2.2.2, subpic := subpic, address := e.2 })
  if s.num = 0 ∧ x.multi then (x.geos.zipIdx).flatMap (fun e => mk (some e.2) e.1) else mk none s

/-- The sequence parameter set of a stream (R283, R287, R325; R364 for a subpicture stream). The full-canopy stream of several
subpictures lists them in the order of WALL_TILING, subpicture i with ID i (R293). -/
def Plan.sps (x : Plan) (s : StreamGeo) : Nal :=
  let c := x.cfg
  let subs := s.num = 0 ∧ x.multi
  let odd := s.num = 0 ∧ (s.w % 8 ≠ 0 ∨ s.h % 8 ≠ 0)
  if c.codec = 0 then
    { typ := nalType 0 .sps,
      fields := x.ptl s.num ++
        [("sps_chroma_format_idc", chromaIdc x.geom.format), ("sps_log2_ctu_size_minus5", 2), ("sps_pic_width_max_in_luma_samples", s.w),
         ("sps_pic_height_max_in_luma_samples", s.h), ("sps_conformance_window_flag", if odd then 1 else 0),
         ("sps_subpic_info_present_flag", if subs then 1 else 0), ("sps_subpic_id_len_minus1", 7),
         ("sps_bitdepth_minus8", depthMinus8 x.geom.format), ("sps_log2_max_pic_order_cnt_lsb_minus4", 4),
         ("sps_log2_min_luma_coding_block_size_minus2", 1), ("sps_max_mtt_hierarchy_depth_intra_slice_luma", 3),
         ("sps_max_mtt_hierarchy_depth_inter_slice", 3), ("sps_max_mtt_hierarchy_depth_intra_slice_chroma", 3),
         ("sps_log2_transform_skip_max_size_minus2", 0), ("sps_max_dec_pic_buffering_minus1", c.nref), ("sps_max_num_reorder_pics", 0),
         ("sps_max_latency_increase_plus1", 0)] ++ vvcTools c x.geom.format ++ x.hrd s ++ x.geom.vui,
      lists := if subs then (x.tiling.zipIdx).map (fun e => [e.2, e.1.1, e.1.2.1, e.1.2.2.1, e.1.2.2.2, 1, 0]) else [] }
  else
    { typ := nalType 1 .sps,
      fields := x.ptl s.num ++
        [("chroma_format_idc", chromaIdc x.geom.format), ("pic_width_in_luma_samples", s.w), ("pic_height_in_luma_samples", s.h),
         ("conformance_window_flag", if odd then 1 else 0), ("bit_depth_luma_minus8", depthMinus8 x.geom.format),
         ("log2_max_pic_order_cnt_lsb_minus4", 4), ("sps_max_dec_pic_buffering_minus1", c.nref), ("sps_max_num_reorder_pics", 0),
         ("sps_max_latency_increase_plus1", 0), ("log2_min_luma_coding_block_size_minus3", 0), ("log2_diff_max_min_luma_coding_block_size", 3),
         ("log2_min_luma_transform_block_size_minus2", 0), ("log2_diff_max_min_luma_transform_block_size", 3),
         ("max_transform_hierarchy_depth_inter", 2), ("max_transform_hierarchy_depth_intra", 2)] ++ hevcTools c ++ x.hrd s ++ x.geom.vui }

/-- The video parameter set of an HEVC stream (R276). -/
def Plan.vps (x : Plan) (s : StreamGeo) : Nal := { typ := nalType x.cfg.codec .vps, fields := x.ptl s.num }

/-- The picture parameter set of a stream (R283, R287; R364 for a subpicture stream): tile columns, tile rows and slices follow. -/
def Plan.pps (x : Plan) (s : StreamGeo) : Nal :=
  let tiles := x.tilesOf s
  let slices := x.slicesOf s
  let widths := (s.cols x.cols).map (fun e => e.2 - e.1)
  let heights := (s.tileRows x.rows).map (fun e => e.2 - e.1)
  let rects := slices.map (fun r => [r.x0 - s.x0, r.y0 - s.y0, r.x1 - s.x0, r.y1 - s.y0])
  if x.cfg.codec = 0 then
    { typ := nalType 0 .pps,
      fields := [("pps_pic_parameter_set_id", 0), ("pps_pic_width_in_luma_samples", s.w), ("pps_pic_height_in_luma_samples", s.h),
        ("pps_no_pic_partition_flag", b2n (tiles.length == 1 && slices.length == 1)), ("pps_rect_slice_flag", 1),
        ("pps_loop_filter_across_tiles_enabled_flag", 1), ("pps_cu_qp_delta_enabled_flag", 1), ("pps_init_qp_minus26", 0),
        ("pps_cb_qp_offset", 0), ("pps_cr_qp_offset", 0), ("pps_luma_beta_offset_div2", 0), ("pps_luma_tc_offset_div2", 0)],
      lists := [widths, heights] ++ rects }
  else
    { typ := nalType 1 .pps,
      fields := [("pps_pic_parameter_set_id", 0), ("cu_qp_delta_enabled_flag", 1), ("diff_cu_qp_delta_depth", 0),
        ("tiles_enabled_flag", b2n (1 < tiles.length)), ("loop_filter_across_tiles_enabled_flag", 1),
        ("pps_loop_filter_across_slices_enabled_flag", 1)],
      lists := [widths, heights] }

/-! ### Picture headers, slices and SEI messages (R277, R278, R282, R285, R286, R307, R308, R326) -/

/-- Refresh columns of picture k of a sweep over R pictures of a width in CTUs (R305). -/
def refreshCols (wide k r : Nat) : Nat × Nat :=
  let c := cdiv wide (max 1 r)
  (min (k * c) wide, min ((k + 1) * c) wide)

/-- The clean edge of picture k of a sweep: the right edge, in CTUs, of its refresh columns (R305, R306). -/
def cleanEdge (wide : Nat) (sweep : Option (Nat × Nat)) : Nat :=
  match sweep with
  | none => wide
  | some (k, r) => (refreshCols wide k r).2

/-- A sweep without the mark of a twin refresh. -/
def Picture.sweepAt (y : Picture) : Option (Nat × Nat) := y.sweep.map (fun e => (e.1, e.2.1))

/-- The VVC picture header: no temporal motion candidates in a sweep picture, and a vertical virtual boundary at the clean edge in a
broadcast canopy (R307); the order count in 8 bits (R278). -/
def Picture.ph (y : Picture) : Nal :=
  let x := y.plan
  let wide := ctuWide x.geom x.cfg.codec
  let edge := cleanEdge wide y.sweepAt
  { typ := nalType 0 .ph,
    fields := [("ph_gdr_pic_flag", b2n (y.kind == 1)), ("ph_pic_order_cnt_lsb", y.poc % 256),
      ("ph_recovery_poc_cnt", if y.kind = 1 then (y.sweepAt.map (fun e => e.2 - 1)).getD 0 else 0),
      ("ph_temporal_mvp_enabled_flag", b2n y.sweep.isNone), ("ph_cu_qp_delta_subdiv_intra_slice", 0),
      ("ph_cu_qp_delta_subdiv_inter_slice", 0), ("ph_alf_enabled_flag", 1), ("ph_num_alf_aps_ids_luma", b2n y.aps.isSome),
      ("ph_alf_aps_id_luma", y.aps.getD 0),
      ("ph_virtual_boundaries_present_flag", b2n (y.sweep.isSome && x.geom.mode == 0 && edge < wide))],
    lists := if y.sweep.isSome ∧ x.geom.mode = 0 ∧ edge < wide then [[128 * edge]] else [] }

/-- The header of a slice (R277–R279): slice type I in an IDR, B else, both lists with the same entries (order counts). The subpicture
ID stands only in the full-canopy stream of several subpictures (R364). With WPP each further row of the slice has an entry point, whose offset
takes 32 bits (07 R330). -/
def Picture.sliceHeader (y : Picture) (sl : SliceAt) (refs : List Nat) : Nal :=
  let x := y.plan
  let i := y.kind == 2
  let common : Fields := [("slice_type", if i then 2 else 0), ("slice_address", sl.address), ("num_ref_idx_active", refs.length),
    ("num_entry_points", if x.cfg.wpp then sl.y1 - sl.y0 - 1 else 0), ("offset_len_minus1", 31)]
  let own : Fields :=
    if x.cfg.codec = 0 then (sl.subpic.map (fun n => [("sh_subpic_id", n)])).getD []
    else [("slice_pic_order_cnt_lsb", if i then 0 else y.poc % 256), ("slice_temporal_mvp_enabled_flag", b2n (!i && y.sweep.isNone))]
  { typ := sliceNal x.cfg.codec y.kind, fields := common ++ own, lists := if i then [] else [refs, refs] }

/-- A prefix SEI message in its own NAL unit. -/
def seiNal (codec payloadType : Nat) (f : Fields) : Nal := { typ := nalType codec .prefixSei, fields := ("payload_type", payloadType) :: f }
/-- Buffering period (R326). -/
def Picture.bufferingPeriod (y : Picture) (s : StreamGeo) : Nal :=
  seiNal y.plan.cfg.codec 0 [("initial_cpb_removal_delay", hrdDelay (y.plan.rb s) (y.plan.cpb s)), ("initial_cpb_removal_offset", 0),
    ("concatenation_flag", b2n (y.n != 0))]
/-- Picture timing (R326). -/
def Picture.pictureTiming (y : Picture) : Nal :=
  seiNal y.plan.cfg.codec 1 [("cpb_removal_delay_minus1", y.sinceBp - 1), ("dpb_output_delay", 0)]
/-- Recovery point (R308). -/
def Picture.recoveryPoint (y : Picture) : Nal :=
  seiNal y.plan.cfg.codec 6 [("recovery_poc_cnt", (y.sweepAt.map (fun e => e.2 - 1)).getD 0), ("exact_match_flag", 1), ("broken_link_flag", 0)]
/-- Decoded picture hash of a stream: hash_type 1, a CRC of every colour component of its reconstruction, which is open (R282). -/
def Picture.pictureHash (y : Picture) (s : StreamGeo) (digest : Nat) : Nal :=
  { typ := nalType y.plan.cfg.codec .suffixSei, fields := [("payload_type", 132), ("hash_type", 1)],
    lists := [[0, 1, 2].map (fun c => Config.reconstructionCrc [digest, s.num, s.x0, s.y0, s.x1, s.y1, c] % 65536)] }

/-- The units before the first slice of a picture of a stream, in order (R276, R280, R325); `filters` stands for the ALF and CC-ALF filters of
the APS, which are derived from the statistics of the picture before (R286). -/
def Picture.leadNals (y : Picture) (s : StreamGeo) (filters : Nat := 0) : List Nal :=
  let x := y.plan
  let vvc := x.cfg.codec = 0
  [{ typ := nalType x.cfg.codec .aud, fields := [("aud_irap_or_gdr_flag", b2n (y.kind != 0))] }] ++
  (if y.ps then (if vvc then [] else [x.vps s]) ++ [x.sps s, x.pps s] else []) ++
  (match y.aps with
    | some i => [{ typ := nalType 0 .aps, fields := [("aps_params_type", 0), ("aps_adaptation_parameter_set_id", i)],
                   lists := [[filters]] }]
    | none => []) ++
  (if y.bp && x.hasHrd s then [y.bufferingPeriod s] else []) ++ (if x.hasHrd s then [y.pictureTiming] else []) ++
  (if y.kind = 1 then [y.recoveryPoint] else []) ++ (if vvc then [y.ph] else [])

/-! ### Sizes: the header allowance (07 R330) -/

/-- What a unit's size depends on. -/
def Nal.key (n : Nal) : List Nat := n.typ :: (n.fields.map Prod.snd ++ n.lists.map List.length)
/-- The most bytes that a unit of a type of a stream takes after its NAL header, whatever the picture. -/
def Plan.mostBytes (x : Plan) (s : StreamGeo) (typ : Nat) : Nat :=
  Config.nalMost [x.cfg.codec, x.cfg.options, x.cfg.sliceMode, x.cfg.nref, s.num, s.w, s.h, typ]
/-- Bytes of a NAL unit other than slice data, or of a slice's NAL and slice headers: the syntax is that of H.266 and H.265, which
the spec does not restate (log entry 5), but for the 4 bytes of each entry-point offset. -/
def Plan.nalBytes (x : Plan) (s : StreamGeo) (n : Nal) : Nat :=
  2 + min (Config.nalBytes (x.cfg.codec :: n.key)) (x.mostBytes s n.typ) +
    4 * ((n.fields.find? (fun f => f.1 == "num_entry_points")).map Prod.snd).getD 0

/-- Row segments of a stream in a picture. -/
def StreamGeo.segments (x : StreamGeo) (colBounds : List Nat) : Nat := (x.cols colBounds).length * x.rows
/-- The slice headers of a picture of a stream; the order counts of the reference list are given. -/
def Picture.sliceHeaders (y : Picture) (s : StreamGeo) (refs : List Nat) : List Nal :=
  (y.plan.slicesOf s).map (fun e => y.sliceHeader e refs)
/-- Units after the last slice: hash, end of sequence (R276, R282, R314, R352). -/
def Picture.tailNals (y : Picture) (s : StreamGeo) (digest : Nat) : List Nal :=
  (if y.plan.cfg.hash then [y.pictureHash s digest] else []) ++
  (if y.ends.contains s.num then [{ typ := nalType y.plan.cfg.codec .eos }] else [])
/-- O_n of R330 in bits: every unit other than slice data, and 8 bits for each row segment. -/
def Picture.allowance (y : Picture) (s : StreamGeo) (refs : List Nat) : Nat :=
  let units := y.leadNals s ++ y.sliceHeaders s refs ++ y.tailNals s 0
  8 * (units.map (y.plan.nalBytes s)).sum + 8 * s.segments y.plan.cols

/-- The types of the units of an access unit that carries every parameter set, an APS and every enabled SEI (R330). -/
def Plan.fullUnit (x : Plan) (s : StreamGeo) : List Nat :=
  let t := nalType x.cfg.codec
  let vvc := x.cfg.codec = 0
  [t .aud] ++ (if vvc then [] else [t .vps]) ++ [t .sps, t .pps] ++ (if vvc then [t .aps, t .ph] else []) ++
  (if x.hasHrd s then [t .prefixSei, t .prefixSei] else []) ++ [t .prefixSei] ++ (if x.cfg.hash then [t .suffixSei] else []) ++ [t .eos]
/-- The header allowance of such an access unit: each unit at its most bytes. -/
def Plan.headerMax (x : Plan) (s : StreamGeo) : Nat :=
  let slice := ([0, 1, 2].map (fun k => x.mostBytes s (sliceNal x.cfg.codec k))).foldl max 0
  let entries := if x.cfg.wpp then ((x.slicesOf s).map (fun e => e.y1 - e.y0 - 1)).sum else 0
  8 * ((x.fullUnit s).map (fun t => 2 + x.mostBytes s t)).sum + 8 * (x.slicesOf s).length * (2 + slice) + 32 * entries +
    8 * s.segments x.cols
/-- F_max of R330. -/
def Plan.floorMax (x : Plan) (s : StreamGeo) : Nat := x.headerMax s + fCtu x.cfg.codec * s.ctus

/-! ### Offences of rate settings (07 R323, R345; R275) -/

/-- Offences of a plan's rate settings under R323 and R275, by parameter offset of RATE_CONFIG (R698). -/
def Plan.badRate (x : Plan) : List (Nat × Bool) :=
  let per (s : StreamGeo) : List (Nat × Bool) :=
    let rb := x.rb s
    let cpb := x.cpb s
    let lim := levelRate x.cfg.codec x.geom.format (x.levels.get (255, 0) s.num)
    [(0, decide (lim < rb) || decide (cpb < drainMax rb x.geom.rate + 32) || decide (drainMin rb x.geom.rate < x.floorMax s)),
     (4, !x.multi && decide (lim < cpb))]
  x.geos.flatMap per ++
  [(4, x.multi && decide (4000000000 < x.rate.cpb x.geom.rate)), (8, x.rate.hrdMode == 1 && x.geom.mode == 1),
   (0, x.rate.hrdMode == 1 && x.rate.bitRate % 64 != 0)]

/-- The frame size cap of a stream (R345). -/
def Plan.capOf (x : Plan) (s : StreamGeo) : Nat :=
  if s.num = 0 then x.rate.frameCap else x.rate.frameCap * s.area / (x.geom.width * x.geom.height)
/-- The frame size cap lies outside its range for some stream (R345). -/
def Plan.badCap (x : Plan) : Bool :=
  x.rate.frameCap != 0 && x.geos.any (fun s =>
    decide (x.capOf s < x.floorMax s) || decide (hrdSize (x.rb s) (x.cpb s) < x.capOf s))

end Sys2Proof.Machine
end

