-- ==== Sys2Proof/Machine/ProgramOps.lean ====
section
/-!
DEFINITION. The program opcodes of *Command reference* (0x0401–0x0503, LAUNCH_POLICY): 06 R270–R293, R302–R304, R314–R317; 07
R321–R326, R345, R348; 08 R350–R354, R369; 09 R411, R412.
-/
set_option Elab.async false
namespace Sys2Proof.Machine

open Sys2Proof

/-- A started command waits for the next clearing of a canopy, which is its commit point. -/
def State.awaitClearing (s : State) (c : Cmd) (k : Nat) : State :=
  s.modCmd c.q c.seq (fun d => { d with clearOf := some k })

/-- The program runs, or will at its clearing. -/
def State.progActive (s : State) (p : Nat) : Bool := (s.prog p).running || (s.prog p).starting

/-! ### PROGRAM_CONFIG (R270, R288–R291, R315, R430) -/

/-- Settings that a PROGRAM_CONFIG gives. -/
def Cmd.progCfg (c : Cmd) (wall : Bool) : ProgCfg :=
  let ex := bit (c.u 7 1) 3 && !wall
  let nc := if wall then 1 else c.u 4 1
  let nr := if wall then 1 else c.u 5 1
  { codec := c.u 0 1, k := c.u 1 1, nref := c.u 2 1, priority := c.u 3 1, tileCols := nc, tileRows := nr,
    sliceMode := c.u 6 1, options := c.u 7 1, refreshMode := c.u 8 1, gdrLength := c.u 9 1, refreshPeriod := c.u 10 2,
    psInterval := c.u 12 1,
    colWidths := if ex then (List.range nc).map (fun i => c.u (16 + 2 * i) 2) else [],
    rowHeights := if ex then (List.range nr).map (fun i => c.u (56 + 2 * i) 2) else [] }

/-- Range offences of PROGRAM_CONFIG's own fields. -/
def State.badProgFields (s : State) (c : Cmd) : List (Nat × Bool) :=
  let k := s.canopy c.idx
  let wall := k.configured && k.comingGeom.mode == 1
  let ex := bit (c.u 7 1) 3 && !wall
  let nc := if ex then min (c.u 4 1) 20 else 0
  let nr := if ex then min (c.u 5 1) 22 else 0
  [c.outside 0 1 0 1, c.outside 1 1 1 8, c.outside 2 1 1 2, c.outside 3 1 0 3, (4, !wall && (c.u 4 1 < 1 || 20 < c.u 4 1)),
   (5, !wall && (c.u 5 1 < 1 || 22 < c.u 5 1)), c.outside 6 1 0 1, (7, 15 < c.u 7 1 || (c.u 0 1 == 1 && bit (c.u 7 1) 1)),
   c.outside 8 1 0 2, c.outside 9 1 2 64, c.outside 10 2 1 65535, c.outside 12 1 1 255,
   (6, (s.formed || s.twin.role == 1) && c.u 6 1 == 0 && !bit (c.u 7 1) 0)] ++
  ((List.range 20).filter (fun i => nc ≤ i)).map (fun i => (16 + 2 * i, c.u (16 + 2 * i) 2 != 0)) ++
  ((List.range 22).filter (fun i => nr ≤ i)).map (fun i => (56 + 2 * i, c.u (56 + 2 * i) 2 != 0)) ++
  [(13, c.u 13 1 != 0), (14, c.u 14 2 != 0), (100, c.u 100 4 != 0)]

/-- Fields that a running program may not change (R315). -/
def ProgCfg.fixedPart (c : ProgCfg) : ProgCfg :=
  { c with refreshMode := 0, refreshPeriod := 0, gdrLength := 0, psInterval := 0, priority := 0, options := c.options % 4 + c.options / 8 % 2 * 8 }

def checkProgramConfig (s : State) (c : Cmd) : Verdict :=
  let k := s.canopy c.idx
  let g := k.comingGeom
  let cfg := c.progCfg (k.configured && g.mode == 1)
  let own := s.badProgFields c
  let whole := c.u 0 1 ≤ 1 && 1 ≤ c.u 4 1 && 1 ≤ c.u 5 1
  let rel := if k.configured then (0, !profileOk (c.u 0 1) g) :: (if whole || g.mode == 1 then badGrid g cfg else []) else []
  firstOf [badRange (own ++ rel),
    badState (s.progActive c.idx && cfg.fixedPart != ((s.prog c.idx).cfg.getD {}).fixedPart) c.object]

/-- On a running program the change takes effect at a clearing, where a configuration epoch begins (R316, R317). One that has come to alter
what a running program may not change since check 9 (R315) completes with FAULT_INTERNAL (log entry 156). -/
def effProgramConfig (c : Cmd) (s : State) : State :=
  let k := s.canopy c.idx
  if (s.prog c.idx).running ∧ !c.armed then s.awaitClearing c c.idx
  else
    let cfg := c.progCfg (k.configured && k.comingGeom.mode == 1)
    if s.progActive c.idx ∧ cfg.fixedPart ≠ ((s.prog c.idx).cfg.getD {}).fixedPart then s.fail c 0x0303 c.object
    else ((s.modProg c.idx (fun p => { p with
      cfg := some cfg, epochDue := p.epochDue || p.running,
      plan := if p.running then { p.plan with cfg := cfg } else p.plan })).recharge c.idx).ok c
def execProgramConfig (q seq : Nat) (s : State) : Out := opOut q (s.runOp 0x0401 q seq effProgramConfig)

/-! ### PROGRAM_START (R23, R177, R272–R274, R291, R314, R323, R354, R369, R411, R666, R695, R699) -/

/-- Open egress flows of a stream. -/
def State.flowsOf (s : State) (p n : Nat) : List Nat :=
  (s.egress.flows.filter (fun e => e.2.isOpen && e.2.kind == 0 && e.2.prog == p && e.2.stream == n)).map Prod.fst
/-- Maximum RTP payload that PROGRAM_START fixes for a stream (R354). -/
def State.startPayload (s : State) (p n : Nat) : Nat :=
  match (s.flowsOf p n).map (fun f => (s.txFlow f).maxPayload) with
  | [] => 1448
  | x :: xs => xs.foldl min x
/-- All streams of a program that starts, stream 0 first. -/
def State.streamNumbers (s : State) (p : Nat) : List Nat := (0 :: (s.startPlan p).geos.map StreamGeo.num).dedup

/-- Bytes of one rate stream's coded-row store (R369). -/
def storeBytes (se p : Nat) : Nat :=
  let n := cdiv (2 * se) 8
  n + 64 * cdiv n p

/-- Bytes of a canopy frame as it is stored. -/
def frameBytes (g : CanopyGeom) : Nat := cdiv (g.width * g.height * bpp8 g.format) 8

/-- Bytes of the pictures of a program: its canvas, its Nref references and its reconstruction (R23, R279; log entry 25). -/
def State.pictureBytes (s : State) (p : Nat) : Nat := ((s.startPlan p).cfg.nref + 2) * frameBytes (s.startPlan p).geom

/-- The reservations that PROGRAM_START makes, in order, with the state after making them (R23, R369, R475). -/
def State.programPages (s : State) (c : Cmd) : List Reservation × State :=
  let p := c.idx
  let pl := s.startPlan p
  let first := s.newReservation c.object 0 (s.pictureBytes p) false (some (c.q, c.seq))
  pl.geos.foldl (fun (acc : List Reservation × State) x =>
    let se := hrdSize (pl.rb x) (pl.cpb x)
    let v := acc.2.newReservation c.object 0 (storeBytes se (s.startPayload p x.num)) true (some (c.q, c.seq))
    (acc.1 ++ [v], acc.2.reserve v)) ([first], s.reserve first)

def pageBytes (r : Reservation) : Nat := 65536 * (r.pages.length + r.mirror.length)

/-- The charges of PROGRAM_START (R34, R38, R39). -/
def State.programCharges (s : State) (c : Cmd) : List Charge :=
  let g := (s.startPlan c.idx).geom
  [{ owner := c.object, res := 1, amount := lumaCharge g.width g.height g.rate, pos := c.pos },
   { owner := c.object, res := 2, amount := s.progLoad c.idx none, pos := c.pos },
   { owner := c.object, res := 3, amount := ((s.programPages c).1.map pageBytes).sum, pos := c.pos }]

def State.programPermits (s : State) (c : Cmd) : List Permit :=
  { code := 1, amount := 45, holder := c.object, pos := c.pos } :: s.fillPermits (s.programPages c).1 c.pos

/-- Range failures of PROGRAM_START under R699, as whole DETAIL values in the order of the rules they come from. -/
def State.badStart (s : State) (p : Nat) : List (Bool × Nat) :=
  let pl := s.startPlan p
  let lv := programLevels pl.geom pl.tiling pl.cfg pl.rate.bitRate
  let none0 := programLevels pl.geom pl.tiling pl.cfg 0
  let rate := lowestBad pl.badRate
  let grid := lowestBad (badGrid pl.geom pl.cfg)
  [(!profileOk pl.cfg.codec pl.geom, 0x04010000), (grid.isSome, 0x04010000 + grid.getD 0),
   (33 < pl.cols.length, 0x03060000),
   (lv.any (fun e => e.2.isNone), if none0.any (fun e => e.2.isNone) then 0x03010004 else 0x05010000),
   (rate.isSome, 0x05010000 + rate.getD 0), (pl.badCap, 0x05020004)]

def checkProgramStart (s : State) (c : Cmd) : Verdict :=
  let p := c.idx
  let k := s.canopy p
  let x := s.prog p
  let ready := k.configured && x.cfg.isSome
  let bad := if ready then (s.badStart p).find? Prod.fst else none
  let fill := s.badCapacity (fun _ => false) (s.programCharges c)
  firstOf [bad.map (fun e => (0x0201, e.2)),
    badState (x.running || x.starting || x.draining || x.cfg.isNone) c.object,
    badState (!k.configured || (!k.running && s.commitOpen p)) (canopyId p),
    badState ((s.tb 0).state = 0) (tbId 0),
    badState (x.launchBase != 0 && (s.tb x.launchBase).mode != 3) (tbId x.launchBase),
    fill, s.badPermit (s.programPermits c)]

def acceptProgramStart (c : Cmd) (s : State) : State :=
  let p := c.idx
  let pay := (s.streamNumbers p).map (fun n => (n, s.startPayload p n))
  let s1 := (s.charge (s.programCharges c)).grant (s.programPermits c)
  let rs := (s.programPages c).1
  (rs.foldl State.reserve s1).modProg p (fun x => { x with starting := true, payload := pay, plan := s.startPlan p })

/-- A rate stream as it starts (R326, R327). -/
def newStream (pl : Plan) (x : StreamGeo) : RateStream :=
  let rb := pl.rb x
  let cpb := pl.cpb x
  { stream := x.num, rb := rb, s := cpb, d := hrdDelay rb cpb, se := hrdSize rb cpb, exact := [(0, 0)] }

/-- The program begins at its clearing: epoch 1, an empty DPB, rate streams at level 0; levels and tiers are those that
PROGRAM_START chose, and its LATE frames are counted from 0 (R272, R314, R317, R348; 09 R420). -/
def State.beginProgram (s : State) (p at_ : Nat) : State :=
  let pl := { s.startPlan p with levels := (s.prog p).plan.levels }
  let sts := pl.geos.map (newStream pl)
  let s1 := { s with time := { s.time with lateCount := s.time.lateCount.set p 0 } }
  s1.modProg p (fun x => { x with
    running := true, starting := false, draining := false, epoch := 1, epochG := at_, epochDue := false, stopNow := false,
    pictures := 0, poc := 0, sincePs := 0, sinceRefresh := 0, sinceBp := 0, nextAps := 0, refreshReq := 0, sweep := none, refs := [],
    refLost := false, streams := sts, plan := pl, pics := [], emitting := [], rateWaits := false,
    muted := none, mutedFrom := 0, peerMuted := none, peerMutedFrom := 0, splicedFrom := 0, followEnd := 0, recordsUntil := 0,
    follow := false, spliceOk := false, splicedNow := none, aloneNoted := false,
    faultSticky := false, agreed := [], ownCrcs := [], peerCrcs := [], peerReady := [], records := [], permitHeld := true })

/-- PROGRAM_START starts its canopy when that does not run, which passes its commit point (R666), and takes effect at the next clearing, once its pages are filled (R314, R504). -/
def effProgramStart (c : Cmd) (s : State) : State :=
  let p := c.idx
  if !(s.canopy p).running then
    ((s.startCanopy p).awaitClearing c p).modCmd c.q c.seq (fun d => { d with phase := .committed, notBefore := none })
  else if c.armed then
    if s.filling c.q c.seq then s
    else
      let s1 := (s.settleCharges c.pos).settlePages c.q c.seq
      (s1.beginProgram p (s1.canopy p).g).ok c
  else s.awaitClearing c p
def execProgramStart (q seq : Nat) (s : State) : Out := opOut q (s.runOp 0x0402 q seq effProgramStart)

/-! ### PROGRAM_STOP (R314), FORCE_REFRESH (R303, R304) -/

def checkProgramStop (s : State) (c : Cmd) : Verdict := badState (!(s.prog c.idx).running) c.object
/-- The program ends after the picture of the clearing; a program that no longer runs has nothing to end (R691). -/
def effProgramStop (c : Cmd) (s : State) : State :=
  if !(s.prog c.idx).running then s.ok c
  else if !c.armed then s.awaitClearing c c.idx
  else (s.modProg c.idx (fun p => { p with stopNow := true })).ok c
def execProgramStop (q seq : Nat) (s : State) : Out := opOut q (s.runOp 0x0403 q seq effProgramStop)

/-- A refresh is asked for: IDR prevails over GDR (R304). Codes: 1 GDR, 2 IDR, 3 twin refresh. -/
def askRefresh (held new : Nat) : Nat :=
  if held = 2 ∨ new = 2 then 2 else if held = 3 ∨ new = 3 then 3 else max held new
def checkForceRefresh (s : State) (c : Cmd) : Verdict :=
  firstOf [badRange (c.outside 0 1 0 1 :: c.zeros [(0, 1)] []), badState (!s.progActive c.idx) c.object]
/-- The refresh starts at the first picture begun from now on, with a configuration epoch (R303, R317). -/
def effForceRefresh (c : Cmd) (s : State) : State :=
  if s.progActive c.idx then
    (s.modProg c.idx (fun p => { p with
      refreshReq := askRefresh p.refreshReq (if c.u 0 1 = 0 then 2 else 1), epochDue := true })).ok c
  else s.ok c
def execForceRefresh (q seq : Nat) (s : State) : Out := opOut q (s.runOp 0x0404 q seq effForceRefresh)

/-! ### SUBPIC_MAP (R350, R352) -/

def checkSubpicMap (s : State) (c : Cmd) : Verdict :=
  let k := s.canopy c.idx
  let n := k.comingTiling.length
  let many := multi k.comingGeom k.comingTiling
  let set := c.u 4 32
  firstOf [badRange ([c.outside 0 1 0 1, (4, if c.u 0 1 = 1 then many && decide (2 ^ n ≤ set) else set != 0)] ++
      c.zeros [(0, 1), (4, 32)] []),
    badState (!many) c.object]
/-- The streams that a program emits by its mode and map (R350). -/
def State.wantStreams (s : State) (p : Nat) : List Nat :=
  let x := s.prog p
  let nums := (s.geos p).map StreamGeo.num
  if !(s.plan p).multi ∨ x.mapMode = 0 then [0]
  else match x.mapSet with
    | none => nums
    | some l => nums.filter (fun n => l.contains n)

/-- A configuration epoch begins where the program's streams change (R317). -/
def effSubpicMap (c : Cmd) (s : State) : State :=
  if (s.prog c.idx).running ∧ !c.armed then s.awaitClearing c c.idx
  else
    let chosen := if c.u 0 1 = 1 then some ((bitsSet 256 (c.u 4 32)).map (fun i => i + 1)) else none
    let s1 := s.modProg c.idx (fun p => { p with mapMode := c.u 0 1, mapSet := chosen })
    (s1.modProg c.idx (fun p => { p with
      epochDue := p.epochDue || (p.running && s1.wantStreams c.idx != s.wantStreams c.idx) })).ok c
def execSubpicMap (q seq : Nat) (s : State) : Out := opOut q (s.runOp 0x0405 q seq effSubpicMap)

/-! ### RATE_CONFIG (R323, R324, R275) -/

def Cmd.rateCfg (c : Cmd) (old : RateCfg) : RateCfg :=
  { old with bitRate := c.u 0 4, cpbSize := c.u 4 4, hrdMode := c.u 8 1, idrFactor := c.u 9 1 }
/-- Offences of new rate settings under R323 and R275, against the levels that PROGRAM_START chose, from its acceptance on (log entry
146). -/
def State.badNewRate (s : State) (p : Nat) (r : RateCfg) : List (Nat × Bool) :=
  let x := s.prog p
  if s.progActive p then { (if x.running then x.plan else s.startPlan p) with rate := r, levels := x.plan.levels }.badRate else []
def checkRateConfig (s : State) (c : Cmd) : Verdict :=
  let own := [c.outside 0 4 1000000 4000000000, (4, c.u 4 4 % 16 != 0), c.outside 8 1 0 1, c.outside 9 1 4 16] ++
    c.zeros [(0, 4), (4, 4), (8, 1), (9, 1)] []
  badRange (own ++ s.badNewRate c.idx (c.rateCfg (s.prog c.idx).rate))

/-- The drain of period n (R327). -/
def drain (rb rate n : Nat) : Nat := (n + 1) * rb * rateDen rate / rateNum rate - n * rb * rateDen rate / rateNum rate
/-- The level before picture n: exact up to picture `m0`, then with recent pictures at their budgets (R331). -/
def RateStream.levelFrom (st : RateStream) (rate hrd m0 n : Nat) : Int :=
  (List.range (n - m0)).foldl (fun v i =>
    let m := m0 + i
    let b : Int := ((st.pics.find? (fun x => x.n = m)).map PicRate.b).getD 0
    let d : Int := ((st.pics.find? (fun x => x.n = m)).map PicRate.d).getD (drain st.rb rate m)
    if hrd = 1 then v + max b (d - v) - d else max 0 (v + b - d)) (st.exact.get 0 m0)

/-- A rate stream under new settings (R324, R326). -/
def RateStream.retune (st : RateStream) (pl : Plan) (x : StreamGeo) : RateStream :=
  let rb := pl.rb x
  let cpb := pl.cpb x
  { st with rb := rb, s := cpb, d := hrdDelay rb cpb, se := hrdSize rb cpb }

/-- Every level fits the new buffer (R324). -/
def State.rateFits (s : State) (p : Nat) (r : RateCfg) : Bool :=
  let x := s.prog p
  let g := x.plan.geom
  (x.plan.geos.zip x.streams).all (fun e =>
    let t := e.2.retune { x.plan with rate := r } e.1
    decide (e.2.levelFrom g.rate x.rate.hrdMode e.2.vn x.pictures ≤ (t.se : Int) - (drainMax t.rb g.rate : Nat)))

/-- At a clearing the change stands, with an IDR when it alters the SPS (R316), once the buffer level allows it; until then the change
waits (R324). Values that the program's settings have come not to permit since check 9 complete with FAULT_INTERNAL (log entry 156). -/
def effRateConfig (c : Cmd) (s : State) : State :=
  let p := c.idx
  let x := s.prog p
  let r := c.rateCfg x.rate
  let g := x.plan.geom
  let size := r.bitRate != x.rate.bitRate || r.cpb g.rate != x.rate.cpb g.rate
  if (lowestBad (s.badNewRate p r)).isSome then s.fail c 0x0303 c.object
  else if !x.running then (s.modProg p (fun x => { x with rate := c.rateCfg x.rate })).ok c
  else if !c.armed then (s.modProg p (fun x => { x with rateWaits := x.rateWaits || size })).awaitClearing c p
  else if size ∧ !s.rateFits p r then s.modProg p (fun x => { x with rateWaits := true })
  else
    let sps := size || r.hrdMode != x.rate.hrdMode
    let sts := (x.plan.geos.zip x.streams).map (fun e => e.2.retune { x.plan with rate := r } e.1)
    (s.modProg p (fun x => { x with
      rate := r, plan := { x.plan with rate := r }, streams := sts, rateWaits := false, epochDue := true,
      refreshReq := if sps then askRefresh x.refreshReq 2 else x.refreshReq })).ok c
def execRateConfig (q seq : Nat) (s : State) : Out := opOut q (s.runOp 0x0501 q seq effRateConfig)

/-! ### RATE_BOUNDS (R49, R50, R345, R346) -/

def Cmd.rateBounds (c : Cmd) (old : RateCfg) : RateCfg :=
  { old with qpMin := c.u 0 1, qpMax := some (c.u 1 1), fixedQp := if c.u 2 1 = 255 then none else some (c.u 2 1),
             frameCap := c.u 4 4 }
/-- A frame size cap outside its range for some stream (R345). -/
def State.badCap (s : State) (p cap : Nat) : Bool :=
  let x := s.prog p
  let pl := if x.running then x.plan else s.startPlan p
  (s.canopy p).configured && x.cfg.isSome && { pl with rate := { pl.rate with frameCap := cap } }.badCap
def checkRateBounds (s : State) (c : Cmd) : Verdict :=
  let top := qpTop ((s.prog c.idx).cfg.getD {}).codec
  let lo := c.u 0 1
  let hi := c.u 1 1
  badRange ([(0, top < lo || hi < lo), (1, top < hi), (0, c.u 2 1 < lo), (1, c.u 2 1 != 255 && hi < c.u 2 1),
    (4, s.badCap c.idx (c.u 4 4))] ++ c.zeros [(0, 1), (1, 1), (2, 1), (4, 4)] [])
def effRateBounds (c : Cmd) (s : State) : State :=
  if (s.prog c.idx).running ∧ !c.armed then s.awaitClearing c c.idx
  else (s.modProg c.idx (fun p => { p with
    rate := c.rateBounds p.rate, epochDue := p.epochDue || p.running,
    plan := if p.running then { p.plan with rate := c.rateBounds p.rate } else p.plan })).ok c
def execRateBounds (q seq : Nat) (s : State) : Out := opOut q (s.runOp 0x0502 q seq effRateBounds)

/-! ### RATE_STATUS (R348) -/

def State.rateStream (s : State) (p n : Nat) : Option RateStream := (s.prog p).streams.find? (fun x => x.stream = n)
/-- The rate stream that RATE_STATUS names: as the last run left it, or of a program that has not run yet as it would start. -/
def State.statusStream (s : State) (p n : Nat) : Option RateStream :=
  if (s.prog p).streams.isEmpty then ((s.startPlan p).geos.find? (fun x => x.num = n)).map (newStream (s.startPlan p)) else s.rateStream p n
def checkRateStatus (s : State) (c : Cmd) : Verdict :=
  badRange ((0, (s.statusStream c.idx (c.u 0 2)).isNone) :: (c.buf 4 64 ++ c.zeros [(0, 2), (4, 12)] []))
/-- *RATE_STATUS parameters and record*. -/
def State.rateRecord (s : State) (p : Nat) (x : RateStream) : List Byte :=
  let pr := s.prog p
  ([pr.epoch, pr.epochG % two32, x.d, x.se, x.rb, wrapInt 32 x.lastV, x.debt, x.lastB, x.lastS].map (leBytes 4)).flatten ++
  leBytes 1 x.rowQp ++ leBytes 1 x.wantQp ++ leBytes 1 (b2n x.clamped) ++ leBytes 1 0 ++
  ([x.clamps, x.floorPictures, x.floorRows, x.cutovers].map (leBytes 4)).flatten ++ leBytes 8 x.overrunTotal
/-- A stream that is none of the program's any more since check 9 completes with FAULT_INTERNAL (log entry 156). -/
def effRateStatus (c : Cmd) (s : State) : State :=
  match s.statusStream c.idx (c.u 0 2) with
  | none => s.fail c 0x0303 c.object
  | some x => (s.writeBuf c (c.u 4 8) (s.rateRecord c.idx x)).ok c 64
def execRateStatus (q seq : Nat) (s : State) : Out := opOut q (s.runOp 0x0503 q seq effRateStatus)

/-! ### LAUNCH_POLICY (R412) -/

def checkLaunchPolicy (s : State) (c : Cmd) : Verdict :=
  let b := c.u 0 1
  let k := s.canopy c.idx
  firstOf [badRange ([(0, 3 < b || (b != 0 && (s.tb b).mode != 3)),
      (4, c.u 4 4 < 100000 || (k.configured && (gridOf k.comingGeom.rate 0).period < c.u 4 4))] ++ c.zeros [(0, 1), (4, 4)] []),
    badState (s.progActive c.idx) c.object]
/-- A program that has become active since check 9 keeps its policy: FAULT_INTERNAL (log entry 156). -/
def effLaunchPolicy (c : Cmd) (s : State) : State :=
  if s.progActive c.idx then s.fail c 0x0303 c.object
  else (s.modProg c.idx (fun p => { p with launchBase := c.u 0 1, window := some (c.u 4 4) })).ok c
def execLaunchPolicy (q seq : Nat) (s : State) : Out := opOut q (s.runOp 0x0703 q seq effLaunchPolicy)

end Sys2Proof.Machine
end

