-- ==== Sys2Proof/Machine/RateControl.lean ====
section
/-!
DEFINITION. Row-level rate control (07): the frame budget of a picture with its kind, references and parameter sets (06
R277–R280, R302–R311), row decisions, the buffer level, overruns; in follow mode the row records of the launching twin (10 R462).
-/
set_option Elab.async false
namespace Sys2Proof.Machine

open Sys2Proof

/-! ### Pictures -/

/-- The picture of a program's canopy frame. -/
def State.pic (s : State) (p f : Nat) : Option Picture := (s.prog p).pics.find? (fun x => x.f = f)
def State.modPic (s : State) (p f : Nat) (g : Picture → Picture) : State :=
  s.modProg p (fun x => { x with pics := x.pics.map (fun y => if y.f = f then g y else y) })
/-- Change a rate stream of a program. -/
def State.modStream (s : State) (p n : Nat) (g : RateStream → RateStream) : State :=
  s.modProg p (fun x => { x with streams := x.streams.map (fun y => if y.stream = n then g y else y) })

/-- A rate stream's record of a picture. -/
def RateStream.picRate (st : RateStream) (n : Nat) : Option PicRate := st.pics.find? (fun x => x.n = n)
def RateStream.modPicRate (st : RateStream) (n : Nat) (f : PicRate → PicRate) : RateStream :=
  { st with pics := st.pics.map (fun x => if x.n = n then f x else x) }

/-- The buffer level moves on over complete pictures (R327); in at most `fuel` pictures. -/
def RateStream.settle (rate hrd : Nat) : Nat → RateStream → RateStream
  | 0, st => st
  | fuel + 1, st =>
    match (st.picRate st.vn).bind PicRate.s with
    | none => st
    | some size =>
      let d : Int := ((st.picRate st.vn).map PicRate.d).getD (drain st.rb rate st.vn)
      let v1 := if hrd = 1 then st.v + size - d else max 0 (st.v + size - d)
      RateStream.settle rate hrd fuel { st with
        v := v1, vn := st.vn + 1, exact := (st.exact.set (st.vn + 1) v1).filter (fun e => st.vn < e.1 + 20) }

/-! ### Row records (10 R462) -/

/-- A field of a row record. -/
def recU (r : List Byte) (off n : Nat) : Nat := leNat ((r.drop off).take n)
/-- The record of a row, when it has arrived. -/
def State.rowRecord (s : State) (p n row : Nat) : Option (List Byte) :=
  ((s.prog p).records.find? (fun e => e.1 = n && e.2.1 = row)).map (fun e => e.2.2)
/-- Where the stream entries of a record begin. -/
def recEntries (r : List Byte) : Nat := if bit (recU r 1 1) 2 then 24 + 16 * recU r 10 2 else 12
/-- Offset of the entry of a stream, in at most `fuel` entries. -/
def recFind (r : List Byte) (stream : Nat) : Nat → Nat → Option Nat
  | 0, _ => none
  | fuel + 1, off => if recU r off 2 = stream then some off else recFind r stream fuel (off + 20 + 8 * recU r (off + 2) 1)
def recEntry (r : List Byte) (stream : Nat) : Option Nat := recFind r stream (recU r 10 2) (recEntries r)

/-- The peer follows in a picture: this device launches a program that the peer has muted for disagreement, for a FAULT flag, or by R431;
or it did when the picture's first record went out. -/
def State.peerFollows (s : State) (p n : Nat) : Bool :=
  s.formed && (((s.prog p).peerMuted).any (fun c => c != 2) || n < (s.prog p).recordsUntil)

/-! ### FRAME_BUDGET (R329–R332; 06 R277–R280, R302–R311) -/

/-- Pictures that the next picture may refer to, newest first (R279, R311). -/
def Program.usable (x : Program) : List RefPic := x.refs.filter (fun r => r.live && r.available)

/-- What the settings and the references ask of a picture: 0 TRAIL, 1 GDR start, 2 IDR, 3 start of a twin refresh. -/
def Program.kindOf (x : Program) (y : Picture) : Nat :=
  let cfg := y.plan.cfg
  let lost := x.refLost
  let none0 := x.usable.isEmpty
  let due := cfg.refreshMode != 0 && cfg.refreshPeriod ≤ x.sinceRefresh
  if y.n = 0 ∨ none0 then 2
  else
    let asked := askRefresh y.req (if due then (if cfg.refreshMode = 1 then 2 else 1) else 0)
    if asked = 0 ∧ lost then 1 else asked

/-- The sweep after a picture of a kind: position of this picture, and what is left. -/
def sweepStep (kind length : Nat) (old : Option (Nat × Nat × Bool)) : Option (Nat × Nat × Bool) × Option (Nat × Nat × Bool) :=
  match kind with
  | 2 => (none, none)
  | 1 => (some (0, length, false), if 1 < length then some (1, length, false) else none)
  | 3 => (some (0, length, true), if 1 < length then some (1, length, true) else none)
  | _ => match old with
    | none => (none, none)
    | some (k, r, t) => (some (k, r, t), if k + 1 < r then some (k + 1, r, t) else none)

/-- The DPB once a picture is decided (R279): it and the pictures before it, up to Nref of which later pictures may refer to; others
stay while a picture in flight is or reads them. -/
def Program.nextRefs (x : Program) (idr : Bool) (new : RefPic) (nref : Nat) (pics : List Picture) : List RefPic :=
  let keep := if idr then [] else ((x.usable.map RefPic.picture).take (nref - 1))
  (new :: x.refs.map (fun r => { r with live := keep.contains r.picture })).filter (fun r =>
    r.live || pics.any (fun z => z.n == r.picture || z.refs.contains r.picture))

/-- The picture with its kind, order count, references and streams decided, and the program after it. -/
def Program.decidePicture (x : Program) (y : Picture) (kind : Nat) (poc : Nat) (refs : List Nat) : Picture × Program :=
  let cfg := y.plan.cfg
  let (now, left) := sweepStep kind cfg.gdrLength x.sweep
  let start := kind != 0
  let ps := start || cfg.psInterval ≤ x.sincePs
  let emit := (x.emitting ++ (if start then y.want.filter (fun n => !x.emitting.contains n) else []))
  let ends := if y.eos then emit else x.emitting.filter (fun n => !y.want.contains n)
  let twin := now.any (fun e => e.2.2)
  let aps := if cfg.codec = 0 ∧ !start ∧ !twin then some x.nextAps else none
  let y1 : Picture := { y with
    decided := true, poc := poc, kind := if kind = 3 then 1 else kind, sweep := now, ps := ps, bp := start, emit := emit,
    sinceBp := x.sinceBp, aps := aps,
    ends := ends, refs := refs, faultRows := if x.refLost then List.range 128 else y.faultRows }
  let new : RefPic := { poc := poc, picture := y.n, frame := y.f, sweep := y1.sweepAt }
  let x1 : Program := { x with
    sweep := left, poc := poc, sincePs := if ps then 1 else x.sincePs + 1,
    sinceRefresh := if start then 1 else x.sinceRefresh + 1, sinceBp := if start then 1 else x.sinceBp + 1,
    nextAps := if aps.isSome then (x.nextAps + 1) % 8 else x.nextAps, refLost := false,
    refs := x.nextRefs (kind = 2) new cfg.nref (x.pics.map (fun z => if z.f = y.f then y1 else z)),
    emitting := emit.filter (fun n => !ends.contains n) }
  (y1, x1)

/-- Order counts of a picture's reference list. -/
def Program.refPocs (x : Program) (y : Picture) : List Nat :=
  y.refs.map (fun n => ((x.refs.find? (fun r => r.picture = n)).map RefPic.poc).getD 0)

/-- The budget of one rate stream under the picture's own settings (R331, R332, R334); `o` is its header allowance. -/
def RateStream.budget (st : RateStream) (x : StreamGeo) (waits : Bool) (y : Picture) (o : Nat) : RateStream :=
  let n := y.n
  let r := y.plan.rate
  let g := y.plan.geom
  let lag := y.plan.lag
  let rb := y.plan.rb x
  let se := hrdSize rb (y.plan.cpb x)
  let m0 := if n + 1 ≤ lag then 0 else n + 1 - lag
  let v := st.levelFrom g.rate r.hrdMode m0 n
  let d := drain rb g.rate n
  let debt := st.debt + (if lag ≤ n then st.overruns.get 0 (n - lag) else 0)
  let floor := o + fCtu y.plan.cfg.codec * x.ctus
  let cap := if r.frameCap = 0 then se else y.plan.capOf x
  let vTgt : Int := if waits then 0 else (se / 2 : Nat)
  let tgt : Int := if y.kind = 2 then (d * r.idrFactor / 4 : Nat) else (d : Int) + (vTgt - v) / 8
  let want := tgt - debt
  let hi := min ((se : Int) - v) cap
  let b := (clip want floor hi).toNat
  let clamp := decide ((cap : Int) < want ∧ (cap : Int) < (se : Int) - v)
  { st with
    debt := min se ((floor : Int) - want).toNat, lastV := v, lastB := b, clamped := clamp,
    clamps := satAdd 32 st.clamps (b2n clamp), overruns := st.overruns.filter (fun e => n < e.1 + lag),
    pics := ({ n := n, o := o, b := b, d := d } :: st.pics).take 20 }

/-- The budget that a row record carries in follow mode (10 R462). -/
def RateStream.fromRecord (st : RateStream) (x : StreamGeo) (y : Picture) (o : Nat) (rec : List Byte) (i : Nat) : RateStream :=
  let at_ := 24 + 16 * i
  let v := signed 32 (recU rec (at_ + 4) 4)
  { st with
    debt := recU rec (at_ + 8) 4, spill := recU rec (at_ + 12) 4, lastV := v, lastB := recU rec at_ 4,
    pics := ({ n := y.n, o := o, b := recU rec at_ 4, d := drain (y.plan.rb x) y.plan.geom.rate y.n } :: st.pics).take 20 }

/-- Is the frame budget of a picture due (R329)? Every picture up to n − L is complete, and the budgets before it are decided. -/
def State.budgetDue (s : State) (p : Nat) (y : Picture) : Bool :=
  let x := s.prog p
  !y.decided && x.pics.all (fun z => y.n ≤ z.n || z.decided) && x.streams.all (fun st => y.n + 1 ≤ st.vn + y.plan.lag)

/-- The refresh that a picture starts is posted once, but for a program's first IDR (R308). -/
def State.refreshStarted (s : State) (p : Nat) (y : Picture) (kind : Nat) : State :=
  if kind = 0 ∨ y.n = 0 ∨ y.refreshPosted then s
  else (s.modPic p y.f (fun z => { z with refreshPosted := true })).raise 0x0501 (progId p) y.n
    (match kind with | 2 => 0 | 1 => 1 | _ => 2)

/-- What a frame budget is about to change in its program. -/
def Program.beforeBudget (x : Program) : BudgetUndo :=
  { sweep := x.sweep, poc := x.poc, sincePs := x.sincePs, sinceRefresh := x.sinceRefresh, sinceBp := x.sinceBp, nextAps := x.nextAps,
    refLost := x.refLost, refs := x.refs, emitting := x.emitting, streams := x.streams }
/-- A rate stream with the budgets of picture `n` and later ones taken back. -/
def RateStream.undoBudget (st old : RateStream) (n : Nat) : RateStream :=
  { st with
    debt := old.debt, lastV := old.lastV, lastB := old.lastB, clamped := old.clamped, clamps := old.clamps,
    overruns := st.overruns ++ old.overruns.filter (fun e => (st.overruns.find e.1).isNone),
    pics := st.pics.filter (fun q => q.n < n) }
/-- The budgets of the first picture whose row 0 is undecided, and of those after it, are taken back, to be decided anew (10 R461, R462). -/
def Program.undoBudgets (x : Program) : Program :=
  match x.pics.find? (fun y => y.decided && (y.qps.find 0).isNone) with
  | none => x
  | some y => match y.undo with
    | none => x
    | some u => { x with
      sweep := u.sweep, poc := u.poc, sincePs := u.sincePs, sinceRefresh := u.sinceRefresh, sinceBp := u.sinceBp, nextAps := u.nextAps,
      refLost := u.refLost || x.refLost, emitting := u.emitting,
      refs := u.refs.map (fun r => (x.refs.find? (fun z => z.picture = r.picture)).elim r (fun z => { z with live := r.live })),
      streams := (x.streams.zip u.streams).map (fun e => e.1.undoBudget e.2 y.n),
      pics := x.pics.map (fun z => if y.n ≤ z.n then { z with decided := false, undo := none } else z) }

/-- The kind of a picture that a record gives: a GDR start that the program's own settings do not ask for starts a twin refresh (10 R461,
R463; log entry 175). -/
def recordKind (x : Program) (y : Picture) (kind : Nat) : Nat := if kind = 1 ∧ x.kindOf y ≠ 1 then 3 else kind

/-- The frame budget of a picture is decided for each rate stream; `pic` counts canopy frames (log entry 26). -/
def State.frameBudget (s : State) (p f : Nat) : State :=
  match s.pic p f with
  | none => s
  | some y =>
    if !s.budgetDue p y then s
    else
      let x := s.prog p
      let geos := y.plan.geos
      let fin (kind poc : Nat) (refs : List Nat) (set : Picture → RateStream → StreamGeo → Nat → Nat → RateStream) : State :=
        let (y0, x1) := x.decidePicture y kind poc refs
        let y1 := { y0 with undo := some x.beforeBudget }
        let sts := ((x.streams.zip geos).zipIdx).map (fun e => set y1 e.1.1 e.1.2 (y1.allowance e.1.2 (x.refPocs y1)) e.2)
        let s1 := s.modProg p (fun _ => { x1 with
          streams := sts, pics := x.pics.map (fun z => if z.f = f then y1 else z) })
        let s2 := s1.refreshStarted p y kind
        match x.splicedNow with
        | some first =>
          (s2.modProg p (fun z => { z with splicedNow := none, follow := false, followEnd := y.n })).raise 0x070C (progId p) first 0
        | none => s2
      if x.follow ∧ x.splicedNow.isNone then
        match s.rowRecord p y.n 0 with
        | none => s
        | some rec =>
          if bit (recU rec 1 1) 2 then
            let kind := recordKind x y (recU rec 1 1 % 4)
            let poc := recU rec 12 4
            let named := [recU rec 16 4, recU rec 20 4].filter (fun e => e != 0xFFFFFFFF)
            let refs := named.filterMap (fun e => (x.refs.find? (fun r => r.poc = e)).map RefPic.picture)
            fin kind poc refs (fun y1 st geo o i => st.fromRecord geo y1 o rec i)
          else s
      else
        let kind := x.kindOf y
        let poc := if kind = 2 then 0 else x.poc + 1
        let refs := if kind = 2 then [] else (x.usable.take y.plan.cfg.nref).map RefPic.picture
        fin kind poc refs (fun y1 st geo o _ => st.budget geo x.rateWaits y1 o)

def execFrameBudget (prog pic : Nat) (s : State) : Out := need (prog < 16) <| s.frameBudget prog pic

/-! ### ROW_DECISION (R336–R346) -/

/-- Weights of a stream's rows and of the segments of one row (R338, R339). -/
structure Weights where
  rows : List Nat
  segs : List Nat

/-- Luma rectangle of a stream's row, or of a segment of it. -/
def StreamGeo.rowLines (x : StreamGeo) (codec : Nat) (g : CanopyGeom) (j : Nat) : Nat × Nat :=
  let h := ctuLines codec
  (h * (x.y0 + j), min g.height (h * (x.y0 + j + 1)))

/-- R338, R339: from the bits of picture n − L of the stream, from the activity of its canopy frame, or all 1. -/
def State.weights (s : State) (p : Nat) (st : RateStream) (x : StreamGeo) (y : Picture) (r : Nat) : Weights :=
  let codec := y.plan.cfg.codec
  let g := y.plan.geom
  let l := y.plan.lag
  let cols := x.cols y.plan.cols
  let b := ctuLines codec
  let ones : Weights := { rows := List.replicate x.rows 1, segs := cols.map (fun _ => 1) }
  if y.n < l then ones
  else if y.kind = 2 ∨ y.sweep.isSome then
    match s.frame p (y.f - l) with
    | none => ones
    | some c =>
      let act (j a e : Nat) : Nat :=
        let (y0, y1) := x.rowLines codec g j
        max 1 (c.activity (b * a) (min g.width (b * e)) y0 y1)
      { rows := (List.range x.rows).map (fun j => act j x.x0 x.x1), segs := cols.map (fun e => act r e.1 e.2) }
  else
    match st.picRate (y.n - l) with
    | none => ones
    | some q =>
      { rows := (List.range x.rows).map (fun j => max 1 (q.actual.get 0 j)),
        segs := (cols.zipIdx).map (fun e => max 1 (q.segBits.get 0 (r * 64 + e.2))) }

/-- Row budget, row limit and floor mode of row r of a stream (R337). -/
def PicRate.rowBudget (q : PicRate) (rows fRow r : Nat) (w : List Nat) : Nat × Nat × Bool :=
  let spent := ((List.range (r - 1)).map (fun j => q.actual.get 0 j)).sum
  let before := if r = 0 then 0 else (q.rows.get (0, 0, false) (r - 1)).2.1
  let pool : Int := (q.b : Int) - q.o - spent - before
  let reserve : Int := ((rows - r - 1) * fRow : Nat)
  let spend := pool - reserve - fRow
  let floorOn := r != 0 && (q.rows.get (0, 0, false) (r - 1)).2.2
  if floorOn ∨ spend ≤ 0 then (fRow, fRow, true)
  else
    let b := fRow + (spend * (w.getD r 1 : Nat) / ((w.drop r).sum : Nat)).toNat
    (b, (min ((b + b / 4 : Nat) : Int) (pool - reserve)).toNat, false)

/-- Segment limits of a row (R339). -/
def segmentLimits (codec a fRow : Nat) (cols : List (Nat × Nat)) (w : List Nat) : List Nat :=
  (cols.zip w).map (fun e => fCtu codec * (e.1.2 - e.1.1) + (a - fRow) * e.2 / w.sum)

/-- Every segment of a row of the picture has completed. -/
def State.rowCoded (s : State) (p f row : Nat) : Bool :=
  (List.range (((s.pic p f).map (fun y => y.plan.segs.length)).getD 0)).all (fun i =>
    s.disp.ops.any (fun o => o.key == { kind := .encode, prog := p, pic := f, row := row, seg := i } && o.done))

/-- A row decision is due (R336). -/
def State.rowDue (s : State) (p row : Nat) (y : Picture) : Bool :=
  y.decided && row < y.plan.rowCount && (y.qps.find row).isNone && (row == 0 || (y.qps.find (row - 1)).isSome) &&
  (row < 2 || s.rowCoded p y.f (row - 2))

/-- Enter a row's budget and limits for a stream; FLOOR is posted for the first floor row of a picture (R343). -/
def State.enterRow (s : State) (p : Nat) (y : Picture) (x : StreamGeo) (r : Nat) (v : Nat × Nat × Bool) (limits : List Nat) : State :=
  let s1 := s.modStream p x.num (fun st => { st.modPicRate y.n (fun q => { q with
      rows := q.rows.set r v,
      limits := (limits.zipIdx).foldl (fun t e => Tab.set t (r * 64 + e.2) e.1) q.limits }) with
    floorRows := satAdd 32 st.floorRows (b2n v.2.2) })
  if v.2.2 ∧ !(y.floorPosted.contains x.num) then
    let s2 := s1.modStream p x.num (fun st => { st with floorPictures := satAdd 32 st.floorPictures 1 })
    (s2.modPic p y.f (fun z => { z with floorPosted := x.num :: z.floorPosted })).raise 0x0505 (progId p) y.n
      (x.num * 65536 + r)
  else s1

/-- The ROW_RECORD of a row decision (10 *Row record*). -/
def State.rowRecordBytes (s : State) (p : Nat) (y : Picture) (row qp : Nat) : List Byte :=
  let x := s.prog p
  let geos := y.plan.geos.filter (fun e => e.y0 ≤ row && row < e.y1)
  let pairs := geos.filterMap (fun e => (s.rateStream p e.num).map (fun st => (e, st)))
  let first := row == 0
  let poc (i : Nat) : Nat := match y.refs[i]? with
    | none => 0xFFFFFFFF
    | some n => ((x.refs.find? (fun r => r.picture = n)).map RefPic.poc).getD 0xFFFFFFFF
  let b (st : RateStream) : Nat := ((st.picRate y.n).map PicRate.b).getD 0
  let pkts (n : Nat) : Nat := if row < 2 then 0 else (y.packs.get [] ((row - 2) * 512 + n)).length
  leBytes 1 p ++ leBytes 1 (y.kind + (if first then 4 else 0)) ++ leBytes 2 row ++ leBytes 4 y.n ++ leBytes 1 qp ++ leBytes 1 0 ++
  leBytes 2 pairs.length ++
  (if first then leBytes 4 y.poc ++ leBytes 4 (poc 0) ++ leBytes 4 (poc 1) ++
    (pairs.map (fun e => leBytes 4 (b e.2) ++ leBytes 4 (wrapInt 32 e.2.lastV) ++ leBytes 4 e.2.debt ++ leBytes 4 e.2.spill)).flatten
   else []) ++
  (pairs.map (fun e =>
    let q := (e.2.picRate y.n).getD { n := y.n }
    let r := row - e.1.y0
    let v := q.rows.get (0, 0, false) r
    let k := (e.1.cols y.plan.cols).length
    leBytes 2 e.1.num ++ leBytes 1 k ++ leBytes 1 (b2n v.2.2) ++ leBytes 4 v.1 ++ leBytes 4 v.2.1 ++
    leBytes 4 (if r < 2 then 0 else q.actual.get 0 (r - 2)) ++ leBytes 4 (pkts e.1.num) ++
    ((List.range k).map (fun i => leBytes 4 (q.limits.get 0 (r * 64 + i)) ++
      leBytes 4 (if r < 2 then 0 else q.segBits.get 0 ((r - 2) * 64 + i)))).flatten)).flatten

/-- The row QP (R342, R344, R346): `want` the wanted QP, `prev` the QP of the row above in the picture. -/
def rowQp (r : RateCfg) (codec want : Nat) (prev : Option Nat) : Nat :=
  match r.fixedQp with
  | some q => q
  | none => max (min (max want r.qpMin) (r.top codec)) ((prev.getD 0) - 4)

/-- Whether the wanted QP lies outside the bounds (R344, R346). -/
def qpClamped (r : RateCfg) (codec want : Nat) : Bool :=
  match r.fixedQp with
  | some q => want != q
  | none => want < r.qpMin || r.top codec < want

/-- The controller predicts a stream's row at a QP at or below its row budget (R344). A row with a previous-picture weight is predicted at its
cost there × 2^((q_prev − q) / 6), compared exactly in sixth powers; the table of the rows of R338 is fixed and open (log entry 5). -/
def State.rowFits (s : State) (p : Nat) (st : RateStream) (e : StreamGeo) (y : Picture) (row q : Nat) : Bool :=
  let r := row - e.y0
  let b := (((st.picRate y.n).getD { n := y.n }).rows.get (0, 0, false) r).1
  match (if y.kind = 2 ∨ y.sweep.isSome ∨ y.n < y.plan.lag then none else st.picRate (y.n - y.plan.lag)) with
  | some was => decide (was.actual.get 0 r ^ 6 * 2 ^ was.qps.get 0 r ≤ b ^ 6 * 2 ^ q)
  | none => decide (Config.rowPrediction [y.plan.cfg.codec, (s.weights p st e y r).rows.getD r 1, q] ≤ b)
/-- q_want: the smallest QP of the hardware range at which every stream of the row outside floor mode is predicted within its row
budget; above the range when there is none (R344). -/
def State.wantedQp (s : State) (p row : Nat) (y : Picture) (live : List StreamGeo) : Nat :=
  let top := qpTop y.plan.cfg.codec
  ((List.range (top + 1)).find? (fun q => live.all (fun e =>
    match s.rateStream p e.num with
    | none => true
    | some st => s.rowFits p st e y row q))).getD (top + 1)

/-- The decision of one row: budgets, limits, floor mode and the row QP (R336–R346), under the picture's own settings. -/
def State.decideRow (s : State) (p row : Nat) (y : Picture) : State :=
  let cfg := y.plan.cfg
  let rate := y.plan.rate
  let geos := y.plan.geos.filter (fun e => e.y0 ≤ row && row < e.y1)
  let s1 := geos.foldl (fun s e =>
    match s.rateStream p e.num with
    | none => s
    | some st =>
      let r := row - e.y0
      let cols := e.cols y.plan.cols
      let fRow := fCtu cfg.codec * (e.x1 - e.x0)
      let w := s.weights p st e y r
      let v := ((st.picRate y.n).getD { n := y.n }).rowBudget e.rows fRow r w.rows
      s.enterRow p y e r v (segmentLimits cfg.codec v.2.1 fRow cols w.segs)) s
  let live := geos.filter (fun e => !(((s1.rateStream p e.num).bind (fun st => st.picRate y.n)).any
    (fun q => (q.rows.get (0, 0, false) (row - e.y0)).2.2)))
  let want := s1.wantedQp p row y live
  let qp := if live.isEmpty then rate.top cfg.codec else rowQp rate cfg.codec want (if row = 0 then none else y.qps.find (row - 1))
  let clamp := qpClamped rate cfg.codec want
  let s3 := geos.foldl (fun s e => s.modStream p e.num (fun st =>
    let st1 := st.modPicRate y.n (fun q => { q with qps := q.qps.set (row - e.y0) qp })
    if live.isEmpty then { st1 with rowQp := qp }
    else { st1 with rowQp := qp, wantQp := want, clamped := clamp, clamps := satAdd 32 st.clamps (b2n clamp) })) s1
  s3.modPic p y.f (fun z => { z with qps := z.qps.set row qp, undo := none })

/-- A flow's packet count follows the launching device's (10 R462). -/
def State.advanceSeq (s : State) (p stream : Nat) (d : Int) : State :=
  (s.flowsOf p stream).foldl (fun s f => s.modTx f (fun t => { t with k := ((t.k : Int) + d).toNat })) s

/-- The decision of one row as a record gives it in follow mode. -/
def State.decideByRecord (s : State) (p row : Nat) (y : Picture) (rec : List Byte) : State :=
  let geos := y.plan.geos.filter (fun e => e.y0 ≤ row && row < e.y1)
  let s1 := geos.foldl (fun s e =>
    match recEntry rec e.num with
    | none => s
    | some off =>
      let r := row - e.y0
      let k := recU rec (off + 2) 1
      let lim := (List.range k).map (fun i => recU rec (off + 20 + 8 * i) 4)
      let s1 := s.enterRow p y e r (recU rec (off + 4) 4, recU rec (off + 8) 4, recU rec (off + 3) 1 = 1) lim
      if r < 2 then s1
      else
        let own := (y.packs.get [] ((row - 2) * 512 + e.num)).length
        let s2 := s1.modStream p e.num (fun st => st.modPicRate y.n (fun q => { q with
          actual := q.actual.set (r - 2) (recU rec (off + 12) 4),
          segBits := (List.range k).foldl (fun t i => Tab.set t ((r - 2) * 64 + i) (recU rec (off + 24 + 8 * i) 4)) q.segBits }))
        s2.advanceSeq p e.num ((recU rec (off + 16) 4 : Nat) - (own : Int))) s
  let qp := recU rec 8 1
  let s2 := geos.foldl (fun s e => s.modStream p e.num (fun st =>
    { st.modPicRate y.n (fun q => { q with qps := q.qps.set (row - e.y0) qp }) with rowQp := qp })) s1
  s2.modPic p y.f (fun z => { z with qps := z.qps.set row qp, undo := none })

/-- Row decisions by the program's own rules, or by the records in follow mode; a launching twin sends its record (10 R462). -/
def State.rowDecision (s : State) (p f row : Nat) : State :=
  match s.pic p f with
  | none => s
  | some y =>
    if !s.rowDue p row y then s
    else if (s.prog p).follow ∨ y.n < (s.prog p).followEnd then
      match s.rowRecord p y.n row with
      | none => s
      | some rec => s.decideByRecord p row y rec
    else
      let s1 := s.decideRow p row y
      if s1.peerFollows p y.n then
        s1.tetherSend 10 (s1.rowRecordBytes p y row (((s1.pic p f).bind (fun z => z.qps.find row)).getD 0))
      else s1

/-- Records of the rows from a row of a picture on that have been decided: the device that mutes there takes its rows from them (10 R462; log
entry 176). -/
def State.sendRecords (s : State) (p n row : Nat) : State :=
  (s.prog p).pics.foldl (fun s y => (List.range y.plan.rowCount).foldl (fun s r =>
    match y.qps.find r with
    | some qp => if n < y.n ∨ (y.n = n ∧ row ≤ r) then s.tetherSend 10 (s.rowRecordBytes p y r qp) else s
    | none => s) s) s

def execRowDecision (prog pic row : Nat) (s : State) : Out := need (prog < 16) <| s.rowDecision prog pic row

/-! ### Overrun (R333–R335) -/

/-- H: lower-layer header bytes of a leg's packet with its RTP header, Ethernet and FCS (R371). -/
def TxLeg.headerLen (l : TxLeg) : Nat := (if l.ipVer = 4 then 58 else 78) + (if l.vlan then 4 else 0)

/-- The flow and leg whose committed rate gives the smallest win_bits of a stream (R333). -/
def State.slowest (s : State) (p n : Nat) : Option TxLeg :=
  ((s.flowsOf p n).flatMap (fun f => (s.txFlow f).legs)).foldl (fun best l => match best with
    | none => some l
    | some m => if l.c.rate < m.c.rate then some l else some m) none

/-- The overrun of a complete picture (R333); a stream with no open flow has none (log entry 27). -/
def RateStream.addOverrun (st : RateStream) (n wire : Nat) (leg : Option TxLeg) (window period : Nat) : RateStream :=
  match leg with
  | none => st
  | some l =>
    let win := l.c.rate * window / 1000000000
    let gap := l.c.rate * (period - window) / 1000000000
    let carried := st.spill - gap
    let spill := carried + wire - win
    let ov := spill - carried
    { st with spill := spill, overruns := if ov = 0 then st.overruns else st.overruns.set n ov,
              overrunTotal := st.overrunTotal + ov }

end Sys2Proof.Machine
end

