-- ==== Sys2Proof/Machine/Gate.lean ====
section
/-!
DEFINITION. The agreement gate of the twin (10 R451–R456, R461, R464): row CRCs, gate decisions, muting, twin refresh, whole-picture
comparison and splice.
-/
set_option Elab.async false
namespace Sys2Proof.Machine

open Sys2Proof

/-- Counters of R469: 0 DISAGREE_ROWS 1 TIMEOUT_ROWS 2 ALONE_ROWS 3 FAULT_ROWS 4 SPLICES 5 TAKEOVERS 6 EPOCH_FAILS. -/
def State.twinCount (s : State) (i : Nat) : State :=
  { s with twin := { s.twin with counters := s.twin.counters.upd 0 i (fun n => satAdd 32 n 1) } }

/-- Key of a row of a picture in the CRC tables. -/
def crcKey (n row : Nat) : Nat := n * 4096 + row

/-- The instant on TB0 at which the launch base of a program shows `t` (R415). -/
def State.toTb0 (s : State) (p t : Nat) : Nat :=
  let b := (s.prog p).launchBase
  if b = 0 then t else ((t : Int) - (s.tb b).follow).toNat

/-- T_g(r) of R452, on TB0. -/
def State.gateInstant (s : State) (p : Nat) (y : Picture) (row : Nat) : Nat :=
  s.toTb0 p (y.launch + y.plan.rowTimes row)

/-- E(r) of R452, on TB0; none until the row's own CRC is ready. -/
def State.allowanceEnd (s : State) (p : Nat) (y : Picture) (row : Nat) : Option Nat :=
  (y.crcs.find row).map (fun e => max (s.gateInstant p y row) (e.2 + 50000))

def State.setGate (s : State) (p f row v : Nat) : State := s.modPic p f (fun y => { y with gate := y.gate.set row v })

/-- Rows from a row of a picture on that have not been launched get a gate decision, or lose theirs. -/
def Picture.regate (y : Picture) (n row : Nat) (v : Option Nat) : Picture :=
  if y.n < n then y
  else
    let from_ := if y.n = n then row else 0
    let kept := y.gate.filter (fun e => e.1 < from_ || y.launched.contains e.1 || v.isSome)
    { y with gate := kept.map (fun e => if from_ ≤ e.1 ∧ !y.launched.contains e.1 then (e.1, v.getD e.2) else e) }

/-- The first picture whose row-0 decision is still to be taken neither starts a refresh nor belongs to a sweep. -/
def Program.canRestart (x : Program) : Bool :=
  (x.pics.find? (fun y => (y.qps.find 0).isNone)).all (fun y => y.kind == 0 && y.sweep.isNone)
/-- A twin refresh is asked for (R461): at the first picture whose row-0 decision is still to be taken, whose frame budget is decided anew
with it; a GDR that runs goes on (R304). -/
def State.askTwinRefresh (s : State) (p : Nat) : State :=
  let s1 := s.modProg p (fun x => if x.canRestart then x.undoBudgets else x)
  match (s1.prog p).pics.find? (fun y => !y.decided) with
  | some y => s1.modPic p y.f (fun z => { z with req := askRefresh z.req 3 })
  | none => s1.modProg p (fun x => { x with refreshReq := askRefresh x.refreshReq 3 })

/-- This device mutes the program from a row on (R454); it follows the launching device unless the cause is timeout (R462). -/
def State.muteHere (s : State) (p n row cause : Nat) : State :=
  (s.modProg p (fun x =>
    let x1 := if cause = 2 then x else x.undoBudgets
    { x1 with
      muted := some cause, mutedFrom := crcKey n row, follow := cause != 2,
      pics := x1.pics.map (fun y => y.regate n row (some 2)) })).raise 0x070A (progId p) n (row * 65536 + cause)

/-- The peer mutes the program from a row on; this device launches it, with records and a twin refresh unless the cause is timeout (R461,
R462). -/
def State.mutePeer (s : State) (p n row cause : Nat) : State :=
  let s1 := s.modProg p (fun x => { x with peerMuted := some cause, peerMutedFrom := crcKey n row })
  if cause = 2 then s1 else (s1.sendRecords p n row).askTwinRefresh p

/-- The row launches alone (R454). -/
def State.launchAlone (s : State) (p : Nat) (y : Picture) (row : Nat) : State :=
  let s1 := (s.setGate p y.f row 1).twinCount 2
  if (s.prog p).aloneNoted then s1
  else (s1.modProg p (fun x => { x with aloneNoted := true })).raise 0x070B (progId p) y.n row

/-- *Gate decisions*, CRCs that differ: the lead mutes only when its FAULT flag alone is set. -/
def State.disagreed (s : State) (p : Nat) (y : Picture) (row : Nat) (peerFault : Bool) : State :=
  let own := y.faultRows.contains row
  let leadFault := if s.isLead then own else peerFault
  let followerFault := if s.isLead then peerFault else own
  let leadMutes := leadFault && !followerFault
  let cause := if leadMutes || (followerFault && !leadFault) then 1 else 0
  if leadMutes = s.isLead then (s.setGate p y.f row 2).muteHere p y.n row cause
  else (s.setGate p y.f row 0).mutePeer p y.n row cause

/-- A follower's own CRC came after the lead had ended the row's allowance: the lead has launched the row without it, and the follower mutes
as in the last row of *Gate decisions* (R467; log entry 174). -/
def State.missedGate (s : State) (p : Nat) (y : Picture) (row : Nat) : Bool :=
  s.isFollower && (y.crcs.find row).any (fun e =>
    ((s.prog p).peerReady.find (crcKey y.n row)).any (fun t => decide (max (s.gateInstant p y row) (t + 50000) < e.2)))

/-- The gate decides a row (R26, R451, R453); `ended` says that its allowance has ended. Nothing is decided before the own CRC is
ready, nor twice. -/
def State.decideGate (s : State) (p f row : Nat) (ended : Bool) : State :=
  match s.pic p f with
  | none => s
  | some y =>
    let x := s.prog p
    match y.crcs.find row, y.gate.find row with
    | some (own, _), none =>
      if x.muted.isSome && decide (x.mutedFrom ≤ crcKey y.n row) then s.setGate p f row 2
      else if !s.formed || (x.peerMuted.isSome && decide (x.peerMutedFrom ≤ crcKey y.n row)) then s.setGate p f row 0
      else
        match x.peerCrcs.find (crcKey y.n row) with
        | some v =>
          let s1 := s.modProg p (fun x => { x with aloneNoted := false })
          if s.missedGate p y row then ((s1.twinCount 1).setGate p f row 2).muteHere p y.n row 2
          else if v / 2 = own then s1.setGate p f row 0
          else s1.disagreed p y row (v % 2 = 1)
        | none =>
          if !ended then s
          else if !s.twin.pathA.up then s.launchAlone p y row
          else
            let s1 := s.twinCount 1
            if s.isLead then s1.setGate p f row 0 else (s1.setGate p f row 2).muteHere p y.n row 2
    | _, _ => s

/-- A whole picture has equal CRCs on both devices (R456, R464): FAULT clears, and a muted program splices from the next picture. -/
def State.wholeAgrees (s : State) (p n : Nat) : State :=
  let x := s.prog p
  let s1 := s.modProg p (fun x => { x with faultSticky := false })
  if (x.muted.isSome ∨ x.peerMuted.isSome) ∧ (s.twin.autoSplice ∨ x.spliceOk) then
    let here := x.muted.isSome
    let s2 := s1.modProg p (fun x => { x with
      muted := none, peerMuted := none, spliceOk := false, splicedNow := if here then some (n + 1) else x.splicedNow,
      splicedFrom := n + 1,
      recordsUntil := if here then x.recordsUntil else
        ((x.pics.filter (fun y => (y.qps.find 0).isSome)).map (fun y => y.n + 1)).foldl max x.recordsUntil,
      pics := x.pics.map (fun y => y.regate (n + 1) 0 none) })
    let s3 := if here then s2.twinCount 4 else s2
    ((s3.prog p).pics.filter (fun y => n < y.n)).foldl
      (fun s y => (y.crcs.map Prod.fst).foldl (fun s r => s.decideGate p y.f r false) s) s3
  else s1

/-- Both CRCs of a row are known: they are compared (R453, R456, R464). -/
def State.compareRow (s : State) (p n row : Nat) : State :=
  let x := s.prog p
  match x.ownCrcs.find (crcKey n row), x.peerCrcs.find (crcKey n row) with
  | some a, some v =>
    if v / 2 = a then
      let k := x.agreed.get 0 n + 1
      let s1 := s.modProg p (fun x => { x with agreed := (x.agreed.set n k).filter (fun e => n < e.1 + 8) })
      if k = s.rowCount p then s1.wholeAgrees p n else s1
    else s.twinCount 0
  | _, _ => s

/-- A row carries the FAULT flag (R456). -/
def State.rowFault (s : State) (p : Nat) (y : Picture) (row : Nat) : Bool :=
  (s.prog p).faultSticky || y.faultRows.contains row ||
  ((s.frame p y.f).map (fun c => c.faultBands.contains row)).getD false

/-- The row CRC (R363): the check values of the streams' packet payloads combined in ascending stream number (12 R521, R522). -/
def Picture.rowCrc (y : Picture) (row : Nat) : Nat :=
  ((List.range 257).filterMap (fun n => y.rowCvs.find (row * 512 + n))).foldl (fun v e => crcCombine 0 v e.1 e.2) (crc32c [])

/-- The row CRC of a packed row is ready (R363): it goes to the peer, is compared and gated (R451, R453, R456). -/
def State.formRowCrc (s : State) (p f row : Nat) : State :=
  match s.pic p f with
  | none => s
  | some y =>
    let crc := y.rowCrc row
    let fault := s.rowFault p y row
    let x := s.prog p
    let s1 := s.modPic p f (fun y => { y with
      crcs := y.crcs.set row (crc, s.now), faultRows := if fault then row :: y.faultRows else y.faultRows })
    let s2 := s1.modProg p (fun x => { x with
      faultSticky := fault, ownCrcs := (x.ownCrcs.set (crcKey y.n row) crc).filter (fun e => y.n < e.1 / 4096 + 8) })
    let s3 := if fault then s2.twinCount 3 else s2
    let muted := x.muted.isSome && decide (x.mutedFrom ≤ crcKey y.n row)
    let s4 := if s.formed then
        s3.tetherSend 2 (leBytes 1 p ++ leBytes 1 (b2n fault + 2 * b2n muted + 4 * b2n x.follow) ++ leBytes 2 row ++
          leBytes 4 y.n ++ leBytes 4 crc ++ leBytes 4 s.ts)
      else s3
    (s4.decideGate p f row false).compareRow p y.n row

/-- The row after a row, as picture and row. -/
def State.nextRow (s : State) (p n row : Nat) : Nat × Nat := if row + 1 < s.rowCount p then (n, row + 1) else (n + 1, 0)

/-- The peer's CRC of a row, and when it was ready. -/
def State.holdRowCrc (s : State) (p n row crc ready : Nat) (fault : Bool) : State :=
  s.modProg p (fun x => { x with
    peerCrcs := (x.peerCrcs.set (crcKey n row) (crc * 2 + b2n fault)).filter (fun e => x.pictures ≤ e.1 / 4096 + 16),
    peerReady := (x.peerReady.set (crcKey n row) ready).filter (fun e => x.pictures ≤ e.1 / 4096 + 16) })
/-- A ROW_CRC whose MUTED bit is set tells that the peer mutes the program, and by its FOLLOW bit whether it follows (*Tether messages*); of a
picture before the last splice it tells nothing. -/
def State.learnMuted (s : State) (p n row flags : Nat) : State :=
  let x := s.prog p
  if bit flags 1 && x.muted.isNone && x.peerMuted.isNone && decide (x.splicedFrom ≤ n) then
    s.mutePeer p n row (if bit flags 2 then 0 else 2)
  else s
/-- ROW_CRC from the peer (R453); one whose row has been decided serves the comparisons only, and a difference of two launched rows
mutes the follower from the next row (R455). -/
def State.takeRowCrc (s0 : State) (p n row crc ready flags : Nat) : State :=
  let x := s0.prog p
  if (x.peerCrcs.find (crcKey n row)).isSome ∨ !x.running ∧ !x.draining then s0
  else
    let s1 := (s0.holdRowCrc p n row crc ready (bit flags 0)).learnMuted p n row flags
    let s := s1
    let x := s1.prog p
    match x.pics.find? (fun y => y.n = n) with
    | some y =>
      let late := (y.gate.find row).any (fun g => g != 2)
      let s2 := s1.decideGate p y.f row false
      let s3 := s2.compareRow p n row
      let differs := (x.ownCrcs.find (crcKey n row)).any (fun a => a != crc)
      let e := s.nextRow p n row
      if late && differs && x.muted.isNone && x.peerMuted.isNone then
        if s.isFollower then s3.muteHere p e.1 e.2 0 else s3.mutePeer p e.1 e.2 0
      else s3
    | none =>
      let s3 := s1.compareRow p n row
      let differs := (x.ownCrcs.find (crcKey n row)).any (fun a => a != crc)
      let e := s.nextRow p n row
      if differs && x.muted.isNone && x.peerMuted.isNone then
        if s.isFollower then s3.muteHere p e.1 e.2 0 else s3.mutePeer p e.1 e.2 0
      else s3

/-- ROW_CRC message (*Tether messages*). -/
def State.hearRowCrc (s : State) (payload : List Byte) : State :=
  let f (o n : Nat) := leNat ((payload.drop o).take n)
  if payload.length = 16 ∧ s.formed then s.takeRowCrc (f 0 1 % 16) (f 4 4) (f 2 2) (f 8 4) (s.extend (f 12 4)) (f 1 1) else s
def execRowCrc (payload : List Byte) (s : State) : Out := need true (s.hearRowCrc payload)

/-- The gate allowance of a row ends (R452, R453); one that the gate has decided has none left. -/
def execGateAllowanceEnd (prog pic row : Nat) (s : State) : Out :=
  need (prog < 16) <|
    match s.pic prog pic with
    | none => s
    | some y =>
      match s.allowanceEnd prog y row, y.gate.find row with
      | some e, none => (s.reach e).decideGate prog pic row true
      | _, _ => s

end Sys2Proof.Machine
end

