-- ==== Sys2Proof/Machine/Packetizer.lean ====
section
/-!
DEFINITION. The packetizers (08 R349–R358, R363–R365): the units of a coded row with their bytes, the packets formed from them, the
filler of CBR (07 R328), and what completes with the last row of a picture (07 R327, R333).
-/
set_option Elab.async false
namespace Sys2Proof.Machine

open Sys2Proof

/-! ### R356, R357 -/

/-- A unit of a row: a whole NAL unit, or a part of one (the first part holds the NAL header, `last` ends it). -/
structure NalUnit where
  whole : Bool
  first : Bool := true
  last : Bool := true
  typ : Nat := 0
  /-- ends the last VCL NAL unit of the picture -/
  endsVcl : Bool := false
  data : List Byte
deriving DecidableEq, Repr

/-- Cut bytes into fragments of `size`, the last one shorter; `fuel` at least their number. -/
def fragments (size : Nat) : Nat → List Byte → List (List Byte)
  | 0, _ => []
  | fuel + 1, l => if l = [] then [] else if l.length ≤ size then [l] else l.take size :: fragments size fuel (l.drop size)

/-- The FU header of a fragment (R357). -/
def fuHeader (codec : Nat) (s e p : Bool) (typ : Nat) : Byte :=
  BitVec.ofNat 8 (128 * b2n s + 64 * b2n e + (if codec = 0 then 32 * b2n p else 0) + typ)
/-- Type of APs and FUs (R357). -/
def apType (codec : Nat) : Nat := if codec = 0 then 28 else 48
def fuType (codec : Nat) : Nat := if codec = 0 then 29 else 49

/-- The FU packets of a unit (R356, R357): its bytes after the 2-byte NAL header, the whole of a later part. -/
def fuPackets (codec p : Nat) (u : NalUnit) : List (List Byte) :=
  let body := if u.first then u.data.drop 2 else u.data
  let parts := fragments (p - 3) body.length body
  (parts.zipIdx).map (fun e =>
    let isEnd := e.2 + 1 == parts.length && u.last
    nalHeader codec (fuType codec) ++ [fuHeader codec (e.2 == 0 && u.first) isEnd (isEnd && u.endsVcl) u.typ] ++ e.1)

/-- flush: one pending unit leaves alone, two or more as one AP with a 16-bit big-endian size before each (R356, R357). -/
def flushUnits (codec : Nat) : List (List Byte) → List (List Byte)
  | [] => []
  | [u] => [u]
  | l => [nalHeader codec (apType codec) ++ l.flatMap (fun u =>
      [BitVec.ofNat 8 (u.length / 256), BitVec.ofNat 8 u.length] ++ u)]

/-- RTP payloads of the packets of one row (R356, R357); `psize` is the size that the pending units have as an AP. -/
def packetize (codec p : Nat) : List NalUnit → List (List Byte) → Nat → List (List Byte)
  | [], pending, _ => flushUnits codec pending
  | u :: us, pending, psize =>
    if u.whole ∧ u.data.length ≤ p then
      if pending ≠ [] ∧ psize + 2 + u.data.length ≤ p then
        packetize codec p us (pending ++ [u.data]) (psize + 2 + u.data.length)
      else flushUnits codec pending ++ packetize codec p us [u.data] (4 + u.data.length)
    else flushUnits codec pending ++ fuPackets codec p u ++ packetize codec p us [] 0

/-! ### The units of a row -/

/-- Bytes of a NAL unit: its header, and a payload that its content fixes (R43); `n` is its length. -/
def nalData (codec : Nat) (u : Nal) (key : List Nat) (n : Nat) : List Byte :=
  nalHeader codec u.typ ++ (List.range (n - 2)).map (fun i => BitVec.ofNat 8 (Config.nalByte (key ++ u.key ++ u.lists.flatten) i))

/-- Bytes of the slice data of a segment: those that the grove coded, the same in every stream that carries them (R365). -/
def sliceData (digest bits : Nat) : List Byte :=
  (List.range (cdiv bits 8)).map (fun i => BitVec.ofNat 8 (Config.nalByte [digest, bits] i))

/-- The segments of a row that feed a stream, in decoding order (R276, R293), with their coded bits: number of the segment in the row, and
bits. -/
def State.rowSegs (s : State) (p n row : Nat) (y : Picture) : List (Nat × Nat) :=
  let all := y.plan.segs
  (y.plan.geos.filter (fun e => (n = 0 || e.num = n) && e.y0 ≤ row && row < e.y1)).flatMap (fun e =>
    let q := ((s.rateStream p e.num).bind (fun st => st.picRate y.n)).getD { n := y.n }
    ((e.cols y.plan.cols).zipIdx).map (fun c => (all.findIdx (fun a => a.1 = c.1.1), q.segBits.get 0 ((row - e.y0) * 64 + c.2))))

/-- The filler NAL unit of CBR in bytes (R328); 0 when there is none. -/
def RateStream.filler (st : RateStream) (cfg : RateCfg) (rate : Nat) (q : PicRate) (bits : Nat) : Nat :=
  if cfg.hrdMode = 1 then
    let v := st.levelFrom rate cfg.hrdMode st.vn q.n
    let short : Int := (q.d : Int) - v - bits
    if 0 < short then ((max short 24 + 7) / 8).toNat else 0
  else 0

/-- Bits of a rate stream's picture so far: other NAL units, and slice data with its alignment. -/
def PicRate.bitsSoFar (q : PicRate) : Nat := q.header + (q.actual.map Prod.snd).sum

/-- What the grove's reconstruction of a picture depends on. -/
def State.picDigest (s : State) (p : Nat) (y : Picture) : Nat :=
  Config.absorb ((((s.prog p).refs.find? (fun r => r.picture = y.n)).map (fun r => r.digests.map Prod.snd)).getD [])

/-- What the ALF and CC-ALF filters of a picture depend on: the statistics of the picture before it (06 R286). -/
def State.filters (s : State) (p : Nat) (y : Picture) : Nat :=
  Config.absorb ((((s.prog p).refs.find? (fun r => r.picture + 1 = y.n)).map (fun r => r.digests.map Prod.snd)).getD [])

/-- The units of a row of a stream, with their NAL units other than slice data, and the bytes of those (R355, R276, R364). -/
def State.rowUnits (s : State) (p n row : Nat) (y : Picture) (x : StreamGeo) : List NalUnit × List Nal × Nat :=
  let pl := y.plan
  let codec := pl.cfg.codec
  let refs := (s.prog p).refPocs y
  let digest := s.picDigest p y
  let st := s.rateStream p (if n = 0 then (pl.geos.headD x).num else n)
  let q := (st.bind (fun t => t.picRate y.n)).getD { n := y.n }
  let lead := if row = x.y0 then y.leadNals x (s.filters p y) else []
  let lastRow := row + 1 == x.y1
  let tail := if lastRow then y.tailNals x digest else []
  let mk (u : Nal) : NalUnit := { whole := true, typ := u.typ, data := nalData codec u [] (pl.nalBytes x u) }
  let segs := s.rowSegs p n row y
  let parts := (segs.zipIdx).map (fun e =>
    let span := pl.segs.getD e.1.1 (0, 0)
    let sl := ((pl.slicesOf x).find? (fun l => l.x0 ≤ span.1 && span.2 ≤ l.x1 && l.y0 ≤ row && row < l.y1)).getD { x0 := 0, y0 := 0, x1 := 0, y1 := 0 }
    let head := y.sliceHeader sl refs
    let starts := row == sl.y0
    let ends := row + 1 == sl.y1
    let own := ((s.prog p).refs.find? (fun r => r.picture = y.n)).map (fun r => r.digests.get 0 (row * ctuWide pl.geom codec + (span.2 - 1)))
    let slice := sliceData (own.getD 0) e.1.2
    let hd := if starts then nalData codec head [] (pl.nalBytes x head) else []
    (({ whole := starts && ends, first := starts, last := ends, typ := head.typ,
        endsVcl := ends && lastRow && e.2 + 1 == segs.length, data := hd ++ slice } : NalUnit), if starts then [head] else []))
  let heads := parts.flatMap Prod.snd
  let header := ((lead ++ heads ++ tail).map (pl.nalBytes x)).sum
  let fill := match st with
    | some t => if lastRow then t.filler pl.rate pl.geom.rate q (q.bitsSoFar + 8 * header) else 0
    | none => 0
  let filler : List Nal := if fill = 0 then [] else [{ typ := nalType codec .filler, fields := [("filler_bytes", fill)] }]
  let fillUnits : List NalUnit := filler.map (fun u =>
    { whole := true, typ := u.typ, data := nalHeader codec u.typ ++ List.replicate (fill - 3) 0xFF ++ [0x80] })
  (lead.map mk ++ parts.map Prod.fst ++ fillUnits ++ tail.map mk, lead ++ heads ++ filler ++ tail, header + fill)

/-! ### PACK_ROW -/

/-- A segment with a tag is presented to a context (12 R528): absorbed when the tag is the context's ALIVE; the second part says that it was a
repeat. -/
def CvInner.present (c : CvInner) (tag : Nat) (bytes : List Byte) : CvInner × Bool :=
  if tag % 256 = c.alive then
    ({ value := crcAbsorb (crcAlgo 0) c.value bytes, length := c.length + bytes.length, alive := (c.alive + 1) % 256 }, false)
  else (c, (tag + 1) % 256 = c.alive)
/-- The packets of a PACK_ROW that follow its checkpoint are presented to its context, and how many of them were repeats (12 R522, R529). -/
def State.presentRow (s : State) (p f row n : Nat) (made : List (List Byte)) : CvInner × Nat :=
  let o := (s.disp.ops.find? (fun o => o.key = { kind := .pack, prog := p, pic := f, row := row, seg := n }))
  let from_ := (o.map Op.progress).getD 0
  ((made.zipIdx).drop from_).foldl (fun (acc : CvInner × Nat) e =>
    let v := acc.1.present e.2 e.1
    (v.1, acc.2 + b2n v.2)) (((o.map Op.cv).getD {}), 0)

/-- The packets of a row of a stream are formed (R355–R358), and their wire bits counted (R333). -/
def State.packRow (s : State) (p f row n : Nat) : State :=
  match s.pic p f with
  | none => s
  | some y =>
    match y.plan.stream n with
    | none => s
    | some x =>
      let (units, nals, header) := s.rowUnits p n row y x
      let pay := (s.prog p).payload.get 1448 n
      let made := packetize y.plan.cfg.codec pay units [] 0
      let lastRow := row + 1 == x.y1
      let pkts := (made.zipIdx).map (fun e => ({ bytes := e.1, marker := lastRow && e.2 + 1 == made.length } : RowPkt))
      let per := match s.slowest p n with
        | some l => l.headerLen + l.overhead
        | none => 0
      let wire := (made.map (fun b => 8 * (b.length + per))).sum
      let (cv, again) := s.presentRow p f row n made
      let s0 := if again = 0 then s else s.happen 0x0502 [] 0 0 again
      let s2 := s0.modPic p f (fun y => { y with
        coded := y.coded.set (row * 512 + n) (units.flatMap NalUnit.data), rowCvs := y.rowCvs.set (row * 512 + n) (cv.value ^^^ 0xFFFFFFFF, cv.length),
        packs := y.packs.set (row * 512 + n) pkts, nals := y.nals.set (row * 512 + n) nals })
      let s3 := s2.modProg p (fun z => { z with store := z.store ++
        [{ pic := y.n, row := row, stream := n, bytes := (made.map List.length).sum, packets := made.length }] })
      s3.modStream p n (fun st => st.modPicRate y.n (fun q => { q with header := q.header + 8 * header, wire := q.wire + wire }))

/-- Emitted streams of a picture with a part in a row. -/
def Picture.rowStreams (y : Picture) (row : Nat) : List Nat :=
  y.emit.filter (fun n => (y.plan.stream n).any (fun x => x.y0 ≤ row && row < x.y1))

/-- Bits that the units other than slice data of a rate stream's access unit take, whether it is emitted or not. -/
def State.headerBits (s : State) (p : Nat) (y : Picture) (x : StreamGeo) : Nat :=
  8 * (((y.leadNals x) ++ y.sliceHeaders x ((s.prog p).refPocs y) ++ y.tailNals x 0).map (y.plan.nalBytes x)).sum

/-- A picture is complete: its sizes move the buffer levels, and its overruns the debt to come (R327, R333). A rate stream that is
not emitted counts the headers that its stream would have. -/
def State.pictureComplete (s : State) (p f : Nat) : State :=
  match s.pic p f with
  | none => s
  | some y =>
    let g := y.plan.geom
    let period := (gridOf g.rate 0).period
    y.plan.geos.foldl (fun s e =>
      let own := s.headerBits p y e
      s.modStream p e.num (fun st =>
        let q := (st.picRate y.n).getD { n := y.n }
        let head := if y.emit.contains e.num then q.header else own
        let size := head + (q.actual.map Prod.snd).sum
        let st1 := st.modPicRate y.n (fun q => { q with header := head, s := some size })
        let st2 := RateStream.settle g.rate y.plan.rate.hrdMode 20 { st1 with lastS := size }
        if y.emit.contains e.num then st2.addOverrun y.n q.wire (s.slowest p e.num) (s.windowOf p) period else st2)) s

/-- Once every segment and every PACK_ROW of a row is done, its row CRC is ready; the picture is complete with its last row. -/
def State.rowFinished (s : State) (p f row : Nat) : State :=
  match s.pic p f with
  | none => s
  | some y =>
    if (y.crcs.find row).isSome ∨ !s.rowCoded p f row ∨
        !((y.rowStreams row).all (fun n => (y.packs.find (row * 512 + n)).isSome)) then s
    else
      let s1 := s.formRowCrc p f row
      match s1.pic p f with
      | none => s1
      | some y1 => if y1.crcs.length = y.plan.rowCount then s1.pictureComplete p f else s1

end Sys2Proof.Machine
end

