-- ==== Sys2Proof/Machine/CvTaps.lean ====
section
/-!
DEFINITION. Check-value taps on canopy frames, access units and egress flows (12 R520, R523, R524, R528–R530). Each tap's
check value is computed over the bytes it watches.
-/
set_option Elab.async false
namespace Sys2Proof.Machine

open Sys2Proof

/-- Units whose tap of a kind watches an object, from its first whole frame or access unit on (R524). -/
def State.tapped (s : State) (tap object stream g : Nat) : List Nat :=
  (s.cv.filter (fun e => e.2.tap == tap && e.2.source == object && e.2.stream == stream && e.2.since ≤ g)).map Prod.fst

/-- A result: the context as the frame or access unit left it, the last 16 results, CV_RESULT (R524). `value` is the running value,
`segments` how many segments were absorbed since the restart. -/
def State.cvResult (s : State) (u value length segments count : Nat) : State :=
  let a := crcAlgo (s.cvUnit u).algo
  let check := value ^^^ a.final
  (s.modCv u (fun x => { x with
    value := value, length := length % 2 ^ 48, alive := segments % 256, results := (check :: x.results).take 16 })).raise
      0x0901 (cvId u) (check % two32) count

/-- Lines of a plane of a canopy frame as written. -/
def CanFrame.planeLines (c : CanFrame) (plane : Nat) : List (List Nat) :=
  let n := if plane = 0 ∨ c.geom.format ≥ 2 then c.geom.height else c.geom.height / 2
  (List.range n).map (fun y => c.frame.get [] (plane * 65536 + y))

/-- The segments of a CANOPY tap: each line of each plane, each sample as 16 bits (*Check-value taps*). -/
def CanFrame.tapLines (c : CanFrame) : List (List Byte) :=
  ([0, 1, 2].flatMap c.planeLines).map (fun l => l.flatMap (leBytes 2))

/-- Bytes absorbed segment by segment into a fresh context of a unit's algorithm, and delivered (R523, R524). -/
def State.cvDeliver (s : State) (u n : Nat) (segments : List (List Byte)) : State :=
  let a := crcAlgo (s.cvUnit u).algo
  s.cvResult u (segments.foldl (fun v l => crcAbsorb a v l) (crcStart a)) (segments.map List.length).sum segments.length n

/-- A canopy frame's last band is written: CANOPY taps deliver (R524). -/
def State.canopyTap (s : State) (k num : Nat) : State :=
  match s.frame k num with
  | none => s
  | some c =>
    let n := ((s.pic k num).map Picture.n).getD 0xFFFFFFFF
    (s.tapped 2 (canopyId k) 0 c.g).foldl (fun s u =>
      s.cvDeliver u n c.tapLines) s

/-- The bytes of a picture's access unit of a stream, row by row. -/
def Picture.auRows (y : Picture) (n : Nat) : List (List Byte) :=
  (List.range y.plan.rowCount).filterMap (fun r => y.coded.find (r * 512 + n))
/-- The payloads of a stream's packets of a picture, in packet order. -/
def Picture.payloads (y : Picture) (n : Nat) : List (List Byte) :=
  (List.range y.plan.rowCount).flatMap (fun r => (y.packs.get [] (r * 512 + n)).map RowPkt.bytes)

/-- The segments of the frame or access unit that a unit's tap is on, as far as they have been written (R523, R524). -/
def State.tapSegments (s : State) (x : CvUnit) : List (List Byte) :=
  let i := x.source % 16777216
  let picture (p : Nat) := (s.prog p).pics.find? (fun y => x.since ≤ y.g && y.crcs.length != y.plan.rowCount)
  match x.tap with
  | 2 =>
    (((s.canopy i).frames.reverse.find? (fun c => x.since ≤ c.g && !c.finishedAll)).map (fun c =>
      c.tapLines.takeWhile (fun l => l != []))).getD []
  | 3 => ((picture i).map (fun y => if y.emit.contains x.stream then y.auRows x.stream else [])).getD []
  | 4 =>
    let f := s.txFlow i
    ((picture f.prog).map (fun y => if y.emit.contains f.stream then y.payloads f.stream else [])).getD []
  | _ => []
/-- A unit's context at a segment boundary: it runs behind the writer, by how far is open (log entry 54); between frames it holds what the
last one left. -/
def State.liveContext (s : State) (u : Nat) : CvUnit × State :=
  let x := s.cvUnit u
  let l := s.tapSegments x
  if l = [] then (x, s)
  else
    let (v, s1) := s.draw
    let l1 := l.take (v % (l.length + 1))
    let a := crcAlgo x.algo
    ({ x with value := l1.foldl (fun r b => crcAbsorb a r b) (crcStart a), length := (l1.map List.length).sum % 2 ^ 48,
              alive := l1.length % 256, unwritten := false }, s1)

/-- The access units of a picture are complete: STREAM and FLOW taps deliver (R524). -/
def State.auTaps (s : State) (p f : Nat) : State :=
  match s.pic p f with
  | none => s
  | some y =>
    y.emit.foldl (fun s n =>
      let s1 := (s.tapped 3 (progId p) n y.g).foldl (fun s u => s.cvDeliver u y.n (y.auRows n)) s
      (s1.flowsOf p n).foldl (fun s f =>
        let t := s.txFlow f
        if t.openedAt < y.g ∧ t.closing.all (fun e => y.g ≤ e.2.2) then
          (s.tapped 4 (txId f) 0 y.g).foldl (fun s u => s.cvDeliver u y.n (y.payloads n)) s
        else s) s1) s

end Sys2Proof.Machine
end

