-- ==== Sys2Proof/Machine/Graph.lean ====
section
/-!
DEFINITION. Dataflow graphs (05 R233–R241): which operations a canopy frame has, which rows are in flight, when an operation is
ready, and its level, deadline and slack.
-/
set_option Elab.async false
namespace Sys2Proof.Machine

open Sys2Proof

/-- The operation that a command's operand names (*Operation kinds*). -/
def opKey (o : OpName) : Option OpKey :=
  let k : Option OpKind := match o.kind with
    | 1 => some .compose | 2 => some .finish | 3 => some .encode | 4 => some .pack | 5 => some .launch | _ => none
  k.map (fun k => { kind := k, prog := o.prog, pic := o.pic, row := o.row, seg := o.seg })

/-- Operation codes. -/
def OpKind.code : OpKind → Nat
  | .compose => 1 | .finish => 2 | .encode => 3 | .pack => 4 | .launch => 5
/-- Unit class of an operation, as in *Unit index layout*; none for LAUNCH_ROW. -/
def OpKind.cls : OpKind → Option Nat
  | .compose => some 1 | .finish => some 1 | .encode => some 0 | .pack => some 2 | .launch => none

/-- The entry of an operation in the store. -/
def State.op (s : State) (k : OpKey) : Option Op := s.disp.ops.find? (fun o => o.key = k)
def State.modOp (s : State) (k : OpKey) (f : Op → Op) : State :=
  { s with disp := { s.disp with ops := s.disp.ops.map (fun o => if o.key = k then f o else o) } }
def State.dropOp (s : State) (k : OpKey) : State :=
  { s with disp := { s.disp with ops := s.disp.ops.filter (fun o => o.key != k) } }

/-! ### Rows in flight (R237) -/

/-- Every finish section of a band is done. -/
def CanFrame.bandFinished (c : CanFrame) (r : Nat) : Bool :=
  (List.range c.sections).all (fun i => c.finishDone.contains (r * 32 + i))
/-- A row of a frame has nothing left to do: launched, or written where no picture is coded from it. -/
def State.rowOut (s : State) (k : Nat) (c : CanFrame) (r : Nat) : Bool :=
  match s.pic k c.num with
  | some y => y.launched.contains r
  | none => c.bandFinished r
/-- The first K + 2 rows of a program that are not out, oldest frame first. -/
def State.inFlight (s : State) (k : Nat) : List (Nat × Nat) :=
  let rows := (s.canopy k).frames.reverse.flatMap (fun c =>
    ((List.range c.rows).filter (fun r => !s.rowOut k c r)).map (fun r => (c.num, r)))
  rows.take ((s.pcfg k).k + 2)

/-- The plan that an operation belongs to (R233): its picture's, or that of a canopy frame from which no picture is coded. -/
def State.opPlan (s : State) (k : OpKey) : Plan :=
  match s.pic k.prog k.pic with
  | some y => y.plan
  | none =>
    let pl := s.plan k.prog
    match s.frame k.prog k.pic with
    | some c => { pl with geom := c.geom, cfg := { pl.cfg with codec := if c.band = 128 then 0 else 1 } }
    | none => pl

/-- The operations of a row of a canopy frame. -/
def State.rowOps (s : State) (k f r : Nat) : List OpKey :=
  let mk (kind : OpKind) (i : Nat) : OpKey := { kind := kind, prog := k, pic := f, row := r, seg := i }
  match s.frame k f with
  | none => []
  | some c =>
    let pix := (List.range c.sections).map (mk .compose) ++ (List.range c.sections).map (mk .finish)
    match s.pic k f with
    | none => pix
    | some y => pix ++ (List.range y.plan.segs.length).map (mk .encode) ++ (y.rowStreams r).map (mk .pack) ++ [mk .launch 0]

/-! ### Readiness (R235, R236) -/

/-- The segment of a column interval contains sections of 512 columns. -/
def sectionsOf (codec width : Nat) (seg : Nat × Nat) : List Nat :=
  let b := ctuLines codec
  let a := b * seg.1 / 512
  let e := (min width (b * seg.2) - 1) / 512
  (List.range (e + 1 - a)).map (fun i => a + i)

/-- Dependencies of an ENCODE_SEGMENT on the segment above, by slice mode and WPP (R289, R290): with WPP, in either slice mode, it starts once the
row above has stored its set. -/
def State.aboveReady (s : State) (k : OpKey) : Bool :=
  let pl := s.opPlan k
  let cfg := pl.cfg
  let tile := pl.tileRow k.row
  if k.row = tile.1 ∨ (cfg.sliceMode = 1 ∧ !cfg.wpp) then true
  else
    match s.op { k with row := k.row - 1 } with
    | none => false
    | some o =>
      let seg := pl.segs.getD k.seg (0, 0)
      o.done || (cfg.wpp && min (if cfg.codec = 0 then 1 else 2) (seg.2 - seg.1) ≤ o.progress)

/-- Reconstruction of every reference down to row r + v (R235, R294). -/
def State.refsReady (s : State) (k : OpKey) (y : Picture) : Bool :=
  let v := if y.plan.cfg.codec = 0 then 1 else 2
  y.refs.all (fun n =>
    match (s.prog k.prog).pics.find? (fun z => z.n = n) with
    | none => true
    | some z => (List.range (min y.plan.rowCount (k.row + v + 1))).all (fun r => s.rowCoded k.prog z.f r))

/-- What the units of a row are formed from is known (log entry 168): for an APS in its first row every segment of the picture before (06 R286);
for the decoded picture hash in its last row every segment of the picture; for the filler of CBR there the rows above it and the exact level
before the picture (07 R328). -/
def State.unitsKnown (s : State) (p row n : Nat) (y : Picture) : Bool :=
  (y.plan.stream n).any (fun x =>
    let all (f : Nat) : Bool := (List.range y.plan.rowCount).all (fun r => s.rowCoded p f r)
    (row != x.y0 || y.aps.isNone || (s.prog p).pics.all (fun z => z.n + 1 != y.n || all z.f)) &&
    (row + 1 != x.y1 || ((!y.plan.cfg.hash || all y.f) &&
      (y.plan.rate.hrdMode != 1 || ((s.prog p).streams.all (fun st => y.n ≤ st.vn) &&
        (List.range row).all (fun r => s.rowCoded p y.f r && (y.packs.find (r * 512 + n)).isSome))))))

/-- The picture may launch: every picture before it has launched. -/
def State.isOldest (s : State) (p f : Nat) : Bool := (s.prog p).pics.head?.any (fun y => y.f = f)

/-- All of an operation's dependencies are met, and it has neither run nor is running. -/
def State.ready (s : State) (k : OpKey) : Bool :=
  match s.frame k.prog k.pic with
  | none => false
  | some c =>
    let idle := match s.op k with
      | none => true
      | some o => !o.done && o.unit.isNone
    let y := s.pic k.prog k.pic
    idle && match k.kind with
    | .compose => !c.composeDone.contains (k.row * 32 + k.seg) &&
        (let e := c.composeRange k.row
         s.linesDue c e.1 e.2 (512 * k.seg) (min c.geom.width (512 * k.seg + 512)))
    | .finish => !c.finishDone.contains (k.row * 32 + k.seg) &&
        ((List.range c.sections).filter (fun i => i ≤ k.seg + 1 && k.seg ≤ i + 1)).all
          (fun i => c.composeDone.contains (k.row * 32 + i))
    | .encode => y.any (fun y => (y.qps.find k.row).isSome &&
        (sectionsOf y.plan.cfg.codec c.geom.width (y.plan.segs.getD k.seg (0, 0))).all
          (fun i => c.finishDone.contains (k.row * 32 + i)) && s.aboveReady k && s.refsReady k y)
    | .pack => y.any (fun y => (y.packs.find (k.row * 512 + k.seg)).isNone &&
        s.unitsKnown k.prog k.row k.seg y &&
        (s.rowCoded k.prog k.pic k.row ||
          (y.plan.stream k.seg).any (fun x =>
            (y.plan.segs.zipIdx).all (fun e => !(x.x0 ≤ e.1.1 && e.1.2 ≤ x.x1) ||
              (s.op { k with kind := .encode, seg := e.2 }).any Op.done))))
    | .launch => y.any (fun y => y.launchArrived && (y.gate.find k.row).isSome && !y.launched.contains k.row &&
        (k.row = 0 || y.launched.contains (k.row - 1)) && s.isOldest k.prog k.pic)

/-! ### Levels, deadlines, slack (R238–R241) -/

def State.level (s : State) (k : OpKey) : Nat :=
  match k.kind with
  | .launch => 0
  | .pack => 0
  | _ => if (s.op k).any Op.raised then 1 else 2 + (s.opPlan k).cfg.priority

/-- The level at which a unit's self-test runs: 6 for that of a warm spare or of a confirm window (R238, R257, 15 R618); none when it runs
none. No command of the host asks for a unit test, level 7. -/
def State.testLevel (s : State) (u : Nat) : Option Nat := if (s.unit u).state = 3 ∨ s.upd.state = 6 then some 6 else none

/-- D on TB0. -/
def State.deadline (s : State) (k : OpKey) : Nat :=
  let g := ((s.frame k.prog k.pic).map CanFrame.g).getD 0
  let pl := s.opPlan k
  let d := g + pl.rowTimes (k.row + 1 + pl.cfg.k) + 6000
  match k.kind with
  | .launch => ((s.pic k.prog k.pic).map (fun y => s.gateInstant k.prog y k.row)).getD d
  | .pack => d + 8000
  | _ => d

/-- Remaining estimated time in ns, with the throttled clock (R241, R574); the estimates of firmware are open (log entry 5). -/
def State.remaining (s : State) (k : OpKey) : Nat :=
  match k.kind with
  | .encode =>
    let pl := s.opPlan k
    let seg := pl.segs.getD k.seg (0, 0)
    let left := seg.2 - seg.1 - ((s.op k).map Op.progress).getD 0
    cdiv (left * tCtu pl.cfg.codec * 16) (16 - s.power.step)
  | .pack => Config.opEstimate k.kind.code k.prog
  | _ => cdiv (Config.opEstimate k.kind.code k.prog * 16) (16 - s.power.step)

def State.slack (s : State) (k : OpKey) : Int := (s.deadline k : Int) - s.now - s.remaining k

/-- An operation goes before another (R240). -/
def State.before (s : State) (a b : OpKey) : Bool :=
  let key (k : OpKey) : List Nat := [s.level k, s.deadline k, 5 - k.kind.code, k.prog, k.row, k.seg]
  decide (List.Lex (· < ·) (key a) (key b))

/-- Every ready operation of every program. -/
def State.readyOps (s : State) : List OpKey :=
  (List.range 16).flatMap (fun k => (s.inFlight k).flatMap (fun e => (s.rowOps k e.1 e.2).filter s.ready))

end Sys2Proof.Machine
end

