-- ==== Sys2Proof/Machine/Motion.lean ====
section
/-!
DEFINITION. Motion search (06 R294–R301): search windows, candidates, screening, integer and block refinement, mode decision, and the
compositor hint; what a sweep permits (R306, R307). Vectors are in 1/16 luma samples. What a reconstruction holds, and what a candidate
costs, is open (log entry 5); how the search goes is the spec's.
-/
set_option Elab.async false
namespace Sys2Proof.Machine

open Sys2Proof

/-! ### Vectors -/

/-- `n / d` rounded to an integer, halves away from zero (R300). -/
def roundFrac (n : Int) (d : Nat) : Int :=
  if d = 0 then 0 else if 0 ≤ n then (2 * n + d) / (2 * d) else -((2 * (-n) + d) / (2 * d))

def Mv.add (a b : Mv) : Mv := (a.1 + b.1, a.2 + b.2)
def Mv.sub (a b : Mv) : Mv := (a.1 - b.1, a.2 - b.2)
/-- `v` at a precision of `p` sixteenths: itself where it has that precision, else one of its two neighbours; which one is open. -/
def gridRound (v : Int) (p : Nat) : Int :=
  if v % p = 0 then v else v - v % p + (if Config.roundVector [v, p] % 2 = 0 then 0 else p)
/-- A vector at a precision of `p` sixteenths. -/
def Mv.at (v : Mv) (p : Nat) : Mv := (gridRound v.1 p, gridRound v.2 p)
/-- `n / d`: exact where `d` divides `n`, else one of its two neighbours; which one is open. -/
def ratio (n d : Int) : Int :=
  if d = 0 then 0 else if n % d = 0 ∨ Config.roundVector [n, d] % 2 = 0 then n.fdiv d else n.fdiv d + 1
/-- The vectors at `k` steps of `p` sixteenths or fewer around one, in raster order. -/
def Mv.square (v : Mv) (k p : Nat) : List Mv :=
  (List.range (2 * k + 1)).flatMap (fun j => (List.range (2 * k + 1)).map (fun i =>
    v.add ((((i : Int) - k) * p, ((j : Int) - k) * p) : Mv)))

/-- The element of least cost, the first of equals. -/
def bestOf {α : Type} (cost : α → Nat) : List α → Option α
  | [] => none
  | x :: xs => some (xs.foldl (fun b e => if cost e < cost b then e else b) x)

/-! ### The search window (R294) -/

/-- Luma rectangles: left, top, right and bottom, the last two exclusive. -/
structure LumaRect where
  x0 : Int
  y0 : Int
  x1 : Int
  y1 : Int
deriving DecidableEq, Repr

/-- The window of a row segment. -/
def Plan.window (x : Plan) (row : Nat) (seg : Nat × Nat) : LumaRect :=
  let b := ctuLines x.cfg.codec
  { x0 := (b * seg.1 : Nat) - 256, y0 := (b * row : Nat) - 128, x1 := (min x.geom.width (b * seg.2) : Nat) + 256,
    y1 := (min x.geom.height (b * (row + 1)) : Nat) + 128 }

/-- Samples that interpolation reads beyond a block: 3 before and 4 after at a fractional position (8-tap filters; PRESUMED, log
entry 143). -/
def tapsBefore (v : Int) : Int := if v % 16 = 0 then 0 else 3
def tapsAfter (v : Int) : Int := if v % 16 = 0 then 0 else 4
/-- The samples that a prediction of a block reads. -/
def supportOf (x y w h : Nat) (v : Mv) : LumaRect :=
  { x0 := x + v.1 / 16 - tapsBefore v.1, y0 := y + v.2 / 16 - tapsBefore v.2,
    x1 := x + w + v.1 / 16 + tapsAfter v.1, y1 := y + h + v.2 / 16 + tapsAfter v.2 }
def LumaRect.inside (a b : LumaRect) : Bool := b.x0 ≤ a.x0 && b.y0 ≤ a.y0 && a.x1 ≤ b.x1 && a.y1 ≤ b.y1
/-- A candidate clipped into the window of a block (R295): to whole samples where it would leave. -/
def LumaRect.clipMv (r : LumaRect) (x y w h : Nat) (v : Mv) : Mv :=
  if (supportOf x y w h v).inside r then v
  else (16 * clip (v.1 / 16) (r.x0 - x) (r.x1 - x - w), 16 * clip (v.2 / 16) (r.y0 - y) (r.y1 - y - h))

/-! ### References of a picture -/

/-- A reference of a picture as the search reads it: its entry of the DPB, and the rectangle whose samples it pads from (R293). -/
structure SearchRef where
  ref : RefPic
  bounds : LumaRect
deriving DecidableEq, Repr

/-- A reconstructed luma sample: a function of what its segment depends on; outside the rectangle the standard's padding repeats the
nearest sample (R294). -/
def SearchRef.sample (r : SearchRef) (pl : Plan) (x y : Int) : Nat :=
  let px := (clip x r.bounds.x0 (r.bounds.x1 - 1)).toNat
  let py := (clip y r.bounds.y0 (r.bounds.y1 - 1)).toNat
  let b := ctuLines pl.cfg.codec
  Config.reconstruction [r.ref.digests.get 0 (py / b * ctuWide pl.geom pl.cfg.codec + px / b), px, py] % 2 ^ (8 + depthMinus8 pl.geom.format)

/-! ### What a sweep permits (R306, R307) -/

/-- The part of a picture that a sweep runs over: the picture, or the subpicture that holds a segment. -/
def Plan.sweepArea (x : Plan) (row seg : Nat) : StreamGeo := ((x.segStream row seg).map Prod.fst).getD (wholeGeo x.geom x.cfg.codec)
/-- CTU columns of a sweep's picture that are coded in intra mode, in the picture's own columns (R305). -/
def StreamGeo.refresh (a : StreamGeo) (sweep : Option (Nat × Nat)) : Nat × Nat :=
  match sweep with
  | none => (0, 0)
  | some (k, r) => let e := refreshCols (a.x1 - a.x0) k r; (a.x0 + e.1, a.x0 + e.2)
/-- The sweep position that a reference has in the sweep of a picture: none when it is clean everywhere, position −1 (nothing clean)
when it was coded before the sweep. -/
def cleanLuma (x : Plan) (a : StreamGeo) (y : Picture) (r : RefPic) : Nat :=
  let b := ctuLines x.cfg.codec
  match y.sweepAt with
  | none => b * a.x1
  | some (k, n) =>
    match r.sweep with
    | some (j, m) => if m = n ∧ j < k ∧ k - j = y.n - r.picture then b * (a.x0 + cleanEdge (a.x1 - a.x0) (some (j, m))) else b * a.x0
    | none => b * a.x0
/-- Margin at the dirty edge of a reference's clean region: none in a VVC broadcast canopy, whose virtual boundary lies there. -/
def Plan.margin (x : Plan) : Nat := if x.cfg.codec = 1 then 8 else if x.geom.mode = 1 then 16 else 0
/-- A vector of a block is permitted: its support lies in the window and, for a clean block of a sweep, in the reference's clean region
less the margin, left of which the picture's edge is clean too; a reference with no clean column has none. A block of the refresh columns
has none. -/
def Picture.vectorOk (y : Picture) (a : StreamGeo) (win : LumaRect) (r : RefPic) (bx by_ w h : Nat) (v : Mv) : Bool :=
  let x := y.plan
  let b := ctuLines x.cfg.codec
  let sup := supportOf bx by_ w h v
  let cols := a.refresh y.sweepAt
  sup.inside win &&
  (y.sweep.isNone || decide (b * cols.2 ≤ bx) ||
    (decide (bx < b * cols.1) &&
      (let e := cleanLuma x a y r
       decide (b * a.x1 ≤ e) || (decide (b * a.x0 < e) && decide (sup.x1 ≤ (e : Int) - x.margin)))))
/-- Intra reference samples of a block of a sweep come from columns left of this luma column only (R307). -/
def Picture.intraLimit (y : Picture) (a : StreamGeo) (bx : Nat) : Nat :=
  let b := ctuLines y.plan.cfg.codec
  let cols := a.refresh y.sweepAt
  if y.sweep.isSome ∧ bx < b * cols.2 then b * cols.2 else y.plan.geom.width

/-! ### The compositor hint (R300, R301) -/

/-- One axis of a layer's mapping in a frame: crop start and size, destination start and size. -/
structure AxisMap where
  c : Int
  cw : Nat
  d : Int
  dw : Nat
deriving DecidableEq, Repr

def LayerShot.axisX (l : LayerShot) : AxisMap :=
  if l.index < 32 then { c := l.cfg.cropX, cw := l.cfg.cropW, d := l.cfg.dstX, dw := l.cfg.dstW }
  else { c := 0, cw := l.cfg.dstW, d := l.cfg.dstX, dw := l.cfg.dstW }
def LayerShot.axisY (l : LayerShot) : AxisMap :=
  if l.index < 32 then { c := l.cfg.cropY, cw := l.cfg.cropH, d := l.cfg.dstY, dw := l.cfg.dstH }
  else { c := 0, cw := l.cfg.dstH, d := l.cfg.dstY, dw := l.cfg.dstH }

/-- Numerator of the hint of an axis at canopy position `at_`, over `f.dw × f'.cw`: exact rational arithmetic (R300). -/
def hintNum (f f' : AxisMap) (at_ : Int) : Int :=
  ((f.c - f'.c) * f.dw + (at_ - f.d) * f.cw) * f'.dw + (f'.d - at_) * (f.dw * f'.cw)
def hintDen (f f' : AxisMap) : Nat := f.dw * f'.cw

def LayerShot.holds (l : LayerShot) (x y : Nat) : Bool :=
  l.cfg.dstX ≤ x && x < l.cfg.dstX + l.cfg.dstW && l.cfg.dstY ≤ y && y < l.cfg.dstY + l.cfg.dstH
/-- A layer shows the same source or buffer in two frames, and its fallback in neither. -/
def LayerShot.sameAs (l m : LayerShot) : Bool :=
  !l.fall && !m.fall && (if l.index < 32 then l.cfg.source == m.cfg.source else l.second == m.second && l.pair == m.pair)

/-- The layer that the hint of a point comes from, in both frames: the topmost whose rectangle holds it in both with global alpha 1023
(DEDUCED, log entry 144: that one alone is looked at). -/
def hintLayer (f f' : CanFrame) (x y : Nat) : Option (LayerShot × LayerShot) :=
  let pairs := f.layers.filterMap (fun l => (f'.layers.find? (fun m => m.index == l.index)).map (fun m => (l, m)))
  let fit := pairs.filter (fun e => e.1.holds x y && e.2.holds x y && e.1.cfg.alpha == 1023 && e.2.cfg.alpha == 1023)
  match fit.getLast? with
  | some e => if e.1.sameAs e.2 then some e else none
  | none => none

/-- The hint at a point of a layer: both axes, rounded to 1/16 sample. -/
def hintAt (e : LayerShot × LayerShot) (x y : Int) : Mv :=
  (roundFrac (16 * hintNum e.1.axisX e.2.axisX x) (hintDen e.1.axisX e.2.axisX),
   roundFrac (16 * hintNum e.1.axisY e.2.axisY y) (hintDen e.1.axisY e.2.axisY))

/-- The layer is zoomed between the two frames on either axis. -/
def hintZooms (e : LayerShot × LayerShot) : Bool :=
  let z (a b : AxisMap) : Bool := b.dw * a.cw != a.dw * b.cw
  z e.1.axisX e.2.axisX || z e.1.axisY e.2.axisY

/-- A control-point vector of the affine candidate on one axis, at an offset from the CTU's centre: the hint at the centre, and the mean
of the two scales less 1 times the offset (R301; DEDUCED, log entry 144). -/
def hintPoint (own own' other other' : AxisMap) (centre offset : Int) : Int :=
  let n := hintNum own own' centre
  let d := hintDen own own'
  -- scale of an axis: f'.dw × f.cw over f'.cw × f.dw
  let p := own'.dw * own.cw
  let q := own'.cw * own.dw
  let p2 := other'.dw * other.cw
  let q2 := other'.cw * other.dw
  let num : Int := (p * q2 + p2 * q : Nat) - (2 * q * q2 : Nat)
  roundFrac (16 * (n * (2 * q * q2 : Nat) + num * offset * d)) (d * (2 * q * q2))

/-- The affine candidate of a CTU: the vectors at its top-left and top-right corners; none without a zoom. -/
def hintAffine (e : LayerShot × LayerShot) (xc yc half : Nat) : List Mv :=
  if hintZooms e then
    let at_ (ox oy : Int) : Mv :=
      (hintPoint e.1.axisX e.2.axisX e.1.axisY e.2.axisY xc ox, hintPoint e.1.axisY e.2.axisY e.1.axisX e.2.axisX yc oy)
    [at_ (-half) (-half), at_ half (-half)]
  else []

/-! ### Candidates, screening, integer refinement (R295–R297) -/

/-- Where a CTU is searched. -/
structure SearchAt where
  pl : Plan
  y : Picture
  /-- row, segment, CTU column -/
  row : Nat
  seg : Nat
  col : Nat
  /-- digest of what the segment depends on so far -/
  digest : Nat
  qp : Nat
  /-- luma samples of the canopy frame -/
  luma : Nat → Nat → Nat

def SearchAt.b (a : SearchAt) : Nat := ctuLines a.pl.cfg.codec
def SearchAt.x0 (a : SearchAt) : Nat := a.b * a.col
def SearchAt.y0 (a : SearchAt) : Nat := a.b * a.row
def SearchAt.w (a : SearchAt) : Nat := min a.b (a.pl.geom.width - a.x0)
def SearchAt.h (a : SearchAt) : Nat := min a.b (a.pl.geom.height - a.y0)
def SearchAt.win (a : SearchAt) : LumaRect := a.pl.window a.row (a.pl.segs.getD a.seg (0, 0))
def SearchAt.area (a : SearchAt) : StreamGeo := a.pl.sweepArea a.row a.seg
/-- Address of a CTU. -/
def ctuAddr (pl : Plan) (row col : Nat) : Nat := row * ctuWide pl.geom pl.cfg.codec + col

/-- SAD over the even rows and columns of the CTU at integer precision, plus λ times the bits of the vector difference (R296), in
1/256. -/
def SearchAt.screenCost (a : SearchAt) (r : SearchRef) (v : Mv) : Nat :=
  let i := v.at 16
  let sad := ((List.range ((a.h + 1) / 2)).flatMap (fun j => (List.range ((a.w + 1) / 2)).map (fun k =>
    ((a.luma (a.x0 + 2 * k) (a.y0 + 2 * j) : Int) -
      r.sample a.pl (a.x0 + 2 * k + i.1 / 16) (a.y0 + 2 * j + i.2 / 16)).natAbs))).sum
  256 * sad + Config.lambda a.pl.cfg.codec a.qp * Config.searchCost [0, a.digest, r.ref.poc, wrapInt 32 v.1, wrapInt 32 v.2]

/-- The final vector of a CTU of the current picture for a reference. -/
def RefPic.vectorAt (m : RefPic) (addr poc : Nat) : Option Mv :=
  ((m.motion.get [] addr).find? (fun e => e.1 = poc)).map Prod.snd
/-- The stored vector of the co-located CTU, scaled by picture-order distance; in a twin refresh only where that CTU was clean or refresh in
the reference (10 R463). -/
def SearchAt.colocated (a : SearchAt) (r : SearchRef) : Option Mv :=
  if a.y.sweep.any (fun e => e.2.2) ∧ cleanLuma a.pl a.area a.y r.ref < a.b * (a.col + 1) then none
  else ((r.ref.motion.get [] (ctuAddr a.pl a.row a.col)).head?).map (fun e =>
    let num : Int := (a.y.poc : Int) - r.ref.poc
    let den : Int := (r.ref.poc : Int) - e.1
    (ratio (e.2.1 * num) den, ratio (e.2.2 * num) den))
/-- The median of vectors, component by component. -/
def medianMv (l : List Mv) : Option Mv :=
  let mid (c : List Int) : Option Int := (c.mergeSort (fun p q => p ≤ q))[c.length / 2]?
  match mid (l.map Prod.fst), mid (l.map Prod.snd) with
  | some x, some y => some (x, y)
  | _, _ => none

/-- Columns of the CTUs whose final vectors the search may read in the row above: a segment reads only what it waits for (R290, R318;
DEDUCED, log entry 145). -/
def SearchAt.aboveCols (a : SearchAt) : List Nat :=
  let seg := a.pl.segs.getD a.seg (0, 0)
  if a.pl.cfg.sliceMode = 1 ∨ a.row = (a.pl.tileRow a.row).1 then []
  else [a.col, a.col + 1].filter (fun c => c < seg.2 && (!a.pl.cfg.wpp || a.pl.cfg.codec == 1 || c == a.col))

/-- The candidate set of a CTU for a reference: at most 8 vectors in the order of R295, clipped into the window, equal ones merged. -/
def SearchAt.candidates (a : SearchAt) (own : RefPic) (r : SearchRef) (hint : Option Mv) (affine : List Mv) : List Mv :=
  let seg := a.pl.segs.getD a.seg (0, 0)
  let near (row col : Nat) : List Mv := (own.vectorAt (ctuAddr a.pl row col) r.ref.poc).toList
  let left := if seg.1 < a.col then near a.row (a.col - 1) else []
  let soFar := (List.range (a.col - seg.1)).flatMap (fun i => near a.row (seg.1 + i))
  let centre := match affine with
    | [p, q] =>
      let d := q.sub p
      [p.add (ratio (d.1 - d.2) 2, ratio (d.1 + d.2) 2)]
    | _ => []
  let all := [((0, 0) : Mv)] ++ hint.toList ++ left ++ a.aboveCols.flatMap (near (a.row - 1)) ++ (a.colocated r).toList ++
    (medianMv soFar).toList ++ centre
  ((all.map (a.win.clipMv a.x0 a.y0 a.w a.h)).eraseDups).take 8

/-- The 3 best candidates (R296), earlier ones first among equals. -/
def SearchAt.screen (a : SearchAt) (r : SearchRef) (l : List Mv) : List Mv :=
  (l.mergeSort (fun p q => a.screenCost r p ≤ a.screenCost r q)).take 3

/-- The CTU vector for a reference (R297): the best of a full square of ±4 samples around each kept candidate. -/
def SearchAt.ctuVector (a : SearchAt) (r : SearchRef) (kept : List Mv) : Option Mv :=
  bestOf (a.screenCost r) ((kept.flatMap (fun v => (v.at 16).square 4 16)).filter
    (fun v => (supportOf a.x0 a.y0 a.w a.h v).inside a.win))

/-! ### Block refinement and mode decision (R298, R299) -/

/-- SATD of a block's prediction and the bits of its vector: open. -/
def SearchAt.blockCost (a : SearchAt) (r : SearchRef) (x y w h : Nat) (v : Mv) : Nat :=
  Config.searchCost [1, a.digest, r.ref.poc, x, y, w, h, wrapInt 32 v.1, wrapInt 32 v.2]

/-- A block's vector: ±2 whole samples around its starts, then the 8 neighbours at half and at quarter precision. -/
def SearchAt.refine (a : SearchAt) (r : SearchRef) (x y w h : Nat) (starts : List Mv) : Option Mv :=
  let cost := a.blockCost r x y w h
  let ok := a.y.vectorOk a.area a.win r.ref x y w h
  (bestOf cost ((starts.flatMap (fun v => (v.at 16).square 2 16)).filter ok)).bind (fun v =>
    (bestOf cost ((v :: v.square 1 8).filter ok)).bind (fun v => bestOf cost ((v :: v.square 1 4).filter ok)))

/-- AMVR: quarter, integer or 4-sample precision by cost; only VVC has it (R283). -/
def SearchAt.amvr (a : SearchAt) (r : SearchRef) (x y w h : Nat) (v : Mv) : Mv × Nat :=
  let forms := (v, 4) :: (if a.pl.cfg.codec = 0 then [(v.at 16, 16), (v.at 64, 64)] else [])
  (bestOf (fun e : Mv × Nat => Config.searchCost [2, a.digest, r.ref.poc, x, y, w, h, wrapInt 32 e.1.1, wrapInt 32 e.1.2, e.2])
    (forms.filter (fun e => a.y.vectorOk a.area a.win r.ref x y w h e.1))).getD (v, 4)

/-- The vector of the sub-block whose centre is (dx, dy) in an affine block of width `w` with control points `p` and `q`: the 4-parameter
model of H.266 (PRESUMED, log entry 143). -/
def affineAt (p q : Mv) (w dx dy : Nat) : Mv :=
  let d := q.sub p
  p.add (roundFrac (d.1 * dx - d.2 * dy) w, roundFrac (d.2 * dx + d.1 * dy) w)
/-- The vector of every 4 × 4 sub-block of an affine block is permitted (R294, R306). -/
def SearchAt.affineOk (a : SearchAt) (r : RefPic) (x y w h : Nat) (l : List Mv) : Bool :=
  match l with
  | [p, q] => (List.range (w / 4)).all (fun i => (List.range (h / 4)).all (fun j =>
      a.y.vectorOk a.area a.win r (x + 4 * i) (y + 4 * j) 4 4 (affineAt p q w (4 * i + 2) (4 * j + 2))))
  | _ => false

/-- Control points of an affine block: each refined by ±1/4 sample (R298). -/
def SearchAt.affine (a : SearchAt) (r : SearchRef) (x y w h : Nat) (starts : List (List Mv)) : List Mv :=
  let cost (l : List Mv) : Nat := Config.searchCost ([3, a.digest, r.ref.poc, x, y, w, h] ++ l.flatMap (fun v => [wrapInt 32 v.1, wrapInt 32 v.2]))
  let around (l : List Mv) : List (List Mv) := match l with
    | [p, q] => (p.square 1 4).flatMap (fun p' => (q.square 1 4).map (fun q' => [p', q']))
    | _ => []
  (bestOf cost ((starts.flatMap around).filter (a.affineOk r.ref x y w h))).getD []

/-- Intra prediction modes considered: every angular mode with planar and DC; in VVC also those on the further reference lines (mode +
100 × line) and CCLM (R299, R283). Their numbers are the standards' (PRESUMED, log entry 143). -/
def intraModes (codec : Nat) : List Nat :=
  if codec = 0 then List.range 67 ++ (List.range 67).map (fun m => 100 + m) ++ (List.range 67).map (fun m => 200 + m) ++ [81, 82, 83]
  else List.range 35

/-- D + λ × R of a form of a block (R299): D and R are open, λ is a function of the row QP alone. -/
def SearchAt.modeCost (a : SearchAt) (b : Block) : Nat :=
  let key := [a.digest, b.x, b.y, b.w, b.h, b.mode, b.intra, b.intraEnd, b.ref, wrapInt 32 b.mv.1, wrapInt 32 b.mv.2, b.precision] ++
    b.points.flatMap (fun v => [wrapInt 32 v.1, wrapInt 32 v.2])
  256 * Config.searchCost (4 :: a.qp :: key) + Config.lambda a.pl.cfg.codec a.qp * Config.searchCost (5 :: a.qp :: key)

/-- A block of a partition tree: left, top, width and height within the CTU. -/
abbrev TreeBlock := Nat × Nat × Nat × Nat
/-- The parts of a block under a split: 1 quarters; 2 and 3 halves; 4 and 5 a quarter, a half and a quarter; 6–9 a quarter and three quarters;
else the block itself (the standards' splits; PRESUMED, log entry 143). -/
def TreeBlock.parts (e : TreeBlock) (how : Nat) : List TreeBlock :=
  let (x, y, w, h) := e
  match how with
  | 1 => [(x, y, w / 2, h / 2), (x + w / 2, y, w / 2, h / 2), (x, y + h / 2, w / 2, h / 2), (x + w / 2, y + h / 2, w / 2, h / 2)]
  | 2 => [(x, y, w, h / 2), (x, y + h / 2, w, h / 2)]
  | 3 => [(x, y, w / 2, h), (x + w / 2, y, w / 2, h)]
  | 4 => [(x, y, w, h / 4), (x, y + h / 4, w, h / 2), (x, y + 3 * h / 4, w, h / 4)]
  | 5 => [(x, y, w / 4, h), (x + w / 4, y, w / 2, h), (x + 3 * w / 4, y, w / 4, h)]
  | 6 => [(x, y, w, h / 4), (x, y + h / 4, w, 3 * h / 4)]
  | 7 => [(x, y, w, 3 * h / 4), (x, y + 3 * h / 4, w, h / 4)]
  | 8 => [(x, y, w / 4, h), (x + w / 4, y, 3 * w / 4, h)]
  | 9 => [(x, y, 3 * w / 4, h), (x + 3 * w / 4, y, w / 4, h)]
  | _ => [e]
/-- A split is permitted for a block that came from `depth` splits other than into quarters: no part is under 8 × 8; VVC has up to 3 splits into
halves and thirds after those into quarters (R283), HEVC parts of one last block. -/
def TreeBlock.splits (e : TreeBlock) (codec how depth : Nat) : Bool :=
  (e.parts how).all (fun p => 8 ≤ p.2.2.1 && 8 ≤ p.2.2.2) &&
  (match how with
   | 0 => true
   | 1 => depth == 0
   | 2 | 3 => if codec = 0 then depth < 3 else depth == 0
   | 4 | 5 => codec == 0 && depth < 3
   | _ => codec == 1 && how ≤ 9 && depth == 0)
/-- The blocks of a partition tree (R298): a block that crosses the picture's edge is split into quarters; how any other is split is the
grove's choice among the splits permitted. -/
def SearchAt.tree (a : SearchAt) : Nat → Nat → TreeBlock → List TreeBlock
  | 0, _, e => [e]
  | fuel + 1, depth, e =>
    let codec := a.pl.cfg.codec
    let crosses := decide (8 * cdiv a.w 8 < e.1 + e.2.2.1) || decide (8 * cdiv a.h 8 < e.2.1 + e.2.2.2)
    let want := ((Config.groveChoice [0, a.digest, a.col, e.1, e.2.1, e.2.2.1, e.2.2.2]).head?).getD 0 % 10
    let how := if crosses then 1 else if e.splits codec want depth then want else 0
    if how = 0 then [e]
    else (e.parts how).flatMap (fun p => a.tree fuel (if how = 1 then 0 else if codec = 0 then depth + 1 else 3) p)
/-- Blocks of the partition tree of a CTU, down to 8 × 8: those that lie in the picture. -/
def SearchAt.partition (a : SearchAt) : List TreeBlock :=
  (a.tree 7 0 (0, 0, a.b, a.b)).filter (fun e => e.1 < a.w && e.2.1 < a.h)

/-- Vectors that neighbours of a block offer: merge and MMVD candidates and predictors, which the codec standards form. -/
def SearchAt.offered (a : SearchAt) (mode x y : Nat) : List Mv :=
  let rec two : List Nat → List Mv
    | p :: q :: rest => (signed 32 p, signed 32 q) :: two rest
    | _ => []
  two (Config.groveChoice [1, a.digest, mode, x, y])

/-- The coding of one block: the form of least cost among intra, inter, merge, MMVD, affine and skip; in an I picture and in refresh
columns intra alone (R277, R305). The tools used are the grove's choice among the enabled ones (R284). -/
def SearchAt.codeBlock (a : SearchAt) (refs : List (SearchRef × Option Mv)) (affine : Nat → List Mv) (e : TreeBlock) : Block :=
  let x := a.x0 + e.1
  let y := a.y0 + e.2.1
  let cols := a.area.refresh a.y.sweepAt
  let intraOnly := a.y.kind = 2 ∨ (a.y.sweep.isSome ∧ cols.1 ≤ a.col ∧ a.col < cols.2)
  let base : Block := { x := x, y := y, w := e.2.2.1, h := e.2.2.2, mode := 0, intraEnd := a.y.intraLimit a.area x }
  let vvc := a.pl.cfg.codec = 0
  let intra := (intraModes a.pl.cfg.codec).map (fun m => { base with intra := m })
  let inter := refs.flatMap (fun r =>
    let searched := match r.2 with
      | none => []
      | some v => match a.refine r.1 x y base.w base.h (v :: a.offered 1 x y) with
        | none => []
        | some m =>
          let (q, p) := a.amvr r.1 x y base.w base.h m
          [{ base with mode := 1, ref := r.1.ref.poc, mv := q, precision := p }]
    let taken (mode : Nat) : List Block := ((a.offered mode x y).filter (a.y.vectorOk a.area a.win r.1.ref x y base.w base.h)).map
      (fun v => { base with mode := mode, ref := r.1.ref.poc, mv := v })
    let cps := if vvc then a.affine r.1 x y base.w base.h (affine r.1.ref.poc :: [a.offered 4 x y]) else []
    searched ++ taken 2 ++ (if vvc then taken 3 else []) ++
      (if cps = [] then [] else [{ base with mode := 4, ref := r.1.ref.poc, points := cps }]) ++ taken 5)
  let best := (bestOf a.modeCost (intra ++ if intraOnly then [] else inter)).getD base
  { best with tools := (Config.groveChoice [2, a.digest, x, y]).filter a.pl.toolOn }

end Sys2Proof.Machine
end

