-- ==== Sys2Proof/Machine/Grove.lean ====
section
/-!
DEFINITION. The grove (06 R285, R286, R290, R295–R299, R309–R313; 05 R247; 07 R340, R341): how an encode core codes the CTUs of a row
segment, what its context holds, and what a CTU leaves behind for later ones. Everything here is a function of the picture, its
references, its settings and the canopy frame (R43, R318): no unit, clock or order of operations enters.
-/
set_option Elab.async false
namespace Sys2Proof.Machine

open Sys2Proof

/-- Change the DPB entry of a picture. -/
def State.modRef (s : State) (p n : Nat) (g : RefPic → RefPic) : State :=
  s.modProg p (fun x => { x with refs := x.refs.map (fun r => if r.picture = n then g r else r) })
/-- The DPB entry of a picture. -/
def Program.refOf (x : Program) (n : Nat) : Option RefPic := x.refs.find? (fun r => r.picture = n)

/-- Canopy samples of a CTU as written: every plane, line by line (R170). -/
def CanFrame.ctuSamples (c : CanFrame) (b row col : Nat) : List Nat :=
  [0, 1, 2].flatMap (fun pl =>
    let vs := if pl ≠ 0 ∧ c.geom.format ≤ 1 then 2 else 1
    let hs := if pl ≠ 0 ∧ c.geom.format ≤ 2 then 2 else 1
    (List.range (b / vs)).flatMap (fun j => ((c.frame.get [] (pl * 65536 + row * (b / vs) + j)).drop (col * (b / hs))).take (b / hs)))

/-- References as a segment's search reads them, those still available (R293, R310). -/
def State.searchRefs (s : State) (p row seg : Nat) (y : Picture) : List SearchRef :=
  let pl := y.plan
  let a := if pl.multi then pl.sweepArea row seg else wholeGeo pl.geom pl.cfg.codec
  let b := ctuLines pl.cfg.codec
  let bounds : LumaRect := {
    x0 := (b * a.x0 : Nat), y0 := (b * a.y0 : Nat), x1 := (min pl.geom.width (b * a.x1) : Nat), y1 := (min pl.geom.height (b * a.y1) : Nat) }
  (y.refs.filterMap (fun n => (s.prog p).refOf n)).filterMap (fun r => if r.available then some { ref := r, bounds := bounds } else none)

/-- A reference picture becomes unavailable, from then on for pictures in hand as well, and the next one starts a refresh (R309–R312). -/
def State.loseRef (s : State) (p poc picture cause : Nat) : State :=
  (s.modProg p (fun x => { x with
    refLost := true,
    refs := x.refs.map (fun r => if r.picture = picture then { r with available := false } else r) })).raise 0x0503 (progId p) poc cause

/-- What a segment's bits depend on as it starts (R43, R318): the program's epoch and settings, the picture, the row's QP and limit, and what
its references hold down to row r + v. -/
def State.startDigest (s : State) (p row seg : Nat) (y : Picture) (limit : Nat) (floorRow : Bool) : Nat :=
  let pl := y.plan
  let v := if pl.cfg.codec = 0 then 1 else 2
  let wide := ctuWide pl.geom pl.cfg.codec
  let held := (s.searchRefs p row seg y).flatMap (fun r => r.ref.poc ::
    (List.range (min pl.rowCount (row + v + 1))).flatMap (fun j => pl.segs.map (fun e => r.ref.digests.get 0 (j * wide + (e.2 - 1)))))
  Config.absorb ([y.epoch, y.n, y.poc, y.kind, row, seg, y.qps.get 0 row, limit, b2n floorRow] ++
    ((y.sweepAt.map (fun e => [e.1, e.2])).getD []) ++ pl.key ++ held)

/-- The context of a segment as it starts: with WPP the set stored by the row above (R290). -/
def State.startContext (s : State) (k : OpKey) (y : Picture) (limit : Nat) (floorRow : Bool) : EncContext :=
  let above := if y.plan.cfg.wpp ∧ k.row ≠ (y.plan.tileRow k.row).1 then (s.op { k with row := k.row - 1 }).bind (fun o => o.enc.wpp) else none
  { range := Config.coder [0], vars := above.getD (Config.coder [1, y.kind, y.qps.get 0 k.row]),
    digest := s.startDigest k.prog k.row k.seg y limit floorRow }

/-- The context after a CTU: the coder moves on, and the WPP set is stored after the first CTU (VVC) or the second (HEVC) of the row, or
its only one (R247, R290). -/
def EncContext.advance (e : EncContext) (codec width i digest bits : Nat) (qpSent : Bool) : EncContext :=
  let c (j was : Nat) : Nat := Config.coder [j, was, digest]
  let vars := c 1 e.vars
  { range := c 0 e.range, low := c 2 e.low, outstanding := c 3 e.outstanding, vars := vars,
    wpp := if i + 1 = min width (if codec = 0 then 1 else 2) then some vars else e.wpp,
    history := c 4 e.history, stats := c 5 e.stats, pointer := e.pointer + bits, digest := digest, qpSent := e.qpSent || qpSent }

/-- Merge candidate 0 of a CTU, which the codec standards form: a reference and a vector; none where the references that are left do not hold
it, or where the vector is not permitted (R294, R306, R312; log entry 169). -/
def SearchAt.mergeZero (a : SearchAt) (refs : List SearchRef) : Option (RefPic × Mv) :=
  match Config.groveChoice [5, a.digest] with
  | i :: x :: y :: _ =>
    let v : Mv := (signed 32 x, signed 32 y)
    ((refs[i % max 1 a.y.refs.length]?).map SearchRef.ref).bind (fun r =>
      if a.y.vectorOk a.area a.win r a.x0 a.y0 a.w a.h v then some (r, v) else none)
  | _ => none
/-- A CTU in floor mode (R341): skip with merge index 0 in a B picture outside the refresh columns, else the largest blocks in DC intra
mode; no residual; SAO merged from the left, or from above in the first column where the slice has a row there; ALF and CC-ALF as the CTU
to its left. -/
def SearchAt.floorCode (a : SearchAt) (refs : List SearchRef) (left : Option CtuCode) (bits : Nat) : CtuCode :=
  let cols := a.area.refresh a.y.sweepAt
  let intra := a.y.kind = 2 ∨ (a.y.sweep.isSome ∧ cols.1 ≤ a.col ∧ a.col < cols.2)
  let base : Block := { x := a.x0, y := a.y0, w := a.w, h := a.h, mode := 0, intra := 1, intraEnd := a.y.intraLimit a.area a.x0 }
  let above := a.pl.cfg.sliceMode = 0 ∧ a.row ≠ (a.pl.tileRow a.row).1
  let code : CtuCode := {
    how := 1, alf := (left.map CtuCode.alf).getD 0, ccAlf := (left.map CtuCode.ccAlf).getD 0,
    sao := if left.isSome then 1 else if above then 2 else 0, bits := bits }
  match (if intra then none else a.mergeZero refs) with
  | some (r, v) => { code with merge := some 0, vectors := [(r.poc, v)], blocks := [{ base with mode := 5, intra := 0, ref := r.poc, mv := v }] }
  | none => { code with blocks := [base] }

/-- A concealed CTU (R313): skip with a zero vector from the first available reference, or DC intra with every sample the background. -/
def SearchAt.concealCode (a : SearchAt) (refs : List SearchRef) (background : List Nat) (bits : Nat) : CtuCode :=
  let base : Block := { x := a.x0, y := a.y0, w := a.w, h := a.h, mode := 0, intra := 1, intraEnd := a.y.intraLimit a.area a.x0 }
  match refs.head? with
  | some r => { how := 2, vectors := [(r.ref.poc, (0, 0))], blocks := [{ base with mode := 5, intra := 0, ref := r.ref.poc }], bits := bits }
  | none => { how := 2, blocks := [base], fill := some background, bits := bits }

/-- The loop filters of a CTU (R284, R286, R287): SAO with parameters of its own or merged; in VVC one of the fixed ALF sets or, with an APS, the
filters derived from the picture before; CC-ALF of the two chroma components with an APS alone. -/
def SearchAt.filtered (a : SearchAt) (c : CtuCode) : CtuCode :=
  let pick (i n : Nat) : Nat := ((Config.groveChoice [4, a.digest, i]).head?).getD 0 % n
  let aps := a.y.aps.isSome
  { c with
    sao := pick 0 3, alf := if a.pl.cfg.codec = 0 then pick 1 (if aps then 18 else 17) else 0,
    ccAlf := if aps ∧ a.pl.geom.format ≠ 0 then pick 2 25 else 0 }
/-- A CTU coded by the search (R295–R299): a vector for each reference, and the blocks that mode decision chose. -/
def SearchAt.searchCode (a : SearchAt) (own : RefPic) (refs : List SearchRef) (hint : RefPic → Option (Mv × List Mv)) (bits : Nat)
    (qpSent : Bool) : CtuCode :=
  let found := refs.map (fun r =>
    let h := hint r.ref
    (r, a.ctuVector r (a.screen r (a.candidates own r (h.map Prod.fst) ((h.map Prod.snd).getD [])))))
  let affine (poc : Nat) : List Mv := ((refs.find? (fun r => r.ref.poc = poc)).bind (fun r => (hint r.ref).map Prod.snd)).getD []
  let residual := (Config.groveChoice [3, a.digest]).length != 0
  a.filtered {
    vectors := found.filterMap (fun e => e.2.map (fun v => (e.1.ref.poc, v))), blocks := a.partition.map (a.codeBlock found affine),
    residual := residual, qpDelta := residual && !qpSent, bits := bits }

/-- How an encode core codes the next CTU of a segment, and the digest of what it depends on: the references that are left, and its samples, or
the background where they cannot be read (R310, R313, R320). -/
def State.ctuCode (s : State) (k : OpKey) (o : Op) (y : Picture) (c : CanFrame) (floor : Bool) : CtuCode × Nat :=
  let pl := y.plan
  let codec := pl.cfg.codec
  let seg := pl.segs.getD k.seg (0, 0)
  let col := seg.1 + o.progress
  let addr := ctuAddr pl k.row col
  let x := s.prog k.prog
  let own := (x.refOf y.n).getD { poc := y.poc, picture := y.n }
  let refs := s.searchRefs k.prog k.row k.seg y
  let at0 : SearchAt := {
    pl := pl, y := y, row := k.row, seg := k.seg, col := col, digest := o.enc.digest, qp := y.qps.get 0 k.row,
    luma := fun px py => (c.frame.get [] py).getD px 0 }
  let digest := Config.absorb ([o.enc.digest, addr, b2n floor] ++
    at0.aboveCols.map (fun i => own.digests.get 0 (ctuAddr pl (k.row - 1) i)) ++ refs.map (fun r => r.ref.poc) ++
    (if y.concealed.contains addr then 1 :: c.look.background else 0 :: c.ctuSamples (ctuLines codec) k.row col))
  let a := { at0 with digest := digest }
  let bits := Config.ctuBits [digest, a.qp, b2n floor]
  let code :=
    if y.concealed.contains addr then a.concealCode refs c.look.background (if floor then bits % (fCtu codec + 1) else bits)
    else if floor then a.floorCode refs (if seg.1 < col then y.ctus.find (addr - 1) else none) (bits % (fCtu codec + 1))
    else
      let half := ctuLines codec / 2
      let hint (r : RefPic) : Option (Mv × List Mv) :=
        (s.frame k.prog r.frame).bind (fun f' => (hintLayer c f' (a.x0 + half) (a.y0 + half)).map (fun e =>
          (hintAt e (a.x0 + half : Nat) (a.y0 + half : Nat), if codec = 0 then hintAffine e (a.x0 + half) (a.y0 + half) half else [])))
      a.searchCode own refs hint bits o.enc.qpSent
  (code, digest)

/-- A coded CTU stands: its vectors join the motion field, and later segments may depend on it. -/
def State.keepCtu (s : State) (k : OpKey) (y : Picture) (addr digest : Nat) (code : CtuCode) : State :=
  (s.modPic k.prog k.pic (fun z => { z with ctus := z.ctus.set addr code })).modRef k.prog y.n (fun r => { r with
    motion := if code.vectors = [] then r.motion else r.motion.set addr code.vectors, digests := r.digests.set addr digest })

/-- With WPP a CTU waits for the CTU above it (VVC), and for the one to the right of that (HEVC), where they are in the tile (R290). -/
def State.wppReady (s : State) (k : OpKey) (o : Op) (y : Picture) : Bool :=
  let pl := y.plan
  if !pl.cfg.wpp ∨ pl.cfg.sliceMode = 1 ∨ k.row = (pl.tileRow k.row).1 then true
  else
    let seg := pl.segs.getD k.seg (0, 0)
    (s.op { k with row := k.row - 1 }).any (fun a =>
      a.done || min (seg.2 - seg.1) (o.progress + (if pl.cfg.codec = 0 then 1 else 2)) ≤ a.progress)

end Sys2Proof.Machine
end

