-- ==== Sys2Proof/Machine/Dispatcher.lean ====
section
/-!
DEFINITION. The task dispatcher (05): delivery, placement, pre-emption, promotion, trace records, unit faults with reissue and
spares, the lockstep restart, CTUs and cutovers (07 R340).
-/
set_option Elab.async false
namespace Sys2Proof.Machine

open Sys2Proof

/-! ### Trace (R266–R269) -/

/-- D − now in µs, saturating. -/
def slackUs (d now : Nat) : Int := clip (((d : Int) - now) / 1000) (-32767) 32767

/-- Write a trace record of a decision on an operation: `kind` and `unit` as in *Trace record*. -/
def State.trace (s : State) (decision : Nat) (k : OpKey) (kind unit retired : Nat) : State :=
  let d := s.disp
  if d.trcEnable ∧ !d.trcFrozen ∧ bit d.trcDecisions decision ∧ bit d.trcPrograms k.prog then
    let r : TraceRec := { ts := s.ts, decision := decision, level := s.level k, unitKind := kind, unit := unit,
                          opKind := k.kind.code, prog := k.prog, frame := k.pic % 16, retired := retired, row := k.row,
                          seg := k.seg, slack := slackUs (s.deadline k) s.now }
    { s with disp := d.record r }
  else s

/-- The record's unit fields for a unit. -/
def State.traceUnit (s : State) (decision : Nat) (k : OpKey) (u : Nat) : State := s.trace decision k (u / 65536) (u % 65536) 0

/-! ### Placement (R259, R260) -/

/-- A unit may run operations of a program's class: in the permitted set, or schedulable by default. -/
def State.permits (s : State) (p u : Nat) : Bool :=
  match (s.prog p).permitted with
  | none => true
  | some (e, x, k) => (match u / 65536 with | 0 => e | 1 => x | _ => k).contains (u % 65536)

/-- Schedulable units of a class that run nothing. -/
def State.idleUnits (s : State) (cls : Nat) : List Nat :=
  ((List.range (unitCount cls)).map (fun n => 65536 * cls + n)).filter
    (fun u => (s.unit u).state == 0 && (s.unit u).op.isNone && (s.unit u).cmd.isNone)

/-- The unit an operation goes to (R259). -/
def State.placeOn (s : State) (k : OpKey) : Option Nat :=
  match k.kind.cls with
  | none => none
  | some c =>
    let idle := (s.idleUnits c).filter (fun u => s.permits k.prog u)
    let above := if k.row = 0 then none else (s.disp.lastUnits.find? (fun e => e.1 = { k with row := k.row - 1 })).map Prod.snd
    match above with
    | some u => if idle.contains u then some u else idle.head?
    | none => idle.head?

/-- Deliver an operation to a unit (R243): its entry is in the store, the unit has still to acknowledge. -/
def State.deliver (s : State) (k : OpKey) (u : Nat) : State :=
  let slot := ((s.frame k.prog k.pic).map CanFrame.slot).getD 0
  let o := (s.op k).getD { key := k, level := s.level k, deadline := s.deadline k }
  let s1 := s.dropOp k
  let s2 := { s1 with disp := { s1.disp with
    ops := s1.disp.ops ++ [{ o with unit := some u, lastUnit := some u, slot := slot, preempt := false, reissue := false }],
    lastUnits := (k, u) :: s1.disp.lastUnits.filter (fun e => e.1.prog != k.prog || k.pic ≤ e.1.pic + 2) } }
  s2.modUnit u (fun x => { x with op := some k, awaitAck := true, lastReport := s.now, slot := slot })

/-- Whether a placement decision was clamped (R260). -/
def State.placed (s : State) (p : Nat) (clamped : Bool) : State :=
  let d := s.disp
  let mask := 2 ^ p
  let bits' := if clamped then d.placeClamped ||| mask else d.placeClamped &&& (65535 - mask)
  { s with disp := { d with
    placeClamped := bits', placeClamps := if clamped then d.placeClamps.upd 0 p (fun n => satAdd 32 n 1) else d.placeClamps } }

/-- Objects that a dispatcher counter can be restricted to. -/
def opObjects (k : OpKey) (u : Nat) : List Nat := [progId k.prog, unitId u]

/-! ### LAUNCH_ROW (R235, R262, R351, R360–R362, R368) -/

/-- A flow carries the access unit of a canopy frame (R362, R368). -/
def TxFlow.carries (f : TxFlow) (g : Nat) : Bool := f.openedAt < g && (match f.closing with | none => true | some (_, _, t) => g ≤ t)

/-- Queue a row's packets on every leg of a flow (R360, R387). -/
def TxFlow.push (f : TxFlow) (pkts : List TxPkt) : TxFlow :=
  let numbered := (pkts.zipIdx).map (fun e => { e.1 with k := f.k + e.2 })
  { f with k := f.k + pkts.length, legs := f.legs.map (fun l => { l with queue := l.queue ++ numbered }) }

/-- The legs of shaped flows that carry an access unit of a stream. -/
def State.trainLegs (s : State) (p n g : Nat) : List (Nat × Nat) :=
  ((s.flowsOf p n).filter (fun f => (s.txFlow f).carries g && (s.txFlow f).cls == 0)).flatMap
    (fun f => (List.range (s.txFlow f).legs.length).map (fun i => (f, i)))

/-- The RTP timestamp of R361. -/
def rtpStamp (g : Nat) : Nat := g * 90000 / 1000000000 % two32

/-- A stream's packets of a row go to the egress queues of its flows; its train begins with its first row. -/
def State.launchStream (s : State) (p n row : Nat) (y : Picture) : State :=
  let x := y.plan.stream n
  let first := x.any (fun x => row == x.y0)
  let launch := s.toTb0 p y.launch
  let pkts := ((y.packs.get [] (row * 512 + n)).zipIdx).map (fun e =>
    ({ k := 0, prog := p, pic := y.n, row := row, stream := n, data := e.1.bytes, marker := e.1.marker,
       first := first && e.2 == 0, last := e.1.marker, launch := launch, ts := rtpStamp y.g,
       muted := y.gate.get 0 row == 2, passed := s.now } : TxPkt))
  let legs := s.trainLegs p n y.g
  let flows := (s.flowsOf p n).filter (fun f => (s.txFlow f).carries y.g)
  let copies := (flows.map (fun f => (s.txFlow f).legs.length)).sum * pkts.length
  let s0 := s.modProg p (fun z => { z with store := (z.store.map (fun r =>
    if r.pic = y.n ∧ r.row = row ∧ r.stream = n then { r with left := some copies } else r)).filter (fun r => r.left != some 0) })
  let s1 := flows.foldl (fun s f => s.modTx f (fun t => t.push pkts)) s0
  if first ∧ legs ≠ [] then
    let t : Train := {
      prog := p, stream := n, pic := y.n, frame := y.f, g := y.g, launch := launch, windowEnd := launch + s.windowOf p,
      pending := legs }
    { s1 with egress := { s1.egress with trains := s1.egress.trains ++ [t] } }
  else s1

/-- What a stopped program holds goes back once its last picture has been launched and every row of its store is free: charges, pages,
permits (01 R25, R34; 08 R370; 14 R580). -/
def State.endProgram (s : State) (p : Nat) : State :=
  if !(s.prog p).draining ∨ (s.prog p).pics ≠ [] ∨ (s.prog p).store ≠ [] then s
  else
  ((s.releaseSlot (progId p) 0).unpermit (fun x => x.holder = progId p && x.code = 1)).modProg p
    (fun x => { x with draining := false, permitHeld := false, refs := [], emitting := [] })

/-- A closing flow has nothing left to send: the close completes, and its charges go back (R368). -/
def State.closeDone (s : State) (f : Nat) : State :=
  let t := s.txFlow f
  match t.closing with
  | none => s
  | some (q, seq, _) =>
    let waits := t.kind == 0 && (s.prog t.prog).pics.any (fun y => t.carries y.g && (!y.decided || y.emit.contains t.stream))
    let busy := t.legs.any (fun l => !l.queue.isEmpty || !l.released.isEmpty || l.sending.isSome)
    let queued := s.egress.subPorts.any (fun e => e.2.beQueues.any (fun b => b.2.any (fun x => x.flow.any (fun y => y.1 = f))))
    if waits ∨ busy ∨ queued then s
    else
      ((({ s with egress := { s.egress with flows := s.egress.flows.erase f } }).uncharge (fun c => c.owner = txId f)).completeId
        (q, seq) 2 0)

/-- Closing flows of a program are looked over. -/
def State.closeFlows (s : State) (p : Nat) : State :=
  ((s.egress.flows.filter (fun e => e.2.prog == p && e.2.closing.isSome)).map Prod.fst).foldl (fun s f => s.closeDone f) s

/-- A row is launched; with its last row the picture leaves the program. -/
def State.launchRow (s : State) (p f row : Nat) : State :=
  match s.pic p f with
  | none => s
  | some y =>
    let s1 := (y.rowStreams row).foldl (fun s n => s.launchStream p n row y) s
    let s2 := s1.modPic p f (fun y => { y with launched := row :: y.launched })
    if y.launched.length + 1 < y.plan.rowCount then s2
    else
      let s3 := s2.modProg p (fun x => { x with pics := x.pics.filter (fun z => z.f != f) })
      let s4 := { s3 with disp := { s3.disp with ops := s3.disp.ops.filter (fun o => !(o.key.prog == p && o.key.pic == f)) } }
      let s4b := if y.n = 0 then
          (s4.unpermit (fun x => x.holder = progId p && x.code = 1)).modProg p (fun x => { x with permitHeld := false })
        else s4
      (s4b.closeFlows p).endProgram p

/-! ### DISPATCH (R240, R243, R258–R260) -/

/-- No ready operation with somewhere to go comes before this one (R240). -/
def State.isNext (s : State) (k : OpKey) : Bool :=
  s.readyOps.all (fun j => !s.before j k || (j.kind != .launch && (s.placeOn j).isNone))

/-- Deliver a ready operation: LAUNCH_ROW to the egress shaper, the others to an idle permitted unit; an operation that finds none
while one outside its set is idle waits, which is a clamped decision (R260). -/
def State.dispatchOp (s : State) (k : OpKey) : State :=
  if s.disp.restarting ∨ !s.ready k ∨ !((s.inFlight k.prog).contains (k.pic, k.row)) ∨
      !((s.rowOps k.prog k.pic k.row).contains k) then s
  else if k.kind = .launch then
    if s.isNext k then
      let s1 := (s.trace 1 k 255 0 0).happen 0x0101 [progId k.prog] 0 0 1
      let s2 := s1.trace 4 k 255 0 0
      let s3 := if s.deadline k < s.now then (s2.trace 10 k 255 0 0).happen 0x0105 [progId k.prog] 0 0 1 else s2
      s3.launchRow k.prog k.pic k.row
    else s
  else
    match s.placeOn k with
    | some u =>
      if s.isNext k then
        let again := (s.op k).any (fun o => o.progress != 0 || o.lastUnit.isSome)
        let s1 := (s.deliver k u).placed k.prog false
        let s2 := (s1.traceUnit 1 k u).happen 0x0101 (opObjects k u) 0 0 1
        let s3 := if again then s2.traceUnit 3 k u else s2
        if (s.op k).any Op.reissue then (s3.traceUnit 6 k u).happen 0x0103 (opObjects k u) 0 0 1 else s3
      else s
    | none =>
      if (k.kind.cls.map s.idleUnits).any (fun l => !l.isEmpty) then
        ((s.placed k.prog true).trace 9 k ((k.kind.cls).getD 255) 0 0)
      else s

def execDispatch (op : OpName) (s : State) : Out :=
  need (op.prog < 16) <|
    match opKey op with
    | none => s
    | some k => s.dispatchOp k

/-! ### Leaving a unit -/

/-- A unit runs nothing any more. -/
def State.freeUnit (s : State) (u : Nat) : State := s.modUnit u (fun x => { x with op := none, awaitAck := false })

/-- Packets of a stream in rows before a row that are packed and still to be launched: a flow's count has yet to take them (08 R360). -/
def State.packedAhead (s : State) (p f row n : Nat) : Nat :=
  ((s.prog p).pics.flatMap (fun y => (List.range y.plan.rowCount).map (fun r =>
    if (y.f < f ∨ y.f = f ∧ r < row) ∧ !y.launched.contains r then (y.packs.get [] (r * 512 + n)).length else 0))).sum
/-- A packetizer saves its context at a packet boundary (R247): which one it has reached is open, and not before the last one saved. The
packets up to it have been presented to the row's check-value context, and one more where a fault comes between (12 R528, R529). -/
def State.savePack (s : State) (k : OpKey) (fault : Bool) : State :=
  match s.pic k.prog k.pic, k.kind with
  | some y, .pack =>
    match y.plan.stream k.seg with
    | none => s
    | some x =>
      let made := packetize y.plan.cfg.codec ((s.prog k.prog).payload.get 1448 k.seg) (s.rowUnits k.prog k.seg k.row y x).1 [] 0
      let (v, s0) := s.draw
      let (w, s1) := s0.draw
      let ahead := s.packedAhead k.prog k.pic k.row k.seg
      let next (j i : Nat) : Nat × Nat := (i, ((s.txFlow i).seq0 + (s.txFlow i).k + ahead + j) % 65536)
      s1.modOp k (fun o =>
        let j := max o.progress (v % (made.length + 1))
        let sent := (made.take j).flatten
        let shown := if fault ∧ w % 2 = 1 then j + 1 else j
        let cv := (((made.zipIdx).take shown).drop o.progress).foldl (fun (c : CvInner) e => (c.present e.2 e.1).1) o.cv
        { o with progress := j, cv := cv, pack := {
          position := sent.length, seqs := (s.flowsOf k.prog k.seg).map (next j), ts := rtpStamp y.g,
          crc := crcAbsorb (crcAlgo 0) (crcStart (crcAlgo 0)) sent } })
  | _, _ => s

/-- An operation returns to its ready list with its checkpoint (R245, R247). -/
def State.returnOp (s : State) (k : OpKey) (raised : Bool) : State :=
  (s.savePack k raised).modOp k (fun o => { o with unit := none, preempt := false, raised := o.raised || raised })

/-- RESET_UNIT moves the unit's operation, if it has one left, to a warm spare and retires the unit (R256). -/
def State.moveToSpare (s : State) (u : Nat) (k : Option OpKey) : State :=
  let id := (s.unit u).cmd
  match s.spareOf u with
  | none => (s.modUnit u (fun x => { x with cmd := none })).failOpt id 0x0303 (unitId u)
  | some sp =>
    let s1 := ((s.retireUnit u).bringIn u sp).modUnit u (fun x => { x with cmd := none })
    let s2 := match k with
      | some k => (((s1.returnOp k false).deliver k sp).trace 7 k (u / 65536) (sp % 65536) (u % 65536)).traceUnit 3 k sp
      | none => s1.traceSwap u sp
    s2.completeOpt id 2 (unitId sp)

/-! ### PREEMPT (R244–R246) -/

/-- A waiting operation pre-empts this one: same class, a lower level, no idle permitted unit, this unit permitted. -/
def State.preempts (s : State) (j k : OpKey) (u : Nat) : Bool :=
  j.kind.cls == k.kind.cls && s.level j < s.level k && (s.placeOn j).isNone && s.permits j.prog u

/-- This operation is the one that a waiting operation pre-empts: the greatest level, then the latest deadline. -/
def State.worst (s : State) (j k : OpKey) : Bool :=
  s.disp.ops.all (fun o => match o.unit with
    | none => true
    | some u => !(s.preempts j o.key u) || s.level o.key < s.level k ||
        (s.level o.key == s.level k && s.deadline o.key ≤ s.deadline k))

/-- A running operation is pre-empted at its pre-emption point; pixel operations have theirs at their end, and an encode
operation whose last CTU is complete has its completion stand (R246). -/
def State.preemptOp (s : State) (k : OpKey) : State :=
  match s.op k with
  | none => s
  | some o =>
    match o.unit with
    | none => s
    | some u =>
      let seg := (s.opPlan k).segs.getD k.seg (0, 0)
      let ended := k.kind == .encode && decide (seg.2 - seg.1 ≤ o.progress)
      if o.done ∨ ended ∨ s.disp.restarting ∨ !(k.kind == .encode || k.kind == .pack) then s
      else if (s.unit u).cmd.isSome then s.moveToSpare u (some k)
      else if s.readyOps.any (fun j => s.preempts j k u && s.worst j k) then
        (((s.traceUnit 2 k u).returnOp k false).freeUnit u).happen 0x0102 (opObjects k u) 0 0 1
      else s

def execPreempt (op : OpName) (s : State) : Out :=
  need (op.prog < 16) <|
    match opKey op with
    | none => s
    | some k => s.preemptOp k

/-! ### PROMOTE (R241) -/

/-- The slack of a ready or running operation at level 2 or below falls under 24 µs. -/
def State.promoteOp (s : State) (k : OpKey) : State :=
  let running := (s.op k).any (fun o => o.unit.isSome && !o.done)
  let known := (s.inFlight k.prog).contains (k.pic, k.row) && (s.rowOps k.prog k.pic k.row).contains k
  if known ∧ (s.ready k ∨ running) ∧ 2 ≤ s.level k then
    let at_ := ((s.deadline k : Int) - s.remaining k - 24000 + 1).toNat
    let s1 := s.reach at_
    if s1.slack k < 24000 then
      let s2 := match s1.op k with
        | some _ => s1.modOp k (fun o => { o with raised := true })
        | none =>
          let o : Op := { key := k, level := 1, deadline := s1.deadline k, raised := true }
          { s1 with disp := { s1.disp with ops := s1.disp.ops ++ [o] } }
      let u := ((s1.op k).bind Op.unit).getD (65536 * 255)
      (s2.traceUnit 8 k u).happen 0x0104 [progId k.prog] 0 0 1
    else s1
  else s

def execPromote (op : OpName) (s : State) : Out :=
  need (op.prog < 16) <|
    match opKey op with
    | none => s
    | some k => s.promoteOp k

/-! ### Unit faults (R249–R252, R255, R46, R41) -/

/-- No spare: the lost unit reduces the encode limit by an open amount (R41, R252; log entry 5). The limit does not rise again when the
unit later passes its self-test and becomes a warm spare: the spec does not say (DESIGN CHOICE, log entry 147). -/
def State.loseUnit (s : State) (u : Nat) : State :=
  ({ s with encLost := s.encLost + Config.unitLoss (u / 65536) }).capacityReduced

/-- A unit is faulty: isolated, retired, its operation reissued at level 1 to a warm spare, or to the first idle permitted unit. A
warm spare, or a unit under self-test, is only retired. -/
def State.unitFault (s : State) (u cause : Nat) : State :=
  let x := s.unit u
  let s0 := match x.op with
    | some k => s.traceUnit 5 k u
    | none => s.traceIdle 5 (u / 65536) (u % 65536) 0
  let s1 := s0.raise 0x0201 (unitId u) cause ((x.op.map OpKey.prog).getD 255)
  let s2 := if s1.disp.trcFreezeOnFault then { s1 with disp := { s1.disp with trcFrozen := true } } else s1
  let s3 := ((s2.retireUnit u).modUnit u (fun x => { x with cmd := none })).failOpt x.cmd 0x0303 (unitId u)
  let s4 := s3.unpermit (fun q => q.code = 7 && q.holder = unitId u)
  let s5 := match x.op with
    | none => s4
    | some k => (s4.returnOp k true)
  match (if x.state = 0 then s.spareOf u else some u) with
  | some sp =>
   if x.state ≠ 0 then s5 else
    let s6 := s5.bringIn u sp
    let s7 := match x.op with
      | none => s6.traceSwap u sp
      | some k => (((s6.deliver k sp).traceUnit 6 k sp).happen 0x0103 (opObjects k sp) 0 0 1).trace 7 k (u / 65536) (sp % 65536) (u % 65536)
    s7.raise 0x0202 (unitId u) (unitId sp) 0
  | none =>
    let s6 := match x.op with
      | none => s5
      | some k => s5.modOp k (fun o => { o with reissue := true })
    s6.loseUnit u

/-- The unit runs or awaits something. -/
def State.busyUnit (s : State) (u : Nat) : Bool := (s.unit u).op.isSome && (s.unit u).state == 0

/-- No acknowledgement within 2 µs of delivery (R243). -/
def execAckTimeout (unit : Nat) (s : State) : Out :=
  need (isUnit unit) <|
    if s.busyUnit unit && (s.unit unit).awaitAck then (s.reach ((s.unit unit).lastReport + 2000)).unitFault unit 1 else s

/-- A progress report, which also acknowledges the delivery (R243, R249). -/
def execProgressReport (unit : Nat) (s : State) : Out :=
  need (isUnit unit) <|
    if s.busyUnit unit then s.modUnit unit (fun x => { x with awaitAck := false, lastReport := s.now }) else s

/-- The watchdog of R249; packetizers run on the clock that is never throttled. -/
def State.watchdog (s : State) (u : Nat) : Nat := if u / 65536 = 2 then 4000 else cdiv 64000 (16 - s.power.step)

def execProgressWatchdog (unit : Nat) (s : State) : Out :=
  need (isUnit unit) <|
    if s.busyUnit unit then (s.reach ((s.unit unit).lastReport + s.watchdog unit)).unitFault unit 2 else s

/-- An internal error of a unit that is in service, a warm spare or under self-test: a failure of hand-off 6; a word that it was writing
may stand poisoned (12 R533, R534). -/
def execUnitInternalError (unit : Nat) (s : State) : Out :=
  need (isUnit unit) <|
    if (s.unit unit).state = 2 then s
    else
      let s1 := match (s.unit unit).op with
        | some k => s.ownerPoisons (progId k.prog)
        | none => s
      (s1.chainFail 6).unitFault unit 0

/-- The self-test of a retired unit ends (R257). -/
def execUnitSelfTestDone (unit : Nat) (passed : Bool) (s : State) : Out :=
  need (isUnit unit) <|
    let x := s.unit unit
    if x.state = 3 then
      let s1 := s.modUnit unit (fun y => { y with state := if passed then 1 else 2, cmd := none, standsFor := none })
      if passed then s1.completeOpt x.cmd 2 0
      else (s1.unpermit (fun q => q.code = 7 && q.holder = unitId unit)).failOpt x.cmd 0x0303 (unitId unit)
    else s

/-! ### CTU_COMPLETE (R242, R247, R340, R341) -/

/-- One CTU of a segment (R340): a total above the limit of the segment cuts over to floor mode, in which it is coded again from its
checkpoint. The core's context is saved at the CTU boundary (R247). -/
def State.codeCtu (s : State) (k : OpKey) (o0 : Op) (u : Nat) (y : Picture) (c : CanFrame) : State :=
  let pl := y.plan
  let codec := pl.cfg.codec
  let e := pl.segs.getD k.seg (0, 0)
  let width := e.2 - e.1
  let q := pl.segStream k.row k.seg
  let pr := (q.bind (fun x => (s.rateStream k.prog x.1.num).bind (fun st => st.picRate y.n))).getD { n := y.n }
  let row := k.row - (q.map (fun x => x.1.y0)).getD 0
  let limit := pr.limits.get 0 (row * 64 + (q.map Prod.snd).getD 0)
  let floorRow := (pr.rows.get (0, 0, false) row).2.2
  let o := if o0.progress = 0 ∧ !o0.cut then { o0 with enc := s.startContext k y limit floorRow } else o0
  let floor := o.cut || floorRow
  let (code, digest) := s.ctuCode k o y c floor
  let left := width - o.progress - 1
  let s2 := s.modUnit u (fun x => { x with awaitAck := false })
  if !floor ∧ limit < o.bits + code.bits + fCtu codec * left then
    let s3 := (s2.modOp k (fun z => { z with cut := true, enc := o.enc })).happen 0x0703 [progId k.prog] 0 0 1
    match q with
    | some x => s3.modStream k.prog x.1.num (fun st => { st with cutovers := satAdd 32 st.cutovers 1 })
    | none => s3
  else
    let enc := o.enc.advance codec width o.progress digest code.bits code.qpDelta
    let s3 := (s2.modOp k (fun z => { z with progress := o.progress + 1, bits := o.bits + code.bits, enc := enc })).happen 0x0701
      (opObjects k u) 0 0 1
    let s4 := s3.keepCtu k y (ctuAddr pl k.row (e.1 + o.progress)) digest code
    let s5 := if floor then s4.happen 0x0702 [progId k.prog] 0 0 1 else s4
    if (s5.unit u).cmd.isSome ∧ left ≠ 0 then s5.moveToSpare u (some k) else s5

/-- An encode core completes a CTU of the segment it runs, and checkpoints. -/
def execCtuComplete (unit : Nat) (s : State) : Out :=
  need (isUnit unit) <|
    match (s.unit unit).op with
    | none => s
    | some k =>
      match s.op k with
      | none => s
      | some o =>
        match s.pic k.prog k.pic, s.frame k.prog k.pic with
        | some y, some c =>
          let e := y.plan.segs.getD k.seg (0, 0)
          if k.kind = .encode ∧ !o.done ∧ o.progress < e.2 - e.1 ∧ s.wppReady k o y then s.codeCtu k o unit y c else s
        | _, _ => s

/-! ### The ends of operations (R210, R216, R235, R246, R308, R363) -/

/-- The segment is coded: its size, with the alignment of its slice data, is known to rate control (07 R327, R337). -/
def State.segmentCoded (s : State) (k : OpKey) (o : Op) : State :=
  let s1 := s.modOp k (fun o => { o with done := true, unit := none })
  let n := ((s.pic k.prog k.pic).map Picture.n).getD 0
  let pl := s.opPlan k
  match pl.segStream k.row k.seg with
  | none => s1
  | some (x, i) =>
    let row := k.row - x.y0
    let cols := (x.cols pl.cols).length
    let done := (pl.segs.zipIdx).all (fun e => !(x.x0 ≤ e.1.1 && e.1.2 ≤ x.x1) ||
      (s1.op { k with seg := e.2 }).any Op.done)
    s1.modStream k.prog x.num (fun st => st.modPicRate n (fun q =>
      let seg := q.segBits.set (row * 64 + i) (8 * cdiv o.bits 8)
      { q with segBits := seg,
               actual := if done then q.actual.set row (((List.range cols).map (fun j => seg.get 0 (row * 64 + j))).sum) else q.actual }))

/-- REFRESH_DONE at the last picture of a sweep, or at an IDR, once it is coded (R308). -/
def State.refreshDone (s : State) (p f : Nat) : State :=
  match s.pic p f with
  | none => s
  | some y =>
    if (List.range y.plan.rowCount).all (fun r => s.rowCoded p f r) then
      match y.sweep with
      | some (i, r, t) => if i + 1 = r then s.raise 0x0502 (progId p) y.n (if t then 2 else 1) else s
      | none => if y.kind = 2 ∧ y.n ≠ 0 then s.raise 0x0502 (progId p) y.n 0 else s
    else s

/-- The picture became complete with this operation: taps on its access units deliver. -/
def State.finalTaps (s1 s0 : State) (k : OpKey) : State :=
  let whole (s : State) : Bool := (s.pic k.prog k.pic).any (fun y => y.crcs.length == y.plan.rowCount)
  if !whole s0 ∧ whole s1 then s1.auTaps k.prog k.pic else s1

/-- What an operation did stands: sections composited or written, a segment coded, a row packed. -/
def State.operationDone (s : State) (k : OpKey) (o : Op) : State :=
  match k.kind with
  | .compose =>
    let s1 := (s.composeSection k.prog k.pic k.row k.seg).dropOp k
    if (s1.frame k.prog k.pic).any CanFrame.composedAll then (s1.frameComposed k.prog k.pic).refreshCanopy k.prog else s1
  | .finish =>
    let before := (s.frame k.prog k.pic).any CanFrame.finishedAll
    let s1 := (s.finishSection k.prog k.pic k.row k.seg).dropOp k
    if !before ∧ (s1.frame k.prog k.pic).any CanFrame.finishedAll then s1.canopyTap k.prog k.pic else s1
  | .encode => (((s.segmentCoded k o).refreshDone k.prog k.pic).rowFinished k.prog k.pic k.row).finalTaps s k
  | .pack => (((s.packRow k.prog k.pic k.row k.seg).dropOp k).rowFinished k.prog k.pic k.row).finalTaps s k
  | .launch => s

/-- A reconstruction write that a channel without backing discarded loses the picture as a reference (06 R309); whether one was among the
segment's is open (log entry 151). -/
def State.reconWritten (s : State) (k : OpKey) : State :=
  match s.pic k.prog k.pic with
  | none => s
  | some y =>
    if k.kind ≠ .encode ∨ !s.unbackedPage (progId k.prog) then s
    else
      let (v, s1) := s.draw
      if v % 2 = 1 ∧ ((s.prog k.prog).refOf y.n).any RefPic.available then s1.loseRef k.prog y.poc y.n 2 else s1

/-- A unit completes its operation; a RESET_UNIT that waited for this end finds nothing left to move. -/
def State.takeCompletion (s : State) (u : Nat) : State :=
  match (s.unit u).op with
  | none => s
  | some k =>
    match s.op k with
    | none => s.freeUnit u
    | some o =>
      let e := (s.opPlan k).segs.getD k.seg (0, 0)
      if o.done ∨ (k.kind = .encode ∧ o.progress < e.2 - e.1) then s
      else
        let s0 := s.traceUnit 4 k u
        let s1 := if s.deadline k < s.now then (s0.traceUnit 10 k u).happen 0x0105 [progId k.prog] 0 0 1 else s0
        let s3 := (((s1.freeUnit u).operationDone k o).ownerWrites (progId k.prog)).reconWritten k
        if (s3.unit u).cmd.isSome then s3.moveToSpare u none else s3

def execOperationComplete (unit : Nat) (s : State) : Out :=
  need (isUnit unit) <|
    if s.disp.restarting then
      if (s.unit unit).op.isSome then { s with disp := { s.disp with gathered := s.disp.gathered ++ [unit] } } else s
    else s.takeCompletion unit

/-! ### Lockstep (R254) -/

def execDispatcherLockstepMismatch (s : State) : Out :=
  need true <|
    if s.disp.restarting then s
    else { s with disp := { s.disp with restarting := true, restartEnd := s.now + 12000, gathered := [] } }

def execDispatcherRestartEnd (s : State) : Out :=
  need true <|
    if s.disp.restarting then
      let s1 := s.reach s.disp.restartEnd
      let l := s1.disp.gathered
      l.foldl (fun s u => s.takeCompletion u) { s1 with disp := { s1.disp with restarting := false, gathered := [] } }
    else s

/-! ### LAUNCH_TIME (R413, R415) -/

/-- The launch time of a picture arrives on its launch base. -/
def execLaunchTime (prog pic : Nat) (s : State) : Out :=
  need (prog < 16) <|
    match s.pic prog pic with
    | none => s
    | some y =>
      if y.launchArrived then s
      else (s.reach (s.toTb0 prog y.launch)).modPic prog pic (fun y => { y with launchArrived := true })

end Sys2Proof.Machine
end

