-- ==== Sys2Proof/Machine/MemOps.lean ====
section
/-!
DEFINITION. Opcodes of stacked DRAM (11, 17 *Memory and integrity*): MEM_POLICY, MEM_RETRAIN, MEM_FREQ, ECC_MODE, ECC_LOG_READ,
SCRUB_CONFIG, ECC_TEST; the address mapping (R477), and the state registers of the memory.
-/
set_option Elab.async false
namespace Sys2Proof.Machine

open Sys2Proof

/-! ### Addresses (R473, R474, R477) -/

/-- LOCATION of *Error table entry*. -/
def State.location (s : State) (ch ca : Nat) : Nat :=
  let (bank, row, col) := mapCa (s.orderAt ch ca) ca
  row * 131072 + bank * 8192 + col * 256 + ca / 8 % 8 * 32

/-- WORD_ADDR: DA[34:3], or all ones for a word of a spare (R515). -/
def State.wordAddr (s : State) (ch ca : Nat) : Nat :=
  match s.pageAt ch ca with
  | none => 0xFFFFFFFF
  | some h => Config.pageNumber h.1 h.2 * 8192 + ca % 65536 / 8
/-- Where the word at a device address stands: physical channel and CA (R473); none where no channel backs it. -/
def State.wordPlace (s : State) (da : Nat) : Option (Nat × Nat) :=
  let e := s.mem.placeOf (Config.pageSlot (da / 65536))
  (s.physical e.1).map (fun ch => (ch, e.2 * 65536 + da % 65536))

/-- A channel in service: it serves a logical channel and is not retired. -/
def State.inService (s : State) (ch : Nat) : Bool := (s.logicalOf ch).isSome && !(s.channel ch).retired

/-- Every channel of a stack. -/
def stackChannels (stack : Nat) : List Nat := (List.range 18).map (fun i => 32 * stack + i)
def allChannels : List Nat := stackChannels 0 ++ stackChannels 1

/-! ### The form of the stored words -/

/-- Words listed for a channel: their numbers rise, and none holds what an unlisted word reads as, the fill pattern with W 0 (R503). -/
def wordsWf (fill : Nat) (t : Tab Nat) : Bool :=
  decide (t.Pairwise (fun a b => a.1 < b.1)) && t.all (fun e => e.2 != eccEncode fill 0)
/-- The words of every channel have the form. -/
def wordsOk (channels : Tab Channel) (fill : Nat) : Bool := channels.all (fun e => wordsWf fill e.2.words)
/-- The stacked DRAM is written down in its one form: equal contents are equal data. -/
def Mem.wf (m : Mem) : Bool := wordsOk m.channels m.fill

/-! ### Registers of the memory -/

/-- Largest debt of a bank group of a stack. -/
def State.maxDebt (s : State) (stack : Nat) : Nat :=
  (stackChannels stack).foldl (fun m i => (s.channel i).debt.foldl (fun m e => max m e.2) m) 0
/-- MEM_REF_STATE. -/
def State.memRefStateReg (s : State) : Nat :=
  b2n (s.mem.doubled.getD 1 false) * 131072 + b2n (s.mem.doubled.getD 0 false) * 65536 + s.maxDebt 1 % 256 * 256 + s.maxDebt 0 % 256
/-- MEM_TEMP. -/
def State.memTempReg (s : State) : Nat := wrapInt 16 (s.mem.temps.getD 1 0) * 65536 + wrapInt 16 (s.mem.temps.getD 0 0)
/-- MEM_CH_STATE_s. -/
def State.memChStateReg (s : State) (stack : Nat) : Nat :=
  let lc (n : Nat) : Nat := ((s.logicalOf (32 * stack + n)).map (fun c => c % 16)).getD 31
  lc 17 * 2097152 + lc 16 * 65536 +
    ((List.range 16).map (fun i => if s.backed (16 * stack + i) then 0 else 2 ^ i)).sum
/-- MEM_RETIRED_s. -/
def State.memRetiredReg (s : State) (stack : Nat) : Nat :=
  ((List.range 18).map (fun n => if (s.channel (32 * stack + n)).retired then 2 ^ n else 0)).sum
/-- MEM_RATE. -/
def State.memRateReg (s : State) : Nat := s.mem.rates.getD 1 0 % 4 * 4 + s.mem.rates.getD 0 0 % 4
/-- MEM_REFPOST_CLAMPED. -/
def State.refpostClampedReg (s : State) : Nat := b2n (s.mem.postClamped.getD 1 false) * 2 + b2n (s.mem.postClamped.getD 0 false)
/-- ECT_RESULT. -/
def State.ectResultReg (s : State) : Nat :=
  b2n s.mem.ectBusy * 2 ^ 31 + s.mem.ectOutcome % 8 * 2 ^ 28 + b2n s.mem.ectW * 2 ^ 27 + s.mem.ectPos1 % 128 * 2 ^ 20 +
    s.mem.ectPos0 % 128 * 2 ^ 13

/-! ### MEM_POLICY (R478, R482, R484, R485) -/

/-- Pool pages are reserved, or a program runs or an ingress flow is open (R478). -/
def State.poolsInUse (s : State) : Bool :=
  !s.mem.reservations.isEmpty || s.progs.any (fun e => e.2.running) || s.rx.any (fun e => e.2.isOpen)
def checkMemPolicy (s : State) (c : Cmd) : Verdict :=
  firstOf [
    badRange ([c.outside 0 1 0 2, c.outside 2 1 0 8, c.outside 3 1 70 85] ++ c.zeros [(0, 4)] []),
    badState (c.u 0 1 != s.mem.order && s.poolsInUse) deviceId]
def effMemPolicy (c : Cmd) (s : State) : State :=
  State.ok { s with mem := { s.mem with
    order := c.u 0 1, pageIdle := c.u 1 1, postpone := c.u 2 1, threshold := c.u 3 1 } } c
def execMemPolicy (q seq : Nat) (s : State) : Out := opOut q (s.runOp 0x0901 q seq effMemPolicy)

/-! ### MEM_RETRAIN (R492, R493) -/

/-- The channel-training permit of a channel (14 R580 code 2). -/
def trainPermit (ch pos : Nat) : Permit := { code := 2, amount := 12, holder := channelId ch, pos := pos }
/-- A channel is being serviced: retrained, or in a rate change (R45, R493). -/
def State.channelBusy (s : State) (ch : Nat) : Bool := (s.channel ch).retraining.isSome || s.mem.freq.isSome
def checkMemRetrain (s : State) (c : Cmd) : Verdict :=
  firstOf [badState (!s.inService c.idx) c.object, verdict (s.channelBusy c.idx || s.serviced 0x0902 c.idx || s.serviced 0x0903 0) 0x0203 c.object, s.badPermit [trainPermit c.idx c.pos]]
/-- Its permit is held from acceptance (R581). -/
def acceptMemRetrain (c : Cmd) (s : State) : State := s.grant [trainPermit c.idx c.pos]
/-- Retraining begins on the set of the current rate. -/
def effMemRetrain (c : Cmd) (s : State) : State :=
  if s.channelBusy c.idx ∨ !s.inService c.idx then (s.unpermit (fun p => p.pos = c.pos)).fail c 0x0303 c.object
  else
    let s1 := s.modCmd c.q c.seq (fun c => { c with phase := .committed })
    s1.modChannel c.idx (fun x => { x with
      retraining := some (s.mem.rates.getD (c.idx / 32) 0, some (c.q, c.seq)), waitPermit := false })
def execMemRetrain (q seq : Nat) (s : State) : Out := opOut q (s.runOp 0x0902 q seq effMemRetrain)

/-! ### MEM_FREQ (R497, R498) -/

/-- Channels whose shadow sets a rate change trains. -/
def State.trainable (s : State) : List Nat := allChannels.filter (fun ch => !(s.channel ch).retired)
def State.freqPermits (s : State) (pos : Nat) : List Permit := s.trainable.map (fun ch => trainPermit ch pos)
def checkMemFreq (s : State) (c : Cmd) : Verdict :=
  let limit := (s.activeChannels 0 + s.activeChannels 1) * channelBw (c.u 0 1)
  firstOf [
    badRange ([c.outside 0 1 0 2] ++ c.zeros [(0, 1)] []),
    verdict (s.mem.freq.isSome || s.serviced 0x0903 0) 0x0203 deviceId,
    (s.trainable.find? (fun ch => (s.channel ch).retraining.isSome || s.serviced 0x0902 ch)).map (fun ch => (0x0203, channelId ch)),
    verdict (limit * unitScale < chargeSum s.charges 2) 0x020B 2,
    s.badPermit (s.freqPermits c.pos)]
def acceptMemFreq (c : Cmd) (s : State) : State := s.grant (s.freqPermits c.pos)
/-- Every channel's shadow set of the target rate is trained first. -/
def effMemFreq (c : Cmd) (s : State) : State :=
  let l := s.trainable
  let s1 := { s with mem := { s.mem with freq := some { rate := c.u 0 1, cmd := (c.q, c.seq) } } }
  l.foldl (fun s ch => s.modChannel ch (fun x => { x with retraining := some (c.u 0 1, some (c.q, c.seq)) })) s1
def execMemFreq (q seq : Nat) (s : State) : Out := opOut q (s.runOp 0x0903 q seq effMemFreq)

/-! ### ECC_MODE, SCRUB_CONFIG (R507, R514) -/

def checkEccMode (_ : State) (c : Cmd) : Verdict := badRange ([c.outside 0 1 0 2, c.outside 1 1 0 2] ++ c.zeros [(0, 2)] [])
def effEccMode (c : Cmd) (s : State) : State :=
  State.ok { s with mem := { s.mem with eccModes := s.mem.eccModes.set (c.u 0 1) (c.u 1 1) } } c
def execEccMode (q seq : Nat) (s : State) : Out := opOut q (s.runOp 0x0904 q seq effEccMode)

def checkScrubConfig (_ : State) (c : Cmd) : Verdict := badRange ([c.outside 0 1 1 168] ++ c.zeros [(0, 1)] [])
/-- The length applies from the next pass. -/
def effScrubConfig (c : Cmd) (s : State) : State :=
  State.ok { s with mem := { s.mem with scrubNext := some (c.u 0 1) } } c
def execScrubConfig (q seq : Nat) (s : State) : Out := opOut q (s.runOp 0x0906 q seq effScrubConfig)

/-! ### ECC_LOG_READ (R515) -/

def checkEccLogRead (_ : State) (c : Cmd) : Verdict :=
  badRange ([c.outside 0 1 0 1] ++ c.buf 4 2048 ++ c.zeros [(0, 1), (4, 12)] [])
/-- *Error table entry*. -/
def EccEntry.record (e : EccEntry) : List Byte :=
  leBytes 4 (channelId e.channel) ++ leBytes 4 e.location ++ leBytes 4 e.word ++ leBytes 1 e.kind ++ leBytes 1 e.state ++
  leBytes 1 e.pos0 ++ leBytes 1 e.pos1 ++ leBytes 2 e.synd ++ leBytes 2 e.hits ++ leBytes 4 e.first ++ leBytes 4 e.last ++
  leBytes 2 e.reads ++ leBytes 2 0
/-- The 64 entries by index; one not in use is zero. -/
def Mem.tableRecord (m : Mem) : List Byte :=
  (List.range 64).flatMap (fun i => match m.table.find i with
    | some e => e.record
    | none => List.replicate 32 0)
/-- States that may be cleared or replaced: SOFT, REPAIRED, EXHAUSTED. -/
def EccEntry.settled (e : EccEntry) : Bool := e.state == 2 || e.state == 4 || e.state == 5
def effEccLogRead (c : Cmd) (s : State) : State :=
  let s1 := s.writeBuf c (c.u 4 8) s.mem.tableRecord
  let kept := if c.u 0 1 = 1 then s.mem.table.filter (fun e => !e.2.settled) else s.mem.table
  State.ok { s1 with mem := { s1.mem with table := kept } } c s.mem.table.length
def execEccLogRead (q seq : Nat) (s : State) : Out := opOut q (s.runOp 0x0905 q seq effEccLogRead)

/-! ### ECC_TEST, ECT_GO, ECC_TEST_DONE (R516) -/

/-- FLIP holds bits 0–79 in 12 bytes; the bytes above bit 79 name no stored bit and must be zero (R654). -/
def checkEccTest (s : State) (c : Cmd) : Verdict :=
  firstOf [
    badRange ([c.outside 0 2 0 8191, (12, c.u 22 2 != 0)] ++ c.zeros [(0, 2), (4, 8), (12, 12)] []),
    verdict s.mem.ectBusy 0x0203 c.object]
/-- A test starts. -/
def State.startEct (s : State) (t : EctTest) : State := { s with mem := { s.mem with ectBusy := true, ectTest := some t } }
def effEccTest (c : Cmd) (s : State) : State :=
  if s.mem.ectBusy then s.fail c 0x0303 c.object
  else
    (s.modCmd c.q c.seq (fun c => { c with phase := .committed })).startEct
      { channel := c.idx, word := c.u 0 2, data := c.u 4 8, flips := c.u 12 10, cmd := some (c.q, c.seq) }
def execEccTest (q seq : Nat) (s : State) : Out := opOut q (s.runOp 0x0907 q seq effEccTest)

/-- A write of ECT_CTRL; GO is ignored while a test runs. The data is the pair taken when ECT_DATA_HI was written (R16). -/
def State.writeEctCtrl (s : State) (v : Nat) : State :=
  if bit v 0 ∧ !s.mem.ectBusy then
    let m := s.mem
    s.startEct {
      channel := m.ectTarget, word := m.ectOffset, data := m.ectData,
      flips := m.ectFlip2 * 2 ^ 64 + m.ectFlip1 * two32 + m.ectFlip0, cmd := none }
  else s
def execEctGo (value : Nat) (s : State) : Out := need (value < two32) (s.writeEctCtrl value)

/-- The result registers of a decoding. -/
def Mem.ectDecoded (m : Mem) (d : Decoded) : Mem :=
  { m with ectOutcome := d.kind + 1, ectW := d.w, ectPos0 := d.bits.getD 0 0, ectPos1 := d.bits.getD 1 0, ectRd := d.data,
           ectSynd := d.synd }

/-- The word has been written with its flips, read back and decoded. A channel that is retired gives OUTCOME 6; a target that is no
channel gives an open outcome. -/
def execEccTestDone (s : State) : Out :=
  need true <|
    match s.mem.ectTest with
    | none => s
    | some t =>
      let s0 := { s with mem := { s.mem with ectBusy := false, ectTest := none } }
      let s1 :=
        if isChannel t.channel then
          if (s.channel t.channel).retired then { s0 with mem := { s0.mem with
            ectOutcome := 6, ectW := false, ectPos0 := 0, ectPos1 := 0, ectRd := 0, ectSynd := 0 } }
          else
            let w := eccEncode t.data 1 ^^^ t.flips
            let s1 := s0.modChannel t.channel (fun x => { x with training := x.training.set t.word w })
            { s1 with mem := s1.mem.ectDecoded (eccDecode w) }
        else
          let (v, s1) := s0.draw
          { s1 with mem := { s1.mem with ectOutcome := v % 8 } }
      s1.completeOpt t.cmd 2 s1.ectResultReg

end Sys2Proof.Machine
end

