-- ==== Sys2Proof/Machine/MemEvents.lean ====
section
/-!
DEFINITION. Events of stacked DRAM (11): refresh and temperature, eye tracking and retraining, channel retirement and spares,
reads with their decoding, the error table, scrubbing and row repair, rate switches, open rows.
-/
set_option Elab.async false
namespace Sys2Proof.Machine

open Sys2Proof

/-! ### Refresh (R483–R488) -/

/-- A bank group's refreshes are issued and counted. -/
def State.issueRefresh (s : State) (ch group n : Nat) : State :=
  (s.modChannel ch (fun x => { x with debt := x.debt.upd 0 group (fun d => d - n) })).happen 0x0404 [channelId ch] 0 0 n

/-- The bit of MEM_REFPOST_CLAMPED of a stack, and its counter when it is set. -/
def Mem.postDecision (m : Mem) (stack : Nat) (clamped : Bool) : Mem :=
  { m with postClamped := m.postClamped.set stack clamped,
           postClamps := if clamped then satAdd 32 m.postClamps 1 else m.postClamps }

/-- A refresh of a bank group falls due: issued when the group is idle; postponed within the bound; issued instead, as a clamped
decision or, where doubled rate alone holds it, as a safety action. -/
def execRefreshDue (stack channel group : Nat) (idle : Bool) (s : State) : Out :=
  need (stack < 2 && channel < 18 && group < 4) <|
    let ch := 32 * stack + channel
    let x := s.channel ch
    if x.retired ∨ x.selfRefresh then s
    else
      let due := x.debt.get 0 group + 1
      let s1 := s.modChannel ch (fun x => { x with debt := x.debt.set group due })
      let doubled := s.mem.doubled.getD stack false
      let limit := if doubled then min s.mem.postpone 4 else s.mem.postpone
      if idle then s1.issueRefresh ch group due
      else if due ≤ limit then { s1 with mem := s1.mem.postDecision stack false }
      else
        let s2 := s1.issueRefresh ch group (due - limit)
        let safety := doubled && 4 < s.mem.postpone
        let s3 := { s2 with mem := s2.mem.postDecision stack (!safety) }
        if safety then s3.happen 0x0602 [] 0 0 1 else s3

/-- A stack enters doubled rate: each debt doubles, and is repaid down to 4 ahead of traffic (R486). -/
def State.doubleDebts (s : State) (stack : Nat) : State :=
  (stackChannels stack).foldl (fun s ch =>
    let x := s.channel ch
    if x.retired ∨ x.selfRefresh then s
    else x.debt.foldl (fun s e =>
      let s1 := s.modChannel ch (fun y => { y with debt := y.debt.set e.1 (2 * e.2) })
      s1.issueRefresh ch e.1 (2 * e.2 - 4)) s) s

/-! ### Retraining (R492, R493) -/

/-- Firmware starts an automatic retraining under its permit, or waits for one (R493, R582). -/
def State.autoRetrain (s : State) (ch : Nat) : State :=
  if !s.inService ch ∨ s.channelBusy ch then s
  else
    match s.permitRefusal [trainPermit ch 0] with
    | none =>
      (s.grant [trainPermit ch 0]).modChannel ch (fun x => { x with
        retraining := some (s.mem.rates.getD (ch / 32) 0, none), waitPermit := false })
    | some d => (s.countRefusal (d % 256)).modChannel ch (fun x => { x with waitPermit := true })

/-- The temperature of a stack's hottest die (R485, R486, R487, R492). -/
def execDramTempReading (stack : Nat) (temp : Int) (s : State) : Out :=
  need (stack < 2) <|
    let was := s.mem.doubled.getD stack false
    let t := clip temp (-32768) 32767
    let hot := decide ((s.mem.threshold : Int) * 16 ≤ t)
    let cool := decide (t ≤ ((s.mem.threshold : Int) - 3) * 16)
    let s1 := { s with mem := { s.mem with temps := s.mem.temps.set stack t } }
    let s2 :=
      if !was ∧ hot then
        (({ s1 with mem := { s1.mem with doubled := s1.mem.doubled.set stack true } }).doubleDebts stack).raise
          0x0801 deviceId stack (wrapInt 32 t)
      else if was ∧ cool then
        ({ s1 with mem := { s1.mem with doubled := s1.mem.doubled.set stack false } }).raise 0x0802 deviceId stack (wrapInt 32 t)
      else s1
    (stackChannels stack).foldl (fun s ch =>
      if 160 ≤ (t - (s.channel ch).trainedTemp).natAbs then s.autoRetrain ch else s) s2

/-- A delay moves by at most 1/64 UI towards a centre (R491). -/
def trackDelay (delay centre : Int) : Int := delay + clip (centre - delay) (-4) 4
/-- The delays and the margin of a channel after a measurement (R491). -/
def Channel.track (x : Channel) (eye : EyeScan) : Channel :=
  { x with delays := (trackDelay x.delays.1 eye.read, trackDelay x.delays.2 eye.write), margin := eye.width }
/-- The eye centres of a running channel are measured; a margin under 0.15 UI asks for retraining (R491, R492). -/
def execEyeTracking (channel : Nat) (eye : EyeScan) (s : State) : Out :=
  need (isChannel channel) <|
    if s.inService channel then
      let s1 := s.modChannel channel (fun x => x.track eye)
      if eye.width * 100 < 15 * 256 then s1.autoRetrain channel else s1
    else s

/-- A setting passes with 0.25 UI of eye width and 25 mV of eye height on every lane (R489). -/
def eyePasses (e : EyeScan) : Bool := decide (64 ≤ e.width) && decide (25 ≤ e.height)
/-- A channel takes its timing set of a rate as the active one (R489, R494, R498). -/
def Channel.loadSet (rate : Nat) (x : Channel) : Channel :=
  match x.sets.getD rate none with
  | some e => { x with margin := e.width, delays := (e.read, e.write) }
  | none => x

/-! ### Retirement of a channel (R490, R494–R496) -/

/-- The spare that takes a channel's place: the lower one of its stack that is free (log entry 51). -/
def State.spareChannel (s : State) (ch : Nat) : Option Nat :=
  ([16, 17].map (fun n => 32 * (ch / 32) + n)).find? (fun i => i != ch && !(s.channel i).retired && (s.logicalOf i).isNone)

/-- GRAPHIC_LOST: the layer shows its fallback until an upload is published, in the canopy frames in hand that read this buffer as well (04
R221). -/
def State.loseGraphic (s : State) (i g : Nat) : State :=
  let l := s.layer i
  if l.lost then s
  else
    let fall (sh : LayerShot) : LayerShot :=
      if sh.index = i ∧ sh.second = l.frontSecond ∧ sh.pair = l.pairs then { sh with fall := true } else sh
    let s1 := s.modLayer i (fun l => { l with lost := true })
    let s2 := { s1 with comp := { s1.comp with canopies := s1.comp.canopies.map (fun (k : Nat × Canopy) =>
      (k.1, { k.2 with frames := k.2.frames.map (fun (x : CanFrame) => if x.composedAll then x else { x with layers := x.layers.map fall }) })) } }
    s2.raise 0x0404 (layerId i) (g % two32) 0

/-- The front buffer of a graphic layer has bytes in a page on a logical channel (04 R221): the pair is two buffers one after the other in
the pages of its reservation. -/
def State.frontOn (s : State) (owner c : Nat) : Bool :=
  let l := s.layer (32 + owner % 16777216)
  let size := pairBytes l.active.dstW l.active.dstH l.active.gfxFormat / 2
  let first := if l.frontSecond then size else 0
  s.mem.reservations.any (fun r => r.owner = owner ∧ r.slot = 0 ∧ (r.pages.zipIdx).any (fun e =>
    (s.mem.placeOf e.1).1 = c ∧ first < (e.2 + 1) * 65536 ∧ e.2 * 65536 < first + size))

/-- Change every lamp region that a block holds: in use, in a canopy frame, in shadow, in a commit's copy, or waiting. -/
def State.modLamp (s : State) (f : Nat → LampRegion → LampRegion) : State :=
  let m (t : Tab LampRegion) : Tab LampRegion := t.map (fun e => (e.1, f e.1 e.2))
  { s with comp := { s.comp with
    lampTable := m s.comp.lampTable,
    canopies := s.comp.canopies.map (fun (k : Nat × Canopy) => (k.1, { k.2 with
      frames := k.2.frames.map (fun x => { x with lamp := m x.lamp }), staged := m k.2.staged,
      arrived := k.2.arrived.map (fun x => (x.1, m x.2)),
      copies := k.2.copies.map (fun x => (x.1, x.2.1, { x.2.2 with regions := m x.2.2.regions })) })) } }
/-- Pages of a region that stand on a logical channel are lost (R495). -/
def LampRegion.losePages (m : Mem) (c r : Nat) (t : LampRegion) : LampRegion :=
  { t with lost := (t.lost ++ (List.range 128).filter (fun p => (m.placeOf (t.page r p)).1 = c)).dedup }
/-- The two entries of word `w` of a page act as MODE 3 (04 R226). -/
def LampRegion.loseWord (page : Nat × Nat) (w r : Nat) (t : LampRegion) : LampRegion :=
  match (List.range 128).find? (fun p => t.page r p == page) with
  | some p => { t with entries := (t.entries.set (p * 16384 + 2 * w) two32).set (p * 16384 + 2 * w + 1) two32 }
  | none => t

/-- The references of a program that a lost channel holds a part of (06 R309): every one where a picture covers 32 pages, and so each
channel; else which ones is open, since the place of a picture in its pages is (log entry 170). -/
def State.loseRefsOn (s : State) (p : Nat) : State :=
  let whole := decide (32 * 65536 ≤ frameBytes (s.plan p).geom)
  ((s.prog p).refs.filter RefPic.available).foldl (fun s r =>
    let (v, t) := s.draw
    if whole then s.loseRef p r.poc r.picture 2 else if v % 2 = 1 then t.loseRef p r.poc r.picture 2 else t) s

/-- What the content of a lost logical channel was (*Content of a retired channel*): references, graphic buffers, lamp entries. -/
def State.loseContent (s : State) (c : Nat) : State :=
  let owners := ((s.mem.reservations.filter (fun r => r.mirror.isEmpty && r.pages.any (fun e => (s.mem.placeOf e).1 = c))).map
    (fun r => r.owner)).dedup
  let s1 := owners.foldl (fun s o =>
    let i := o % 16777216
    if o / 16777216 = 1 then s.loseRefsOn i
    else if o / 16777216 = 4 ∧ s.frontOn o c then
      s.loseGraphic (32 + i) (((s.layerCanopy (32 + i)).map (fun k => (s.canopy k).g)).getD 0)
    else s) s
  s1.modLamp (LampRegion.losePages s.mem c)

/-- The words of a page as a copy takes them, counted from 0: corrected, without those that cannot be read, which stay unwritten in the copy
(log entry 177), and without those that hold the fill. -/
def pageWords (fill slot : Nat) (words : Tab Nat) : Tab Nat :=
  (((words.filter (fun w => w.1 / 8192 = slot)).filter (fun w => (eccDecode w.2).kind ≠ 3)).map
    (fun w => (w.1 % 8192, (eccDecode w.2).word))).filter (fun w => w.2 ≠ eccEncode fill 0)
/-- A page takes the content of its other copy; one that has none reads as unwritten (R495, R496). -/
def State.renewPage (s : State) (page : Nat × Nat) : State :=
  s.setPage page (match (s.otherCopy page).map s.mem.placeOf with
    | some e => ((s.physical e.1).map (fun ch => pageWords s.mem.fill e.2 (s.channel ch).words)).getD []
    | none => [])

/-- Move a page of an unbacked channel to a free pool page of channels `base` … `base + count − 1`; it stays when there is none (R496). -/
def State.movePage (base count : Nat) (s : State) (page : Nat × Nat) : State :=
  let e := s.mem.placeOf page
  let n := s.placePage s.usedPages base count (e.1 % count)
  if n.2 < 16384 then { s with mem := { s.mem with moved := s.mem.moved ++ [(e, n)] } }.renewPage page else s

/-- Every page of the lamp or critical slots from `first` on (R474). -/
def fixedPages (first : Nat) : List (Nat × Nat) := (List.range 256).flatMap (fun i => (List.range 32).map (fun c => (c, first + i)))
/-- Firmware moves the pages of an unbacked channel: critical, lamp, then pool pages in the order of their reservations (R496). -/
def State.movePages (s : State) (c : Nat) : State :=
  let here (l : List (Nat × Nat)) : List (Nat × Nat) := l.filter (fun e => (s.mem.placeOf e).1 = c)
  let lamp := fixedPages 0 ++ s.comp.lampTable.flatMap (fun e => e.2.pages)
  let pool := s.mem.reservations.flatMap (fun r => r.pages ++ r.mirror)
  let s1 := (here (fixedPages 256)).foldl (State.movePage (16 * (c / 16)) 16) s
  (here (lamp ++ pool)).dedup.foldl (State.movePage 0 32) s1

/-- The permit of a mirror copy onto a spare (14 R580 code 3). -/
def copyPermit (ch : Nat) : Permit := { code := 3, amount := 60, holder := channelId ch, pos := 0 }

/-- Mirrored content is copied onto the spare in the background, under a permit that is asked for again when refused (R495, R582). -/
def State.startCopy (s : State) (ch : Nat) : State :=
  match s.permitRefusal [copyPermit ch] with
  | none => { s.grant [copyPermit ch] with mem := { s.mem with
      copying := s.mem.copying ++ [ch], copyWait := s.mem.copyWait.filter (fun x => x != ch) } }
  | some d =>
    let s1 := s.countRefusal (d % 256)
    { s1 with mem := { s1.mem with copyWait := if s.mem.copyWait.contains ch then s.mem.copyWait else s.mem.copyWait ++ [ch] } }

/-- The command that services a channel ends with FAULT_INTERNAL; a rate change is given up before its first switch (R46). -/
def State.serviceFault (s : State) (ch : Nat) : State :=
  let cmd := (s.channel ch).retraining.bind Prod.snd
  let s1 := (s.modChannel ch (fun x => { x with retraining := none, waitPermit := false })).unpermit
    (fun p => p.code = 2 && p.holder = channelId ch)
  match cmd with
  | none => s1
  | some id =>
    match s1.findCmd id.1 id.2 with
    | none => s1
    | some c => (s1.undoCmd c).fail c 0x0303 (channelId ch)

/-- A channel is retired (R494): its spare takes its logical channel, or that one is unbacked and the limits fall (R41, R496). -/
def State.retireChannel (s : State) (ch cause : Nat) : State :=
  if (s.channel ch).retired then s
  else
    let c := s.logicalOf ch
    let s1 := (s.serviceFault ch).modChannel ch (fun x => { x with
      retired := true, was := c, words := [], debt := [], openRows := [], caFails := [], ueReads := [], ceLanes := [] })
    let s2 := { s1 with
      nv := { s1.nv with retired := s1.nv.retired ++ [ch] },
      mem := { s1.mem with
        table := s1.mem.table.filter (fun e => e.2.channel != ch), copying := s1.mem.copying.filter (fun x => x != ch),
        copyWait := s1.mem.copyWait.filter (fun x => x != ch) } }
    let s3 := (s2.unpermit (fun p => p.code = 3 && p.holder = channelId ch)).raise 0x0804 (channelId ch) cause 0
    match c with
    | none => s3
    | some c =>
      match s3.spareChannel ch with
      | some sp =>
        let s4 := { s3 with mem := { s3.mem with map := s3.mem.map.set c (some sp) } }
        let s5 := (s4.modChannel sp (fun x =>
          Channel.loadSet (s.mem.rates.getD (ch / 32) 0) { x with selfRefresh := false })).raise 0x0805 (channelId ch) (channelId sp) 0
        (s5.loseContent c).startCopy sp
      | none =>
        let s4 := { s3 with mem := { s3.mem with map := s3.mem.map.set c none } }
        (s4.capacityReduced.loseContent c).movePages c

/-- A command and address parity failure; the third within 1 µs retires the channel. -/
def execCaParityError (t channel : Nat) (s : State) : Out :=
  need (isChannel channel && decide (t < two32)) <|
    let s1 := s.at32 t
    if (s1.channel channel).retired then s1
    else
      let l := ((s1.channel channel).caFails.filter (fun x => s1.now ≤ x + 1000)) ++ [s1.now]
      let s2 := s1.modChannel channel (fun x => { x with caFails := l })
      if 3 ≤ l.length then s2.retireChannel channel 1 else s2

/-- A slice of at most 2 µs runs; the last finds a setting, which passes and is swapped in where its rate is the current one, or does not
pass (R489, R492–R494). -/
def execRetrainSlice (channel : Nat) (found : Option EyeScan) (s : State) : Out :=
  need (isChannel channel) <|
    match (s.channel channel).retraining, found with
    | some (rate, cmd), some e =>
      if !eyePasses e then s.retireChannel channel 0
      else
        let s1 := (s.modChannel channel (fun x =>
          let y := { x with retraining := none, sets := x.sets.set rate (some e), trainedTemp := s.mem.temps.getD (channel / 32) 0 }
          if rate = s.mem.rates.getD (channel / 32) 0 then y.loadSet rate else y)).unpermit
            (fun p => p.code = 2 && p.holder = channelId channel)
        let s1 := s1.takePhy (channelId channel)
        match cmd.bind (fun id => s1.findCmd id.1 id.2) with
        | some c => if c.opcode = 0x0902 then s1.ok c e.width else s1
        | none => s1
    | _, _ => s

/-- A stack passes through self-refresh to its new rate: S0 first, S1 at least 1 ms later (R488, R498). -/
def execMemRateSwitch (stack : Nat) (s : State) : Out :=
  need (stack < 2) <|
    match s.mem.freq with
    | none => s
    | some f =>
      if f.stage ≠ stack ∨ allChannels.any (fun ch => ((s.channel ch).retraining.bind Prod.snd) == some f.cmd) then s
      else
        let s1 := if stack = 0 then s.modCmd f.cmd.1 f.cmd.2 (fun c => { c with phase := .committed }) else s.reach (f.since + 1000000)
        let s2 := (stackChannels stack).foldl (fun s ch =>
          let x := s.channel ch
          let s' := x.debt.foldl (fun s e => s.issueRefresh ch e.1 e.2) s
          s'.modChannel ch (fun x => Channel.loadSet f.rate { x with openRows := [] })) s1
        let s3 := { s2 with mem := { s2.mem with
          rates := s2.mem.rates.set stack f.rate,
          freq := if stack = 0 then some { f with stage := 1, since := s1.now } else none } }
        if stack = 0 then s3 else s3.completeId f.cmd 2 0

/-! ### The error table (R507–R513) -/

/-- The entry of a word: its index. -/
def Mem.entryOf (m : Mem) (ch loc : Nat) : Option Nat :=
  (m.table.find? (fun e => e.2.channel = ch && e.2.location = loc)).map Prod.fst

/-- Of the entries listed, the index with the least key. -/
def leastBy (key : EccEntry → Nat × Nat) : List (Nat × EccEntry) → Option Nat
  | [] => none
  | e :: l => match l.foldl (fun b x =>
      if (key x.2).1 < (key b.2).1 ∨ ((key x.2).1 = (key b.2).1 ∧ (key x.2).2 < (key b.2).2) then x else b) e with
    | b => some b.1

/-- Where a new entry goes: a free index, or the one that it replaces (R513). -/
def Mem.roomFor (m : Mem) : Option Nat :=
  match (List.range 64).find? (fun i => (m.table.find i).isNone) with
  | some i => some i
  | none =>
    match leastBy (fun e => (e.lastAt, 0)) (m.table.filter (fun e => e.2.settled)) with
    | some i => some i
    | none => leastBy (fun e => (e.hits, e.lastAt)) (m.table.filter (fun e => e.2.state == 0))

/-- Log an error of a word (R508, R510); the answer says whether the table holds it. -/
def State.logError (s : State) (ch ca : Nat) (d : Decoded) : Bool × State :=
  let loc := s.location ch ca
  let word := s.wordAddr ch ca
  let kind := if d.kind = 3 then 1 else 0
  let set (e : EccEntry) : EccEntry := { e with
    pos0 := d.bits.getD 0 255, pos1 := d.bits.getD 1 255, synd := d.synd, hits := satAdd 16 e.hits 1, last := s.ts, lastAt := s.now }
  match s.mem.entryOf ch loc with
  | some i => (true, s.modEntry i (fun e => set { e with kind := max e.kind kind }))
  | none =>
    match s.mem.roomFor with
    | none => (false, { s with mem := { s.mem with logFull := satAdd 32 s.mem.logFull 1 } })
    | some i =>
      let e : EccEntry := { channel := ch, location := loc, word := word, kind := kind, first := s.ts, ca := ca }
      let s1 := s.modEntry i (fun _ => set e)
      (true, s1.raise (if kind = 1 then 0x0808 else 0x0806) (channelId ch) word i)

/-- A read of a word whose entry is in WATCH (R509): any error makes it HARD_PENDING; 1,024 clean reads, or a clean read by the
patrol scrubber, make it SOFT. -/
def State.watchRead (s : State) (ch ca : Nat) (bad scrub : Bool) : State :=
  match s.mem.entryOf ch (s.location ch ca) with
  | none => s
  | some i =>
    let e := s.mem.table.get {} i
    if e.state ≠ 1 then s
    else if bad then (s.modEntry i (fun e => { e with state := 3 })).raise 0x0807 (channelId ch) e.word i
    else
      let n := e.reads + 1
      s.modEntry i (fun e => { e with reads := min n 1024, state := if 1024 ≤ n ∨ scrub then 2 else 1 })

/-- The mode of the region that holds a word (R507). -/
def State.eccModeAt (s : State) (ch ca : Nat) : Nat := s.mem.eccModes.getD (s.regionAt ch ca) 2

/-- Correctable errors by lane of words that the table does not hold: 64 on one lane in 1 s ask for retraining (R492). -/
def State.countLanes (s : State) (ch : Nat) (lanes : List Nat) : State :=
  let l := ((s.channel ch).ceLanes.filter (fun e => s.now ≤ e.1 + 1000000000)) ++ lanes.map (fun n => (s.now, n))
  let s1 := s.modChannel ch (fun x => { x with ceLanes := l })
  if lanes.any (fun n => 64 ≤ (l.filter (fun e => e.2 = n)).length) then s1.autoRetrain ch else s1

/-- A correctable read (R507, R508, R513, R514). -/
def State.correctable (s : State) (ch ca : Nat) (d : Decoded) (scrub : Bool) : State :=
  let mode := s.eccModeAt ch ca
  let s1 := ({ s with mem := { s.mem with ceCount := satAdd 32 s.mem.ceCount 1 } }).happen 0x0405 [channelId ch] 0 0 1
  let s2 := s1.watchRead ch ca true scrub
  let (held, s3) := if mode = 0 then ((s2.mem.entryOf ch (s2.location ch ca)).isSome, s2) else s2.logError ch ca d
  let back := scrub || mode == 1 || (mode == 2 && !held)
  let s4 := if back then s3.writeWord ch ca d.word else s3
  let s5 := if held then s4 else s4.countLanes ch d.bits
  match s5.mem.entryOf ch (s5.location ch ca) with
  | some i => if back ∧ mode ≠ 0 then s5.enterWatch i else s5
  | none => s5

/-- A spare still waits for mirrored content to be copied onto it (R495). -/
def State.awaitsCopy (s : State) (ch : Nat) : Bool := s.mem.copying.contains ch || s.mem.copyWait.contains ch
/-- The corrected word of a page's mirror, where the mirror holds one that can be read (R476). -/
def State.mirrorWord (s : State) (page : Nat × Nat) (off : Nat) : Option Nat :=
  ((s.mirrorOf page).map s.mem.placeOf).bind (fun e => (s.physical e.1).bind (fun ch =>
    let d := eccDecode (s.storedWord ch (e.2 * 65536 + off))
    if d.kind = 3 ∨ (s.awaitsCopy ch ∧ !d.w) then none else some d.word))

/-- The corrected word of a mirror is written back to the primary (R476). -/
def State.fromMirror (s : State) (page : Nat × Nat) (off : Nat) (copy : Option Nat) : State :=
  match copy with
  | some w => s.writeCopy page off w
  | none => s

/-- An uncorrectable read (R476, R494, R510): counted and logged, and where there is a mirror its word is written over the bad one; four from
two rows within 1 ms retire the channel. -/
def State.uncorrectable (s : State) (ch ca : Nat) (d : Decoded) (copy : Option Nat) (scrub : Bool) : State :=
  let s1 := ({ s with mem := { s.mem with ueCount := satAdd 32 s.mem.ueCount 1 } }).happen 0x0406 [channelId ch] 0 0 1
  let s2 := s1.watchRead ch ca true scrub
  let s3 := (s2.logError ch ca d).2
  let s4 := s3.fromMirror ((s.pageAt ch ca).getD (0, 0)) (ca % 65536) copy
  let (bank, row, _) := mapCa (s.orderAt ch ca) ca
  let l := ((s4.channel ch).ueReads.filter (fun e => s.now ≤ e.1 + 1000000)) ++ [(s.now, bank * 32768 + row)]
  let s5 := s4.modChannel ch (fun x => { x with ueReads := l })
  if 4 ≤ l.length ∧ 2 ≤ (l.map Prod.snd).dedup.length then s5.retireChannel ch 2 else s5

/-! ### What the reader of a bad word does (04 R210, R221, R226; 06 R309–R313; 11 R481; 12 R525) -/

/-- An unreadable word of a source frame: the frame no longer has its 8 bytes, and a live read takes the held frame for their lines
(04 R210, R215). -/
def Frame.loseWord (x : Frame) (b line n : Nat) : Frame :=
  { x with data := x.data.filter (fun e => !(b ≤ e.1 && e.1 < b + 8)), lost := (List.range n).map (fun i => line + i) ++ x.lost }
/-- A word at byte `b` of frame `id` of a flow reads back unreadable, as a compositing operation finds it: wherever the frame stands, as an
arriving, a held or a deferred one. -/
def State.loseWord (s : State) (flow id b : Nat) : State :=
  let f := s.rxFlow flow
  let line := b / max 1 f.lineBytes * f.linesPer
  let lose (x : Frame) : Frame := if x.id = id then x.loseWord b line f.linesPer else x
  let shot (sh : LayerShot) : LayerShot := if sh.index < 32 ∧ sh.cfg.source = flow then { sh with held := sh.held.map lose } else sh
  let s1 := s.modRx flow (fun f => { f with frames := f.frames.map lose, held := f.held.map lose })
  { s1 with comp := { s1.comp with canopies := s1.comp.canopies.map (fun (k : Nat × Canopy) =>
    (k.1, { k.2 with frames := k.2.frames.map (fun fr => { fr with layers := fr.layers.map shot }) })) } }

/-- An encode core reads an unreadable sample: a reference is lost, or a canopy CTU is concealed. Which sample the word holds is
open (log entry 52): a free value chooses. -/
def State.encodeBad (s : State) (k : OpKey) (unwritten : Bool) : State :=
  match s.pic k.prog k.pic with
  | none => s
  | some y =>
    let (v, s1) := s.draw
    let at_ := ctuAddr y.plan k.row ((y.plan.segs.getD k.seg (0, 0)).1 + ((s.op k).map Op.progress).getD 0)
    let s2 := s1.modPic k.prog k.pic (fun y => { y with faultRows := (k.row :: y.faultRows).dedup })
    let refs := (s.searchRefs k.prog k.row k.seg y).map SearchRef.ref
    match refs[v % (refs.length + 1)]? with
    | some r => s2.loseRef k.prog r.poc r.picture (if unwritten then 1 else 0)
    | none =>
      (s2.modPic k.prog k.pic (fun y => { y with concealed := (at_ :: y.concealed).dedup })).raise
        0x0504 (progId k.prog) y.n at_

/-- A compositing operation reads an unreadable word: of a graphic front buffer, or of a source frame. -/
def State.composeBad (s : State) (k : OpKey) (owner : Nat) : State :=
  let fr := s.frame k.prog k.pic
  let g := (fr.map CanFrame.g).getD 0
  if owner / 16777216 = 4 then s.loseGraphic (32 + owner % 16777216) g
  else if owner / 16777216 = 5 then
    let (v, s1) := s.draw
    let flow := owner % 16777216
    let f := s.rxFlow flow
    let frames := f.frames ++ f.held.toList
    let (w, s2) := s1.draw
    match frames[v % max 1 frames.length]? with
    | some x => s2.loseWord flow x.id (w % max 1 (f.lineBytes * f.height / f.linesPer) / 8 * 8)
    | none => s2
  else s

/-- A FINISH operation reads an unreadable word of the lamp table (R226). -/
def State.finishBad (s : State) (page : Nat × Nat) (off : Nat) : State := s.modLamp (LampRegion.loseWord page (off / 8))
/-- A packetizer cannot read a coded row: an internal error of its unit (12 *Chain of overlapping checks*). -/
def State.packBad (s : State) (k : OpKey) : State :=
  match (s.op k).bind Op.unit with
  | some u => (s.chainFail 7).unitFault u 0
  | none => s

/-- The consequence of an unreadable word for the operation that read it. -/
def State.readerBad (s : State) (k : OpKey) (page : Option (Nat × Nat)) (off : Nat) (unwritten : Bool) : State :=
  let s0 := if unwritten then s else s.chainFail 4
  match k.kind with
  | .compose => s0.composeBad k ((page.map s.pageOwner).getD 0)
  | .finish => s0.finishBad (page.getD (0, 0)) off
  | .encode => s0.encodeBad k unwritten
  | .pack => if unwritten then s else s.packBad k
  | .launch => s

/-- A DRAM tap absorbs a word (12 R525, R528): ALIVE advances at each 64-byte segment; an uncorrectable word ends it. -/
def State.tapWord (s : State) (u : Nat) (d : Decoded) : State :=
  let x := s.cvUnit u
  if x.tap ≠ 1 ∨ x.bad.isSome ∨ x.da + x.dramLen ≤ x.at_ then s
  else if d.kind = 3 then s.modCv u (fun x => { x with bad := some (x.at_ / 8 % two32) })
  else
    let data := if d.w then d.data else s.mem.fill
    s.modCv u (fun x => { x with
      value := crcAbsorb (crcAlgo x.algo) x.value (leBytes 8 data), length := (x.length + 8) % 2 ^ 48,
      unwritten := x.unwritten || !d.w, at_ := x.at_ + 8,
      alive := if (x.at_ + 8 - x.da) % 64 = 0 then (x.alive + 1) % 256 else x.alive })

/-- Bytes of `data` in the place of those of `base`, as the bits of `mask` choose. -/
def mergeBytes (mask base data : Nat) : Nat :=
  ((List.range 8).map (fun i => (if bit mask i then data else base) / 256 ^ i % 256 * 256 ^ i)).sum
/-- A write of less than a word (R481): its bytes `mask` of `data` merged into the word as read, or, unwritten, into the fill pattern; poisoned
after an uncorrectable read. -/
def State.mergeWrite (s : State) (ch ca : Nat) (page : Option (Nat × Nat)) (mask data : Nat) (d : Decoded) : State :=
  let v := mergeBytes mask (if d.kind = 3 ∨ d.w then d.data else s.mem.fill) data
  let w := if d.kind = 3 then eccPoison v else eccEncode v 1
  match page with
  | some e => s.writePage e (ca % 65536) w
  | none => s.writeWord ch ca w

/-- A word enters the SRAM of the unit that runs an operation, with its byte parities (12 R532). -/
def State.fillSram (s : State) (k : OpKey) (raw : Nat) (d : Decoded) : State :=
  match (s.op k).bind Op.unit with
  | some u => { s with mem := { s.mem with sram := s.mem.sram.set u (d.data, sramParity raw d.bits) } }
  | none => s

/-- A word read as unwritten is counted (R502). -/
def State.countUnwritten (s : State) (d : Decoded) : State :=
  if d.kind ≠ 3 ∧ !d.w then { s with mem := { s.mem with unwritten := satAdd 32 s.mem.unwritten 1 } } else s
/-- A word reaches the source that asked for it: an operation, a partial write (kind 6: its byte mask in PIC, its data in ROW), a DRAM tap of
unit `prog` (kind 8), or another source, which keeps nothing of it in State. -/
def State.serveWord (s : State) (ch ca : Nat) (page : Option (Nat × Nat)) (reader : OpName) (word : Nat) : State :=
  let d := eccDecode word
  let s1 := s.countUnwritten d
  if reader.kind = 8 then s1.tapWord reader.prog d
  else if reader.kind = 6 then s1.mergeWrite ch ca page reader.pic reader.row d
  else
    match opKey reader with
    | some k => if d.kind = 3 ∨ !d.w then s1.readerBad k page (ca % 65536) (d.kind != 3) else s1.fillSram k word d
    | none => s1

/-- A read in flight on a retired channel: of a mirrored page it is served from the mirror, any other ends as uncorrectable (R494; log entry
177). -/
def State.lateRead (s : State) (ch ca : Nat) (reader : OpName) : State :=
  match (s.channel ch).was with
  | none => s
  | some c =>
    let page := s.mem.homeOf (c, ca / 65536)
    let copy := s.mirrorWord page (ca % 65536)
    (s.fromMirror page (ca % 65536) copy).serveWord ch ca (some page) reader (copy.getD (eccPoison 0))

/-- A DRAM word returns: `raw` is what the lanes delivered, none the word as the state holds it. -/
def execDramReadReturn (t channel ca : Nat) (raw : Option Nat) (reader : OpName) (s : State) : Out :=
  need (isChannel channel && decide (ca < 2 ^ 30) && decide (t < two32) && decide (reader.prog < 16)) <|
    let s0 := s.at32 t
    if (s0.channel channel).retired then s0.lateRead channel ca reader
    else
      let read := raw.getD (s0.storedWord channel ca)
      let d := eccDecode read
      let page := s0.pageAt channel ca
      let copy := page.bind (fun e => s0.mirrorWord e (ca % 65536))
      let s1 := s0.touchRow channel ca
      if d.kind = 3 then (s1.uncorrectable channel ca d copy false).serveWord channel ca page reader (copy.getD read)
      else if d.kind = 0 then
        let lost := s0.awaitsCopy channel && !d.w
        let s2 := s1.watchRead channel ca false false
        if lost then (s2.fromMirror (page.getD (0, 0)) (ca % 65536) copy).serveWord channel ca page reader (copy.getD read)
        else s2.serveWord channel ca page reader read
      else (s1.correctable channel ca d false).serveWord channel ca page reader read

/-! ### Scrubbing and repair (R508, R511, R512, R514) -/

/-- Words of a channel. -/
abbrev wordsPerChannel : Nat := 134217728

/-- The channels that the patrol reads. -/
def State.patrolled (s : State) : List Nat := allChannels.filter (fun ch => !(s.channel ch).retired)

/-- The word that the patrol reads now: that of its position, or of the first channel after it that still runs. -/
def State.patrolWord (s : State) : Option (Nat × Nat) :=
  let (ch, w) := s.mem.scrubPos
  match s.patrolled.find? (fun i => ch ≤ i) with
  | some i => some (i, if i = ch then w else 0)
  | none => s.patrolled.head?.map (fun i => (i, 0))

/-- The position after a word; a new pass takes the length last set. -/
def Mem.patrolNext (m : Mem) (last ch w : Nat) : Mem :=
  if w + 1 < wordsPerChannel then { m with scrubPos := (ch, w + 1) }
  else if ch < last then { m with scrubPos := (ch + 1, 0) }
  else { m with scrubPos := (0, 0), scrubHours := m.scrubNext.getD m.scrubHours, scrubNext := none }

/-- The scrubber finds a word of a program's pictures bad or unwritten: a reference is lost with it (06 R309); which, if any, is open (log
entry 170). -/
def State.scrubRef (s : State) (page : Option (Nat × Nat)) (unwritten : Bool) : State :=
  match page.bind (fun e => s.mem.reservations.find? (fun r => r.mirror.isEmpty && r.pages.contains e)) with
  | none => s
  | some r =>
    if r.owner / 16777216 ≠ 1 then s
    else
      let p := r.owner % 16777216
      let refs := (s.prog p).refs.filter RefPic.available
      let (v, s1) := s.draw
      match refs[v % (refs.length + 1)]? with
      | some x => s1.loseRef p x.poc x.picture (if unwritten then 1 else 0)
      | none => s1

/-- The patrol scrubber reads a word, and writes a correctable one back in every mode. -/
def execScrubRead (raw : Option Nat) (s : State) : Out :=
  need true <|
    match s.patrolWord with
    | none => s
    | some (ch, w) =>
      let ca := 8 * w
      let d := eccDecode (raw.getD (s.storedWord ch ca))
      let page := s.pageAt ch ca
      let s1 := s.touchRow ch ca
      let s2 :=
        if d.kind = 3 then s1.uncorrectable ch ca d (page.bind (fun e => s.mirrorWord e (ca % 65536))) true
        else if d.kind = 0 then s1.watchRead ch ca false true
        else s1.correctable ch ca d true
      let s3 := s2.countUnwritten d
      let s4 := if d.kind = 3 ∨ !d.w then s3.scrubRef page (d.kind != 3) else s3
      { s4 with mem := s4.mem.patrolNext (s.patrolled.getLastD 0) ch w }

/-- The CA of a LOCATION among the words that a channel lists. -/
def State.wordAt (s : State) (ch loc : Nat) : Option Nat :=
  ((s.channel ch).words.find? (fun e => s.location ch (8 * e.1) = loc)).map (fun e => 8 * e.1)

/-- In KEEP_LOG the 16th hit has the corrected word written back, and the entry enters WATCH. -/
def execKeepLogWriteBack (index : Nat) (s : State) : Out :=
  need (index < 64) <|
    match s.mem.table.find index with
    | none => s
    | some e =>
      if e.kind = 0 ∧ 16 ≤ e.hits ∧ (e.state = 0 ∨ e.state = 2) then
        let s1 := match s.wordAt e.channel e.location with
          | some ca => s.writeWord e.channel ca (eccDecode (s.storedWord e.channel ca)).word
          | none => s
        s1.enterWatch index
      else s

/-- The words of a channel with those of the row of a LOCATION corrected. -/
def State.correctedRow (s : State) (ch loc : Nat) (words : Tab Nat) : Tab Nat :=
  (words.map (fun w => if bits (s.location ch (8 * w.1)) 31 13 = bits loc 31 13 then (w.1, (eccDecode w.2).word) else w)).filter
    (fun w => w.2 != eccEncode s.mem.fill 0)

/-- A HARD_PENDING row is remapped to a spare row of its bank, corrected; or the bank has none left. A channel that is retrained or
switched in rate keeps it waiting. -/
def execRowRepair (index : Nat) (s : State) : Out :=
  need (index < 64) <|
    match s.mem.table.find index with
    | none => s
    | some e =>
      if e.state ≠ 3 ∨ s.channelBusy e.channel then s
      else
        let bank := bits e.location 16 13
        let row := bits e.location 31 17
        let x := s.channel e.channel
        if 8 ≤ (x.repairs.filter (fun r => r.1 = bank)).length then
          (s.modEntry index (fun e => { e with state := 5 })).raise 0x080A (channelId e.channel) e.location index
        else
          let s1 := s.modChannel e.channel (fun x => { x with
            repairs := x.repairs ++ [(bank, row)], words := s.correctedRow e.channel e.location x.words })
          let s2 := { s1 with nv := { s1.nv with repairs := s1.nv.repairs.set e.channel (x.repairs ++ [(bank, row)]) } }
          (s2.modEntry index (fun e => { e with state := 4 })).raise 0x0809 (channelId e.channel) e.location index

/-- Pages with two copies that stand on a logical channel. -/
def State.mirroredOn (s : State) (c : Nat) : List (Nat × Nat) :=
  (fixedPages 256 ++ (s.mem.reservations.filter (fun r => !r.mirror.isEmpty)).flatMap (fun r => r.pages ++ r.mirror)).filter
    (fun e => (s.mem.placeOf e).1 = c)
/-- The background copy onto a spare ends: its mirrored pages hold what their other copies do, and its permit returns (R495). -/
def execMirrorCopyComplete (channel : Nat) (s : State) : Out :=
  need (isChannel channel) <|
    if s.mem.copying.contains channel then
      let s1 := (((s.logicalOf channel).map s.mirroredOn).getD []).foldl State.renewPage s
      ({ s1 with mem := { s1.mem with copying := s1.mem.copying.filter (fun x => x != channel) } }).unpermit
        (fun p => p.code = 3 && p.holder = channelId channel)
    else s

/-- A bank's open row has been idle for the page idle time, and closes (R482). -/
def execPageIdleExpiry (channel bank : Nat) (s : State) : Out :=
  need (isChannel channel && bank < 16) <|
    match (s.channel channel).openRows.find bank with
    | none => s
    | some (_, t) => (s.reach t).modChannel channel (fun x => { x with openRows := x.openRows.erase bank })

end Sys2Proof.Machine
end

