-- ==== Sys2Proof/Machine/CvOps.lean ====
section
/-!
DEFINITION. Check-value commands (12 R518–R530): CV_CONFIG, CV_CONTEXT, the end of a DRAM tap.
-/
set_option Elab.async false
namespace Sys2Proof.Machine

open Sys2Proof

/-- Check value of a unit's context: running value XOR final XOR (R520). -/
def CvUnit.check (x : CvUnit) : Nat := x.value ^^^ (crcAlgo x.algo).final

/-! ### CV_CONFIG (R518, R523, R526) -/

def checkCvConfig (s : State) (c : Cmd) : Verdict :=
  let tap := c.u 1 1
  let dram := [(8, 8), (16, 8)]
  let fields : List (Nat × Bool) :=
    match tap with
    | 0 => c.zeros [(1, 1)] ([(0, 1), (2, 2), (4, 4)] ++ dram)
    | 1 =>
      [(8, c.u 8 8 % 64 != 0 || decide (2 ^ 35 < c.u 8 8 + c.u 16 8)), (16, c.u 16 8 % 64 != 0)] ++
        c.zeros ([(0, 1), (1, 1)] ++ dram) [(2, 2), (4, 4)]
    | 2 => s.badObject c 4 2 :: c.zeros [(0, 1), (1, 1), (4, 4)] ((2, 2) :: dram)
    | 3 => c.outside 2 2 0 256 :: s.badObject c 4 1 :: c.zeros [(0, 1), (1, 1), (2, 2), (4, 4)] dram
    | _ => s.badObject c 4 6 :: c.zeros [(0, 1), (1, 1), (4, 4)] ((2, 2) :: dram)
  firstOf [badRange ([c.outside 0 1 0 4, c.outside 1 1 0 4] ++ fields),
    verdict ((s.cvUnit c.idx).tap != 0 && tap != 0) 0x0203 c.object]

/-- A DRAM tap ends: its CV_CONFIG completes with the low 32 bits of the check value, or with the uncorrectable word (R525). -/
def State.endDramTap (s : State) (u : Nat) : State :=
  let x := s.cvUnit u
  let s1 := s.modCv u (fun x => { x with tap := 0, cmd := none, bad := none })
  match x.bad with
  | some w => s1.failOpt x.cmd 0x0301 w
  | none => s1.completeOpt x.cmd 2 (x.check % two32)

/-- Tap NONE keeps the context as the current segment leaves it; any other tap resets it and binds the unit. A DRAM tap completes at its end; one that is stopped
ends with what it has absorbed (log entry 54). -/
def effCvConfig (c : Cmd) (s : State) : State :=
  let tap := c.u 1 1
  let x := s.cvUnit c.idx
  if tap = 0 then
    let live := s.liveContext c.idx
    (if x.tap = 1 then s.endDramTap c.idx else live.2.modCv c.idx (fun _ => { live.1 with tap := 0 })).ok c
  else if x.tap ≠ 0 then s.fail c 0x0303 c.object
  else
    let a := c.u 0 1
    let s1 := s.modCv c.idx (fun x => { x with
      algo := a, value := crcStart (crcAlgo a), length := 0, alive := 0, unwritten := false, tap := tap, stream := c.u 2 2,
      source := c.u 4 4, da := c.u 8 8, dramLen := c.u 16 8, at_ := c.u 8 8, bad := none, since := s.now,
      cmd := if tap = 1 then some (c.q, c.seq) else none })
    if tap = 1 then s1.modCmd c.q c.seq (fun d => { d with phase := .committed }) else s1.ok c
def execCvConfig (q seq : Nat) (s : State) : Out := opOut q (s.runOp 0x0A01 q seq effCvConfig)

/-- The word as its own page holds it. -/
def State.ownWordAt (s : State) (da : Nat) : Decoded :=
  eccDecode (((s.wordPlace da).map (fun e => s.storedWord e.1 e.2)).getD (eccEncode s.mem.fill 0))
/-- What a read of the word at a device address brings as memory stands, from the mirror where it is uncorrectable (11 R476); a word that no
channel lists holds the fill, W 0. -/
def State.wordAtDa (s : State) (da : Nat) : Decoded :=
  let d := s.ownWordAt da
  match s.mirrorWord (Config.pageSlot (da / 65536)) (da % 65536) with
  | some w => if d.kind = 3 then eccDecode w else d
  | none => d
/-- A DRAM tap absorbs the words of its range that no DRAM_READ_RETURN brought. -/
def State.tapRest (u : Nat) : Nat → State → State
  | 0, s => s
  | fuel + 1, s => State.tapRest u fuel (s.tapWord u (s.wordAtDa (s.cvUnit u).at_))

/-- A DRAM tap has finished its range, or met an uncorrectable word. -/
def execCvDramTapEnd (unit : Nat) (s : State) : Out :=
  need (8 ≤ unit && unit < 16) <|
    let x := s.cvUnit unit
    if x.tap ≠ 1 then s
    else (State.tapRest unit ((x.da + x.dramLen - x.at_) / 8) s).endDramTap unit

/-! ### CV_CONTEXT (R526, R527) -/

/-- *Context record*. -/
def CvUnit.record (x : CvUnit) : List Byte :=
  withCrc (leBytes 1 x.algo ++ leBytes 1 x.alive ++ leBytes 1 (b2n x.unwritten) ++ leBytes 1 0 ++ leBytes 6 x.length ++ leBytes 6 0 ++
    leBytes 8 x.value ++ leBytes 4 0)

/-- The record of a WRITE fails its CRC, has an algorithm code above 4 or a non-zero reserved byte (R527). -/
def Cmd.badCvRecord (c : Cmd) : Bool :=
  let r := c.bytes 16 32
  let f (o n : Nat) := leNat ((r.drop o).take n)
  crc32c (r.take 28) != f 28 4 || 4 < f 0 1 || 1 < f 2 1 || f 3 1 != 0 || f 10 6 != 0 || f 24 4 != 0

def checkCvContext (s : State) (c : Cmd) : Verdict :=
  let fields : List (Nat × Bool) :=
    match c.u 0 1 with
    | 0 => c.buf 4 160 ++ c.zeros [(0, 1), (4, 12)] [(16, 32)]
    | _ => (16, c.badCvRecord) :: c.zeros [(0, 1), (16, 32)] [(4, 12)]
  firstOf [badRange (c.outside 0 1 0 1 :: fields), verdict (c.u 0 1 = 1 && (s.cvUnit c.idx).tap != 0) 0x0203 c.object]

/-- READ writes the record at a segment boundary and the 16 results, newest first; WRITE loads a record. -/
def effCvContext (c : Cmd) (s : State) : State :=
  let x := s.cvUnit c.idx
  if c.u 0 1 = 0 then
    let (x, s) := s.liveContext c.idx
    let r := (x.results ++ List.replicate (16 - x.results.length) 0).take 16
    (s.writeBuf c (c.u 4 8) (x.record ++ r.flatMap (leBytes 8))).ok c 160
  else if x.tap ≠ 0 then s.fail c 0x0303 c.object
  else
    (s.modCv c.idx (fun x => { x with
      algo := c.u 16 1, alive := c.u 17 1, unwritten := bit (c.u 18 1) 0, length := c.u 20 6, value := c.u 32 8 })).ok c
def execCvContext (q seq : Nat) (s : State) : Out := opOut q (s.runOp 0x0A02 q seq effCvContext)

end Sys2Proof.Machine
end

