-- ==== Sys2Proof/Machine/EgressOps.lean ====
section
/-!
DEFINITION. Egress flows: FLOW_TX_OPEN, FLOW_TX_CLOSE, SHAPER_SET, SCHED_CLASS_SET (08 R354, R359–R378; 17 *Egress*).
-/
set_option Elab.async false
namespace Sys2Proof.Machine

open Sys2Proof

/-! ### Audio flows (13 R556, R558) -/

/-- Sampling frequency, samples of a packet, bytes of a sample, of AUDIO bits and a kind. -/
def audioHz (bits : Nat) : Nat := if bit bits 0 then 96000 else 48000
def audioSamples (bits : Nat) : Nat := if bit bits 2 then audioHz bits / 8000 else audioHz bits / 1000
def audioSampleBytes (kind bits : Nat) : Nat := if kind = 2 then 4 else if bit bits 1 then 3 else 2
/-- Packet time in ns. -/
def audioPacketTime (bits : Nat) : Nat := if bit bits 2 then 125000 else 1000000
/-- RTP payload bytes of a packet. -/
def audioPayload (kind bits channels : Nat) : Nat := audioSamples bits * channels * audioSampleBytes kind bits
/-- TB0 instant of a sample (R558). -/
def sampleInstant (k hz : Nat) : Nat := cdiv (k * 1000000000) hz
/-- Launch time of the packet whose first sample is k (R558). -/
def audioLaunch (bits k : Nat) : Nat := sampleInstant k (audioHz bits) + audioPacketTime bits + 100000

/-! ### FLOW_TX_OPEN (R354, R366, R371, R373, R375) -/

/-- Fields of a transmit leg block. -/
def txLegFields (o : Nat) : List (Nat × Nat) :=
  [(o, 1), (o + 1, 1), (o + 2, 1), (o + 3, 1), (o + 4, 6), (o + 10, 1), (o + 11, 1), (o + 12, 2), (o + 14, 1), (o + 16, 16),
   (o + 32, 16), (o + 48, 2), (o + 50, 2)]
/-- Offences in a transmit leg block. -/
def State.badTxLeg (s : State) (c : Cmd) (o : Nat) : List (Nat × Bool) :=
  let vlan := c.u (o + 10) 1
  let v4 := c.u (o + 2) 1 == 4
  [c.outside o 1 0 3, (o + 1, s.subPorts (c.u o 1) ≤ c.u (o + 1) 1), (o + 2, c.u (o + 2) 1 != 4 && c.u (o + 2) 1 != 6),
   c.outside (o + 3) 1 0 63, c.outside (o + 10) 1 0 1, (o + 11, 7 < c.u (o + 11) 1 || (vlan == 0 && c.u (o + 11) 1 != 0)),
   (o + 12, if vlan = 0 then c.u (o + 12) 2 != 0 else c.u (o + 12) 2 < 1 || 4094 < c.u (o + 12) 2), c.outside (o + 14) 1 1 255,
   (o + 16, v4 && c.u (o + 20) 12 != 0), (o + 32, v4 && c.u (o + 36) 12 != 0), c.outside (o + 48) 2 1 65535,
   c.outside (o + 50) 2 1 65535]

/-- Range offences of FLOW_TX_OPEN. -/
def State.badTxParams (s : State) (c : Cmd) : List (Nat × Bool) :=
  let kind := c.u 0 1
  let two := c.u 2 1 == 2
  let cod := [(4, 4), (8, 2)]
  let aud := [(13, 1), (14, 1)]
  let base := [(0, 1), (1, 1), (2, 1), (3, 1), (10, 2), (12, 1), (16, 4), (20, 2)] ++ txLegFields 24
  let used := base ++ (if kind = 0 then cod else aud) ++ (if two then txLegFields 88 else [])
  let unused := (if kind = 0 then aud else cod) ++ (if two then [] else txLegFields 88)
  [c.outside 0 1 0 2, c.outside 1 1 0 1, c.outside 2 1 1 2,
   (3, 1 < c.u 3 1 || (c.u 3 1 == 1 && (c.u 26 1 != 4 || (two && c.u 90 1 != 4)))), c.outside 10 2 256 8948, c.outside 12 1 96 127] ++
  (if kind = 0 then [s.badObject c 4 1, c.outside 8 2 0 256]
   else [c.outside 13 1 (if kind = 2 then 2 else 1) (if kind = 2 then 16 else 64), c.outside 14 1 0 7]) ++
  s.badTxLeg c 24 ++ (if two then (24, c.u 88 2 == c.u 24 2) :: s.badTxLeg c 88 else []) ++ c.zeros used unused

/-- A leg's wire overhead H (R371). -/
def Cmd.legHeader (c : Cmd) (o : Nat) : Nat := (if c.u (o + 2) 1 = 4 then 58 else 78) + (if c.u (o + 10) 1 = 1 then 4 else 0)

/-- Rb of a flow: its stream's rate, the program's when the stream has no rectangle yet, or an audio stream's payload rate. -/
def State.flowRate (s : State) (kind p n bits channels : Nat) : Nat :=
  if kind = 0 then
    let pl := if (s.prog p).running then (s.prog p).plan else s.startPlan p
    match pl.stream n with
    | some x => if n = 0 ∨ pl.geom.width * pl.geom.height = 0 then pl.rate.bitRate else pl.rb x
    | none => pl.rate.bitRate
  else audioPayload kind bits channels * 8 * (1000000000 / audioPacketTime bits)
/-- p of a flow: fixed for a running program (R354), the flow's own maximum else, an audio packet's payload. -/
def State.flowPayload (s : State) (kind p n bits channels own : Nat) : Nat :=
  if kind = 0 then (if s.progActive p then (s.prog p).payload.get 1448 n else own) else audioPayload kind bits channels
/-- The bound of R371. -/
def rateBound (rb p h o : Nat) : Nat := if p = 0 then 0 else cdiv (rb * (p + h + o)) p

/-- Shaper values that FLOW_TX_OPEN sets (R375): committed and peak rate, committed and peak depth in bytes. The frame period is a fraction of
ns. -/
def openShaper (rb p h : Nat) (period : Nat × Nat) : Nat × Nat × Nat × Nat :=
  let rc := cdiv (rateBound rb p h 20 * 5) 4000 * 1000
  let rp := min (2 * rc) 32000000000
  let dp := 4 * (p + h + 20)
  (rc, rp, max (cdiv (rc * period.1) (8000000000 * period.2)) dp, dp)

/-- The values of R375 for the leg at an offset of the command. -/
def State.cmdShaper (s : State) (c : Cmd) (o : Nat) : Nat × Nat × Nat × Nat :=
  let kind := c.u 0 1
  let p := c.u 4 4 % 16777216
  let rate := (s.canopy p).comingGeom.rate
  let period := if kind = 0 then (1000000000 * rateDen rate, rateNum rate) else (audioPacketTime (c.u 14 1), 1)
  openShaper (s.flowRate kind p (c.u 8 2) (c.u 14 1) (c.u 13 1))
    (s.flowPayload kind p (c.u 8 2) (c.u 14 1) (c.u 13 1) (c.u 10 2)) (c.legHeader o) period

/-- Resource 5 with the peak rate of each leg, and one egress context of resource 6 (R35, R366). -/
def State.txCharges (s : State) (c : Cmd) : List Charge :=
  let legs := if c.u 2 1 = 2 then [24, 88] else [24]
  [{ owner := c.object, res := 5, amount := (legs.map (fun o => (s.cmdShaper c o).2.1)).sum, pos := c.pos },
   { owner := c.object, res := 7, amount := 1, pos := c.pos }]

def checkFlowTxOpen (s : State) (c : Cmd) : Verdict :=
  let p := c.u 4 4 % 16777216
  firstOf [badRange (s.badTxParams c), badState (s.txFlow c.idx).isOpen c.object,
    badState (c.u 0 1 = 0 && s.progActive p && c.u 10 2 < (s.prog p).payload.get 1448 (c.u 8 2)) (progId p),
    s.badCapacity (fun _ => false) (s.txCharges c)]
def acceptFlowTxOpen (c : Cmd) (s : State) : State := s.charge (s.txCharges c)

/-- A transmit leg with full buckets (R373, R375). -/
def State.newLeg (s : State) (c : Cmd) (o : Nat) : TxLeg :=
  let v := s.cmdShaper c o
  { port := c.u o 1, sub := c.u (o + 1) 1, ipVer := c.u (o + 2) 1, dscp := c.u (o + 3) 1, dstMac := c.bytes (o + 4) 6,
    vlan := c.u (o + 10) 1 = 1, pcp := c.u (o + 11) 1, vid := c.u (o + 12) 2, ttl := c.u (o + 14) 1, srcAddr := c.bytes (o + 16) 16,
    dstAddr := c.bytes (o + 32) 16, srcPort := c.u (o + 48) 2, dstPort := c.u (o + 50) 2,
    c := { rate := v.1, depth := 8 * v.2.2.1, credit := 8192 * v.2.2.1, rem := 0 },
    p := { rate := v.2.1, depth := 8 * v.2.2.2, credit := 8192 * v.2.2.2, rem := 0 }, overhead := 20, tLast := s.now }

def effFlowTxOpen (c : Cmd) (s : State) : State :=
  let f : TxFlow := {
    isOpen := true, kind := c.u 0 1, cls := c.u 1 1, checksum := c.u 3 1, prog := c.u 4 4 % 16777216, stream := c.u 8 2,
    maxPayload := c.u 10 2, pt := c.u 12 1, channels := c.u 13 1, audio := c.u 14 1, ssrc := c.u 16 4, seq0 := c.u 20 2,
    legs := if c.u 2 1 = 2 then [s.newLeg c 24, s.newLeg c 88] else [s.newLeg c 24], openedAt := s.now }
  let s1 := { s with audio := { s.audio with txK :=
    if f.kind = 0 then s.audio.txK else s.audio.txK.set c.idx (cdiv (s.now * audioHz f.audio) 1000000000) } }
  ((s1.modTx c.idx (fun _ => f)).settleCharges c.pos).ok c
def execFlowTxOpen (q seq : Nat) (s : State) : Out := opOut q (s.runOp 0x0601 q seq effFlowTxOpen)

/-! ### FLOW_TX_CLOSE (R368) -/

def checkFlowTxClose (s : State) (c : Cmd) : Verdict := badState (!(s.txFlow c.idx).isOpen || (s.txFlow c.idx).closing.isSome) c.object
def effFlowTxClose (c : Cmd) (s : State) : State :=
  if !(s.txFlow c.idx).isOpen then s.ok c
  else
    let s1 := s.modCmd c.q c.seq (fun d => { d with phase := .committed })
    (s1.modTx c.idx (fun f => { f with closing := some (c.q, c.seq, s.now) })).closeDone c.idx
def execFlowTxClose (q seq : Nat) (s : State) : Out := opOut q (s.runOp 0x0602 q seq effFlowTxClose)

/-! ### SHAPER_SET (R371, R376, R377) -/

/-- The egress charges of a flow once a SHAPER_SET is accepted (R37). -/
def State.shaperCharge (s : State) (c : Cmd) : List Charge := s.peakCharges c.idx (s.waitingFor 0x0603 c.object ++ [c])
def checkShaperSet (s : State) (c : Cmd) : Verdict :=
  let f := s.txFlow c.idx
  let l := (f.legs[c.u 0 1]?).getD {}
  let p := s.flowPayload f.kind f.prog f.stream f.audio f.channels f.maxPayload
  let lmax := p + l.headerLen + c.u 28 1
  let rate (o : Nat) : Bool := c.u o 8 < 1000000 || 32000000000 < c.u o 8
  let bound := rateBound (s.flowRate f.kind f.prog f.stream f.audio f.channels) p l.headerLen (c.u 28 1)
  let be := f.cls == 1
  firstOf [badRange ([c.outside 0 1 0 (max 1 f.legs.length - 1),
      (4, if be then c.u 4 8 != 0 else rate 4 || decide (c.u 4 8 < bound) || decide (c.u 12 8 < c.u 4 8)), (12, rate 12),
      (20, c.u 20 4 < lmax || 268435455 < c.u 20 4 || c.u 20 4 < c.u 24 4), (24, c.u 24 4 < lmax || 268435455 < c.u 24 4)] ++
      c.zeros [(0, 1), (4, 8), (12, 8), (20, 4), (24, 4), (28, 1)] []),
    badState (!f.isOpen) c.object,
    s.badCapacity (fun k => k.owner = c.object && k.res = 5) (s.shaperCharge c)]
def acceptShaperSet (c : Cmd) (s : State) : State := s.rechargeObject c.object 5 (s.shaperCharge c)
def effShaperSet (c : Cmd) (s : State) : State :=
  let n : BucketSet := { cRate := c.u 4 8, pRate := c.u 12 8, cDepth := 8 * c.u 20 4, pDepth := 8 * c.u 24 4, overhead := c.u 28 1 }
  let s1 := (s.modTx c.idx (fun f => { f with legs := f.legs.modify (c.u 0 1) (fun l => { l with newSet := some n }) })).ok c
  s1.rechargeObject c.object 5 (s1.peakCharges c.idx (s1.waitingFor 0x0603 c.object))
def execShaperSet (q seq : Nat) (s : State) : Out := opOut q (s.runOp 0x0603 q seq effShaperSet)

/-! ### SCHED_CLASS_SET (R378) -/

def checkSchedClassSet (s : State) (c : Cmd) : Verdict :=
  if c.cls = 6 then
    firstOf [badRange (c.outside 0 1 1 7 :: c.zeros [(0, 1)] [(1, 1), (2, 1), (4, 7)]),
      badState (!(s.txFlow c.idx).isOpen || (s.txFlow c.idx).cls = 0) c.object]
  else
    badRange ([c.outside 1 1 0 3, (2, decide (s.subPorts (c.u 1 1) ≤ c.u 2 1))] ++
      (List.range 7).map (fun i => (4 + i, c.u (4 + i) 1 == 0)) ++ c.zeros [(1, 1), (2, 1), (4, 7)] [(0, 1)])
def effSchedClassSet (c : Cmd) (s : State) : State :=
  if c.cls = 6 then (s.modTx c.idx (fun f => { f with beQueue := c.u 0 1 })).ok c
  else
    (s.modSub (c.u 1 1) (c.u 2 1) (fun x => { x with
      weights := (List.range 7).foldl (fun w i => Tab.set w (i + 1) (c.u (4 + i) 1)) x.weights })).ok c
def execSchedClassSet (q seq : Nat) (s : State) : Out := opOut q (s.runOp 0x0604 q seq effSchedClassSet)

end Sys2Proof.Machine
end

