-- ==== Sys2Proof/Machine/AudioOps.lean ====
section
/-!
DEFINITION. Audio ports, clock and routes (13): AUDIO_PORT_CONFIG, AUDIO_ROUTE, AUDIO_STATUS; muting and ramps of destination
channels; the channel status that outputs send.
-/
set_option Elab.async false
namespace Sys2Proof.Machine

open Sys2Proof

/-! ### Ports and destinations (R537, R560) -/

def isAesIn (i : Nat) : Bool := i < 8

/-- Key of a destination channel: object × 64 + channel. -/
def routeKey (object ch : Nat) : Nat := object * 64 + ch
def routeObject (key : Nat) : Nat := key / 64
def routeChannel (key : Nat) : Nat := key % 64

/-- A port is enabled. -/
def State.portEnabled (s : State) (i : Nat) : Bool := if isAesIn i then (s.audioIn i).enabled else (s.audioPort i).enabled
/-- A port's rate: 0 48 kHz, 1 96 kHz. -/
def State.portRate (s : State) (i : Nat) : Nat := if isAesIn i then (s.audioIn i).rate else (s.audioPort i).rate

/-- Routes that take a channel from an input. -/
def State.routesFrom (s : State) (input : Nat) : List (Nat × Route) :=
  s.audio.routes.filter (fun e => match e.2.src with
    | .input n _ => n == input
    | _ => false)
/-- Routes of an object. -/
def State.routesTo (s : State) (object : Nat) : List (Nat × Route) := s.audio.routes.filter (fun e => routeObject e.1 = object)

/-- The source is an AES3 input, or a channel of an AM824 flow, in data mode (R549, R556). -/
def State.dataSrc (s : State) : AudioSrc → Bool
  | .input n _ => (s.audioIn n).data
  | .flow f ch => (s.rxFlow f).dataOn.contains ch
  | _ => false
/-- The other channel of a source's pair, with the channel itself. -/
def AudioSrc.mate : AudioSrc → Option (Nat × AudioSrc)
  | .input n ch => some (ch, .input n (1 - ch))
  | .flow f ch => some (ch, .flow f (if ch % 2 = 0 then ch + 1 else ch - 1))
  | _ => none
/-- Key of the other channel of a destination's pair. -/
def routeMate (key : Nat) : Nat := if key % 2 = 0 then key + 1 else key - 1

/-- A data-mode source may feed only a whole AES3 output pair or a channel pair of an ST 2110-31 flow (R562). -/
def State.dataPlaceOk (s : State) (key : Nat) (src : AudioSrc) : Bool :=
  match src.mate with
  | some (ch, other) =>
    let o := routeObject key
    let paired := ch % 2 == key % 2 && (s.route (routeMate key)).src == other
    paired && (o / 16777216 == 11 || (o / 16777216 == 6 && (s.txFlow (o % 16777216)).kind == 2))
  | none => true

/-- The source delivers samples for its routes: an enabled stable input of the carried rate, a PDM pair past its warm-up, a flow. -/
def State.srcUsable (s : State) : AudioSrc → Bool
  | .silence => false
  | .input n _ => (s.audioIn n).state == 3
  | .mic p _ => (s.audioPort p).state == 2
  | .flow _ _ => true

/-- The destination sends: an output past its lead-in, or a flow. -/
def State.dstRuns (s : State) (key : Nat) : Bool :=
  routeObject key / 16777216 != 11 || (s.audioPort (routeObject key % 16777216)).state == 2

/-! ### Muting and ramps (R549, R561, R562, R565) -/

/-- A destination channel mutes with a cause: by a ramp of 64 samples while its source delivers samples, at once otherwise and in
data mode. -/
def State.muteRoute (s : State) (key cause : Nat) (delivers : Bool) : State :=
  let r := s.route key
  if r.ramp = 3 then s.modRoute key (fun r => { r with cause := cause })
  else if delivers ∧ !s.dataSrc r.src then s.modRoute key (fun r => { r with ramp := 2, cause := cause, j := 0 })
  else s.modRoute key (fun r => { r with ramp := 3, cause := cause, sample := 0, j := 0 })

/-- Why a source delivers nothing: 1 loss, 2 rate (log entry 71). -/
def State.srcCause (s : State) : AudioSrc → Nat
  | .silence => 0
  | .input n _ =>
    let x := s.audioIn n
    if x.state = 4 ∨ (x.state = 2 ∧ x.finding.any (fun f => f.1 == 2)) then 2 else 1
  | _ => 1
/-- A destination channel takes its source up: by a ramp, or at once in data mode; a data source in the wrong place stays muted with
cause DATA; a source that delivers nothing leaves it muted, with its cause. -/
def State.raiseRoute (s : State) (key : Nat) : State :=
  let r := s.route key
  if !s.srcUsable r.src then
    if r.ramp = 3 ∧ r.cause = 0 then s.modRoute key (fun r => { r with cause := s.srcCause r.src }) else s
  else if !s.dstRuns key then s
  else if s.dataSrc r.src then
    if s.dataPlaceOk key r.src then s.modRoute key (fun r => { r with ramp := 0, cause := 0 })
    else s.modRoute key (fun r => { r with ramp := 3, cause := 3, sample := 0 })
  else if r.ramp = 3 then s.modRoute key (fun r => { r with ramp := 1, cause := 0, j := 0 })
  else s

/-- The route of a data-mode source is judged anew: its ramps end at once, and it plays or is muted with cause DATA (R549, R562). -/
def State.judgeData (s : State) (key : Nat) : State :=
  let r := s.route key
  if !s.dataSrc r.src then s
  else
    let s1 := s.modRoute key (fun r => { r with src := r.next.getD r.src, next := none })
    let src := (s1.route key).src
    if s1.dataSrc src ∧ s1.dataPlaceOk key src ∧ s1.srcUsable src ∧ s1.dstRuns key then
      s1.modRoute key (fun r => { r with ramp := 0, cause := 0, j := 0 })
    else
      let cause := if s1.dataSrc src && !s1.dataPlaceOk key src then 3 else if s1.srcUsable src then 0 else s1.srcCause src
      let s2 := s1.modRoute key (fun r => { r with ramp := 3, cause := cause, sample := 0, j := 0 })
      if s1.dataSrc src then s2 else s2.raiseRoute key
/-- A route, and the other channel of its pair, whose place it may decide. -/
def State.judgePair (s : State) (key : Nat) : State := (s.judgeData key).judgeData (routeMate key)
/-- The routes of one source, after its data mode began or ended. -/
def State.judgeRoutes (s : State) (l : List (Nat × Route)) : State :=
  l.foldl (fun s e => if s.dataSrc e.2.src then s.judgeData e.1 else if e.2.cause = 3 then s.raiseRoute e.1 else s) s

/-- A sample goes out on a route, and into its elastic buffer of 64 sample frames, which drops the oldest (R543). -/
def Route.put (r : Route) (x : Int) (tag j : Nat) : Route :=
  { r with sample := x, tag := tag, j := j, fifo := (r.fifo ++ [(x, tag)]).drop (r.fifo.length + 1 - 64) }
/-- A sample of a route's source arrives: the output sample under the ramp gain (R551, R565). -/
def Route.take (r : Route) (x : Int) (tag : Nat) : Route :=
  let j := min 64 (r.j + 1)
  match r.ramp with
  | 0 => r.put x tag r.j
  | 1 => r.put ((x * j + 32) / 64) tag j
  | 2 => r.put ((x * (64 - (j : Int)) + 32) / 64) tag j
  | _ => r.put 0 0 r.j
/-- The next sample frame that the destination's clock draws from the elastic buffer; the last one again when it is empty (R543). -/
def Route.draw (r : Route) : (Int × Nat) × Route :=
  match r.fifo with
  | [] => ((r.sample, r.tag), r)
  | x :: l => (x, { r with fifo := l })
/-- A slip repeats or drops the next sample frame (R543). -/
def Route.slip (r : Route) (repeats : Bool) : Route :=
  match r.fifo with
  | [] => r
  | x :: l => { r with fifo := if repeats then x :: x :: l else l }
/-- The routes that cross at an object: those that it feeds, and those of its own channels. -/
def State.slipRoutes (s : State) (object : Nat) (repeats : Bool) : State :=
  let i := object % 16777216
  let from_ (src : AudioSrc) : Bool := match src with
    | .input n _ => object / 16777216 == 11 && n == i
    | .flow f _ => object / 16777216 == 5 && f == i
    | _ => false
  { s with audio := { s.audio with routes := s.audio.routes.map (fun (e : Nat × Route) =>
      (e.1, if from_ e.2.src || routeObject e.1 == object then e.2.slip repeats else e.2)) } }

/-- A sample of a source, with its bits, goes to every route that takes it. -/
def State.feed (s : State) (src : AudioSrc) (x : Int) (tag : Nat) : State :=
  { s with audio := { s.audio with routes := s.audio.routes.map (fun (e : Nat × Route) =>
      (e.1, if e.2.src = src then e.2.take x tag else e.2)) } }

/-! ### Status -/

/-- Hz of a rate class (*AUD_IN_STATUS_n*). -/
def classHz : Nat → Nat
  | 1 => 32000 | 2 => 44100 | 3 => 48000 | 4 => 88200 | 5 => 96000 | 6 => 176400 | 7 => 192000 | _ => 0
/-- Class of a measured rate: the nearest standard rate when it lies within ±1,000 ppm (R563). -/
def classOf (hz : Nat) : Nat :=
  if hz = 0 then 0
  else ((List.range 7).map (fun i => i + 1)).find? (fun k =>
    ((hz : Int) - classHz k).natAbs * 1000000 ≤ 1000 * classHz k) |>.getD 15
/-- The class of a carried rate code. -/
def carriedClass (rate : Nat) : Nat := if rate = 0 then 3 else 5

/-- AUD_IN_STATUS_n. -/
def AudioIn.statusReg (x : AudioIn) : Nat :=
  x.state % 8 * 2 ^ 29 + x.cls % 16 * 2 ^ 25 + b2n x.data * 2 ^ 24 + x.measHz % 2 ^ 18
/-- AUD_IN_ERR_n. -/
def AudioIn.errReg (x : AudioIn) : Nat := x.subErr % 65536 * 65536 + x.csErr % 65536
/-- STATE of AUD_OUT_STATUS_m: starting and stopping stand in the port, ramping and muted follow from its two routes. -/
def State.outState (s : State) (i : Nat) : Nat :=
  let p := (s.audioPort i).state
  if p ≠ 2 then p
  else
    let l := [s.route (routeKey (audioId i) 0), s.route (routeKey (audioId i) 1)]
    if l.any (fun r => r.ramp == 1 || r.ramp == 2) then 3 else if l.all (fun r => r.ramp == 3) then 4 else 2
/-- AUD_OUT_STATUS_m. -/
def State.outStatusReg (s : State) (m : Nat) : Nat :=
  let i := 8 + m
  let c0 := (s.route (routeKey (audioId i) 0)).cause
  let c1 := (s.route (routeKey (audioId i) 1)).cause
  let p := s.audioPort i
  (if c0 = 0 then c1 else c0) % 8 * 256 + (if p.enabled then carriedClass p.rate else 0) * 16 + s.outState i
/-- AUD_CLK_STATUS. -/
def State.clkStatusAudio (s : State) : Nat :=
  b2n s.audio.async * 2048 + s.audio.clkState % 4 * 256 + s.audio.ref % 16 * 16 + s.audio.mclkMeas % 4

/-- The 24 channel-status bytes that an output sends on a channel (R550); the AES3 coding of GENERATE is PRESUMED (log entry 55). -/
def State.sentStatus (s : State) (i ch : Nat) : List Byte :=
  let p := s.audioPort i
  let first : List Byte :=
    if p.csMode = 2 then p.csBytes
    else if p.csMode = 1 then
      match (s.route (routeKey (audioId i) ch)).src with
      | .input n c => (((s.audioIn n).cs)[c]?.getD []).take 23
      | _ => List.replicate 23 0
    else
      let b0 : Nat := if p.rate = 0 then 0x81 else 0x01
      let b4 : Nat := if p.rate = 0 then 0 else 0x50
      [BitVec.ofNat 8 b0, 0, BitVec.ofNat 8 0x2C, 0, BitVec.ofNat 8 b4] ++ List.replicate 18 0
  first ++ [BitVec.ofNat 8 (crcOf 3 first)]
/-- The user bits that an output sends on a channel (R548, R550). -/
def State.sentUser (s : State) (i ch : Nat) : List Byte :=
  match (s.audioPort i).csMode, (s.route (routeKey (audioId i) ch)).src with
  | 1, .input n c => ((s.audioIn n).user)[c]?.getD []
  | _, _ => []

/-- The validity bit of an output's subframe: 0 with a routed sample, ramps included, 1 with a zero of a mute, a start or a stop (R551). -/
def State.sentValidity (s : State) (i ch : Nat) : Bool :=
  (s.audioPort i).state == 1 || (s.route (routeKey (audioId i) ch)).ramp == 3
/-- What an output sends on a channel at present: sample and validity bit; a disabled output is held low and sends nothing (R551,
R552). -/
def State.sentSubframe (s : State) (i ch : Nat) : Option (Int × Bool) :=
  if (s.audioPort i).state = 0 then none
  else
    let v := s.sentValidity i ch
    some (if v then 0 else (s.route (routeKey (audioId i) ch)).sample, v)

/-- Cycles of the audio clock of 24.576 MHz that a sample period of a rate code takes (R540). -/
def portCycles (rate : Nat) : Nat := 512 / 2 ^ rate
/-- Time of a number of sample periods of a port on TB0, rounded up. -/
def portTime (rate n : Nat) : Nat := cdiv (n * portCycles rate * 1000000000) 24576000

/-! ### AUDIO_PORT_CONFIG (R538, R539, R552–R555) -/

/-- The PDM pair that shares a clock with one (R553). -/
def pdmMate (i : Nat) : Nat := if i % 2 = 0 then i + 1 else i - 1

/-- The PDM pair on the same clock runs at another rate (R553). -/
def State.pdmMismatch (s : State) (c : Cmd) : Bool :=
  let mate := s.audioPort (pdmMate c.idx)
  isPdm c.idx && c.u 0 1 == 1 && mate.enabled && mate.rate != c.u 1 1
/-- The rate of an enabled port cannot change (R538). -/
def State.rateHeld (s : State) (c : Cmd) : Bool := s.portEnabled c.idx && s.portRate c.idx != c.u 1 1
/-- A reference that is an AES3 input must be enabled (R539). -/
def State.refAbsent (s : State) (c : Cmd) : Bool := 2 ≤ c.u 0 1 && !(s.audioIn (c.u 0 1 - 2)).enabled
def checkAudioPortConfig (s : State) (c : Cmd) : Verdict :=
  if c.cls = 13 then
    let ref := c.u 0 1
    firstOf [badRange ([c.outside 0 1 0 9, c.outside 1 1 0 1, c.outside 2 1 0 1] ++ c.zeros [(0, 3)] []),
      badState (s.refAbsent c) (audioId (ref - 2))]
  else
    let i := c.idx
    let out := isAesOut i
    let used := [(0, 1), (1, 1)] ++ (if out then [(2, 1)] else []) ++ (if isPdm i then [(3, 1)] else []) ++
      (if out && c.u 2 1 == 2 then [(4, 23)] else [])
    let unused := (if out then [] else [(2, 1)]) ++ (if isPdm i then [] else [(3, 1)]) ++ (if out && c.u 2 1 == 2 then [] else [(4, 23)])
    firstOf [
      badRange ([c.outside 0 1 0 1, (1, 1 < c.u 1 1 || s.pdmMismatch c), c.outside 2 1 0 2, c.outside 3 1 0 1] ++ c.zeros used unused),
      badState (s.rateHeld c) c.object]

/-- The instant at which the measurement window now open ends (R563). -/
def windowEnd (now : Nat) : Nat := (now / 10000000 + 1) * 10000000

/-- An input is enabled or disabled; disabling the reference, or an input in use, is its loss. -/
def State.configInput (s : State) (i : Nat) (on : Bool) (rate : Nat) : State :=
  let x := s.audioIn i
  if on ∧ !x.enabled then
    s.modIn i (fun _ => { enabled := true, rate := rate, state := 2, winEnd := windowEnd s.now })
  else if !on ∧ x.enabled then
    let s1 := (s.routesFrom i).foldl (fun s e => s.muteRoute e.1 1 false) s
    let s2 := s1.modIn i (fun _ => { rate := rate })
    if s.audio.ref = 2 + i then { s2 with audio := { s2.audio with clkState := 1 } } else s2
  else s.modIn i (fun y => { y with rate := rate })

/-- An output or PDM pair takes its settings; an output that starts or stops, completes with its ramp; others complete at once
(R552, R555). -/
def State.configPort (s : State) (c : Cmd) : State :=
  let i := c.idx
  let x := s.audioPort i
  let on := c.u 0 1 == 1
  let s1 := s.modPort i (fun p => { p with
    rate := c.u 1 1, csMode := c.u 2 1, csBytes := c.bytes 4 23, highpass := c.u 3 1 == 1, enabled := on })
  let wait (s : State) (st : Nat) : State :=
    (s.modCmd c.q c.seq (fun d => { d with phase := .committed })).modPort i (fun p => { p with
      state := st, since := s.now, cmd := some (c.q, c.seq) })
  if on ∧ !x.enabled then
    if isAesOut i then wait s1 1 else (s1.modPort i (fun p => { p with state := 1, since := s.now })).ok c
  else if !on ∧ x.enabled then
    if isAesOut i then wait ((s1.routesTo (audioId i)).foldl (fun s e => s.muteRoute e.1 0 true) s1) 5
    else
      let froms := s1.audio.routes.filter (fun e => match e.2.src with
        | .mic p _ => p == i
        | _ => false)
      ((froms.foldl (fun s e => s.muteRoute e.1 1 false) s1).modPort i (fun p => { p with state := 0 })).ok c
  else s1.ok c

def effAudioPortConfig (c : Cmd) (s : State) : State :=
  s.unlessNow c (if c.cls = 13 then s.refAbsent c else s.rateHeld c || s.pdmMismatch c) <|
  if c.cls = 13 then
    let ref := c.u 0 1
    let locked := ref = 0 ∨ (2 ≤ ref ∧ (s.audioIn (ref - 2)).state = 3) ∨ (ref = 1 ∧ 10 ≤ (s.audioIn 8).clean ∧ (s.audioIn 8).cls = carriedClass (c.u 1 1))
    let a := { s.audio with
      ref := ref, mclkIn := c.u 1 1, mclkOut := c.u 2 1,
      clkState := if ref = s.audio.ref then s.audio.clkState else if locked then 2 else 0 }
    let s1 := { s with audio := a }
    (if ref = 1 ∧ !(s.audioIn 8).enabled then s1.modIn 8 (fun x => { x with enabled := true, winEnd := windowEnd s.now }) else s1).ok c
  else if isAesIn c.idx then (s.configInput c.idx (c.u 0 1 == 1) (c.u 1 1)).ok c
  else s.configPort c
def execAudioPortConfig (q seq : Nat) (s : State) : Out := opOut q (s.runOp 0x0B01 q seq effAudioPortConfig)

/-! ### AUDIO_ROUTE (R560–R562) -/

/-- The source that a command names. -/
def Cmd.audioSrc (c : Cmd) : AudioSrc :=
  let o := c.u 4 4
  let i := o % 16777216
  if o = 0 then .silence
  else if o / 16777216 = 5 then .flow i (c.u 1 1)
  else if isPdm i then .mic i (c.u 1 1)
  else .input i (c.u 1 1)

/-- Rate code of a source; none for silence or a flow that is not open. -/
def State.srcRate (s : State) : AudioSrc → Option Nat
  | .silence => none
  | .input n _ => some (s.audioIn n).rate
  | .mic p _ => some (s.audioPort p).rate
  | .flow f _ => if (s.rxFlow f).isOpen then some (b2n (bit (s.rxFlow f).audio 0)) else none
/-- Rate code of a destination. -/
def State.dstRate (s : State) (object : Nat) : Option Nat :=
  let i := object % 16777216
  if object / 16777216 = 11 then some (s.audioPort i).rate
  else if (s.txFlow i).isOpen then some (b2n (bit (s.txFlow i).audio 0)) else none

def checkAudioRoute (s : State) (c : Cmd) : Verdict :=
  let o := c.u 4 4
  let i := o % 16777216
  let flow := s.rxFlow i
  let isFlow := o / 16777216 == 5 && i < 256
  let isPort := o / 16777216 == 11 && (isAesIn i || isPdm i)
  let top := if o = 0 then 0 else if isFlow then (if flow.isOpen && 2 ≤ flow.kind then flow.channels - 1 else 63) else 1
  let dst := if c.cls = 11 then 1 else 63
  let mismatch := match s.srcRate c.audioSrc, s.dstRate c.object with
    | some a, some b => a != b
    | _, _ => false
  badRange ([(0, decide (dst < c.u 0 1)), (1, decide (top < c.u 1 1)), (4, (o != 0 && !isFlow && !isPort) || mismatch)] ++
    c.zeros [(0, 1), (1, 1), (4, 4)] [])

/-- The old source ramps out and the new one in; a destination that is muted, or has a data-mode source, switches at once. -/
def effAudioRoute (c : Cmd) (s : State) : State :=
  let key := routeKey c.object (c.u 0 1)
  let new := c.audioSrc
  let r := s.route key
  let s1 :=
    if r.ramp = 3 ∨ s.dataSrc r.src ∨ s.dataSrc new then
      ((s.modRoute key (fun r => { r with src := new, next := none, ramp := 3, cause := 0, sample := 0, j := 0 })).raiseRoute key).judgePair key
    else s.modRoute key (fun r => { r with next := some new, ramp := 2, cause := 4, j := if r.ramp = 2 then r.j else 0 })
  s1.ok c
def execAudioRoute (q seq : Nat) (s : State) : Out := opOut q (s.runOp 0x0B02 q seq effAudioRoute)

/-! ### AUDIO_STATUS (R548) -/

def checkAudioStatus (_ : State) (c : Cmd) : Verdict := badRange (c.buf 0 64)
/-- The 64-byte record: the port's registers, and the held channel status of an input. -/
def State.audioRecord (s : State) (i : Nat) : List Byte :=
  let words :=
    if isAesIn i then
      let x := s.audioIn i
      leBytes 4 x.statusReg ++ leBytes 4 x.errReg ++ x.cs.flatten
    else if isAesOut i then leBytes 4 (s.outStatusReg (i - 8))
    else []
  (words ++ List.replicate 64 0).take 64
def effAudioStatus (c : Cmd) (s : State) : State := (s.writeBuf c (c.u 0 8) (s.audioRecord c.idx)).ok c 64
def execAudioStatus (q seq : Nat) (s : State) : Out := opOut q (s.runOp 0x0B03 q seq effAudioStatus)

end Sys2Proof.Machine
end

