-- ==== Sys2Proof/Machine/AudioEvents.lean ====
section
/-!
DEFINITION. Audio events (13): subframes, channel status, measurement windows, loss and rate changes, ramps, starts and stops,
slips, play instants, egress audio packets.
-/
set_option Elab.async false
namespace Sys2Proof.Machine

open Sys2Proof

/-! ### Loss, rate change, restoration (R547, R564–R568) -/

/-- An input is lost (1) or has changed rate (2): its routes mute, and the audio clock goes to HOLDOVER when it is the reference. -/
def State.audioFinding (s : State) (n kind : Nat) : State :=
  let x := s.audioIn n
  let isRef := s.audio.ref == (if n = 8 then 1 else n + 2)
  let s1 := s.modIn n (fun x => { x with
    state := if n = 8 then x.state else if kind = 1 then 1 else 2, lost := decide (kind = 1), clean := 0, dirty := true,
    restoring := false,
    finding := match x.finding with
      | some (_, old, h) => some (kind, old, h || isRef)
      | none => some (kind, x.measHz, isRef),
    partialWindow := if x.finding.isSome then x.partialWindow else true,
    window := if kind = 1 then none else x.window, lastA := if kind = 1 then none else x.lastA })
  let s2 := if isRef then { s1 with audio := { s1.audio with clkState := 1 } } else s1
  (s.routesFrom n).foldl (fun s e => s.muteRoute e.1 kind (kind = 2 && x.state != 1)) s2

/-- A frame period differs by more than 4 % from that of the class. -/
def periodOff (cls period : Nat) : Bool :=
  classHz cls != 0 && decide (40000000 < ((period * classHz cls : Nat) : Int) - 1000000000 ∨
    ((period * classHz cls : Nat) : Int) - 1000000000 < -40000000)

/-- A good subframe (R545): its sample goes to the routes unless the input is lost; a preamble of channel 0 ends a frame period. -/
def State.goodSubframe (s : State) (n ch : Nat) (sample : Int) : State :=
  let x := s.audioIn n
  let s1 := s.modIn n (fun x => { x with badRun := 0, last := x.last.set ch sample })
  let s2 := if x.state = 1 then s1.modIn n (fun x => { x with state := 2, lost := false, dirty := true }) else s1.feed (.input n ch) sample 0
  if ch ≠ 0 then s2
  else
    let off := x.lastA.any (fun t => periodOff x.cls (s.now - t)) && x.finding.isNone && x.state != 1
    let s3 := s2.modIn n (fun x => { x with
      lastA := some s.now,
      window := match x.window with
        | none => some (s.now, s.now, 1)
        | some (a, _, k) => some (a, s.now, k + 1) })
    if off then s3.audioFinding n 2 else s3

/-- A subframe in error (R546, R547): an isolated one repeats the last good sample; the second in a row loses the input. -/
def State.badSubframe (s : State) (n ch : Nat) : State :=
  let x := s.audioIn n
  let s1 := (s.chainFail 13).modIn n (fun x => { x with subErr := satAdd 16 x.subErr 1, badRun := x.badRun + 1, dirty := true })
  if x.state = 1 then s1
  else if x.badRun + 1 ≥ 2 then s1.audioFinding n 1
  else s1.feed (.input n ch) (x.last.getD ch 0) 0

def execSubframe (input channel t : Nat) (sample : Int) (error : Bool) (s : State) : Out :=
  need (input < 8 && channel < 2 && decide (t < two32)) <|
    let s1 := s.at32 t
    if !(s1.audioIn input).enabled then s1
    else if error then s1.badSubframe input channel
    else s1.goodSubframe input channel (signed 24 (wrapInt 24 sample))

/-- No preamble for 2 sample periods of the present class; of 48 kHz where there is none. -/
def execPreambleTimeout (input : Nat) (s : State) : Out :=
  need (input < 8) <|
    let x := s.audioIn input
    if !x.enabled ∨ x.state = 1 then s
    else
      let hz := if classHz x.cls = 0 then 48000 else classHz x.cls
      let s1 := match x.lastA with
        | some t => s.reach (t + 2000000000 / hz)
        | none => s
      s1.audioFinding input 1

/-- A block of 192 frames of a channel ends (R548, R549, R562): a good CRCC updates the held channel status; bit 1 of byte 0 marks
data mode. -/
def execChannelStatusBlock (input channel : Nat) (bytes user : List Byte) (s : State) : Out :=
  need (input < 8 && channel < 2 && decide (bytes.length = 24) && decide (user.length = 24)) <|
    if !(s.audioIn input).enabled then s
    else
      let s1 := s.modIn input (fun x => { x with user := x.user.set channel user })
      if crcOf 3 (bytes.take 23) ≠ (bytes.getD 23 0).toNat then
        (s1.chainFail 13).modIn input (fun x => { x with csErr := satAdd 16 x.csErr 1 })
      else
        let s2 := s1.modIn input (fun x => { x with
          cs := x.cs.set channel bytes, data := (bytes.getD 0 0).toNat.testBit 1 })
        if (s2.audioIn input).data = (s.audioIn input).data then s2 else s2.judgeRoutes (s2.routesFrom input)

/-- Events that a whole window after a finding brings (R567). -/
def State.reportFinding (s : State) (n new : Nat) : State :=
  match (s.audioIn n).finding with
  | none => s
  | some (kind, old, hold) =>
    if (s.audioIn n).partialWindow then s.modIn n (fun x => { x with partialWindow := false })
    else
      let s1 := s.modIn n (fun x => { x with finding := none })
      let s2 := if n = 8 then s1
        else s1.raise (if kind = 1 then 0x0A03 else 0x0A04) (audioId n) old (if kind = 1 then 0 else new)
      if hold then s2.raise 0x0A05 deviceId s2.audio.ref 0 else s2

/-- An input has become stable (R541, R568); a reference is locked to only at its carried rate. -/
def State.audioStable (s : State) (n : Nat) : State :=
  let x := s.audioIn n
  let right := x.cls = carriedClass (if n = 8 then s.audio.mclkIn else x.rate)
  let s1 := if s.audio.ref = (if n = 8 then 1 else n + 2) ∧ right then { s with audio := { s.audio with clkState := 2 } } else s
  if n = 8 then s1
  else if x.cls = carriedClass x.rate then
    let s2 := s1.modIn n (fun x => { x with state := 3, restoring := true })
    let l := s2.routesFrom n
    let s3 := l.foldl (fun s e => s.raiseRoute e.1) s2
    if (s3.routesFrom n).any (fun e => e.2.ramp == 1) then s3
    else (s3.modIn n (fun x => { x with restoring := false })).raise 0x0A06 (audioId n) x.measHz 0
  else
    let s2 := s1.modIn n (fun x => { x with state := 4 })
    (s2.routesFrom n).foldl (fun s e => s.muteRoute e.1 2 true) s2

/-- Class of AUD_MCLK_IN. -/
def mclkClass (hz : Nat) : Nat :=
  match classOf hz with
  | 0 => 0 | 3 => 1 | 5 => 1 | 7 => 1 | 2 => 2 | 4 => 2 | 6 => 2 | _ => 3

/-- A measurement window of 10 ms ends (R563, R564, R567, R568). Input 8 is AUD_MCLK_IN, whose measured rate comes with the event. -/
def execMeasurementWindowEnd (input mclkHz : Nat) (s : State) : Out :=
  need (input < 9 && decide (mclkHz < 2 ^ 18)) <|
    if input < 8 ∧ !(s.audioIn input).enabled then s
    else
      let x0 := s.audioIn input
      let s0 := s.reach (if x0.winEnd = 0 then windowEnd s.now else x0.winEnd)
      let hz :=
        if input = 8 then mclkHz
        else match x0.window with
          | some (a, b, k) => if a < b then (roundHalfAway (((k - 1) * 1000000000 : Nat) : Int) (b - a)).toNat % 2 ^ 18 else 0
          | none => 0
      let cls := classOf hz
      let differs := x0.cls ≠ 0 ∧ cls ≠ 0 ∧ cls ≠ x0.cls ∧ x0.finding.isNone
      let clean := if x0.dirty ∨ cls = 0 then 0 else if cls = x0.cls then x0.clean + 1 else 1
      let s1 := s0.modIn input (fun x => { x with
        measHz := hz, cls := cls, window := none, winEnd := windowEnd s0.now, dirty := false, clean := clean })
      let s2 := if input = 8 then { s1 with audio := { s1.audio with mclkMeas := mclkClass hz } } else s1
      let gone := input = 8 ∧ x0.cls ≠ 0 ∧ cls = 0 ∧ x0.finding.isNone
      let s3 :=
        if gone ∨ (differs ∧ x0.state ≠ 1) then
          (s2.audioFinding input (if gone then 1 else 2)).modIn input (fun x => { x with
            finding := x.finding.map (fun f => (f.1, x0.measHz, f.2.2)), partialWindow := false, dirty := false, clean := clean })
        else s2.reportFinding input hz
      if clean = 10 ∧ (s3.audioIn input).state ≠ 1 ∧ (input = 8 ∨ (s3.audioIn input).state ≠ 3) then s3.audioStable input else s3

/-! ### Ramps, starts, stops (R551, R552, R555, R561, R565) -/

/-- An output whose ramps are over: a start completes, a stop goes to its last block. -/
def State.outputSettled (s : State) (object : Nat) : State :=
  if object / 16777216 = 11 ∧ !(s.routesTo object).any (fun e => e.2.ramp == 1 || e.2.ramp == 2) then
    let i := object % 16777216
    let p := s.audioPort i
    if p.state = 2 then (s.modPort i (fun p => { p with cmd := none })).completeOpt p.cmd 2 0 else s
  else s

/-- A ramp of 64 samples of a destination channel ends; a route change goes on with its new source. -/
def execRampEnd (dest : Nat) (s : State) : Out :=
  need (dest < 2 ^ 38) <|
    let r := s.route dest
    if r.ramp = 1 then
      let s1 := s.modRoute dest (fun r => { r with ramp := 0, j := 0 })
      let s2 := match r.src with
        | .input n _ =>
          if (s1.audioIn n).restoring then
            (s1.modIn n (fun x => { x with restoring := false })).raise 0x0A06 (audioId n) (s1.audioIn n).measHz 0
          else s1
        | _ => s1
      s2.outputSettled (routeObject dest)
    else if r.ramp = 2 then
      let s1 := s.modRoute dest (fun r => { r with
        ramp := 3, j := 0, sample := 0, src := r.next.getD r.src, cause := if r.next.isSome then 0 else r.cause, next := none })
      (if r.next.isSome then (s1.raiseRoute dest).judgePair dest else s1).outputSettled (routeObject dest)
    else s

/-- The lead-in of an output ends: its routes ramp in; with none to ramp the start completes. -/
def execAes3StartBlock (output : Nat) (s : State) : Out :=
  need (isAesOut output) <|
    let p := s.audioPort output
    if p.state ≠ 1 then s
    else
      let s1 := (s.reach (p.since + portTime p.rate 192)).modPort output (fun p => { p with state := 2 })
      ((s1.routesTo (audioId output)).foldl (fun s e => s.raiseRoute e.1) s1).outputSettled (audioId output)

/-- The last block of a stopped output ends: the output is held low, and the command completes. -/
def execAes3StopBlockEnd (output : Nat) (s : State) : Out :=
  need (isAesOut output) <|
    let p := s.audioPort output
    if p.state ≠ 5 ∨ (s.routesTo (audioId output)).any (fun e => e.2.ramp == 1 || e.2.ramp == 2) then s
    else ((s.reach (p.since + portTime p.rate (64 + 192))).modPort output (fun p => { p with state := 0, cmd := none })).completeOpt p.cmd 2 0

/-- A PDM pair's clock has run 20 ms: its samples ramp in. -/
def execPdmWarmUpEnd (pair : Nat) (s : State) : Out :=
  need (isPdm pair) <|
    if (s.audioPort pair).state ≠ 1 then s
    else
      let s1 := (s.reach ((s.audioPort pair).since + 20000000)).modPort pair (fun p => { p with state := 2 })
      (s1.audio.routes.filter (fun e => match e.2.src with
        | .mic p _ => p == pair
        | _ => false)).foldl (fun s e => s.raiseRoute e.1) s1

/-! ### Slips and the clock (R543, R544) -/

/-- An elastic buffer's fill leaves 16 to 48: one sample frame is repeated or dropped, and the fill is 32 again. -/
def execAudioSlip (object fill : Nat) (s : State) : Out :=
  need (isSlipObject object && decide (fill ≤ 64)) <|
    if 16 ≤ fill ∧ fill ≤ 48 then { s with audio := { s.audio with fills := s.audio.fills.set object fill } }
    else
      ({ s.slipRoutes object (fill < 16) with audio := { (s.slipRoutes object (fill < 16)).audio with
        fills := s.audio.fills.set object 32, slips := satAdd 32 s.audio.slips 1 } }).raise 0x0A01 object fill (if fill < 16 then 0 else 1)

/-- The measured ratio of the audio clock to TB0 has been beyond, or within, 10 ppm for 1 s. -/
def execAudioClockAsync (ppb : Int) (s : State) : Out :=
  need true <|
    let v := clip ppb (-2147483648) 2147483647
    let far := decide (10000 < v ∨ v < -10000)
    let s1 := { s with audio := { s.audio with ppb := v, async := far } }
    if far ∧ !s.audio.async then s1.raise 0x0A02 deviceId (wrapInt 32 v) 0 else s1

/-! ### Flows (R557–R559) -/

/-- An AM824 label plays: block start restarts the frame count; the C bit of frame 1 is channel-status bit 1 of byte 0, the data-mode flag
(R549, R556). -/
def RxFlow.playLabel (f : RxFlow) (ch label : Nat) : RxFlow :=
  let at_ := if bit label 5 then 0 else f.frameAt.get 0 ch + 1
  let f1 := { f with frameAt := f.frameAt.set ch at_ }
  if at_ ≠ 1 then f1
  else if bit label 2 then { f1 with dataOn := if f.dataOn.contains ch then f.dataOn else f.dataOn ++ [ch] }
  else { f1 with dataOn := f.dataOn.filter (fun x => x != ch) }
/-- Routes that take a channel of a received flow. -/
def State.routesOfFlow (s : State) (flow : Nat) : List (Nat × Route) :=
  s.audio.routes.filter (fun e => match e.2.src with
    | .flow f _ => f == flow
    | _ => false)
/-- The play instant of sample k of a received audio flow: each channel plays, or plays as zero; a missing packet is counted once, at
its first sample (log entry 56). -/
def execAudioPlayInstant (flow k : Nat) (s : State) : Out :=
  need (flow < 256) <|
    let f := s.rxFlow flow
    if !f.isOpen ∨ f.kind < 2 then s
    else
      let s0 := s.reach (sampleInstant k (audioHz f.audio) + f.linkOffset)
      let key (ch : Nat) : Nat := k % two32 * 64 + ch
      let found := (List.range f.channels).any (fun ch => (f.samples.find (key ch)).isSome)
      let f1 := if f.kind = 3 then (List.range f.channels).foldl (fun f ch => f.playLabel ch ((f.labels.find (key ch)).getD 0)) f else f
      let s1 := s0.modRx flow (fun _ => { f1 with
        samples := f.samples.filter (fun e => e.1 / 64 != k % two32), labels := f.labels.filter (fun e => e.1 / 64 != k % two32) })
      let s2 := (List.range f.channels).foldl (fun s ch =>
        s.feed (.flow flow ch) ((f.samples.find (key ch)).getD 0) ((f.labels.find (key ch)).getD 0 % 8))
        (if f1.dataOn = f.dataOn then s1 else s1.judgeRoutes (s1.routesOfFlow flow))
      if found ∨ k % max 1 (audioSamples f.audio) ≠ 0 then s2
      else { s2 with audio := { s2.audio with missing := satAdd 32 s2.audio.missing 1 } }

/-- A route of an egress flow takes a channel from a local input (R559). -/
def State.localAudio (s : State) (flow : Nat) : Bool :=
  (s.routesTo (txId flow)).any (fun e => match e.2.src with
    | .input _ _ => true
    | .mic _ _ => true
    | _ => false)

/-- Sample k of a microphone (R554): the settled value of its density, as the filters leave it, within 24 bits; its coefficients and the
sound are open (log entry 5). -/
def State.micSample (s : State) (pair ch k : Nat) : Int :=
  let density : Int := ((Config.micDensity pair ch k % (2 ^ 24 + 1) : Nat) : Int)
  let settled : Int := (2 * density - 2 ^ 24) * 7340032 / 2 ^ 24
  clip (Config.micFilter (s.audioPort pair).highpass pair ch k settled) (-8388608) 8388607

/-- The sample frame of an egress flow's channel at sample k: its route's next (R543); SILENCE where it has none. -/
def State.drawSample (s : State) (key k : Nat) : (Int × Nat) × State :=
  let r := s.route key
  let r1 := match r.src with
    | .mic p ch => if s.srcUsable r.src then r.take (s.micSample p ch k) 0 else r
    | _ => r
  (r1.draw.1, s.modRoute key (fun _ => r1.draw.2))

/-- An L16 sample leaves as min((x + 128) >> 8, 32,767) (R556). -/
def l16 (x : Int) : Int := min ((x + 128) / 256) 32767

/-- A bit of 24 bytes of channel status or user data, by frame of the block. -/
def blockBit (l : List Byte) (k : Nat) : Bool := (l.getD (k % 192 / 8) 0).getLsbD (k % 8)

/-- A sample's bytes in a packet (R556): L16 and L24 big-endian; AM824 as a label with block start, first subframe, parity,
channel-status, user and validity bits, then 24 bits (log entry 55); the bits of an AM824 source are carried. -/
def State.sampleBytes (s : State) (f : TxFlow) (key k : Nat) (x : Int) (tag : Nat) : List Byte :=
  let b24 := [BitVec.ofInt 8 (x / 65536), BitVec.ofInt 8 (x / 256), BitVec.ofInt 8 x]
  if f.kind = 2 then
    let (c, u) := match (s.route key).src with
      | .input n ch => (blockBit (((s.audioIn n).cs)[ch]?.getD []) k, blockBit (((s.audioIn n).user)[ch]?.getD []) k)
      | _ => (bit tag 2, bit tag 1)
    let v := (s.route key).ramp == 3 || bit tag 0
    let ones := ((List.range 24).map (fun i => b2n ((BitVec.ofInt 24 x).getLsbD i))).sum + b2n c + b2n u + b2n v
    BitVec.ofNat 8 (b2n (k % 192 == 0) * 32 + b2n (routeChannel key % 2 == 0) * 16 + ones % 2 * 8 + b2n c * 4 + b2n u * 2 + b2n v) :: b24
  else if bit f.audio 1 then b24
  else [BitVec.ofInt 8 (l16 x / 256), BitVec.ofInt 8 (l16 x)]

/-- The bytes of n sample times from sample k on, channel by channel (R556). -/
def State.audioBytes (s : State) (flow k n : Nat) : List Byte × State :=
  let f := s.txFlow flow
  (List.range (n * f.channels)).foldl (fun (a : List Byte × State) i =>
    let key := routeKey (txId flow) (i % f.channels)
    let at_ := k + i / f.channels
    let (x, t) := a.2.drawSample key at_
    (a.1 ++ t.sampleBytes f key at_ x.1 x.2, t)) ([], s)

/-- The samples of the next packet of an egress audio flow are placed: the packet, a train of its own, is queued for its launch time
(R558); a follower whose peer is up mutes a flow of local inputs (R559). -/
def execAudioPacketFormed (flow : Nat) (s : State) : Out :=
  need (flow < 1024) <|
    let f := s.txFlow flow
    if !f.isOpen ∨ f.kind = 0 ∨ f.closing.isSome then s
    else
      let k := s.audio.txK.get 0 flow
      let n := audioSamples f.audio
      let (bytes, s0) := (s.reach (sampleInstant (k + n - 1) (audioHz f.audio))).audioBytes flow k n
      let launch := audioLaunch f.audio k
      let muted := s.isFollower && !s.twin.peerLost && s.localAudio flow
      let p : TxPkt := {
        k := 0, prog := 256 + flow, pic := k, row := 0, stream := 0, data := bytes, marker := false,
        first := true, last := true, launch := launch, ts := k % two32, muted := muted,
        passed := s0.now }
      let legs := (List.range f.legs.length).map (fun i => (flow, i))
      let s1 := { s0.modTx flow (fun t => t.push [p]) with audio := { s0.audio with txK := s0.audio.txK.set flow (k + n) } }
      if f.cls = 0 then
        let t : Train := {
          prog := 256 + flow, stream := 0, pic := k, g := sampleInstant k (audioHz f.audio), launch := launch, windowEnd := launch,
          pending := legs }
        { s1 with egress := { s1.egress with trains := s1.egress.trains ++ [t] } }
      else s1

end Sys2Proof.Machine
end

