-- ==== Sys2Proof/Machine/ObserveOps.lean ====
section
/-!
DEFINITION. Counters, sampling and events (16, 17 *Observability*): the opcodes PMC_CONFIG to EVENT_MASK, the counters' snapshot and
clears, the sampler, and the register accesses whose reads or writes have an effect.
-/
set_option Elab.async false
namespace Sys2Proof.Machine

open Sys2Proof

/-! ### PMC_CONFIG (R638, R639, R641) -/

/-- What an event of *Performance counter events* takes: the classes of its objects (none: an object of 0 only) and its qualifiers. -/
structure PmcEvent where
  classes : List Nat
  qlo : Nat := 0
  qhi : Nat := 0
deriving DecidableEq, Repr

def pmcEvent (code : Nat) : Option PmcEvent :=
  match code with
  | 0x0001 => some { classes := [] }
  | 0x0101 | 0x0102 | 0x0103 | 0x0701 => some { classes := [1, 12] }
  | 0x0104 | 0x0105 | 0x0702 | 0x0703 => some { classes := [1] }
  | 0x0106 => some { classes := [12] }
  | 0x0201 | 0x0202 | 0x0203 | 0x0204 => some { classes := [], qhi := 17 }
  | 0x0205 => some { classes := [7], qhi := 8 }
  | 0x0301 | 0x0302 | 0x0303 | 0x0304 | 0x0305 | 0x0306 | 0x0307 => some { classes := [6] }
  | 0x0401 | 0x0402 | 0x0403 | 0x0404 | 0x0405 | 0x0406 => some { classes := [9] }
  | 0x0501 => some { classes := [], qlo := 2, qhi := 14 }
  | 0x0502 => some { classes := [10] }
  | 0x0601 => some { classes := [], qhi := 77 }
  | 0x0602 => some { classes := [], qhi := 2 }
  | 0x0801 | 0x0802 | 0x0803 | 0x0804 => some { classes := [12] }
  | _ => none
/-- A filter that the event does not take: wrong class, no such object, or a unit that is not a pair's first core for 0x0801–0x0804. -/
def State.badFilter (s : State) (code filter : Nat) (e : PmcEvent) : Bool :=
  let i := filter % 16777216
  filter != 0 && (!(e.classes.contains (filter / 16777216) && s.objectExists filter) ||
    (filter / 16777216 == 12 && (if 0x0800 ≤ code then i != 196608 && i != 196610 else !isUnit i)))
def checkPmcConfig (s : State) (c : Cmd) : Verdict :=
  let q := c.u 3 1
  let ev := c.u 4 2
  let e := pmcEvent ev
  let badQual := e.any (fun e => q < e.qlo || e.qhi < q || (ev == 0x0601 && !isLane q))
  badRange ([c.outside 0 1 0 127, (1, 7 < c.u 1 1 || (bit (c.u 1 1) 1 && c.u 0 1 % 2 == 0)), c.outside 2 1 0 2, (3, badQual),
    (4, e.isNone), (8, e.any (fun e => s.badFilter ev (c.u 8 4) e))] ++
    c.zeros [(0, 1), (1, 1), (2, 1), (3, 1), (4, 2), (8, 4)] [])
def effPmcConfig (c : Cmd) (s : State) : State :=
  let ctrl := c.u 1 1
  (s.modPmc (c.u 0 1) (fun p => { p with
    count := if bit ctrl 2 then 0 else p.count, enable := bit ctrl 0, chain := bit ctrl 1, leg := c.u 2 1, qual := c.u 3 1,
    event := c.u 4 2, object := c.u 8 4 })).ok c
def execPmcConfig (q seq : Nat) (s : State) : Out := opOut q (s.runOp 0x0E01 q seq effPmcConfig)

/-! ### SAMPLE_CONFIG, TRACE_CONFIG, EVENT_MASK (R645, R649, 05 R266) -/

def checkSampleConfig (_ : State) (c : Cmd) : Verdict :=
  badRange ([c.outside 0 1 0 1, c.outside 1 1 1 7, c.outside 2 1 0 1, c.outside 4 4 1 16777216] ++
    c.zeros [(0, 1), (1, 1), (2, 1), (4, 4)] [])
def effSampleConfig (c : Cmd) (s : State) : State :=
  State.ok { s with obs := { s.obs with sampling := s.obs.sampling.set (c.u 0 1) (c.u 1 1, c.u 2 1 == 1, c.u 4 4, 0) } } c
def execSampleConfig (q seq : Nat) (s : State) : Out := opOut q (s.runOp 0x0E02 q seq effSampleConfig)

/-- TRC_CTRL and TRACE_CONFIG.CTRL act on the same state; ENABLE 1 ends a freeze (05 R269). -/
def Disp.traceCtrl (d : Disp) (v : Nat) : Disp :=
  { d with trcEnable := bit v 0, trcStop := bit v 1, trcFreezeOnFault := bit v 2, trcFrozen := d.trcFrozen && !bit v 0 }
def checkTraceConfig (_ : State) (c : Cmd) : Verdict :=
  badRange ([(0, decide (7 < c.u 0 1)), (2, bit (c.u 2 2) 0 || 2047 < c.u 2 2)] ++ c.zeros [(0, 1), (2, 2), (4, 2)] [])
def effTraceConfig (c : Cmd) (s : State) : State :=
  State.ok { s with disp := { s.disp.traceCtrl (c.u 0 1) with trcDecisions := c.u 2 2, trcPrograms := c.u 4 2 } } c
def execTraceConfig (q seq : Nat) (s : State) : Out := opOut q (s.runOp 0x0E03 q seq effTraceConfig)

def checkEventMask (_ : State) (c : Cmd) : Verdict := badRange ([c.outside 0 1 1 11] ++ c.zeros [(0, 1), (4, 4)] [])
def effEventMask (c : Cmd) (s : State) : State :=
  State.ok { s with hif := { s.hif with evMask := s.hif.evMask.set (c.u 0 1) (c.u 4 4) } } c
def execEventMask (q seq : Nat) (s : State) : Out := opOut q (s.runOp 0x0E04 q seq effEventMask)

/-! ### PMC_CTRL and counter registers (R641–R643) -/

/-- A write of PMC_CTRL: the snapshot is taken before a clear. -/
def State.pmcCtrl (s : State) (value : Nat) : State :=
  let o := s.obs
  let o1 : Obs :=
    if bit value 0 then
      { o with pmcs := o.pmcs.map (fun (e : Nat × Pmc) => (e.1, { e.2 with snap := e.2.count })),
               snapSeq := (o.snapSeq + 1) % 256, snapBusy := true }
    else o
  let o2 : Obs :=
    if bit value 1 then { o1 with pmcs := o1.pmcs.map (fun (e : Nat × Pmc) => (e.1, { e.2 with count := 0 })), ovf := [] } else o1
  { s with obs := o2 }
def execPmcSnap (value : Nat) (s : State) : Out := need (value < two32) (s.pmcCtrl value)
def execPmcClearAll (value : Nat) (s : State) : Out := need (value < two32) (s.pmcCtrl value)
def execSnapCopyReadable (s : State) : Out := need true { s with obs := { s.obs with snapBusy := false } }
/-- PMC_LO_n latches PMC_HI_n. -/
def execPmcLoRead (n : Nat) (s : State) : Out :=
  need (n < 128) <|
    let v := (s.pmc n).count
    (s.modPmc n (fun p => { p with hi := v / two32 })).emit (.readData (v % two32))
/-- An enabled counter passes 2^48 − 1 by an increment of cycles, instructions or misses that has no row of its own. -/
def execPmcWrap (n increment : Nat) (s : State) : Out :=
  need (n < 128) <|
    if (s.pmc n).enable ∧ 2 ^ 48 ≤ (s.pmc n).count + increment ∧ increment < 2 ^ 48 then s.pmcAdd n increment else s
/-- A write of PMC_OVF_m. -/
def State.writePmcOvf (s : State) (m v : Nat) : State :=
  { s with obs := { s.obs with ovf := s.obs.ovf.filter (fun n => !(n / 32 == m && bit v (n % 32))) } }
def execPmcOvfClear (m value : Nat) (s : State) : Out := need (m < 4 && value < two32) (s.writePmcOvf m value)

/-! ### The sampler (R645–R647) -/

/-- RISC-V codes a compressed instruction in 16 bits whose low two are not 11. -/
def compressed (insn : Nat) : Bool := insn % 4 != 3
def State.sampleRecord (s : State) (pair event addr insn latency mode : Nat) : SampleRec :=
  let l := if event = 7 then 0 else latency
  { addr := addr, insn := if compressed insn then insn % 65536 else insn, latency := min l 65535, event := event,
    flags := b2n (compressed insn) + 2 * pair + 4 * mode + 16 * b2n (65535 < l), ts := s.ts }
/-- The Nth event of a sampled pair. -/
def execSampleDue (pair addr insn latency mode : Nat) (previousRetired : Bool) (s : State) : Out :=
  need (pair < 2 && addr < 2 ^ 64 && insn < two32 && (mode == 0 || mode == 1 || mode == 3)) <|
    match s.obs.sampling.find pair with
    | some (event, true, _, _) =>
      let o := s.obs
      if s.power.warm then s
      else if !previousRetired ∨ 1024 ≤ o.smpUnread then { s with obs := { o with smpLost := satAdd 32 o.smpLost 1 } }
      else
        { s with obs := { o with
          smpRing := o.smpRing.set o.smpWr (s.sampleRecord pair event addr insn latency mode),
          smpWr := (o.smpWr + 1) % 1024, smpUnread := o.smpUnread + 1 } }
    | _ => s
/-- The six words of a sample record. -/
def SampleRec.words (r : SampleRec) : List Nat :=
  [r.addr % two32, r.addr / two32, r.insn, r.latency + 65536 * r.event + 16777216 * r.flags, r.ts, 0]
/-- The record at SMP_RD_IDX is read out of the ring. -/
def Obs.nextSample (o : Obs) : Obs := { o with smpRd := (o.smpRd + 1) % 1024, smpUnread := o.smpUnread - 1 }
/-- A record that reads back with a parity error is dropped and counted; the latched words stay. -/
def execSmpData0Read (parityOk : Bool) (s : State) : Out :=
  need true <|
    let o := s.obs
    let o1 : Obs :=
      if parityOk then { o with smpData := (o.smpRing.get {} o.smpRd).words }
      else { o.nextSample with smpLost := satAdd 32 o.smpLost 1 }
    ({ s with obs := o1 }).emit (.readData (o1.smpData.getD 0 0))
def execSmpData5Read (s : State) : Out :=
  need true (({ s with obs := s.obs.nextSample }).emit (.readData (s.obs.smpData.getD 5 0)))
def execSmpLostRead (s : State) : Out :=
  need true (({ s with obs := { s.obs with smpLost := 0 } }).emit (.readData s.obs.smpLost))

/-! ### The dispatch trace (05 R267–R269) -/

/-- The four words of a trace record. -/
def TraceRec.words (r : TraceRec) : List Nat :=
  [r.ts, r.decision % 16 + 16 * (r.level % 8) + 256 * (r.unitKind % 256) + 65536 * (r.unit % 256) + 16777216 * (r.opKind % 256),
   r.prog % 16 + 16 * (r.frame % 16) + 256 * (r.retired % 256) + 65536 * (r.row % 65536), r.seg % 65536 + 65536 * wrapInt 16 r.slack]
def execTrcData0Read (s : State) : Out :=
  need true <|
    let w := (s.disp.trcRing.get {} s.disp.trcRd).words
    ({ s with disp := { s.disp with trcData := w } }).emit (.readData (w.getD 0 0))
def execTrcData3Read (s : State) : Out :=
  need true <|
    ({ s with disp := { s.disp with trcRd := (s.disp.trcRd + 1) % 8192, trcUnread := s.disp.trcUnread - 1 } }).emit
      (.readData (s.disp.trcData.getD 3 0))
/-- A write of TRC_CTRL. -/
def State.writeTrcCtrl (s : State) (v : Nat) : State := { s with disp := s.disp.traceCtrl v }
def execTrcCtrlWrite (value : Nat) (s : State) : Out := need (value < two32) (s.writeTrcCtrl value)
def execTrcLostRead (s : State) : Out :=
  need true (({ s with disp := { s.disp with trcLost := 0 } }).emit (.readData s.disp.trcLost))

/-! ### Time-base and lateness registers (09 R388, R420, R426) -/

/-- NS is returned; FRAC and STATUS are latched with it. -/
def execTbxTbnNsRead (tb : Nat) (s : State) : Out :=
  need (tb < 4) <|
    let b := s.tb tb
    (s.modTb tb (fun b => { b with latFrac := b.frac, latStatus := s.tbStatusReg tb })).emit (.readData b.ns)
/-- A write of TBX_TBn_CAP_INFO. -/
def State.writeCapInfo (s : State) (tb v : Nat) : State :=
  s.modTb tb (fun b => { b with capValid := b.capValid && !bit v 0, capOverrun := b.capOverrun && !bit v 1 })
def execCapInfoClear (tb value : Nat) (s : State) : Out := need (tb < 4 && value < two32) (s.writeCapInfo tb value)
def execTbxLateMaxRead (prog : Nat) (s : State) : Out :=
  need (prog < 16) <|
    ({ s with time := { s.time with lateMax := s.time.lateMax.set prog 0 } }).emit (.readData (s.time.lateMax.get 0 prog))
/-- A write of TBX_C21_VIOL_m: the flows' conformance flags are set again. -/
def State.writeC21 (s : State) (m v : Nat) : State :=
  { s with time := { s.time with c21 := s.time.c21.filter (fun f => !(f / 32 == m && bit v (f % 32))) } }
def execC21ViolClear (m value : Nat) (s : State) : Out := need (m < 32 && value < two32) (s.writeC21 m value)

/-! ### Counters that a read clears (02 R74, R88; 13 R543, R546, R557) -/

def execHifCqnDiscardsRead (q : Nat) (s : State) : Out :=
  need (isQueue q) ((s.modQueue q (fun k => { k with discards := 0 })).emit (.readData (s.queue q).discards))
def execHifEvLostRead (s : State) : Out :=
  need true (({ s with hif := { s.hif with evLost := 0 } }).emit (.readData s.hif.evLost))
def execAudInErrRead (input : Nat) (s : State) : Out :=
  need (input < 8) <|
    let i := s.audioIn input
    (s.modIn input (fun x => { x with subErr := 0, csErr := 0 })).emit (.readData (i.subErr * 65536 + i.csErr))
def execAudSlipsRead (s : State) : Out :=
  need true (({ s with audio := { s.audio with slips := 0 } }).emit (.readData s.audio.slips))
def execAudMissingRead (s : State) : Out :=
  need true (({ s with audio := { s.audio with missing := 0 } }).emit (.readData s.audio.missing))

/-! ### Lane equalization (R651, 01 R47–R50) -/

/-- A lane's equalizer moves its settings; a decision outside the lane's bounds holds at the bound and is clamped. -/
def execEqualizerDecision (lane : Nat) (ctle vga dfe : Int) (s : State) : Out :=
  need (isLane lane) <|
    let b := s.obs.eqBounds.get {} lane
    let into (e : Int × Int × Int) : Int × Int × Int :=
      (clip e.1 b.ctleMin b.ctleMax, clip e.2.1 b.vgaMin b.vgaMax, clip e.2.2 b.dfeMin b.dfeMax)
    let outside := (s.obs.eqNow.find lane).any (fun e => into e != e)
    let now := if outside then into (s.obs.eqNow.get (0, 0, 0) lane) else into (ctle, vga, dfe)
    let clamped := outside || now != (ctle, vga, dfe)
    let rest := s.obs.eqClamped.filter (fun l => l != lane)
    let s1 := { s with obs := { s.obs with
      eqNow := s.obs.eqNow.set lane now, eqClamped := if clamped then rest ++ [lane] else rest,
      eqClamps := if clamped then s.obs.eqClamps.upd 0 lane (fun n => satAdd 32 n 1) else s.obs.eqClamps } }
    if clamped then s1.happen 0x0601 [] lane 0 1 else s1

end Sys2Proof.Machine
end

