-- ==== Sys2Proof/Machine/UpdateOps.lean ====
section
/-!
DEFINITION. Field update and life cycle (15, 17 *Update and life cycle*): banks and the confirmed marker, the containers and
their verification, refusal states, and the opcodes UPDATE_BEGIN to RETURN_AUTHORISE.
-/
set_option Elab.async false
namespace Sys2Proof.Machine

open Sys2Proof

/-! ### Banks and the confirmed marker (R603, R629) -/

/-- The valid copy of the confirmed marker with the higher SEQ. -/
def NonVol.marker (n : NonVol) : Option Marker :=
  match n.marker0, n.marker1 with
  | some a, some b => if a.seq < b.seq then some b else some a
  | some a, none => some a
  | none, b => b
/-- The active bank: that of the valid marker. -/
def NonVol.activeBank (n : NonVol) : Nat := (n.marker.map Marker.bank).getD 0
/-- The 32 bytes of a copy, as flash holds them (*Confirmed marker*). -/
def Marker.record (m : Marker) : List Byte :=
  withCrc (leBytes 4 0x464E4F43 ++ leBytes 4 m.seq ++ leBytes 1 m.bank ++ leBytes 1 m.secVersion ++ leBytes 2 m.setVersion ++
    List.replicate 12 0)
/-- A new marker, over the copy with the lower SEQ or an invalid one; it carries the versions of the set in its bank. -/
def NonVol.writeMarker (n : NonVol) (bank : Nat) : NonVol :=
  let b := { if bank = 0 then n.bankA else n.bankB with left := false }
  let n := if bank = 0 then { n with bankA := b } else { n with bankB := b }
  let m : Marker := { seq := (n.marker.map Marker.seq).getD 0 + 1, bank := bank, secVersion := b.secVersion, setVersion := b.setVersion }
  match n.marker0, n.marker1 with
  | none, _ => { n with marker0 := some m }
  | some _, none => { n with marker1 := some m }
  | some x, some y => if x.seq < y.seq then { n with marker0 := some m } else { n with marker1 := some m }
def NonVol.bank (n : NonVol) (i : Nat) : Bank := if i = 0 then n.bankA else n.bankB
def NonVol.setBank (n : NonVol) (i : Nat) (b : Bank) : NonVol := if i = 0 then { n with bankA := b } else { n with bankB := b }
/-- What a cold start or a cancellation under R613 leaves behind: a whole container in the inactive bank (R611). -/
def NonVol.leaveBehind (n : NonVol) : NonVol :=
  let i := 1 - n.activeBank
  let b := n.bank i
  n.setBank i { b with left := b.hasRecord && b.data.length == b.total }
/-- The inactive bank. -/
def State.inactive (s : State) : Nat := 1 - s.nv.activeBank
def State.download (s : State) : Bank := s.nv.bank s.inactive
def State.modDownload (s : State) (f : Bank → Bank) : State := { s with nv := s.nv.setBank s.inactive (f s.download) }

/-! ### Containers (R604–R608) -/

/-- A number of `n` bytes, little-endian, in a container read through `f`. -/
def rdLe (f : Nat → Nat) (off : Nat) : Nat → Nat
  | 0 => 0
  | n + 1 => f off + 256 * rdLe f (off + 1) n
/-- Bytes of a container. -/
def rdBytes (f : Nat → Nat) (off n : Nat) : List Nat := (List.range n).map (fun i => f (off + i))

/-- A part of a container: type, offset, length, and where its entry stands. -/
structure Part where
  type : Nat
  offset : Nat
  length : Nat
  entry : Nat
deriving DecidableEq, Repr

/-- The part table. -/
def partsOf (f : Nat → Nat) (format : Nat) : List Part :=
  if format = 0 then (List.range (rdLe f 14 2)).map (fun i =>
    let e := 64 * (i + 1)
    { type := f e, offset := rdLe f (e + 4) 4, length := rdLe f (e + 8) 4, entry := e })
  else (List.range (f 7)).map (fun i =>
    let e := 32 + 48 * i
    { type := f e, offset := rdLe f (e + 4) 4, length := rdLe f (e + 8) 4, entry := e })
/-- The parts of a container with the CRC-64/XZ of each image as it is stored (R603); a FAL-7408 entry gives no part version. -/
def partRecords (f : Nat → Nat) (format : Nat) : List BankPart :=
  (partsOf f format).map (fun p =>
    { type := p.type, version := if format = 0 then rdLe f (p.entry + 2) 2 else 0,
      crc := crcOf 2 ((rdBytes f p.offset p.length).map (BitVec.ofNat 8)) })
/-- The parts of a set: those of its container, and copies of those of the active set that it lacks (R605). -/
def fullSet (own active : List BankPart) : List BankPart :=
  own ++ active.filter (fun p => !(own.map (fun q => q.type)).contains p.type)
/-- SET_VERSION and SEC_VERSION. -/
def setVersionOf (f : Nat → Nat) (format : Nat) : Nat := if format = 0 then rdLe f 12 2 else rdLe f 8 2
def secVersionOf (f : Nat → Nat) (format : Nat) : Nat := if format = 0 then f 7 else f 6
/-- End of the part table; start of what follows the images. -/
def tableEnd (f : Nat → Nat) (format : Nat) : Nat := if format = 0 then 64 * (rdLe f 14 2 + 1) else 32 + 48 * f 7
def imagesEnd (format total : Nat) : Nat := if format = 0 then total - 192 else total
/-- No two parts overlap. -/
def partsApart : List Part → Bool
  | [] => true
  | p :: l => l.all (fun q => p.offset + p.length ≤ q.offset || q.offset + q.length ≤ p.offset) && partsApart l
/-- Code 2: header fields, offsets and lengths. -/
def headerOk (f : Nat → Nat) (format total : Nat) : Bool :=
  let l := partsOf f format
  let zero (a n : Nat) : Bool := (rdBytes f a n).all (fun b => b == 0)
  let head :=
    if format = 0 then rdLe f 0 4 == 0x31585A55 && rdLe f 4 2 == 1 && f 6 < 4 && f 7 < 64 && rdLe f 8 4 == total &&
      f 16 < 4 && f 17 < 8 && f 18 < 2 && zero 19 45
    else rdLe f 0 4 == 0x43343746 && rdLe f 4 2 == 3 && f 6 < 64 && zero 12 20
  head && 1 ≤ l.length && l.length ≤ 6 &&
    l.all (fun p => 1 ≤ p.type && p.type ≤ 6 && p.offset % 4096 == 0 && tableEnd f format ≤ p.offset &&
      p.offset + p.length ≤ imagesEnd format total &&
      (if format = 0 then f (p.entry + 1) == 0 && zero (p.entry + 12) 4 else zero (p.entry + 1) 3 && zero (p.entry + 40) 8)) &&
    partsApart l
/-- A key slot's public key and signature are genuine over signed bytes (R604); revocation does not bind in ASSEMBLY (*Access in each
life-cycle state*). -/
def State.genuine (s : State) (slot : Nat) (pub sig signed : List Nat) : Bool :=
  Config.sha384 pub == Config.keyHash slot && (s.nv.lifecycle == 0 || !s.nv.revoked.contains slot) &&
    Config.signatureValid (pub ++ sig) signed
/-- Code 3: authenticity under R604 or R607; burned key-kill fuses make the compatibility key unreadable (R636). -/
def State.authentic (s : State) (f : Nat → Nat) (format total : Nat) : Bool :=
  let l := partsOf f format
  if format = 0 then
    s.genuine (f 6) (rdBytes f (total - 192) 96) (rdBytes f (total - 96) 96) (rdBytes f 0 (tableEnd f 0)) &&
      l.all (fun p => Config.sha384 (rdBytes f p.offset p.length) == rdBytes f (p.entry + 16) 48)
  else
    !s.nv.keyKill && l.all (fun p => Config.gcmVerifies (rdBytes f 0 32 ++ rdBytes f p.entry 24 ++ List.replicate 16 0 ++ rdBytes f (p.entry + 40) 8)
      (rdBytes f (p.entry + 12) 28 ++ rdBytes f p.offset p.length))
/-- Largest image of a part type (*Part types*). -/
def partLimit : Nat → Nat
  | 1 => 16777216 | 2 => 4194304 | 3 => 2097152 | 4 => 2097152 | 5 => 1048576 | _ => 8388608
/-- Code 5: R605 and the limits; a recovery needs every part (R631). -/
def partsOk (l : List Part) (whole : Bool) : Bool :=
  let types := l.map (fun p => p.type)
  types.dedup.length == types.length && l.all (fun p => p.length ≤ partLimit p.type) &&
    (!(types.any (fun t => 2 ≤ t && t ≤ 4)) || types.contains 6) && (!whole || [1, 2, 3, 4, 5, 6].all types.contains)
/-- Code 6: part number and stepping. -/
def State.permittedPart (s : State) (f : Nat → Nat) (format : Nat) : Bool :=
  if format = 0 then bit (f 16) (if s.nv.part = 0x8216 then 0 else 1) && bit (f 17) s.nv.stepping else rdLe f 10 2 == s.nv.part
/-- *Verification codes*: the first check that fails, of a container read through `f`; 0 when every check passes. -/
def State.verifyCode (s : State) (f : Nat → Nat) (format total : Nat) (whole readBackOk recovery : Bool) : Nat :=
  let checks : List (Nat × Bool) := [(1, whole), (2, headerOk f format total), (3, s.authentic f format total), (4, readBackOk),
    (5, partsOk (partsOf f format) recovery), (6, s.permittedPart f format), (7, decide (s.nv.antiRollback ≤ secVersionOf f format))]
  ((checks.find? (fun e => !e.2)).map Prod.fst).getD 0

/-- The bytes of a bank. -/
def Bank.rd (b : Bank) (i : Nat) : Nat := (b.data.get 0 i).toNat
/-- Bytes of sector `i` that belong to the container. -/
def Bank.sectorLen (b : Bank) (i : Nat) : Nat := min 262144 (b.total - 262144 * i)
/-- A sector has been written in full. -/
def Bank.sectorFull (b : Bank) (i : Nat) : Bool :=
  b.sectorLen i != 0 && (b.data.filter (fun e => e.1 / 262144 = i)).length == b.sectorLen i
def Bank.fullSectors (b : Bank) : List Nat := (List.range 192).filter b.sectorFull
/-- Container bytes in sectors written in full (UPD_STATE.RECEIVED). -/
def Bank.received (b : Bank) : Nat := (b.fullSectors.map b.sectorLen).sum
/-- Every byte up to the total length has been written. -/
def Bank.whole (b : Bank) : Bool := b.hasRecord && b.data.length == b.total

/-! ### Refusal states (R622) -/

/-- The device is moving (code 3). -/
def State.moving (s : State) : Bool :=
  s.twin.exchange.isSome || s.twin.role == 1 || s.splicing || s.power.pair0 == 2 || s.power.pair1 == 2
/-- The first refusal state that holds. -/
def State.updateRefusal (s : State) (format : Nat) : Option Nat :=
  let states : List (Nat × Bool) := [
    (4, s.nv.lifecycle == 4 || (format == 1 && (s.nv.lifecycle == 0 || s.nv.lifecycle == 3))),
    (1, s.nv.ownerLock.isSome), (3, s.moving),
    (2, decide (s.power.vin < s.power.vinUpdateMin ∨ 9 * s.power.limit < s.power.iin))]
  (states.find? (fun e => e.2)).map Prod.fst
def State.badUpdate (s : State) (format : Nat) : Verdict := (s.updateRefusal format).map (fun c => (0x0209, c))

/-! ### UPDATE_BEGIN (R609) -/

def checkUpdateBegin (s : State) (c : Cmd) : Verdict :=
  firstOf [
    badRange ([c.outside 0 1 0 1, c.outside 1 1 0 1, c.outside 4 4 1 50331648] ++ c.zeros [(0, 1), (1, 1), (4, 4)] []),
    badState (1 < s.upd.state) deviceId, s.badUpdate (c.u 0 1)]
/-- A download starts, or resumes with its whole sectors; VERIFIED is cleared. -/
def effUpdateBegin (c : Cmd) (s : State) : State :=
  s.unlessNow c (1 < s.upd.state) <|
  let b := s.download
  let resumes := c.u 1 1 == 1 && b.hasRecord && !b.verified && b.format == c.u 0 1 && b.total == c.u 4 4
  let kept := if resumes then b.fullSectors else []
  let b' : Bank := {
    data := b.data.filter (fun e => kept.contains (e.1 / 262144)), erased := kept, format := c.u 0 1, total := c.u 4 4,
    hasRecord := true }
  let s1 := s.modDownload (fun _ => b')
  State.ok { s1 with upd := { s1.upd with
    state := 1, format := c.u 0 1, total := c.u 4 4, received := b'.received, stagedSet := none } } c
def execUpdateBegin (q seq : Nat) (s : State) : Out := opOut q (s.runOp 0x0D01 q seq effUpdateBegin)

/-! ### UPDATE_DATA (R610) -/

def checkUpdateData (s : State) (c : Cmd) : Verdict :=
  let inline := c.u 8 1 = 0
  firstOf [
    badRange ([(0, c.u 0 4 % 4 != 0 || c.u 0 4 + c.u 4 4 > s.upd.total), (4, c.u 4 4 < 4 || c.u 4 4 > 1048576 || c.u 4 4 % 4 != 0),
      c.outside 8 1 0 1] ++
      (if inline then c.zeros [(0, 4), (4, 4), (8, 1), (20, c.u 4 4)] [(12, 8)] else c.zeros [(0, 4), (4, 4), (8, 1), (12, 8)] [])),
    badState (s.upd.state != 1) deviceId, s.badUpdate s.upd.format, s.badPermit [flashPermit deviceId c.pos]]
/-- Its flash-programming permit is held from acceptance (14 R580 code 4, R581). -/
def acceptUpdateData (c : Cmd) (s : State) : State := s.grant [flashPermit deviceId c.pos]
/-- The bytes that an UPDATE_DATA writes. -/
def Cmd.updateBytes (c : Cmd) : List Byte := if c.u 8 1 = 0 then c.bytes 20 (c.u 4 4) else c.hostData.take (c.u 4 4)
/-- Write bytes of the container; a byte that differs from one already written ends the download, whose data is dropped. -/
def State.writeData (s : State) (off : Nat) (l : List Byte) : Bool × State :=
  let b := s.download
  let cells := (l.zipIdx).map (fun e => (off + e.2, e.1))
  if cells.any (fun e => (b.data.find e.1).any (fun x => x != e.2)) then
    let s1 := s.modDownload (fun b => { b with data := [], erased := [], hasRecord := false })
    (false, { s1 with upd := { s1.upd with received := 0 } })
  else
    let s1 := s.modDownload (fun b => { b with
      data := cells.foldl (fun t e => t.set e.1 e.2) b.data,
      erased := (b.erased ++ cells.map (fun (e : Nat × Byte) => e.1 / 262144)).dedup })
    (true, { s1 with upd := { s1.upd with received := s1.download.received } })
/-- The write ends and the command completes; its permit returns. -/
def State.endUpdateData (s : State) (c : Cmd) : State :=
  let (ok, s1) := s.writeData (c.u 0 4) c.updateBytes
  let s2 := s1.unpermit (fun p => p.code = 4 && p.pos = c.pos)
  if ok then s2.ok c else s2.fail c 0x0303 10
/-- On a follower the verified bytes are written when the lead's note comes (10 R444, R446). -/
def effUpdateData (c : Cmd) (s : State) : State := s.endUpdateData c
/-- The flash write begins, past the commit point. -/
def State.beginWrite (s : State) (c : Cmd) : State :=
  (s.commitNote c 0 0 0 2 0).modCmd c.q c.seq (fun d => { d with phase := .committed })
/-- The command starts: its host bytes are read, and on a twin sent to the follower first (10 R446). -/
def startUpdateData (data : List Byte) (c : Cmd) (s : State) : State :=
  if s.upd.state ≠ 1 then (s.unpermit (fun p => p.pos = c.pos)).fail c 0x0303 deviceId
  else
    let bytes := s.dataFor c data
    let c1 : Cmd := { c with hostData := bytes }
    let s1 := s.modCmd c.q c.seq (fun d => { d with hostData := bytes })
    let s2 := { s1 with upd := { s1.upd with dataCmd := some (c.q, c.seq) } }
    if c.u 8 1 = 1 ∧ s.sendsData c then
      s2.dataEpoch c1 (c.u 4 4) ((c1.updateBytes.zipIdx).map (fun e => (e.2, e.1)))
    else s2.beginWrite c1
/-- One write runs at a time. -/
def execUpdateData (q seq : Nat) (hostData : List Byte) (s : State) : Out :=
  opOut q (if s.upd.dataCmd.isSome then s else s.runSelfTimed 0x0D02 q seq (startUpdateData hostData))

/-! ### UPDATE_VERIFY, its result and staging (R611–R613, R625) -/

/-- The container in the inactive bank changes the management firmware. -/
def State.changesFirmware (s : State) : Bool := (partsOf s.download.rd s.download.format).any (fun p => p.type == 1)
/-- UPDATE_VERIFY is taken in RECEIVING, and in IDLE of a whole container left behind; not of new management firmware without a standby
pair. -/
def State.mayVerify (s : State) : Bool :=
  (s.upd.state == 1 || (s.upd.state == 0 && s.download.whole && s.download.left)) &&
    !((s.power.pair0 == 3 || s.power.pair1 == 3) && s.changesFirmware)
def checkUpdateVerify (s : State) (_ : Cmd) : Verdict :=
  firstOf [badState (!s.mayVerify) deviceId, s.badUpdate s.download.format]
/-- Verification starts. -/
def effUpdateVerify (c : Cmd) (s : State) : State :=
  s.unlessNow c (!s.mayVerify) <|
  let s1 := s.modCmd c.q c.seq (fun d => { d with phase := .committed })
  { s1 with upd := { s1.upd with state := 2, verifyCmd := some (c.q, c.seq), cancelPending := false } }
def execUpdateVerify (q seq : Nat) (s : State) : Out := opOut q (s.runOp 0x0D03 q seq effUpdateVerify)

/-- Pairs of management cores (14 R596). -/
def State.pairState (s : State) (p : Nat) : Nat := if p = 0 then s.power.pair0 else s.power.pair1
def State.setPair (s : State) (p v : Nat) : State :=
  if p = 0 then { s with power := { s.power with pair0 := v } } else { s with power := { s.power with pair1 := v } }
def State.pairIn (s : State) (v : Nat) : Option Nat := [0, 1].find? (fun p => s.pairState p = v)

/-- The SET_VERSION of the container in the inactive bank. -/
def State.downloadVersion (s : State) : Nat := setVersionOf s.download.rd s.download.format
/-- A download is discarded, with its record. -/
def State.discardDownload (s : State) : State :=
  s.modDownload (fun b => { b with data := [], erased := [], hasRecord := false, verified := false, valid := false, parts := [] })
/-- An update ends as cancelled: IDLE, LAST_RESULT 3, UPDATE_CANCELLED; a command that waited for it is aborted. `q` is the queue
of the command that the event concerns, 255 for none (02 R73). -/
def State.cancelUpdate (s : State) (q : Nat) : State :=
  let v := s.downloadVersion
  let ids := (s.upd.scheduleCmd.toList ++ s.upd.verifyCmd.toList)
  let s1 := { s with upd := { s.upd with
    state := 0, lastResult := 3, scheduleCmd := none, verifyCmd := none, a := none, stagedSet := none, phyStaged := false,
    cancelPending := false } }
  (ids.foldl (fun s id => s.completeId id 5 0) s1).raiseFor q 0x0B04 deviceId v 0

/-! ### UPDATE_SCHEDULE (R614, R615) -/

def checkUpdateSchedule (s : State) (c : Cmd) : Verdict :=
  let ahead := (c.u 0 4 + two32 - (s.tb 0).ns) % two32
  firstOf [
    badRange ([c.outside 4 2 10 600, c.outside 6 1 0 1] ++ c.zeros [(0, 4), (4, 2), (6, 1)] []),
    badState (s.upd.state != 4) deviceId, s.badTime 0 (c.u 0 4) (c.q != 15), verdict (ahead < 1000000) 0x0201 0,
    s.badUpdate s.download.format]
/-- The activation time stands as it was stored at acceptance (09 R406); the command completes at A. A follower that could not stage the set leaves the twin then (R626). -/
def effUpdateSchedule (c : Cmd) (s : State) : State :=
  let staged := s.upd.state == 4
  s.unlessNow c (!staged && !s.isFollower) <|
  { s with upd := { s.upd with
    state := if staged then 5 else s.upd.state, a := some c.pend, aAt := c.fireAt.toNat, window := c.u 4 2,
    hostConfirm := c.u 6 1 == 1, scheduleCmd := some (c.q, c.seq) } }
def execUpdateSchedule (q seq : Nat) (s : State) : Out := opOut q (s.runOp 0x0D04 q seq effUpdateSchedule)

/-! ### UPDATE_CONFIRM and confirmation (R606, R619, R629) -/

/-- The fuses that a confirmed set burns: the anti-rollback counter, and the slots that REVOKE_BELOW names. -/
def NonVol.burn (n : NonVol) (sec : Nat) (revoke : Option Nat) : NonVol :=
  { n with antiRollback := max n.antiRollback sec,
           revoked := (n.revoked ++ (List.range (revoke.getD 0))).dedup }
/-- KEY_SLOT of a bank's container with REVOKE_BELOW (R606). -/
def Bank.revokeBelow (b : Bank) : Option Nat := if b.format = 0 ∧ b.rd 18 % 2 = 1 then some (b.rd 6) else none
/-- The set is confirmed at the first instant from A to A + W at which every condition holds; the old pair then restarts with the new firmware.
`q` is the queue of the UPDATE_CONFIRM that completes the conditions, 255 for none (02 R73). -/
def State.tryConfirm (s : State) (q : Nat) : State :=
  let u := s.upd
  if u.state = 6 ∧ (s.tb 0).ext ≤ u.aAt + u.window * 1000000000 ∧ u.selfTestPassed ∧ u.startChecks ∧ (!u.hostConfirm || u.hostConfirmed) then
    let nv := (s.nv.writeMarker u.fwBank).burn u.fwSecVersion u.stagedRevoke
    let s1 := { s with nv := nv, upd := { u with
      state := 0, lastResult := 1, fwConfirmed := true, phyStaged := u.phyStaged, newPair := none } }
    let s2 := match s1.pairIn 1 with
      | some p => s1.setPair p 2
      | none => s1
    s2.raiseFor q 0x0B02 deviceId u.fwSetVersion 0
  else s
def checkUpdateConfirm (s : State) (_ : Cmd) : Verdict := badState (s.upd.state != 6) deviceId
def effUpdateConfirm (c : Cmd) (s : State) : State :=
  s.unlessNow c (s.upd.state != 6) <|
  (State.ok { s with upd := { s.upd with hostConfirmed := true } } c).tryConfirm c.q
def execUpdateConfirm (q seq : Nat) (s : State) : Out := opOut q (s.runOp 0x0D05 q seq effUpdateConfirm)

/-! ### UPDATE_CANCEL (R620, R621) -/

/-- A fallback is decided: B is 1 ms later. -/
def State.decideFallback (s : State) (cause : Nat) : State :=
  { s with upd := { s.upd with state := 7, fallbackAt := some (s.now + 1000000, cause) } }
def checkUpdateCancel (_ : State) (_ : Cmd) : Verdict := none
/-- The effect of UPDATE_CANCEL by update state. -/
def effUpdateCancel (c : Cmd) (s : State) : State :=
  let s1 := s.modCmd c.q c.seq (fun d => { d with phase := .committed })
  match s.upd.state with
  | 1 => ((s.cancelUpdate c.q).discardDownload).ok c
  | 2 => { s1 with upd := { s1.upd with cancelPending := true, cancelCmd := some (c.q, c.seq) } }
  | 3 | 4 | 5 =>
    let s2 := (s1.cancelUpdate c.q).discardDownload
    let s3 := match s2.pairIn 1 with
      | some p => s2.setPair p 2
      | none => s2
    { s3 with upd := { s3.upd with cancelCmd := some (c.q, c.seq) } }
  | 6 =>
    let s2 := s1.decideFallback 2
    { s2 with upd := { s2.upd with cancelCmd := some (c.q, c.seq) } }
  | _ => s.complete c 4 0
def execUpdateCancel (q seq : Nat) (s : State) : Out := opOut q (s.runOp 0x0D06 q seq effUpdateCancel)

/-! ### OWNER_LOCK (R615, R624) -/

/-- A lock is set already, or the token does not open the one that is. -/
def State.wrongLock (s : State) (c : Cmd) : Bool :=
  if c.u 0 1 = 0 then s.nv.ownerLock.isSome else s.nv.ownerLock != some (c.bytes 4 8)
def checkOwnerLock (s : State) (c : Cmd) : Verdict :=
  firstOf [
    badRange ([c.outside 0 1 0 1] ++ c.zeros [(0, 1), (4, 8)] []),
    verdict (s.wrongLock c) 0x0207 0]
/-- The lock is set or cleared; a scheduled activation is cancelled and the set stays STAGED. -/
def effOwnerLock (c : Cmd) (s : State) : State :=
  s.unlessNow c (s.wrongLock c) <|
  if c.u 0 1 = 0 then
    let s1 := { s with nv := { s.nv with ownerLock := some (c.bytes 4 8) } }
    if s.upd.state = 5 then
      let id := s.upd.scheduleCmd
      let s2 := { s1 with upd := { s1.upd with state := 4, a := none, scheduleCmd := none } }
      ((s2.completeOpt id 5 0).raiseFor c.q 0x0B04 deviceId s.downloadVersion 0).ok c
    else s1.ok c
  else State.ok { s with nv := { s.nv with ownerLock := none } } c
def execOwnerLock (q seq : Nat) (s : State) : Out := opOut q (s.runOp 0x0D07 q seq effOwnerLock)

/-! ### LIFECYCLE_ADVANCE, RETURN_AUTHORISE (R633–R636) -/

/-- Programs run, or an update is not IDLE. -/
def State.lifeBusy (s : State) : Bool := s.upd.state != 0 || (List.range 16).any (fun p => (s.prog p).running)
/-- *Life-cycle transitions* of LIFECYCLE_ADVANCE. -/
def NonVol.mayAdvance (n : NonVol) (target : Nat) : Bool :=
  (n.lifecycle == 0 && target == 1 && n.keysProgrammed) || (n.lifecycle == 1 && target == 2) || (n.lifecycle != 4 && target == 4)
def checkLifecycleAdvance (s : State) (c : Cmd) : Verdict :=
  let t := c.u 0 1
  firstOf [
    badRange ([(0, t != 1 && t != 2 && t != 4)] ++ c.zeros [(0, 1)] []),
    badState s.lifeBusy deviceId, verdict (t = 4 && s.nv.ownerLock.isSome) 0x0207 0,
    verdict (!s.nv.mayAdvance t) 0x020A s.upd.lifeState]
/-- The transition is burned and takes effect at the next cold start. -/
def effLifecycleAdvance (c : Cmd) (s : State) : State :=
  let t := c.u 0 1
  s.unlessNow c (checkLifecycleAdvance s c).isSome <|
  State.ok { s with
    nv := { s.nv with nextLife := t, keyKill := s.nv.keyKill || t == 4 },
    upd := { s.upd with lifeNext := t } } c
def execLifecycleAdvance (q seq : Nat) (s : State) : Out := opOut q (s.runOp 0x0D08 q seq effLifecycleAdvance)

/-- A return authorisation is genuine, bound to this device and to its RETURNS, and its transition is listed. -/
def State.authorised (s : State) (c : Cmd) : Bool :=
  let n (l : List Byte) : List Nat := l.map (fun b => b.toNat)
  c.u 4 8 == s.nv.uid && c.u 2 1 == s.nv.returns &&
    (if c.u 0 1 = 0 then s.nv.lifecycle == 2 else s.nv.lifecycle == 3 && s.nv.returns < 3) &&
    !s.nv.revoked.contains (c.u 1 1) && s.genuine (c.u 1 1) (n (c.bytes 12 96)) (n (c.bytes 108 96)) (n (c.bytes 0 12))
def checkReturnAuthorise (s : State) (c : Cmd) : Verdict :=
  firstOf [
    badRange ([c.outside 0 1 0 1, c.outside 1 1 0 3, c.outside 2 1 0 3] ++
      c.zeros [(0, 1), (1, 1), (2, 1), (4, 8), (12, 96), (108, 96)] []),
    badState s.lifeBusy deviceId, verdict (!s.authorised c) 0x020A s.upd.lifeState]
/-- ENTER erases the settings at the next cold start; REENTER counts in RETURNS. -/
def effReturnAuthorise (c : Cmd) (s : State) : State :=
  let t := if c.u 0 1 = 0 then 3 else 2
  s.unlessNow c (checkReturnAuthorise s c).isSome <|
  State.ok { s with
    nv := { s.nv with
      nextLife := t, eraseSettings := s.nv.eraseSettings || t == 3, returns := if t = 2 then s.nv.returns + 1 else s.nv.returns },
    upd := { s.upd with lifeNext := t } } c
def execReturnAuthorise (q seq : Nat) (s : State) : Out := opOut q (s.runOp 0x0D09 q seq effReturnAuthorise)

end Sys2Proof.Machine
end

