-- ==== Sys2Proof/Machine/TwinOps.lean ====
section
/-!
DEFINITION. The twin's opcodes (10, 17 *Twin*): TWIN_CONFIG, TWIN_ROLE, TWIN_STATUS, SPLICE; ACCEPT replies that wait for flash or
follower (02 R70, 10 R442, R443); what leaving the twin and losing the peer do on this device (R458–R460).
-/
set_option Elab.async false
namespace Sys2Proof.Machine

open Sys2Proof

/-! ### Aborted commands (02 R106) -/

/-- The next upload or load that waited behind a command begins. -/
def State.kickAfter (s : State) (t : Cmd) : State :=
  if t.opcode = 0x0303 then s.kickUpload t.layerIdx else if t.opcode = 0x0305 then s.kickLoad t.idx else s
/-- What an aborted command's end leaves: its outcome is noted and replied, and what waited behind it begins (R106). -/
def State.endAborted (s : State) (t : Cmd) : State := ((s.commitNote t 0 0 0 5 0).complete t 5 0).kickAfter t
/-- The target is aborted before its commit point (R106, R109). One whose ACCEPT still waits for a journal stays without effect until
that journal holds it, and is answered OK_ACCEPTED and OK_ABORTED then (R69, R70; log entry 130). -/
def State.abortCmd (s : State) (t : Cmd) : State :=
  if t.phase = .accepting then (s.undoCmd t).modCmd t.q t.seq (fun d => { d with aborted := true })
  else (s.undoCmd t).endAborted t

/-! ### ACCEPT replies that wait (02 R70) -/

/-- A command that goes to the flash journal: DURABLE, or OWNER_LOCK by nature (02 R103, 15 R624). -/
def Cmd.toFlash (c : Cmd) : Bool := c.durable || c.opcode == 0x0D07
/-- A lead whose follower has to journal replicated commands (R442). -/
def State.hasFollower (s : State) : Bool := s.isLead && !s.twin.peerLost
/-- The ACCEPT reply with OK_ACCEPTED is written once the command is in every journal it needs; the command may then start, or, aborted
in the meantime, ends. -/
def State.tryAccept (s : State) (q seq : Nat) : State :=
  match s.findCmd q seq with
  | none => s
  | some c =>
    if c.phase = .accepting ∧ (!c.toFlash || c.flashDone) ∧ (!(s.hasFollower && c.replicated) || c.twinAcked) then
      let s1 := (s.modCmd q seq (fun d => { d with phase := .accepted })).writeAccept c
      if c.aborted then s1.endAborted c else s1
    else s
/-- Every ACCEPT reply that waits is looked over. -/
def State.tryAccepts (s : State) : State := s.hif.cmds.foldl (fun s c => s.tryAccept c.q c.seq) s

/-! ### ABORT (02 R105–R109) -/

/-- An opcode that may carry QUIET has its commit point at its acceptance (R104). -/
def commitsAtAcceptance (code : Nat) : Bool := (opRow code).any (fun r => bit r.flags 3)
/-- R106, R107, R108. An ABORT that names itself names an ABORT (log entry 155). -/
def effAbort (c : Cmd) (s : State) : State :=
  let q := c.u 0 1
  let seq := c.u 4 4
  match s.findCmd q seq with
  | some t =>
    if t.opcode = 0x0010 then s.complete c 0x0202 deviceId
    else if t.phase = .committed ∨ commitsAtAcceptance t.opcode then s.complete c 4 0
    else (s.abortCmd t).ok c
  | none =>
    match (s.queue q).window.find? (fun e => e.seq = seq) with
    | some e => if e.opcode = 0x0010 then s.complete c 0x0202 deviceId else s.complete c 4 0
    | none => s.complete c 0x0201 4
def execAbort (q seq : Nat) (s : State) : Out := opOut q (s.runOp 0x0010 q seq effAbort)

/-! ### Muting of whole devices (R459, R460, R468) -/

/-- Every running program is muted from its next row; the cause is open for this kind of mute (log entry 5). -/
def State.muteAll (s : State) : State :=
  let (v, s1) := s.draw
  { s1 with progs := s1.progs.map (fun (e : Nat × Program) =>
      if (e.2.running || e.2.draining) && e.2.muted.isNone then (e.1, { e.2 with muted := some (v % 4), mutedFrom := 0 }) else e) }
/-- R459: programs muted here unmute at their next row; one in follow mode leaves it and starts its own GDR. -/
def State.unmuteAll (s : State) : State :=
  { s with progs := s.progs.map (fun (e : Nat × Program) =>
      let p := e.2
      if p.muted.isNone then (e.1, { p with peerMuted := none })
      else if p.follow then
        let first := p.pics.find? (fun y => !y.decided)
        (e.1, { p with
          muted := none, peerMuted := none, follow := false, splicedNow := none, followEnd := 0, records := [],
          refreshReq := if first.isNone then askRefresh p.refreshReq 1 else p.refreshReq,
          pics := p.pics.map (fun y => if first.any (fun z => z.f == y.f) then { y with req := askRefresh y.req 1 } else y) })
      else (e.1, { p with muted := none, peerMuted := none, splicedNow := none, followEnd := 0 })) }

/-! ### Data epochs (R446, R449) -/

/-- The data of a command is where it has to be: the command goes on. -/
def State.dataVerified (s : State) (b : EpochBuf) : State :=
  match s.hif.cmds.find? (fun c => c.replicated && c.pos == b.pos) with
  | none => s
  | some c =>
    if c.opcode = 0x0303 then s.uploadArrived c.layerIdx b.bytes
    else if c.opcode = 0x0305 then s.lampArrived c.idx b.entries
    else if c.opcode = 0x0D02 then s.beginWrite c
    else s
/-- Epochs in hand are abandoned; the commands of data epochs go on here alone (R450). -/
def State.abandonEpochs (s : State) : State :=
  let l := s.twin.sending
  (l.filter (fun b => b.kind = 1)).foldl (fun s b => s.dataVerified b)
    { s with twin := { s.twin with sending := [], joinApply := none } }

/-- A lead goes on without its follower (R443, R450, R458, R459). -/
def State.leadAlone (s : State) : State :=
  let id := s.twin.exchange
  let s1 := { s with twin := { s.twin with peerLost := true, exchange := none, unacked := [] } }
  let s2 := match id with
    | some (_, q, seq) => s1.completeId (q, seq) 0x0302 0
    | none => s1
  s2.unmuteAll.abandonEpochs.tryAccepts

/-! ### TWIN_CONFIG (R427, R428, R433) -/

def checkTwinConfig (s : State) (c : Cmd) : Verdict :=
  let v4 := c.u 14 1 = 4
  let ports := c.u 11 1
  let fields := [(0, 8), (8, 1), (9, 1), (10, 1), (11, 1), (12, 2), (14, 1)]
  let addr (o b : Nat) : List (Nat × Bool) :=
    [(o, (v4 && c.u (o + 4) 12 != 0) || (!(bit ports b) && c.u o 16 != 0))]
  firstOf [
    badRange ([c.outside 8 1 2 3, c.outside 9 1 0 1, c.outside 10 1 0 2, c.outside 11 1 1 3, c.outside 12 2 1 65535,
      (14, c.u 14 1 != 4 && c.u 14 1 != 6)] ++ addr 16 0 ++ addr 32 1 ++ c.zeros (fields ++ [(16, 16), (32, 16)]) []),
    badState (s.twin.role != 0) deviceId,
    if c.u 8 1 = 3 then
      ((List.range 16).find? (fun p => (s.prog p).running && (s.prog p).muted.isNone)).map (fun p => (0x0202, progId p))
    else none]
/-- FORMING: the YT braid runs its lock sequence at the rate asked for. -/
def effTwinConfig (c : Cmd) (s : State) : State :=
  let s1 := { s with twin := { s.twin with
    role := 1, peerUid := c.u 0 8, askRole := c.u 8 1, autoSplice := c.u 9 1 == 1, ytRate := c.u 10 1, mgPorts := c.u 11 1,
    udpPort := c.u 12 2, ipVer := c.u 14 1, peerMg0 := c.bytes 16 16, peerMg1 := c.bytes 32 16 } }
  let b := s1.braid 4
  (s1.modBraid 4 (fun x =>
    let y := if !b.enabled || b.rate != c.u 10 1 then x.restartLock s.now else x
    { y with enabled := true, rate := c.u 10 1 })).ok c
def execTwinConfig (q seq : Nat) (s : State) : Out := opOut q (s.runOp 0x0801 q seq effTwinConfig)

/-! ### TWIN_ROLE (R460) -/

/-- A ROLE message. -/
def State.sendRole (s : State) (term kind : Nat) : State := s.tetherSend 9 (leBytes 4 term ++ leBytes 1 kind)
/-- Some program is muted on either device. -/
def State.anyMuted (s : State) : Bool :=
  (List.range 16).any (fun p => (s.prog p).muted.isSome || (s.prog p).peerMuted.isSome)
def checkTwinRole (s : State) (c : Cmd) : Verdict :=
  let op := c.u 0 1
  let okState := match op with
    | 0 => s.hasFollower
    | 1 => s.isFollower && c.q == 15
    | _ => s.isLead || s.isFollower || (s.twin.role == 0 && (List.range 16).any (fun p => (s.prog p).muted.isSome))
  firstOf [
    badRange ([c.outside 0 1 0 2] ++ c.zeros [(0, 1)] []),
    badState (!okState) deviceId,
    verdict (op ≤ 1 && (s.anyMuted || !s.twin.sending.isEmpty || !s.twin.receiving.isEmpty || s.twin.joinIn.isSome || s.twin.exchange.isSome)) 0x0203 deviceId]

/-- SWAP is sent when every replicated command has its COMMIT_NOTE and the follower has journaled it (R460). -/
def State.trySwap (s : State) : State :=
  match s.twin.exchange with
  | some (1, q, seq) =>
    if s.hif.cmds.all (fun c => !c.replicated || (c.noted.isSome && c.twinAcked)) then
      ({ s with twin := { s.twin with exchange := some (3, q, seq) } }).sendRole (s.twin.term + 1) 1
    else s
  | _ => s

/-- The LEAVE effect: SINGLE, muted unless the peer is lost; a device that was SINGLE unmutes (R460). Commands that a follower holds
for its lead stay with the lead. -/
def State.leave (s : State) : State :=
  if s.twin.role = 0 then s.unmuteAll
  else
    let s1 := if s.twin.peerLost then s else (s.sendRole s.twin.term 5).muteAll
    let cmds := if s.isFollower then s1.hif.cmds.filter (fun c => !c.replicated) else s1.hif.cmds
    let s2 := { s1 with
      hif := { s1.hif with cmds := cmds },
      twin := { s1.twin with
        role := 0, peerLost := s1.twin.peerLost && !s1.twin.pathA.up && !s1.twin.pathB.up, unacked := [], held := [], notes := [],
        verified := [], receiving := [], joinIn := none },
      progs := s1.progs.map (fun (e : Nat × Program) => (e.1, { e.2 with peerMuted := none, follow := false, splicedNow := none, followEnd := 0, records := [] })) }
    s2.abandonEpochs.tryAccepts

def effTwinRole (c : Cmd) (s : State) : State :=
  let s1 := s.modCmd c.q c.seq (fun d => { d with phase := .committed })
  match c.u 0 1 with
  | 0 => ({ s1 with twin := { s1.twin with exchange := some (1, c.q, c.seq) } }).trySwap
  | 1 => ({ s1 with twin := { s1.twin with exchange := some (2, c.q, c.seq), takeAt := s.now } }).sendRole (s.twin.term + 1) 3
  | _ => s.leave.ok c s.twin.term
def execTwinRole (q seq : Nat) (s : State) : Out := opOut q (s.runOp 0x0802 q seq effTwinRole)

/-! ### TWIN_STATUS (R429, R469) -/

def checkTwinStatus (_ : State) (c : Cmd) : Verdict := badRange (c.buf 0 128)
/-- The same active image set on both (15 R628): SET_VERSION and SEC_VERSION of FW_SET, and neither bank, CONFIRMED nor LEGACY. -/
def sameImageSet (a b : Nat) : Bool := a / 1024 == b / 1024
/-- The conditions of R429 in their order: number and whether it fails. -/
def State.formingConditions (s : State) : List (Nat × Bool) :=
  let t := s.tb 0
  let y := s.twin.peer
  let lead := s.twin.askRole == 2 || s.isLead
  let bad := (List.range 16).any (fun p => (s.prog p).running &&
    (s.prog p).cfg.any (fun g => g.options % 2 == 0 && g.sliceMode == 0))
  [(1, s.twin.peerUid != s.twin.peerSeenUid || y.names != s.nv.uid), (2, y.ask != if lead then 3 else 2), (3, !s.twin.pathA.up),
   (4, y.part != s.devIdReg / 65536 || y.stepping != s.steppingReg || !sameImageSet y.fwSet s.fwSetReg),
   (5, !(t.mode == 1 && t.state == 3 && y.tbMode == 1 && y.tbState == 3 && y.domain == t.domain)),
   (6, if lead then bad else !y.rows)]
/-- The first failing condition while FORMING; 0 when none fails, or in another state. -/
def State.formingFailure (s : State) : Nat :=
  if s.twin.role ≠ 1 then 0 else ((s.formingConditions.find? (fun e => e.2)).map Prod.fst).getD 0
/-- Refresh in TWIN_STATUS: 0 none, 1 IDR, 2 GDR, 3 twin refresh. One that is in coding, or goes on, comes before one that is asked for. -/
def Program.refreshState (p : Program) : Nat :=
  let ofSweep (e : Nat × Nat × Bool) : Nat := if e.2.2 then 3 else 2
  let asked (r : Nat) : Nat := match r with | 1 => 2 | 2 => 1 | 3 => 3 | _ => 0
  let coding := p.pics.filterMap (fun y => if y.kind = 2 ∧ y.n ≠ 0 then some 1 else y.sweep.map ofSweep)
  let wanted := (p.pics.filter (fun y => !y.decided)).map (fun y => asked y.req) ++ [asked p.refreshReq]
  ((coding ++ (p.sweep.map ofSweep).toList ++ wanted.filter (fun n => n != 0)).head?).getD 0
/-- Four bytes of the record of a program. -/
def State.twinProgram (s : State) (n : Nat) : Nat :=
  let p := s.prog n
  let who := if p.muted.isSome then 1 else if p.peerMuted.isSome then 2 else 0
  let cause := (p.muted.orElse (fun _ => p.peerMuted)).getD 0
  who + 4 * (cause % 4) + 16 * b2n p.follow + 32 * p.refreshState
def State.twinRecord (s : State) (failing : Nat) : List Byte :=
  leBytes 4 s.twinRoleReg ++ leBytes 4 s.twin.term ++ leBytes 8 s.twin.peerUid ++ leBytes 4 (wrapInt 32 s.twin.tbDiff) ++
  leBytes 4 s.twin.lastEpoch ++ leBytes 1 failing ++ leBytes 3 0 ++ leBytes 4 s.twin.pathA.losses ++ leBytes 4 s.twin.pathB.losses ++
  (List.range 7).flatMap (fun i => leBytes 4 (s.twin.counters.get 0 i)) ++
  (List.range 16).flatMap (fun n => leBytes 4 (s.twinProgram n))
def effTwinStatus (c : Cmd) (s : State) : State :=
  (s.writeBuf c (c.u 0 8) (s.twinRecord s.formingFailure)).ok c 128
def execTwinStatus (q seq : Nat) (s : State) : Out := opOut q (s.runOp 0x0803 q seq effTwinStatus)

/-! ### SPLICE (R465) -/

def checkSplice (s : State) (c : Cmd) : Verdict :=
  let p := s.prog c.idx
  badState (p.muted.isNone && p.peerMuted.isNone) c.object
/-- R464 is allowed; the launching device starts a twin refresh when the program is muted for disagreement or FAULT. -/
def effSplice (c : Cmd) (s : State) : State :=
  let s1 := s.modProg c.idx (fun p => { p with spliceOk := true })
  let s2 := if (s.prog c.idx).peerMuted.any (fun m => m ≤ 1) then s1.askTwinRefresh c.idx else s1
  s2.ok c
def execSplice (q seq : Nat) (s : State) : Out := opOut q (s.runOp 0x0804 q seq effSplice)

end Sys2Proof.Machine
end

