-- ==== Sys2Proof/Machine/UpdateEvents.lean ====
section
/-!
DEFINITION. Events of field update (15): verification, staging, activation, the confirm window, fallback, and the end of flash
writes; commands that a change of management firmware re-runs (02 R111).
-/
set_option Elab.async false
namespace Sys2Proof.Machine

open Sys2Proof

/-! ### Commands across a restart of the management firmware (02 R111, 14 R592) -/

/-- A transfer from host memory that has not passed its commit point; everything else that has started is armed in hardware, or has
passed it. -/
def Cmd.rerun (c : Cmd) : Bool :=
  c.phase == .started && !c.armed && (c.opcode == 0x0303 || c.opcode == 0x0305)
/-- Such commands are re-run from the journal, in acceptance order: they start again. -/
def State.rerun (s : State) : State :=
  let again (id : Option (Nat × Nat)) : Bool := (id.bind (fun i => s.findCmd i.1 i.2)).any Cmd.rerun
  { s with
    hif := { s.hif with cmds := s.hif.cmds.map (fun c =>
      if c.rerun then { c with phase := .accepted, again := true } else if c.waitingToStart then { c with again := true } else c) },
    comp := { s.comp with
      layers := s.comp.layers.map (fun (e : Nat × Layer) =>
        (e.1, if again e.2.uploading then { e.2 with uploading := none } else e.2)),
      canopies := s.comp.canopies.map (fun (e : Nat × Canopy) =>
        (e.1, if again e.2.loading then { e.2 with loading := none } else e.2)) } }

/-! ### VERIFICATION_RESULT, STAGING_COMPLETE (R611, R612, R621, R626) -/

/-- The container is verified: its record is written, and staging restarts the standby pair with the new firmware. -/
def State.beginStaging (s : State) : State :=
  let b := s.download
  let f := b.rd
  let s1 := s.modDownload (fun b => { b with
    verified := true, valid := true, setVersion := setVersionOf f b.format, secVersion := secVersionOf f b.format,
    parts := fullSet (partRecords f b.format) (s.nv.bank s.nv.activeBank).parts })
  let s2 := { s1 with upd := { s1.upd with
    state := 3, stagedSet := some (setVersionOf f b.format, secVersionOf f b.format), stagedLegacy := b.format == 1,
    stagedRevoke := b.revokeBelow } }
  match s2.pairIn 1 with
  | some p => s2.setPair p 2
  | none => s2

/-- The checks of *Verification codes* end; an UPDATE_CANCEL taken meanwhile stops them. `readBackOk`: each stored part reads back
with its CRC-64/XZ (code 4). -/
def execVerificationResult (readBackOk : Bool) (s : State) : Out :=
  need true <|
    if s.upd.state ≠ 2 then s
    else if s.upd.cancelPending then
      let id := s.upd.cancelCmd
      let s1 := (s.cancelUpdate ((id.map Prod.fst).getD 255)).discardDownload
      ({ s1 with upd := { s1.upd with cancelCmd := none } }).completeOpt id 2 0
    else
      let b := s.download
      let code := s.verifyCode b.rd b.format b.total b.whole readBackOk false
      if code = 0 then s.beginStaging
      else
        let id := s.upd.verifyCmd
        let s1 := { s with upd := { s.upd with state := 0, lastResult := 4, code := code, verifyCmd := none } }
        s1.failOpt id 0x0303 code

/-- A pair that restarts, other than one under self-test. -/
def State.restartingPair (s : State) : Option Nat := [0, 1].find? (fun p => s.pairState p = 2 && s.power.pairTest != some p)
/-- The pair that restarts is standby. -/
def State.pairBack (s : State) : State :=
  match s.restartingPair with
  | some p => s.setPair p 1
  | none => s

def execStagingComplete (s : State) : Out :=
  need true <|
    if s.upd.state = 3 then
      let id := s.upd.verifyCmd
      ({ s.pairBack with upd := { s.upd with state := 4, verifyCmd := none, phyStaged := true } }).completeOpt id 2 0
    else s

/-! ### ACTIVATION (R616, R617, R626) -/

/-- Canopies that run. -/
def State.runningCanopies (s : State) : List Nat := (List.range 16).filter (fun k => (s.canopy k).running)
/-- Command authority passes to the standby pair. -/
def State.swapPairs (s : State) : State :=
  match s.pairIn 0, s.pairIn 1 with
  | some a, some b => (s.setPair a 1).setPair b 0
  | _, _ => s
/-- TB0 reaches A. A follower that could not stage the set leaves the twin instead (R626). -/
def execActivation (s : State) : Out :=
  need true <|
    if s.upd.a.isNone then s
    else
      let s0 := s.reach s.upd.aAt
      let id := s.upd.scheduleCmd
      if s0.upd.state = 5 then
        let new := s0.pairIn 1
        let (v, sec) := s0.upd.stagedSet.getD (0, 0)
        let s1 := s0.swapPairs.rerun
        let s2 := { s1 with upd := { s1.upd with
          state := 6, a := none, scheduleCmd := none, fwSetVersion := v, fwSecVersion := sec, fwConfirmed := false,
          fwBank := s.inactive, fwLegacy := s.upd.stagedLegacy, selfTestPassed := false, startChecks := false,
          hostConfirmed := false, newPair := new, slot := 1 - s.upd.slot, switching := s0.runningCanopies } }
        (s2.completeOpt id 2 0).raise 0x0B01 deviceId v (s.upd.aAt % two32)
      else
        let s1 := { s0 with upd := { s0.upd with a := none, scheduleCmd := none } }
        (s1.completeOpt id 2 0).leave

/-! ### The confirm window (R618–R620, R627) -/

/-- Units of one class among those that failed. -/
def failedOf (l : List Nat) (cls : Nat) : Nat := (l.filter (fun u => u / 65536 = cls)).length
/-- The self-test ends: units that failed are faulty; two of one class fail the set. -/
def execSelfTestResult (failed : List Nat) (s : State) : Out :=
  need (failed.all isUnit) <|
    if s.upd.state ≠ 6 then s
    else
      let l := failed.dedup
      let s1 := l.foldl (fun s u => if (s.unit u).state = 2 then s else s.unitFault u 0) s
      if [0, 1, 2].any (fun k => 2 ≤ failedOf l k) then s1.decideFallback 0
      else ({ s1 with upd := { s1.upd with selfTestPassed := true } }).tryConfirm 255

def execStartChecksComplete (s : State) : Out :=
  need true <| if s.upd.state = 6 then ({ s with upd := { s.upd with startChecks := true } }).tryConfirm 255 else s

/-- A + W passes without confirmation. -/
def execConfirmWindowExpiry (s : State) : Out :=
  need true <|
    if s.upd.state = 6 then (s.reach (s.upd.aAt + s.upd.window * 1000000000)).decideFallback 1 else s

/-- Every part returns to the last confirmed set: the old pair has authority, units switch back at each canopy's first clearing, shadow
copies are discarded. -/
def State.fallBack (s : State) (cause : Nat) : State :=
  let v := s.upd.fwSetVersion
  let bank := s.nv.activeBank
  let b := s.nv.bank bank
  let s1 : State := match s.upd.newPair with
    | some p => if s.pairState p = 0 ∧ s.pairState (1 - p) = 1 then s.swapPairs else s
    | none => s
  let back := s.runningCanopies.filter (fun k => !s.upd.switching.contains k)
  let s2 : State := { s1.rerun with upd := { s1.upd with
    state := 0, lastResult := 2, fallbackAt := none, newPair := none, phyStaged := false, slot := 1 - s.upd.slot, switching := back,
    fwBank := bank, fwSetVersion := b.setVersion, fwSecVersion := b.secVersion, fwConfirmed := true, fwLegacy := b.format == 1,
    stagedSet := none, phy := s.upd.phy.filter (fun e => e.2 != v) } }
  let s3 : State := s2.raise 0x0B03 deviceId v cause
  if s3.isLead ∨ s3.isFollower then s3.leave else s3

/-- The fallback instant B. -/
def execFallbackInstant (s : State) : Out :=
  need true <|
    match s.upd.fallbackAt with
    | none => s
    | some (b, cause) =>
      let id := s.upd.cancelCmd
      let s1 := (s.reach b).fallBack cause
      ({ s1 with upd := { s1.upd with cancelCmd := none } }).completeOpt id 2 0

/-- The old pair runs the confirmed firmware as standby. -/
def execOldPairRestartDone (s : State) : Out :=
  need true <| if s.upd.state = 0 ∧ s.upd.lastResult = 1 then s.pairBack else s

/-- After UPDATE_CANCEL the standby pair and the second slots hold the active set again (R621). -/
def execStandbyPairRestored (s : State) : Out :=
  need true <|
    match s.upd.cancelCmd with
    | none => s
    | some id =>
      if s.upd.state = 0 then ({ s.pairBack with upd := { s.upd with cancelCmd := none } }).completeId id 2 0 else s

/-! ### FLASH_WRITE_END (R610, 17 R663, R668) -/

/-- The settings record of DEVICE_CONFIG (1) or POWER_BUDGET (2) is written. -/
def NonVol.settle (n : NonVol) (kind : Nat) (c : Cmd) : NonVol :=
  if kind = 1 then
    { n with splits := [c.u 0 1, c.u 1 1, c.u 2 1, c.u 3 1], fill := if c.u 4 1 = 1 then some (c.u 8 8) else n.fill }
  else { n with limit := some (c.u 0 2), throttle := some (c.u 2 1), vinUpdateMin := some (c.u 4 2) }

/-- The oldest flash write in hand ends after its read-back: UPDATE_DATA first, once a twin's follower has its bytes. A read-back that
differs counts for hand-off 12, and the write is repeated (12 *Chain of overlapping checks*). -/
def execFlashWriteEnd (readBackOk : Bool) (s : State) : Out :=
  need true <|
    match (s.upd.dataCmd.bind (fun id => s.findCmd id.1 id.2)).filter (fun c => c.phase == .committed), s.power.cfgWrites with
    | some c, _ =>
      if readBackOk then ({ s with upd := { s.upd with dataCmd := none } }).endUpdateData c else s.chainFail 12
    | none, (kind, q, seq) :: rest =>
     if !readBackOk then s.chainFail 12 else
      let s1 := { s with power := { s.power with cfgWrites := rest } }
      match s1.findCmd q seq with
      | none => s1
      | some c =>
        let s2 := s1.unpermit (fun p => p.code = 4 && p.pos = c.pos)
        State.ok { s2 with nv := s2.nv.settle kind c } c
    | none, [] => s

/-! ### REC_GO (R631, R632) -/

/-- A write of REC_CTRL: a recovery starts; GO is ignored unless the device stands in BOOT_FAIL. -/
def State.writeRecCtrl (s : State) (v : Nat) : State :=
  if bit v 0 ∧ s.power.bootStage = 7 ∧ !s.upd.recBusy ∧ (s.nv.lifecycle = 1 ∨ s.nv.lifecycle = 2 ∨ s.nv.lifecycle = 3) then
    { s with upd := { s.upd with recBusy := true, recCode := 0 } }
  else s
def execRecGo (value : Nat) (s : State) : Out := need (value < two32) (s.writeRecCtrl value)

end Sys2Proof.Machine
end

