-- ==== Sys2Proof/Machine/PowerOps.lean ====
section
/-!
DEFINITION. Power, clocks and resets (14): the opcodes WARM_RESET and 0x0C01–0x0C04, the operation of each reset kind, faults of
management core pairs, the permit retries of automatic operations.
-/
set_option Elab.async false
namespace Sys2Proof.Machine

open Sys2Proof

/-! ### Cold start (R569, R591) -/

/-- THERM_N (R575): emitted when its level changes. -/
def State.thermPin (s : State) (low was : Bool) : State := if low = was then s else s.emit (.pin 1 (!low))
/-- DRAM repair stores and retirement state survive a cold start. -/
def State.keptChannels (s : State) : Tab Channel :=
  ((stackChannels 0 ++ stackChannels 1).filter (fun ch => s.nv.retired.contains ch || (s.nv.repairs.find ch).isSome)).map
    (fun ch => (ch, { retired := s.nv.retired.contains ch, repairs := s.nv.repairs.get [] ch }))
/-- A cold start: everything takes its reset value but flash, fuses, repair stores, retirement and what is measured at the pins
(log entry 57); `held` says what the device waits for before start-up. -/
def State.coldStart (s : State) (cause held : Nat) : State :=
  let s1 := (s.setAlert 0 0).thermPin false s.power.causeThermal
  let p : Power := { rstCause := cause, held := held, resetN := s.power.resetN, vinAt := s.power.vinAt, tjAt := s.power.tjAt }
  let m : Mem := { channels := s.keptChannels }
  let h : Hif := { perstHigh := s.hif.perstHigh }
  let confirmed := s.upd.state == 0 && s.upd.lastResult == 1 && s.restartingPair.isSome
  let n : NonVol := { s.nv.leaveBehind with updAtLoss := if confirmed then 8 else s.upd.state }
  { hif := h, power := p, mem := m, nv := n, out := s1.out, free := s.free, pending := s.pending }

/-! ### Warm reset (R592–R594, 15 R613) -/

/-- A warm reset starts; `cause` is the WARM_CAUSE code, when the register names it. An update that is staging, staged or scheduled is
cancelled, one in its confirm window falls back. -/
def State.startWarm (s : State) (cause : Option Nat) : State :=
  if !s.power.ready ∨ s.power.warm then s
  else
    let w := s.power
    let restart (v : Nat) : Nat := if v = 3 then 3 else 2
    let s1 := { s with power := { w with
      warm := true, warmCause := cause.getD w.warmCause, warmCount := min 63 (w.warmCount + 1), pairTest := none } }
    let s2 :=
      if 3 ≤ s.upd.state ∧ s.upd.state ≤ 5 then ({ s1 with nv := s1.nv.leaveBehind }).cancelUpdate 255
      else if s.upd.state = 6 then s1.fallBack 4
      else s1
    { s2 with power := { s2.power with pair0 := restart w.pair0, pair1 := restart w.pair1 } }

def checkWarmReset (s : State) (_ : Cmd) : Verdict := badState (s.formed || !s.power.ready) deviceId
/-- WARM_RESET passes its commit point when the reset starts (R593). -/
def effWarmReset (c : Cmd) (s : State) : State :=
  let s1 := s.modCmd c.q c.seq (fun d => { d with phase := .committed })
  ({ s1 with power := { s1.power with warmCmd := some (c.q, c.seq) } }).startWarm (some 2)
def execWarmReset (q seq : Nat) (s : State) : Out := opOut q (s.runOp 0x0004 q seq effWarmReset)

/-- WARM_N low for 10 µs (R594). -/
def execWarmNAssert (s : State) : Out := need true (s.startWarm (some 1))

/-- Both pairs run again: pair 0 has authority unless it is retired. -/
def Power.pairsRun (p : Power) : Power :=
  if p.pair0 = 3 then { p with pair1 := 0 } else { p with pair0 := 0, pair1 := if p.pair1 = 3 then 3 else 1 }
/-- Held replies of every queue are written. -/
def State.flushAll (s : State) : State := (List.range 16).foldl (fun s q => s.flushHeld q) s
/-- The warm reset ends (R593): staged events are written, commands settled, held replies written, and WARM_RESET completes. -/
def execWarmResetEnd (s : State) : Out :=
  need true <|
    if s.power.warm then
      let staged := s.hif.evStaged
      let id := s.power.warmCmd
      let s1 := { s with power := { s.power.pairsRun with warm := false, warmCmd := none }, hif := { s.hif with evStaged := [] } }
      ((staged.foldl State.writeEvent s1.rerun).flushAll).completeOpt id 2 0
    else s

/-! ### Management core pairs (R596, R597, 15 R612, R613, R618) -/

/-- The unit object of a pair's first core. -/
def pairId (p : Nat) : Nat := unitId (196608 + 2 * p)
/-- A pair is frozen, reset and put under self-test. -/
def State.freezePair (s : State) (p cause : Nat) : State :=
  let s1 := s.setPair p 2
  ({ s1 with power := { s1.power with pairTest := some p } }).raise 0x010A (pairId p) p cause
/-- A fault of the active pair: the standby takes command authority; while an update is staged the device takes a warm reset; in the
confirm window the set fails; with no standby the device takes a cold start. -/
def State.pairFault (s : State) (cause : Nat) : State :=
  match s.pairIn 0 with
  | none => s
  | some p =>
    if 3 ≤ s.upd.state ∧ s.upd.state ≤ 5 then (s.raise 0x010A (pairId p) p cause).startWarm none
    else if s.pairState (1 - p) = 1 then
      let s1 := ((s.freezePair p cause).setPair (1 - p) 0).rerun
      if s.upd.state = 6 then s1.decideFallback 0 else s1
    else s.coldStart 6 0
def execMcPairFault (cause : Nat) (s : State) : Out :=
  need (cause < 2) <| if s.power.warm ∨ s.power.held ≠ 0 ∨ s.power.bootStage < 4 then s else s.pairFault cause

def execPairSelfTestDone (passed : Bool) (s : State) : Out :=
  need true <|
    match s.power.pairTest with
    | none => s
    | some p =>
      let s1 := { s with power := { s.power with pairTest := none } }
      if passed then (s1.setPair p 1).raise 0x010B (pairId p) p 0
      else ((s1.setPair p 3).raise 0x010C (pairId p) p 0).alertBit 5

/-! ### SRAM errors (11 R505, R506) -/

/-- A parity error of an SRAM that holds copies: the data is fetched again; a second one on the same access is a unit fault. -/
def execSramParityError (unit : Nat) (second : Bool) (s : State) : Out :=
  need (isUnit unit) <|
    let s1 := s.chainFail 5
    if second ∧ (s.unit unit).state ≠ 2 then s1.unitFault unit 0 else s1

/-- The dispatcher restarts (05 R254). -/
def State.restartDispatcher (s : State) : State :=
  if s.disp.restarting then s
  else { s with disp := { s.disp with restarting := true, restartEnd := s.now + 12000, gathered := [] } }
/-- An error of an SRAM that holds the only copy of accepted work: up to 2 bits are corrected and written back; more are posted, and
the owner (a unit, a management core, else the dispatcher) takes an internal fault. -/
def execSramEccError (sram unit errors : Nat) (s : State) : Out :=
  need (decide (sram < two32)) <|
    if errors ≤ 2 then s
    else
      let h := Config.sramHandOff sram
      let s0 := if 10 ≤ h ∧ h ≤ 12 then s.chainFail h else s
      let s1 := (s0.raise 0x0808 deviceId sram 0xFFFFFFFF).alertBit 4
      if isUnit unit then (if (s.unit unit).state = 2 then s1 else s1.unitFault unit 0)
      else if 196608 ≤ unit ∧ unit < 196612 then
        let p := (unit - 196608) / 2
        if s1.pairState p = 0 then s1.pairFault 1
        else if s1.pairState p = 1 then s1.freezePair p 1
        else s1
      else s1.restartDispatcher

/-! ### POWER_BUDGET, PERMIT_STATUS, AVS_BOUNDS, CLOCK_STATUS -/

/-- Junction maximum of the grade (R573). -/
def State.gradeMax (s : State) : Nat := if s.nv.grade = 1 then 105 else 100
def checkPowerBudget (s : State) (c : Cmd) : Verdict :=
  firstOf [
    badRange ([c.outside 0 2 10 520, c.outside 2 1 60 s.gradeMax,
      (4, c.u 4 2 < 2600 || c.u 4 2 > 5000 || c.u 4 2 % 10 != 0)] ++ c.zeros [(0, 2), (2, 1), (4, 2)] []),
    s.badPermit [flashPermit deviceId c.pos]]
def acceptPowerBudget (c : Cmd) (s : State) : State := s.grant [flashPermit deviceId c.pos]
/-- The values stand from now on; the command completes when flash holds them (17 R668). -/
def effPowerBudget (c : Cmd) (s : State) : State :=
  let s1 := s.modCmd c.q c.seq (fun d => { d with phase := .committed })
  { s1 with power := { s1.power with
    limit := c.u 0 2, threshold := c.u 2 1, vinUpdateMin := c.u 4 2,
    cfgWrites := s1.power.cfgWrites ++ [(2, c.q, c.seq)] } }
def execPowerBudget (q seq : Nat) (s : State) : Out := opOut q (s.runOp 0x0C01 q seq effPowerBudget)

def checkPermitStatus (_ : State) (c : Cmd) : Verdict := badRange (c.buf 0 40)
/-- Outstanding amount of a permit code. -/
def State.outstandingOf (s : State) (code : Nat) : Nat := ((s.power.permits.filter (fun p => p.code = code)).map Permit.amount).sum
def State.permitRecord (s : State) : List Byte :=
  leBytes 2 s.budget ++ leBytes 2 s.power.measured ++ leBytes 2 s.outstanding ++ leBytes 2 0 ++
  (List.range 7).flatMap (fun i => leBytes 2 (s.outstandingOf (i + 1)) ++ leBytes 2 (s.power.refusals.get 0 (i + 1))) ++ leBytes 4 0
def effPermitStatus (c : Cmd) (s : State) : State := (s.writeBuf c (c.u 0 8) s.permitRecord).ok c 40
def execPermitStatus (q seq : Nat) (s : State) : Out := opOut q (s.runOp 0x0C02 q seq effPermitStatus)

/-- R586. -/
def checkAvsBounds (_ : State) (c : Cmd) : Verdict :=
  let r := c.u 0 1
  let v := Config.vFuse r
  badRange ([c.outside 0 1 0 4, (2, c.u 2 2 < 600 || (r ≤ 4 && v < c.u 2 2) || c.u 2 2 % 5 != 0),
    (4, c.u 4 2 > 950 || (r ≤ 4 && c.u 4 2 < v) || c.u 4 2 % 5 != 0)] ++ c.zeros [(0, 1), (2, 2), (4, 2)] [])
def effAvsBounds (c : Cmd) (s : State) : State :=
  State.ok { s with power := { s.power with avsBounds := s.power.avsBounds.set (c.u 0 1) (c.u 2 2, c.u 4 2) } } c
def execAvsBounds (q seq : Nat) (s : State) : Out := opOut q (s.runOp 0x0C03 q seq effAvsBounds)

def checkClockStatus (_ : State) (c : Cmd) : Verdict := badRange (c.buf 0 512)
/-- The link of an MP lane is up. -/
def State.laneUp (s : State) (lane : Nat) : Bool :=
  let port := lane / 4
  let sub := match s.egress.splits.getD port 0 with | 0 => 0 | 1 => lane % 4 / 2 | _ => lane % 4
  (s.subPort port sub).linkUp
/-- *Clock domains*: running and locked. -/
def State.clockBits (s : State) (d : Nat) : Bool × Bool :=
  let root := (s.clocked, s.power.pllLocked)
  if d ≤ 6 then root
  else if d ≤ 22 then (s.laneUp (d - 7), s.laneUp (d - 7))
  else if d ≤ 26 then root
  else if d ≤ 30 then ((s.braid (d - 27)).enabled && !(s.braid (d - 27)).clockLost, (s.braid (d - 27)).locked)
  else if d = 31 then ((s.braid 4).enabled && !(s.braid 4).clockLost, (s.braid 4).locked)
  else if d ≤ 36 then root
  else if d ≤ 40 then ((s.tb (d - 37)).state != 0 && s.clocked, s.power.pllLocked)
  else if d ≤ 48 then ((s.audioIn (d - 41)).enabled, (s.audioIn (d - 41)).enabled && !(s.audioIn (d - 41)).lost)
  else if d ≤ 52 then ((s.audioPort (d - 41)).enabled && s.audio.clkRunning, s.power.pllLocked)
  else if d ≤ 54 then (s.audio.clkRunning, s.audio.clkState == 2)
  else if d = 55 then (s.audio.clkRunning && [16, 17, 18, 19].any (fun i => (s.audioPort i).enabled), s.audio.clkState == 2)
  else if d = 56 ∨ d = 60 then root
  else if d = 57 then (false, false)
  else if d ≤ 61 then (true, true)
  else (s.nv.lifecycle == 0 && s.clocked, s.power.pllLocked)
/-- kHz of a domain that divides or multiplies the root PLL, measured against it (*Clock domains*; a throttle step slows the pixel engines
and the grove, R574; log entry 178). -/
def State.rootKhz (s : State) (d : Nat) : Option Nat :=
  let slowed (khz : Nat) : Nat := khz * (16 - s.power.step) / 16
  if d = 0 then some 1200000
  else if d = 1 then some (slowed 1600000)
  else if d = 2 then some (slowed 960000)
  else if d = 3 ∨ (37 ≤ d ∧ d ≤ 40) then some 800000
  else if d = 4 then some 400000
  else if d = 5 ∨ d = 6 then some (([3200000, 2400000, 1600000] : List Nat).getD (s.mem.rates.getD (d - 5) 0) 0)
  else if d = 33 then some 100000
  else if d = 34 then some 1000000
  else if d = 56 then some 200000
  else if d = 60 then some 300000
  else none
/-- Other frequencies are measurements, and open (log entry 5); a domain that does not run measures 0. -/
def State.clockRecord (s : State) (v : Nat) : List Byte :=
  (List.range 64).flatMap (fun d =>
    let (run, lock) := s.clockBits d
    leBytes 4 (if run then (s.rootKhz d).getD (Config.clockKhz d v % two32) else 0) ++ leBytes 1 (b2n run + 2 * b2n (run && lock)) ++ leBytes 3 0)
def effClockStatus (c : Cmd) (s : State) : State :=
  let (v, s1) := s.draw
  (s1.writeBuf c (c.u 0 8) (s.clockRecord v)).ok c 512
def execClockStatus (q seq : Nat) (s : State) : Out := opOut q (s.runOp 0x0C04 q seq effClockStatus)

/-! ### Automatic operations and their permits (R580, R582) -/

/-- A lane-recalibration permit. -/
def lanePermit (lane : Nat) : Permit := { code := 5, amount := 5, holder := lane, pos := 0 }
/-- A lane's recalibration asks for its permit, and runs or waits. -/
def State.recalibrate (s : State) (lane : Nat) : State :=
  if s.power.recal.contains lane then s
  else
    let rest := s.power.recalWaiting.filter (fun l => l != lane)
    match s.permitRefusal [lanePermit lane] with
    | none =>
      let s1 := s.grant [lanePermit lane]
      { s1 with power := { s1.power with recal := s.power.recal ++ [lane], recalWaiting := rest } }
    | some d =>
      let s1 := s.countRefusal (d % 256)
      { s1 with power := { s1.power with recalWaiting := rest ++ [lane] } }
def execLaneRecalibration (lane : Nat) (s : State) : Out := need (isLane lane) (s.recalibrate lane)
def execLaneRecalibrationEnd (lane : Nat) (s : State) : Out :=
  need (isLane lane) <|
    let s1 := (s.unpermit (fun p => p.code = 5 && p.holder = lane)).takePhy lane
    { s1 with power := { s1.power with recal := s.power.recal.filter (fun l => l != lane) } }

/-- Compaction frees the records that have nothing to re-execute, under its permit (02 R103; log entry 59). -/
def State.compact (s : State) : State :=
  match s.permitRefusal [flashPermit deviceId 0] with
  | none => { s with nv := { s.nv with flash := s.nv.flash.filter (fun r => !r.done) }, power := { s.power with compactWaiting := false } }
  | some d =>
    let s1 := s.countRefusal (d % 256)
    { s1 with power := { s1.power with compactWaiting := true } }
def execJournalCompaction (s : State) : Out :=
  need true <| if s.nv.flash.any FlashRec.done ∧ s.power.ready then s.compact else s

/-- An automatic operation asks again 1 ms after its refusal. -/
def execPermitRetry (code holder : Nat) (s : State) : Out :=
  need true <|
    match code with
    | 2 => if (s.channel holder).waitPermit then s.autoRetrain holder else s
    | 3 => if s.mem.copyWait.contains holder then s.startCopy holder else s
    | 4 => if s.power.compactWaiting then s.compact else s
    | 5 => if s.power.recalWaiting.contains holder then s.recalibrate holder else s
    | _ => s

end Sys2Proof.Machine
end

