-- ==== Sys2Proof/Machine/PowerEvents.lean ====
section
/-!
DEFINITION. Events of the supply, resets, PCI Express, clocks, throttling, voltage scaling, start-up, recovery, SMBus and JTAG (14;
15 R631–R637).
-/
set_option Elab.async false
namespace Sys2Proof.Machine

open Sys2Proof

/-- A reading of VIN or IIN brings a new mean of their product over the same millisecond, which is not the product of the means (R579): it
is open (log entry 5). -/
def State.measure (s : State) : State :=
  let (v, s1) := s.draw
  { s1 with power := { s1.power with measured := v % 65536 } }

/-! ### VIN (R569) -/

/-- The device may leave reset: VIN has been in range, and after a thermal trip the junction is at 95 °C or below (R577). -/
def execPowerOnRelease (vin : Nat) (s : State) : Out :=
  need (vin < 65536) <|
    if (s.power.held = 1 ∨ (s.power.held = 3 ∧ s.power.tjAt ≤ 95 * 16)) ∧ 2400 ≤ vin ∧ vin ≤ 5600 then
      State.measure { s with power := { s.power with vin := vin, vinAt := vin, held := if s.power.resetN then 0 else 2 } }
    else s
def execVinLow (vin : Nat) (s : State) : Out :=
  need (vin < 65536) <|
    if vin < 2500 ∧ !s.power.vinLow then
      (State.measure { s with power := { s.power with vin := vin, vinAt := vin, vinLow := true } }).raise 0x0102 deviceId vin s.power.iin
    else s
def execVinNormal (vin : Nat) (s : State) : Out :=
  need (vin < 65536) <|
    if 2550 ≤ vin ∧ s.power.vinLow then
      (State.measure { s with power := { s.power with vin := vin, vinAt := vin, vinLow := false } }).raise 0x0103 deviceId vin s.power.iin
    else s
def execBrownOut (s : State) : Out := need true (s.coldStart 2 1)
def execVinHigh (vin : Nat) (s : State) : Out :=
  need (vin < 65536) <|
    if 5600 < vin ∧ !s.power.vinHigh then
      ((State.measure { s with power := { s.power with vin := vin, vinAt := vin, vinHigh := true } }).raise 0x0104 deviceId vin s.power.iin).alertBit 2
    else s
def execVinHighClear (vin : Nat) (s : State) : Out :=
  need (vin < 65536) <|
    if vin ≤ 5500 ∧ s.power.vinHigh then State.measure { s with power := { s.power with vin := vin, vinAt := vin, vinHigh := false } } else s
def execOvervoltage (s : State) : Out := need true (s.coldStart 3 1)

/-! ### RESET_N, PCI Express (R591, R595, R599) -/

def execResetNAssert (s : State) : Out :=
  need true <|
    let held := if s.power.held = 1 ∨ s.power.held = 3 then s.power.held else 2
    ({ s with power := { s.power with resetN := false } }).coldStart 1 held
def execResetNRise (s : State) : Out :=
  need true <|
    let ok := s.power.held = 2 ∧ 2400 ≤ s.power.vinAt ∧ s.power.vinAt ≤ 5600
    { s with power := { s.power with resetN := true, held := if ok then 0 else if s.power.held = 2 then 1 else s.power.held } }

/-- PERST_N low (0), link down (1) or a hot reset (2): DMA stops at once. -/
def execPcieReset (cause : Nat) (s : State) : Out :=
  need (cause < 3) <|
    { s with hif := { s.hif with
      linkUp := false, busMaster := false, msix := [], msixPba := 0, perstHigh := if cause = 0 then false else s.hif.perstHigh } }
def execPerstNRise (s : State) : Out := need true { s with hif := { s.hif with perstHigh := true } }
/-- The endpoint can train: PERST_N is high and its clock runs; in SCRAPPED BAR0 identity reads remain (15 R636). -/
def execPcieLinkUp (s : State) : Out :=
  need true <|
    if s.hif.perstHigh ∧ (s.power.bootStage ≥ 2 ∨ (s.power.bootStage = 1 ∧ s.nv.lifecycle = 4)) then
      { s with hif := { s.hif with linkUp := true } }
    else s
/-- Held replies are written; fetching goes on at SQ_HEAD. -/
def execBusMasterEnable (s : State) : Out :=
  need true <| if s.hif.linkUp then ({ s with hif := { s.hif with busMaster := true } }).flushAll else s

/-! ### JTAG (15 R636, R637) -/

/-- Test-logic reset selects IDCODE (log entry 53). -/
def execTrstNAssert (s : State) : Out := need true { s with upd := { s.upd with jtag := 1 } }
/-- JTAG instructions by number: 0 BYPASS, 1 IDCODE, 2 SAMPLE, 3 PRELOAD, 4 EXTEST, 5 EXTEST_PULSE, 6 EXTEST_TRAIN, 7 CLAMP, 8 HIGHZ, 9 and
up Olunte test instructions. -/
def jtagAllowed (life code : Nat) : Bool :=
  match life with
  | 0 => true
  | 1 => code ≤ 8
  | 2 => code ≤ 3
  | 3 => code ≤ 8
  | _ => code ≤ 1
def execJtagInstruction (code : Nat) (s : State) : Out :=
  need true { s with upd := { s.upd with jtag := if jtagAllowed s.nv.lifecycle code then code else 0 } }

/-! ### REFCLK (R589) -/

def execRefclkLost (s : State) : Out :=
  need true <|
    if s.power.pllLocked then
      let s1 := { s with power := { s.power with
        pllLocked := false, refclkOk := false, holdover := true, refclkLostAt := s.now } }
      (s1.raise 0x0108 deviceId 0 0).alertBit 1
    else s
def execRefclkRestored (s : State) : Out :=
  need true <|
    if s.power.holdover then
      ({ s with power := { s.power with pllLocked := true, refclkOk := true, holdover := false } }).raise 0x0109 deviceId
        ((s.now - s.power.refclkLostAt) / 1000) 0
    else s

/-! ### Junction temperature, throttle, trips (R573–R578) -/

def execJunctionReading (temp : Int) (s : State) : Out :=
  need (decide (-32768 ≤ temp) && decide (temp < 32768)) <|
    let s1 := { s with power := { s.power with tj := temp, tjAt := temp } }
    if 115 * 16 ≤ temp then s1.alertBit 3 else s1

/-- IIN above the limit, from a reading in 10 mA. -/
def Power.overCurrent (p : Power) : Bool := 10 * p.limit < p.iin
/-- The junction at or above the throttle threshold. -/
def Power.overHeat (p : Power) : Bool := decide ((p.threshold : Int) * 16 ≤ p.tj)
/-- One step of the throttle; each cause is posted when the step first leaves 0 for it, and is a safety action (01 R52). -/
def execThrottleEngageStep (iin : Nat) (s : State) : Out :=
  need (iin < 65536) <|
    let s0 := State.measure { s with power := { s.power with iin := iin } }
    let cur := s0.power.overCurrent
    let hot := s0.power.overHeat
    if cur || hot then
      let p := s0.power
      let step := min 8 (p.step + 1)
      let s1 := { s0 with power := { p with
        step := step, causeCurrent := p.causeCurrent || cur, causeThermal := p.causeThermal || hot, maxStep := max p.maxStep step,
        throttleSince := if p.step = 0 then s.now else p.throttleSince } }
      let s2 := if cur && !p.causeCurrent then s1.raise 0x0105 deviceId iin p.limit else s1
      let s3 := if hot && !p.causeThermal then s2.raise 0x0106 deviceId (wrapInt 32 p.tj) p.threshold else s2
      let s4 := if cur && step != p.step then s3.happen 0x0602 [] 1 0 1 else s3
      let s5 := if hot && step != p.step then s4.happen 0x0602 [] 2 0 1 else s4
      s5.thermPin s1.power.causeThermal p.causeThermal
    else s0
/-- One step back; THROTTLE_END at 0. -/
def execThrottleReleaseStep (iin : Nat) (s : State) : Out :=
  need (iin < 65536) <|
    let s0 := State.measure { s with power := { s.power with iin := iin } }
    let p := s0.power
    if p.step ≠ 0 ∧ iin * 100 ≤ 950 * p.limit ∧ p.tj ≤ ((p.threshold : Int) - 2) * 16 then
      if p.step = 1 then
        let s1 := { s0 with power := { p with step := 0, causeCurrent := false, causeThermal := false, maxStep := 0 } }
        (s1.raise 0x0107 deviceId p.maxStep ((s.now - p.throttleSince) / 1000)).thermPin false p.causeThermal
      else { s0 with power := { p with step := p.step - 1 } }
    else s0

/-- A thermal trip: THERMAL_CRIT too is at its reset value after the cold start (R591). -/
def execThermalTrip (s : State) : Out :=
  need true <| if 125 * 16 ≤ s.power.tjAt then s.coldStart 4 3 else s
def execCurrentTrip (s : State) : Out := need true (s.coldStart 5 0)

/-! ### Adaptive voltage scaling (R585, R587, 01 R48) -/

/-- A decision to move a rail to `want`: it holds at its bounds, and is then clamped and counted; a rail that new bounds have left outside
moves to the nearest bound, which counts as a clamped decision whatever it wanted (01 R48, R50). -/
def State.avsMove (s : State) (rail : Nat) (want : Int) : State :=
  let b := s.power.avsBounds.get (600, 950) rail
  let cur : Int := (s.power.avsMv.get 0 rail : Nat)
  let near := clip cur b.1 b.2
  let mv := if near = cur then clip want b.1 b.2 else near
  let clamped := near != cur || mv != want
  let rest := s.power.avsClamped.filter (fun d => d != rail)
  { s with power := { s.power with
    avsMv := s.power.avsMv.set rail mv.toNat,
    avsClamped := if clamped then rest ++ [rail] else rest,
    avsClamps := if clamped then s.power.avsClamps.upd 0 rail (fun n => satAdd 32 n 1) else s.power.avsClamps } }
/-- The rail lies outside its bounds. -/
def State.avsOutside (s : State) (rail : Nat) : Bool :=
  let b := s.power.avsBounds.get (600, 950) rail
  let cur : Int := (s.power.avsMv.get 0 rail : Nat)
  clip cur b.1 b.2 != cur
/-- The monitor of a rail: 5 mV up when the margin is short; without that the loop decides to hold, which moves a rail that lies outside new
bounds (DEDUCED, log entry 148). -/
def execAvsMonitor (rail : Nat) (short : Bool) (s : State) : Out :=
  need (rail < 5) <|
    let cur : Int := (s.power.avsMv.get 0 rail : Nat)
    if s.power.bootStage = 0 then s
    else if short then s.avsMove rail (cur + 5)
    else if s.avsOutside rail then s.avsMove rail cur
    else s
def execAvsLowerStep (rail : Nat) (spare : Bool) (s : State) : Out :=
  need (rail < 5) <| if spare ∧ s.power.bootStage ≠ 0 then s.avsMove rail (((s.power.avsMv.get 0 rail : Nat) : Int) - 5) else s

/-! ### Start-up (R598, R600; 00 R8; 11 R489, R490, R503; 15 R630, R633, R635) -/

/-- Rails in regulation, fuses read: a life-cycle transition takes effect; in SCRAPPED start-up stops here. -/
def execFusesRead (s : State) : Out :=
  need true <|
    if s.power.held ≠ 0 ∨ s.power.bootStage ≠ 0 then s
    else
      let life := s.nv.nextLife
      { s with
        nv := { s.nv with lifecycle := life },
        upd := { s.upd with fusesRead := true, lifeState := life, lifeNext := life },
        power := { s.power with
          bootStage := 1, avsMv := (List.range 5).map (fun d => (d, Config.vStart d)), threshold := s.gradeMax } }

/-- Entering RETURN has erased the settings but the port splits. -/
def NonVol.applyErase (n : NonVol) : NonVol :=
  if n.eraseSettings then
    { n with
      limit := none, throttle := none, vinUpdateMin := none, fill := none, ownerLock := none, flash := [],
      eraseSettings := false }
  else n
/-- The standing reserve for the journal and for a retirement in each stack (R583). -/
def standingReserve : List Permit :=
  [{ code := 4, amount := 8, holder := 0 }, { code := 2, amount := 12, holder := 0 }, { code := 2, amount := 12, holder := 1 }]
/-- The root PLL locks, TB0 starts from 0, the configuration area is read, the broker runs, and channels train as permits allow; no word of
the DRAM is written yet over the fill pattern. -/
def execRootPllLock (s : State) : Out :=
  need true <|
    if s.power.bootStage ≠ 1 ∨ s.nv.lifecycle = 4 then s
    else
      let nv := s.nv.applyErase
      let s1 := { s with
        nv := nv,
        power := { s.power with
          pllLocked := true, refclkOk := true, bootStage := 2, limit := nv.limit.getD 520, threshold := nv.throttle.getD s.gradeMax,
          vinUpdateMin := nv.vinUpdateMin.getD 2700, permits := standingReserve },
        egress := { s.egress with splits := nv.splits },
        mem := { s.mem with
          fill := nv.fill.getD 0, channels := s.mem.channels.map (fun (e : Nat × Channel) => (e.1, { e.2 with words := [] })) } }
      let room := (s1.budget - (s1.power.measured + s1.outstanding)) / 12
      s1.grant ((s1.trainable.take (max 1 room)).map (fun ch => trainPermit ch 0))

/-- An active channel that was retired before this cold start is served by a spare, or is unbacked. -/
def State.mapRetired (s : State) (ch : Nat) : State :=
  match s.logicalOf ch with
  | none => s
  | some c =>
    match s.spareChannel ch with
    | some sp => ({ s with mem := { s.mem with map := s.mem.map.set c (some sp) } }).modChannel sp (fun x => { x with selfRefresh := false })
    | none => { s with mem := { s.mem with map := s.mem.map.set c none } }
/-- A channel fails its training at a rate: posted, and the channel is retired (failing spares first). -/
def State.trainFail (s : State) (e : Nat × Nat) : State := (s.raise 0x0803 (channelId e.1) e.2 0).retireChannel e.1 0
/-- The timing set of a channel at a rate that training found (R489). -/
def setFrom (results : List (Nat × Nat × EyeScan)) (ch rate : Nat) : Option EyeScan :=
  (results.find? (fun e => e.1 = ch && e.2.1 = rate && eyePasses e.2.2)).map (fun e => e.2.2)
/-- Channel and rate of every training that found no setting that passes, spares first (R489, R490). -/
def State.untrained (s : State) (results : List (Nat × Nat × EyeScan)) : List (Nat × Nat) :=
  let l := s.trainable.flatMap (fun ch => ((List.range 3).filter (fun r => (setFrom results ch r).isNone)).map (fun r => (ch, r)))
  l.filter (fun e => 16 ≤ e.1 % 32) ++ l.filter (fun e => e.1 % 32 < 16)
/-- Cold-start training ends; `results` lists what it found for each channel and rate. The fill asks for its permits. -/
def execDramTrainingDone (results : List (Nat × Nat × EyeScan)) (s : State) : Out :=
  need (results.all (fun e => isChannel e.1 && e.2.1 < 3)) <|
    if s.power.bootStage ≠ 2 then s
    else
      let s1 := (allChannels.filter (fun ch => (s.channel ch).retired)).foldl (fun s ch => s.mapRetired ch) s
      let s2 := (s1.untrained results).foldl State.trainFail s1
      let s3 := s2.trainable.foldl (fun s ch => s.modChannel ch (fun x => Channel.loadSet (s.mem.rates.getD (ch / 32) 0) { x with
        sets := (List.range 3).map (setFrom results ch), trainedTemp := s.mem.temps.getD (ch / 32) 0 })) s2
      let s4 := s3.unpermit (fun p => (p.code = 2 && 2 ≤ p.holder) || p.code = 3)
      let fill : List Permit := [{ code := 3, amount := 60, holder := 0 }, { code := 3, amount := 60, holder := 1 }]
      { s4.grant fill with
        mem := { s4.mem with copying := [], copyWait := [] },
        power := { (s4.grant fill).power with bootStage := 3 } }
/-- The units whose SRAM the fill writes: EC0–67, PE0–11, PK0–9 (R10). -/
def allUnits : List Nat := List.range 68 ++ (List.range 12).map (fun i => 65536 + i) ++ (List.range 10).map (fun i => 131072 + i)
/-- A spare's debts are paid, and it waits in self-refresh (R488, R490). -/
def State.restSpare (s : State) (ch : Nat) : State :=
  let s1 := (s.channel ch).debt.foldl (fun s e => s.issueRefresh ch e.1 e.2) s
  s1.modChannel ch (fun x => { x with selfRefresh := !x.retired })
/-- Every word of DRAM and of SRAM holds the fill pattern (R503); spares wait in self-refresh; the management pairs and the audio clock run. -/
def execInitialFillDone (s : State) : Out :=
  need true <|
    if s.power.bootStage ≠ 3 then s
    else
      let s1 := s.unpermit (fun p => p.code = 3)
      let s2 := (allChannels.filter (fun ch => (s1.logicalOf ch).isNone)).foldl State.restSpare s1
      { s2 with
        mem := { s2.mem with sram := allUnits.foldl (fun t u => Tab.set t u (s2.mem.fill, byteParity s2.mem.fill)) s2.mem.sram },
        power := { s2.power with bootStage := 4 }, audio := { s2.audio with clkRunning := true } }

/-- Warm spares at cold start. -/
def coldSpares : List Nat := [64, 65, 66, 67, 65546, 65547, 131080, 131081]
/-- The last confirmed image set, or the other when that one does not verify, is loaded; the warm spares take their permits. -/
def execImageSetLoaded (bank : Nat) (s : State) : Out :=
  need (bank < 2) <|
    let b := s.nv.bank bank
    if s.power.bootStage ≠ 4 ∨ !b.valid ∨ (bank ≠ s.nv.activeBank ∧ (s.nv.bank s.nv.activeBank).valid) then s
    else
      let s1 := s.grant (coldSpares.map (fun u => { code := 7, amount := 15, holder := unitId u }))
      { s1 with
        power := { s1.power with bootStage := 5 },
        upd := { s1.upd with
          fwBank := bank, fwSetVersion := b.setVersion, fwSecVersion := b.secVersion, fwConfirmed := true, fwLegacy := b.format == 1 } }

def execBootFail (s : State) : Out :=
  need true <|
    if s.power.bootStage = 4 then ({ s with power := { s.power with bootStage := 7 } }).alertBit 0 else s

/-! ### RECOVERY_RESULT (15 R631, R632) -/

/-- A container as a bank that holds it, verified. -/
def recoveredBank (l : List Byte) : Bank :=
  let f (i : Nat) : Nat := (l.getD i 0).toNat
  { data := (l.zipIdx).map (fun e => (e.2, e.1)), erased := List.range (cdiv l.length 262144), format := 0, total := l.length,
    verified := true, hasRecord := true, setVersion := setVersionOf f 0, secVersion := secVersionOf f 0, valid := true,
    parts := partRecords f 0 }
/-- The container read from host memory is verified: written to bank A with a marker, then a cold start (its RST_CAUSE is open, log
entry 5); or the code of the first failing check. -/
def execRecoveryResult (container : List Byte) (s : State) : Out :=
  need true <|
    if !s.upd.recBusy ∨ container.length ≠ s.upd.recLen then s
    else
      let f (i : Nat) : Nat := (container.getD i 0).toNat
      let code := s.verifyCode f 0 container.length true true true
      if code = 0 then
        let (v, s1) := s.draw
        ({ s1 with nv := (s1.nv.setBank 0 (recoveredBank container)).writeMarker 0 }).coldStart (v % 8) 0
      else { s with upd := { s.upd with recBusy := false, recCode := code } }

/-! ### SMBus (R571, R572) -/

/-- The word of a telemetry code. -/
def State.smbusWord (s : State) : Nat → Option Nat
  | 1 => some (s.power.vin % 65536)
  | 2 => some (s.power.iin % 65536)
  | 3 => some (wrapInt 16 s.power.tj)
  | 4 => some (wrapInt 16 (max (s.mem.temps.getD 0 0) (s.mem.temps.getD 1 0)))
  | 5 => some (s.pwrStatusReg / 2 ^ 27 * 2048 + s.throttleCause * 16 + s.power.step)
  | 0x10 => some s.power.limit
  | _ => none
def execSmbusReadWord (code : Nat) (pecOk : Bool) (s : State) : Out :=
  need (code < 256) (if pecOk then s.emit (.smbus (s.smbusWord code)) else (s.chainFail 14).emit (.smbus none))
def execSmbusWriteWord (code value : Nat) (pecOk : Bool) (s : State) : Out :=
  need (code < 256 && value < 65536) <|
    if pecOk ∧ code = 0x10 ∧ 10 ≤ value ∧ value ≤ 520 then
      ({ s with power := { s.power with limit := value } }).emit (.smbus (some value))
    else (if pecOk then s else s.chainFail 14).emit (.smbus none)

/-! ### PWR_ALERT (R601) -/

/-- The condition of a PWR_ALERT bit still holds. -/
def State.alertHolds (s : State) : Nat → Bool
  | 0 => s.power.bootStage == 7
  | 1 => s.power.holdover
  | 2 => s.power.vinHigh
  | 3 => decide (115 * 16 ≤ s.power.tjAt)
  | 5 => s.power.pair0 == 3 || s.power.pair1 == 3
  | _ => false
/-- A write of PWR_ALERT: W1C bits, and the mask. -/
def State.writePwrAlert (s : State) (v : Nat) : State :=
  let kept := (List.range 6).filter (fun i => bit s.power.alert i && (!bit v i || s.alertHolds i))
  s.setAlert ((kept.map (fun i => 2 ^ i)).sum) (v / 256 % 64)
def execPwrAlertClear (value : Nat) (s : State) : Out := need (value < two32) (s.writePwrAlert value)

end Sys2Proof.Machine
end

