-- ==== Sys2Proof/Machine/EgressEvents.lean ====
section
/-!
DEFINITION. Shaping, best-effort queues, port arbitration, late frames (08 R372–R374, R379–R387; 09 R417–R421; 12 R535).
-/
set_option Elab.async false
namespace Sys2Proof.Machine

open Sys2Proof

/-! ### Counters and links -/

/-- Add to a per-leg egress counter: 0 TX_PKTS 1 TX_BYTES 2 LINK_DOWN_DROP 3 MUTED_PKTS 4 BE_DROP 5 GUARD_HOLDS 6 TX_STOMP. -/
def State.countLeg (s : State) (f leg i n : Nat) : State :=
  let s1 := s.modTx f (fun t => { t with legs := t.legs.modify leg (fun l => { l with counts := l.counts.upd 0 i (fun k => satAdd 48 k n) }) })
  s1.happen (0x0301 + i) [txId f] 0 leg n

/-- Gbit/s of a sub-port, which is bits per ns (R366). -/
def State.linkRate (s : State) (port : Nat) : Nat :=
  match s.egress.splits.getD port 0 with
  | 0 => 400 | 1 => 200 | _ => 100
/-- Time of `n` bytes on a sub-port's wire in ns, rounded up. -/
def State.wireTime (s : State) (port n : Nat) : Nat := cdiv (8 * n) (s.linkRate port)
/-- L of a packet on a leg: destination address through FCS. -/
def TxLeg.frameLen (l : TxLeg) (p : TxPkt) : Nat := p.payload + l.headerLen
def State.txLeg (s : State) (f leg : Nat) : Option TxLeg := (s.txFlow f).legs[leg]?
def State.modLeg (s : State) (f leg : Nat) (g : TxLeg → TxLeg) : State := s.modTx f (fun t => { t with legs := t.legs.modify leg g })

/-! ### Late frames (R417–R421) -/

/-- The train a packet belongs to on a leg. -/
def Train.has (t : Train) (p : TxPkt) (f leg : Nat) : Bool :=
  t.prog == p.prog && t.stream == p.stream && t.pic == p.pic && t.pending.contains (f, leg)

def State.modTrains (s : State) (g : Train → Train) : State := { s with egress := { s.egress with trains := s.egress.trains.map g } }

/-- A start delay or an end overrun of a leg (R417). -/
def Train.note (t : Train) (f : Nat) (x : Int) : Train :=
  { t with worst := some (match t.worst with | none => x | some w => max w x),
           lateFlows := if 8 < x then (f :: t.lateFlows).dedup else t.lateFlows }

/-- A LATE frame is posted, counted and traced, and its flows lose their conformance flags (R420); a train of an audio flow has no
program, and is posted with its flow (log entry 34). -/
def State.frameLate (s : State) (t : Train) (late : Nat) : State :=
  let s1 := { s with time := { s.time with c21 := (t.lateFlows ++ s.time.c21).dedup } }
  let d1 := t.stream * 8388608 + min late 8388607
  if t.prog < 16 then
    let tm := s1.time
    let s2 := { s1 with time := { tm with
      lateCount := tm.lateCount.upd 0 t.prog (fun n => satAdd 32 n 1),
      lateMax := tm.lateMax.upd 0 t.prog (fun n => max n (min late (2 ^ 32 - 1))) } }
    let k : OpKey := { kind := .launch, prog := t.prog, pic := t.frame, row := 0, seg := t.stream }
    ((s2.raise 0x0603 (progId t.prog) (t.g % two32) d1).trace 10 k 255 0 0).happen 0x0105 [progId t.prog] 0 0 1
  else s1.raise 0x0603 (txId (t.prog - 256)) (t.g % two32) d1

/-- Trains whose legs have all ended are judged (R417). -/
def State.judgeTrains (s : State) : State :=
  let done := s.egress.trains.filter (fun t => t.pending.isEmpty)
  let s1 := { s with egress := { s.egress with trains := s.egress.trains.filter (fun t => !t.pending.isEmpty) } }
  done.foldl (fun s t => match t.worst with
    | some w => if 8 < w then s.frameLate t w.toNat else s
    | none => s) s1

/-- A leg has ended its last packet of a train, or sends none of it any more; `x` is its end overrun. -/
def State.legEnds (s : State) (f leg : Nat) (p : TxPkt) (x : Option Int) : State :=
  if p.last then
    (s.modTrains (fun t =>
      if t.has p f leg then
        let t1 := match x with | some v => t.note f v | none => t
        { t1 with pending := t1.pending.filter (fun e => e != (f, leg)) }
      else t)).judgeTrains
  else s

/-- A packet of a coded row has been sent, discarded or muted on one leg: with the last packet on the last leg the row's bytes and
descriptors are free (08 R370), and a stopped program that held nothing else ends (01 R25). -/
def State.freePacket (s : State) (p : TxPkt) : State :=
  if 16 ≤ p.prog then s
  else
    let leave (r : StoreRow) : StoreRow :=
      if r.pic = p.pic ∧ r.row = p.row ∧ r.stream = p.stream then { r with left := r.left.map (fun n => n - 1) } else r
    (s.modProg p.prog (fun x => { x with store := (x.store.map leave).filter (fun r => r.left != some 0) })).endProgram p.prog

/-- A packet has left a leg, sent or not: its train, its row and a closing flow are looked over. -/
def State.packetGone (s : State) (f leg : Nat) (p : TxPkt) (x : Option Int) : State :=
  (((s.legEnds f leg p x).freePacket p)).closeDone f

/-! ### Frames on the wire (R357, R359–R361, R367) -/

/-- Big-endian bytes. -/
def beBytes (n v : Nat) : List Byte := (leBytes n v).reverse

/-- The ones' complement sum of 16-bit big-endian words, and its complement: the checksum of IPv4 and UDP. -/
def sum16 : List Byte → Nat
  | a :: b :: l => 256 * a.toNat + b.toNat + sum16 l
  | [a] => 256 * a.toNat
  | [] => 0
def inetChecksum (l : List Byte) : Nat :=
  let n := sum16 l
  let fold (n : Nat) : Nat := n % 65536 + n / 65536
  65535 - fold (fold (fold n))

/-- The RTP packet (R359–R361). -/
def TxFlow.rtp (f : TxFlow) (p : TxPkt) : List Byte :=
  [0x80, BitVec.ofNat 8 (128 * b2n p.marker + f.pt)] ++ beBytes 2 ((f.seq0 + p.k) % 65536) ++ beBytes 4 p.ts ++ beBytes 4 f.ssrc ++ p.data

/-- Addresses of a leg as they stand in its IP header. -/
def TxLeg.addrs (l : TxLeg) : List Byte :=
  let n := if l.ipVer = 4 then 4 else 16
  l.srcAddr.take n ++ l.dstAddr.take n

/-- The UDP datagram (R367): a checksum over the datagram with its pseudo-header, or 0 with ZERO on IPv4; a computed 0 is sent as 0xFFFF. -/
def TxLeg.udp (l : TxLeg) (zero : Bool) (body : List Byte) : List Byte :=
  let len := 8 + body.length
  let head (c : Nat) : List Byte := beBytes 2 l.srcPort ++ beBytes 2 l.dstPort ++ beBytes 2 len ++ beBytes 2 c
  let pseudo := if l.ipVer = 4 then l.addrs ++ [0, 17] ++ beBytes 2 len else l.addrs ++ beBytes 4 len ++ [0, 0, 0, 17]
  let c := inetChecksum (pseudo ++ head 0 ++ body)
  head (if zero ∧ l.ipVer = 4 then 0 else if c = 0 then 65535 else c) ++ body

/-- The IP packet (R367): IPv4 with DF 1, identification 0 and a computed header checksum, or IPv6 with flow label 0. -/
def TxLeg.ip (l : TxLeg) (body : List Byte) : List Byte :=
  if l.ipVer = 4 then
    let head (c : Nat) : List Byte :=
      [0x45, BitVec.ofNat 8 (4 * l.dscp)] ++ beBytes 2 (20 + body.length) ++ beBytes 2 0 ++ [0x40, 0, BitVec.ofNat 8 l.ttl, 17] ++ beBytes 2 c ++ l.addrs
    head (inetChecksum (head 0)) ++ body
  else
    beBytes 4 (6 * 2 ^ 28 + 4 * l.dscp * 2 ^ 20) ++ beBytes 2 body.length ++ [17, BitVec.ofNat 8 l.ttl] ++ l.addrs ++ body

/-- The frame of a packet on a leg, with its FCS (R367); the port's own address is open (log entry 5). -/
def TxLeg.frame (l : TxLeg) (f : TxFlow) (p : TxPkt) : List Byte :=
  let tag : List Byte := if l.vlan then [0x81, 0x00] ++ beBytes 2 (l.pcp * 8192 + l.vid) else []
  let body := l.dstMac ++ (List.range 6).map (fun i => BitVec.ofNat 8 (Config.portMac l.port i)) ++ tag ++
    (if l.ipVer = 4 then [0x08, 0x00] else [0x86, 0xDD]) ++ l.ip (l.udp (f.checksum = 1) (f.rtp p))
  body ++ leBytes 4 (crcOf 1 body)

/-! ### SHAPER_ELIGIBLE (R372–R374, R377, R379, R380, R385, R386) -/

/-- The leg's update at an instant: the refill at the old rates, then new values (R372, R373, R377); time runs on the 32 bits of TB0. -/
def TxLeg.update (l : TxLeg) (now : Nat) : TxLeg :=
  let dt := elapsed32 l.tLast now
  let idle := 2147483648 < dt ∨ 2147483648 < now - l.tLast
  let c1 := if idle then l.c.fill else l.c.refill dt
  let p1 := if idle then l.p.fill else l.p.refill dt
  match l.newSet with
  | none => { l with c := c1, p := p1, tLast := now }
  | some n => { l with c := c1.retune n.cRate n.cDepth, p := p1.retune n.pRate n.pDepth, overhead := n.overhead, newSet := none,
                       tLast := now }

/-- Weight of a best-effort queue (R378). -/
def SubPort.weight (x : SubPort) (q : Nat) : Nat := if q = 0 then 32 else x.weights.get 16 q

/-- A best-effort packet of a flow's leg, or of firmware, enters its queue; `cost` counts its bits with its overhead (R380). -/
def SubPort.enter (x : SubPort) (q : Nat) (flow : Option (Nat × Nat)) (p : Option TxPkt) (bytes cost now : Nat) : SubPort :=
  let l := x.beQueues.get [] q
  let start := if l.isEmpty then x.v else x.fLast.get 0 q
  let tag := (start + cdiv (cost * 256) (x.weight q)) % 2 ^ 64
  { x with fLast := x.fLast.set q tag,
           beQueues := x.beQueues.set q (l ++ [{ flow := flow, pkt := p, bytes := bytes, tag := tag, entered := now }]) }

/-- The head packet of a leg is released: muted rows go nowhere, a link that is down discards, best-effort packets enter their
queue, shaped packets wait for the arbiter; `at_` is its eligibility instant. -/
def State.releaseHead (s : State) (f leg : Nat) (l : TxLeg) (p : TxPkt) (rest : List TxPkt) (cost at_ : Nat) : State :=
  let t := s.txFlow f
  let paid : TxLeg := { l with queue := rest, p := l.p.take cost, c := if t.cls = 1 then l.c else l.c.take cost }
  let s1 := s.modLeg f leg (fun _ => paid)
  if p.muted then (s1.countLeg f leg 3 1).packetGone f leg p none
  else if !(s.subPort l.port l.sub).linkUp then (s1.countLeg f leg 2 1).packetGone f leg p none
  else if t.cls = 1 then
    s1.modSub l.port l.sub (fun x => x.enter t.beQueue (some (f, leg)) (some p) (l.frameLen p) cost at_)
  else s1.modLeg f leg (fun x => { x with released := x.released ++ [(p, at_)] })

/-- ns from the last update until a bucket holds `cost` bits (R372). -/
def Bucket.wait (b : Bucket) (cost : Nat) : Nat := cdiv ((cost * 1024 - b.credit) * 1000000000 - b.rem) (b.rate * 1024)
/-- The first nanosecond at which the head packet of a leg is eligible (R374): no earlier than its launch time, its LAUNCH_ROW and the leg's
last update, and once the buckets conform, or are set full (R373). -/
def TxLeg.eligibleAt (l : TxLeg) (shaped : Bool) (p : TxPkt) : Nat :=
  let cost := 8 * (l.frameLen p + l.overhead)
  let wait := max (l.p.wait cost) (if shaped then l.c.wait cost else 0)
  max (max p.launch p.passed) (l.tLast + min wait 2147483649)
/-- The head packet of a leg is tested at an instant, and released when its eligibility instant has come (R374); the buckets are updated at that
instant. New shaper values that wait take effect at the test, and the packet is judged under them (log entry 171). -/
def execShaperEligible (flow leg t : Nat) (s : State) : Out :=
  need (flow < 1024) <|
    match s.txLeg flow leg with
    | none => s
    | some l0 =>
      match l0.queue with
      | [] => s
      | p :: rest =>
        let s1 := s.at32 t
        let l1 := if l0.newSet.isSome then l0.update s1.now else l0
        let n := l1.eligibleAt ((s.txFlow flow).cls == 0) p
        if n ≤ s1.now then s1.releaseHead flow leg (l1.update n) p rest (8 * (l1.frameLen p + l1.overhead)) n
        else s1.modLeg flow leg (fun _ => l1.update s1.now)

/-! ### WIRE_IDLE (R382–R384, R387, R416) -/

/-- Legs of shaped flows on a sub-port that have a released packet, with it: (eligibility, flow, leg, packet). -/
def State.waitingOn (s : State) (port sub : Nat) : List (Nat × Nat × Nat × TxPkt) :=
  s.egress.flows.flatMap (fun e => (e.2.legs.zipIdx).filterMap (fun l =>
    if l.1.port = port ∧ l.1.sub = sub ∧ l.1.sending.isNone then l.1.released.head?.map (fun r => (r.2, e.1, l.2, r.1)) else none))

/-- Launch times still to come of shaped legs on a sub-port, on TB0 (R383, R415). -/
def State.comingLaunches (s : State) (port sub : Nat) : List Nat :=
  (s.egress.flows.filter (fun e => e.2.isOpen && e.2.cls == 0 && e.2.legs.any (fun l => l.port == port && l.sub == sub))).flatMap
    (fun e =>
      if e.2.kind = 0 then
        ((s.prog e.2.prog).pics.map (fun y => s.toTb0 e.2.prog y.launch)).filter (fun t => s.now < t)
      else [audioLaunch e.2.audio (s.audio.txK.get 0 e.1)].filter (fun t => s.now < t))

/-- A packet with its overhead ends at or before the next pending launch time of the sub-port (R383). -/
def State.guardOk (s : State) (port sub bytes : Nat) : Bool :=
  (s.comingLaunches port sub).all (fun t => s.now + s.wireTime port bytes ≤ t)

/-- Order of R382 and R384: the earliest eligibility instant; at one instant first packets of trains, which start back to back, before others;
ties to the lowest flow number. -/
def shapedBefore (a b : Nat × Nat × Nat × TxPkt) : Bool :=
  a.1 < b.1 || (a.1 == b.1 && ((a.2.2.2.first && !b.2.2.2.first) || (a.2.2.2.first == b.2.2.2.first && a.2.1 ≤ b.2.1)))

/-- A tag comes before another on the circle of 64 bits (R380). -/
def tagBefore (a b : Nat) : Bool := a != b && (b + 2 ^ 64 - a) % 2 ^ 64 < 2 ^ 63

/-- The best-effort queue to serve: the head with the smallest tag, ties to the lowest queue (R380). -/
def SubPort.bestQueue (x : SubPort) : Option (Nat × BePkt) :=
  ((List.range 8).filterMap (fun q => (x.beQueues.get [] q).head?.map (fun p => (q, p)))).foldl (fun best e => match best with
    | none => some e
    | some b => if tagBefore e.2.tag b.2.tag then some e else some b) none

/-- A shaped packet starts on the wire: counted, its start delay measured (R417), first packets of the same launch time that wait
behind it excused (R384). -/
def State.startShaped (s : State) (f leg : Nat) (p : TxPkt) : State :=
  match s.txLeg f leg with
  | none => s
  | some l =>
    let len := l.frameLen p
    let dur := s.wireTime l.port (len + l.overhead)
    let delay : Int := (s.now : Int) - p.launch - l.excused
    let s1 := s.modLeg f leg (fun x => { x with
      released := x.released.tail, sending := some (p, s.now), excused := if p.first then 0 else x.excused })
    let s2 := if p.first then
        let others := (s.waitingOn l.port l.sub).filter (fun e => e.2.1 != f && e.2.2.2.first && e.2.2.2.launch == p.launch)
        (others.foldl (fun s e => s.modLeg e.2.1 e.2.2.1 (fun x => { x with excused := x.excused + dur })) s1).modTrains
          (fun t => if t.has p f leg then t.note f delay else t)
      else s1
    let s3 := (s2.countLeg f leg 0 1).countLeg f leg 1 len
    s3.modSub l.port l.sub (fun x => { x with wire := some (some (f, leg), s.now + dur) })

/-- Bytes of a best-effort packet with its overhead term; firmware's packets have that of preamble and gap. -/
def State.beBytes (s : State) (b : BePkt) : Nat :=
  b.bytes + (match b.flow with
    | some e => ((s.txLeg e.1 e.2).map TxLeg.overhead).getD 20
    | none => 20)
/-- A best-effort packet starts on the wire. -/
def State.startBe (s : State) (port sub q : Nat) (b : BePkt) : State :=
  let s1 := s.modSub port sub (fun x => { x with
    v := b.tag, beQueues := x.beQueues.set q (x.beQueues.get [] q).tail, wire := some (b.flow, s.now + s.wireTime port (s.beBytes b)) })
  let s2 := match b.flow, b.pkt with
    | some e, some p =>
      let s2 := s1.modLeg e.1 e.2 (fun x => { x with sending := some (p, s.now) })
      (s2.countLeg e.1 e.2 0 1).countLeg e.1 e.2 1 b.bytes
    | _, _ => s1
  if b.flow.isSome then s2 else s2.emit (.wireBe port sub q b.bytes)

/-- A best-effort packet that R383 defers is counted on its leg. -/
def State.holdBe (s : State) (b : BePkt) : State :=
  match b.flow with
  | some e => s.countLeg e.1 e.2 5 1
  | none => s
/-- The sub-port's wire is idle: the arbiter starts the first packet in the order of R382 that R383 lets start; packets of flows that
R383 defers are counted. A PTP event message takes 110 bytes with its overhead (log entry 44). -/
def State.arbitrate (s : State) (port sub : Nat) : State :=
  let x := s.subPort port sub
  if !x.linkUp ∨ x.wire.isSome then s
  else if x.ptpWaiting ≠ 0 ∧ s.guardOk port sub 110 then
    (s.modSub port sub (fun x => { x with ptpWaiting := x.ptpWaiting - 1, wire := some (none, s.now + s.wireTime port 110) })).emit
      (.wirePtp port sub)
  else
    let line := (s.waitingOn port sub).mergeSort shapedBefore
    let may (e : Nat × Nat × Nat × TxPkt) : Bool :=
      e.2.2.2.first || s.guardOk port sub (((s.txLeg e.2.1 e.2.2.1).map (fun l => l.frameLen e.2.2.2 + l.overhead)).getD 0)
    let held := line.takeWhile (fun e => !may e)
    let s1 := held.foldl (fun s e => s.countLeg e.2.1 e.2.2.1 5 1) s
    match line.find? may with
    | some e => s1.startShaped e.2.1 e.2.2.1 e.2.2.2
    | none =>
      match x.bestQueue with
      | some (q, b) => if s.guardOk port sub (s.beBytes b) then s1.startBe port sub q b else s1.holdBe b
      | none => s1

/-- Firmware's own packets (ARP, neighbour discovery, ICMP, PTP general messages) enter Q0 of the sub-port (R378). When it sends one, and of what
length, is open: a free value gives it (log entry 172). -/
def State.firmwareSends (s : State) (port sub : Nat) : State :=
  let (v, s1) := s.draw
  let n := 64 + v / 2 % 9153
  if v % 2 = 0 then s1 else s1.modSub port sub (fun x => x.enter 0 none none n (8 * (n + 20)) s.now)

def execWireIdle (port sub t : Nat) (s : State) : Out :=
  need (port < 4 && sub < 4) <| ((s.at32 t).firmwareSends port sub).arbitrate port sub

/-! ### PACKET_END (R370, R417; 12 R535), BE_TIMEOUT (R381), links (R385) -/

/-- The packet on the wire ends, its frame an overhead term before the wire falls idle; one whose internal check failed has had its FCS inverted (12 R535, hand-off 8). -/
def State.packetEnd (s : State) (port sub : Nat) (internalOk : Bool) : State :=
  match (s.subPort port sub).wire with
  | none => s
  | some (who, at_) =>
    let s1 := (s.reach at_).modSub port sub (fun x => { x with wire := none })
    match who with
    | none => s1
    | some (f, leg) =>
      match (s1.txLeg f leg).bind TxLeg.sending with
      | none => s1
      | some (p, start) =>
        let sent := ((s1.txLeg f leg).map (fun l => l.frame (s1.txFlow f) p)).getD []
        let frame := if internalOk then sent
          else sent.take (sent.length - 4) ++ (sent.drop (sent.length - 4)).map (fun b => b ^^^ 0xFF)
        let s2 := (s1.modLeg f leg (fun l => { l with sending := none })).emit (.wire port sub f leg frame)
        let s3 := if internalOk then s2
          else ((s2.countLeg f leg 6 1).chainFail 8).raise 0x0903 (txId f) leg (((s.txFlow f).seq0 + p.k) % 65536)
        let late : Option Int :=
          match s3.egress.trains.find? (fun t => t.has p f leg) with
          | some t =>
            let len := ((s1.txLeg f leg).map (fun l => l.frameLen p)).getD 0
            if t.prog < 16 then some (((start + s.wireTime port len : Nat) : Int) - t.windowEnd) else none
          | none => none
        s3.packetGone f leg p late

def execPacketEnd (port sub : Nat) (internalOk : Bool) (s : State) : Out :=
  need (port < 4 && sub < 4) <| s.packetEnd port sub internalOk

/-- The head packet of a best-effort queue has waited 2 ms (R381). -/
def execBeTimeout (port sub queue : Nat) (s : State) : Out :=
  need (port < 4 && sub < 4 && queue < 8) <|
    match ((s.subPort port sub).beQueues.get [] queue) with
    | [] => s
    | b :: rest =>
      let s1 := (s.reach (b.entered + 2000000)).modSub port sub (fun x => { x with beQueues := x.beQueues.set queue rest })
      match b.flow, b.pkt with
      | some (f, leg), some p => ((s1.countLeg f leg 4 1).freePacket p).closeDone f
      | _, _ => s1

/-- A link goes down: packets of its legs that are eligible and have not started are discarded (R385). -/
def execLinkDown (port sub : Nat) (s : State) : Out :=
  need (port < 4 && sub < 4) <|
    let gone := s.egress.flows.flatMap (fun e => (e.2.legs.zipIdx).flatMap (fun l =>
      if l.1.port = port ∧ l.1.sub = sub then l.1.released.map (fun r => (e.1, l.2, r.1)) else []))
    let s1 := s.modSub port sub (fun x => { x with linkUp := false })
    gone.foldl (fun s e =>
      ((s.modLeg e.1 e.2.1 (fun l => { l with released := l.released.tail })).countLeg e.1 e.2.1 2 1).packetGone e.1 e.2.1 e.2.2 none) s1

def execLinkUp (port sub : Nat) (s : State) : Out :=
  need (port < 4 && sub < 4) <| s.modSub port sub (fun x => { x with linkUp := true })

end Sys2Proof.Machine
end

