-- ==== Sys2Proof/Machine/TimeOps.lean ====
section
/-!
DEFINITION. Time bases (09): TIMEBASE_CONFIG, TIMEBASE_ADJUST, CAPTURE_ARM; wraps, discipline by PTP and PPS, PPS_OUT, slews, captures.
-/
set_option Elab.async false
namespace Sys2Proof.Machine

open Sys2Proof

/-- Bounds of INC (R389). -/
def incMin : Nat := 1341506192
def incMax : Nat := 1342848368

/-- The history of INC as a base moves to a state: LOCKED notes the INC from now on, any other state the end of LOCKED (R398). -/
def TimeBase.noteLocked (b : TimeBase) (st now : Nat) : List (Nat × Nat) :=
  if st = 3 then ((b.inc, now) :: b.incs).take 1024 else if b.state = 3 then ((0, now) :: b.incs).take 1024 else b.incs
/-- A base changes state, by a command of queue `q` or by none (255): TB_STATE is posted, and PPS_OUT falls when it may not be driven any more (R403). -/
def State.setTbStateFor (s : State) (q n st : Nat) : State :=
  let b := s.tb n
  if b.state = st then s
  else
    let s1 := (s.modTb n (fun b => { b with state := st, incs := b.noteLocked st s.now })).raiseFor q 0x0601 (tbId n) b.state st
    if b.ppsHigh ∧ st ≠ 3 ∧ st ≠ 4 then (s1.modTb n (fun b => { b with ppsHigh := false })).emit (.pin 2 false) else s1

/-- A base changes state by an event. -/
def State.setTbState (s : State) (n st : Nat) : State := s.setTbStateFor 255 n st

/-- A 32-bit signed register value, saturating. -/
def sat32 (i : Int) : Int := clip i (-2147483648) 2147483647

/-! ### TIMEBASE_CONFIG (R392–R403, R688) -/

def checkTimebaseConfig (s : State) (c : Cmd) : Verdict :=
  let n := c.idx
  let b := s.tb n
  let run := c.u 0 1 == 1
  let mode := c.u 1 1
  let ptp := run && mode == 1
  let pps := run && mode == 2
  let follow := run && mode == 3
  let out := c.u 6 1 == 1
  let slew := run && mode != 3
  let off := c.i 16 4
  let port (o : Nat) : Bool := 17 < c.u o 1
  let rest := c.zeros [(0, 1), (1, 1), (2, 1), (3, 1), (4, 1), (5, 1), (6, 1), (8, 4), (12, 4), (16, 4), (20, 4)] []
  firstOf [badRange ([c.outside 0 1 0 1, (1, if run then 3 < mode || (mode == 3 && n == 0) else mode != 0),
      (2, if ptp then 127 < c.u 2 1 else c.u 2 1 != 0), (3, if ptp then port 3 else c.u 3 1 != 255),
      (4, if ptp then port 4 && c.u 4 1 != 255 else c.u 4 1 != 255),
      (5, if slew then c.u 5 1 < 1 || 200 < c.u 5 1 else c.u 5 1 != 0), (6, if run then 1 < c.u 6 1 else c.u 6 1 != 0),
      (8, if ptp then c.u 8 4 < 1000 || 1000000000 < c.u 8 4 else c.u 8 4 != 0),
      (12, if pps then 10000 < c.u 12 4 else c.u 12 4 != 0),
      (16, if follow then decide (off < -1000000000) || decide (0 < off) else off != 0),
      (20, if run && out then c.u 20 4 < 1000 || 500000000 < c.u 20 4 else c.u 20 4 != 0)] ++ rest),
    badState (s.tbInUse n && (!run || mode != b.mode || (mode == 3 && off != b.follow))) c.object,
    badState (!run && b.slew.isSome) c.object]

/-- The state in which a mode begins. -/
def startState (mode : Nat) : Nat := if mode = 1 ∨ mode = 2 then 2 else 1

/-- PPS_OUT may be driven from a base (R403). -/
def TimeBase.drives (b : TimeBase) : Bool := b.ppsOut && (b.mode == 1 || b.mode == 2) && (b.state == 3 || b.state == 4)
/-- PPS_OUT falls when the base that drove it may not any more (R403). -/
def State.settlePps (s : State) : State :=
  (List.range 4).foldl (fun s n =>
    if (s.tb n).ppsHigh ∧ !(s.tb n).drives then (s.modTb n (fun b => { b with ppsHigh := false })).emit (.pin 2 false) else s) s

/-- A base stops, or runs in a mode with its settings; a mode that it already runs in keeps its state. -/
def effTimebaseConfig (c : Cmd) (s : State) : State :=
  let n := c.idx
  let b := s.tb n
  if c.u 0 1 = 0 then ((s.setTbStateFor c.q n 0).modTb n (fun b => { b with mode := 0, ppsOut := false })).settlePps.ok c
  else
    let mode := c.u 1 1
    let fresh := b.state = 0 ∨ b.mode ≠ mode
    let out := c.u 6 1 = 1
    let s0 := if out then (List.range 4).foldl (fun s i => s.modTb i (fun b => { b with ppsOut := false })) s else s
    let s1 := s0.modTb n (fun b => { b with
      mode := mode, domain := if mode = 1 then c.u 2 1 else b.domain, portA := c.u 3 1, portB := c.u 4 1,
      slewLimit := if mode = 3 then b.slewLimit else c.u 5 1, ppsOut := out,
      stepThreshold := if mode = 1 then c.u 8 4 else b.stepThreshold, ppsDelay := if mode = 2 then c.u 12 4 else b.ppsDelay,
      follow := if mode = 3 then c.i 16 4 else 0, pulseWidth := if out then c.u 20 4 else b.pulseWidth,
      offset := if mode = 3 then c.i 16 4 else if fresh then 0 else b.offset })
    let s2 := if fresh then
        (s1.modTb n (fun b => { b with
          inSyncs := 0, outSyncs := 0, validSyncs := 0, largePosted := false, master := none, incs := [], ppsE := none, goodEdges := 0, lastMaster := none, lastSync := s.now, lastAnnounce := s.now })).setTbStateFor c.q n (startState mode)
      else s1
    (s2.modTb n (fun b => b.followTb0 (s2.tb 0))).settlePps.ok c
def execTimebaseConfig (q seq : Nat) (s : State) : Out := opOut q (s.runOp 0x0701 q seq effTimebaseConfig)

/-! ### TIMEBASE_ADJUST (R402, R686, R687) -/

/-- An operation that the table of R402, or a STOPPED base, does not permit. -/
def State.badAdjust (s : State) (n op : Nat) : Bool :=
  let b := s.tb n
  b.mode == 1 || b.mode == 3 || (op != 0 && b.mode != 0) || (op ≤ 1 && s.tbInUse n) || (op == 2 && b.state == 0)
def checkTimebaseAdjust (s : State) (c : Cmd) : Verdict :=
  let v := c.i 4 4
  let bad := match c.u 0 1 with
    | 0 => false
    | 1 => decide (v < -2147483647)
    | 2 => decide (v < -1000000000) || decide (1000000000 < v)
    | _ => c.u 4 4 < incMin || incMax < c.u 4 4
  firstOf [badRange ([c.outside 0 1 0 3, (4, bad)] ++ c.zeros [(0, 1), (4, 4)] []), badState (s.badAdjust c.idx (c.u 0 1)) c.object]

/-- STEP: the amount is added to NS and to the extended value; a value below 0 keeps wrap count 0 (log entry 43). -/
def TimeBase.stepBy (b : TimeBase) (v : Int) : TimeBase :=
  let e := (b.ext : Int) + v
  if 0 ≤ e then { b with ns := e.toNat % two32, wraps := e.toNat / two32, epoch := xor b.epoch ((e.toNat / two32 + b.wraps) % 2 = 1) }
  else { b with ns := wrapInt 32 e, wraps := 0, epoch := xor b.epoch (b.wraps % 2 = 0) }

/-- An operation that the base's mode or use has come not to permit since check 9 completes with FAULT_INTERNAL (log entry 156). A SET of
a base in PPS mode takes effect, and completes, at the next edge. -/
def effTimebaseAdjust (c : Cmd) (s : State) : State :=
  let n := c.idx
  let v := c.i 4 4
  if s.badAdjust n (c.u 0 1) then s.fail c 0x0303 c.object
  else match c.u 0 1 with
    | 0 =>
      if (s.tb n).mode = 2 then
        s.modTb n (fun b => { b with ppsSets := b.ppsSets ++ [(c.u 4 4, c.q, c.seq)] })
      else (s.modTb n (fun b => { b with ns := c.u 4 4, frac := 0, wraps := 0 })).ok c
    | 1 => (s.modTb n (fun b => b.stepBy v)).ok c
    | 2 =>
      if v = 0 ∧ (s.tb n).slew.isNone then s.ok c
      else
        (s.modTb n (fun b =>
          let old := b.slew.getD { left := 0, cmds := [] }
          { b with slew := some { left := old.left + v * (two30 : Int), cmds := old.cmds ++ [(c.q, c.seq)] } })).modCmd c.q c.seq
            (fun d => { d with phase := .committed })
    | _ => (s.modTb n (fun b => { b with inc := c.u 4 4 })).ok c
def execTimebaseAdjust (q seq : Nat) (s : State) : Out := opOut q (s.runOp 0x0702 q seq effTimebaseAdjust)

/-- A slew ends at the tick that adds its remainder; its commands complete (R687). -/
def execSlewComplete (tb : Nat) (s : State) : Out :=
  need (tb < 4) <|
    match (s.tb tb).slew with
    | none => s
    | some sl =>
      let b := s.tb tb
      let c := slewStep b.slewLimit
      if b.mode != 3 && (b.state = 0 || !s.clocked) then s
      else
        let s1 := if b.mode = 3 ∨ c = 0 then s else s.advance (sl.left.natAbs / c + 1)
        let s2 := s1.modTb tb (fun b => { b with slew := none })
        sl.cmds.foldl (fun s id => s.completeId id 2 0) s2

/-! ### Captures (R423–R426, R667) -/

/-- A capture source code of *Capture sources*. -/
def isSource (x : Nat) : Bool := x ≤ 1 || (0x10 ≤ x && x ≤ 0x3F) || x == 0x40
/-- A CAPTURE_ARM accepted without an outcome is to arm a capture on a base (R423; log entry 187). -/
def State.armsCapture (s : State) (n : Nat) : Bool :=
  s.hif.cmds.any (fun d => d.opcode == 0x0704 && d.idx == n && d.u 0 1 ≤ 1)
def checkCaptureArm (s : State) (c : Cmd) : Verdict :=
  let op := c.u 0 1
  let arm := op ≤ 1
  let flow := arm && c.u 1 1 == 0x40
  let single := op == 0
  firstOf [badRange ([c.outside 0 1 0 2, (1, if arm then !isSource (c.u 1 1) else c.u 1 1 != 0),
      (4, if flow then (s.badObject c 4 6).2 else c.u 4 4 != 0),
      if single then c.optBuf 8 24 else (8, c.u 8 12 != 0)] ++ c.zeros [(0, 1), (1, 1), (4, 4), (8, 12)] []),
    badState (arm && (s.tb c.idx).state == 0) c.object,
    verdict (arm && ((s.tb c.idx).capture.isSome || s.armsCapture c.idx)) 0x0203 c.object]

/-- *Capture record*: seconds and nanoseconds only for a base in PTP mode. -/
def TimeBase.captureRecord (b : TimeBase) (source : Nat) : List Byte :=
  let p := b.mode = 1
  leBytes 4 b.ns ++ leBytes 4 b.frac ++ leBytes 8 (if p then b.ext / 1000000000 % 2 ^ 48 else 0) ++
  leBytes 4 (if p then b.ext % 1000000000 else 0) ++ leBytes 1 source ++ leBytes 3 0

/-- An event reaches the armed capture of a base. -/
def State.captured (s : State) (n : Nat) : State :=
  let b := s.tb n
  match b.capture with
  | none => s
  | some k =>
    let s1 := s.modTb n (fun x => { x with
      capNs := b.ns, capFrac := b.frac, capCount := (b.capCount + 1) % 65536, capValid := true, capOverrun := b.capOverrun || b.capValid,
      capture := if k.continuous then b.capture else none })
    if k.continuous then s1
    else
      match s1.findCmd k.q k.seq with
      | none => s1
      | some c =>
        let s2 := if k.bufLen = 0 then s1 else s1.writeBuf c k.bufAddr (b.captureRecord k.source)
        s2.ok c b.ns

/-- Arm, or disarm; a single capture that a disarm ends completes with OK_ABORTED (R667). -/
def effCaptureArm (c : Cmd) (s : State) : State :=
  let n := c.idx
  if c.u 0 1 = 2 then
    let s1 := s.modTb n (fun b => { b with capture := none })
    let s2 := match (s.tb n).capture with
      | some k => if k.continuous then s1 else s1.completeId (k.q, k.seq) 5 0
      | none => s1
    s2.ok c
  else
    let cont := c.u 0 1 = 1
    let k : Capture := { continuous := cont, source := c.u 1 1, flow := c.u 4 4 % 16777216, q := c.q, seq := c.seq,
                         bufAddr := c.u 8 8, bufLen := c.u 16 4 }
    let s1 := s.modTb n (fun b => { b with capture := some k, capCount := 0, capSource := c.u 1 1 })
    let s2 := if c.u 1 1 = 0 then s1.captured n else s1
    if cont then s2.ok c else s2
def execCaptureArm (q seq : Nat) (s : State) : Out := opOut q (s.runOp 0x0704 q seq effCaptureArm)

/-- A capture event of *Capture sources* happens at a ball. -/
def execCaptureEvent (tb source flow : Nat) (s : State) : Out :=
  need (tb < 4) <|
    match (s.tb tb).capture with
    | none => s
    | some k => if k.source = source ∧ (source ≠ 0x40 ∨ k.flow = flow) then s.captured tb else s

/-! ### Wraps (R388, R390) -/

/-- NS wraps: time runs to the instant. -/
def execTimeBaseWrap (tb : Nat) (s : State) : Out :=
  need (tb < 4) <| s.reachOn tb (((s.tb tb).wraps + 1) * two32)

/-! ### PTP (R394–R400) -/

/-- The mean INC over the last 64 s in LOCKED, or over all of them (R398): `left` ns of them are still to count, up to `stop`; time after an
entry of 0 was not in LOCKED. -/
def meanInc : List (Nat × Nat) → Nat → Nat → Nat → Nat → Nat
  | [], _, _, sum, time => if time = 0 then 0 else sum / time
  | (inc, since) :: l, left, stop, sum, time =>
    let d := if inc = 0 then 0 else min (stop - since) left
    meanInc l (left - d) (min since stop) (sum + inc * d) (time + d)

/-- Enter HOLDOVER at the mean INC of LOCKED; a base that was never LOCKED keeps its INC. -/
def State.holdover (s : State) (n : Nat) : State :=
  let b := s.tb n
  let m := meanInc b.incs 64000000000 s.now 0 0
  (s.modTb n (fun b => { b with inc := if m = 0 then b.inc else m, validSyncs := 0, goodEdges := 0 })).setTbState n 4

/-- The servo sets INC inside R389; in LOCKED it is noted for the mean. -/
def TimeBase.servo (b : TimeBase) (inc now : Nat) : TimeBase :=
  let i := min (max inc incMin) incMax
  { b with inc := i, incs := if b.state = 3 then ((i, now) :: b.incs).take 1024 else b.incs }

/-- INC as the servo may set it on a Sync (R399): within slew_limit of the INC at which the base would keep pace with its master, which
the last two Syncs show (log entry 150). -/
def TimeBase.paced (b : TimeBase) (masterNs inc : Nat) : Nat :=
  let pace := match b.lastMaster with
    | some (own, master) => if own < b.ext ∧ master < masterNs then b.inc * (masterNs - master) / (b.ext - own) else b.inc
    | none => b.inc
  let d := pace * b.slewLimit / 1000000
  min (max inc (pace - d)) (pace + d)

/-- A PTP message that a base in PTP mode takes: on one of its ports, in its domain (R394, R395). -/
def TimeBase.hears (b : TimeBase) (port domain : Nat) : Bool :=
  b.mode == 1 && b.state != 0 && (port == b.portA || port == b.portB) && domain == b.domain
/-- The delay request that answers a Sync goes out on the port of the Sync: an MP sub-port's arbiter sends it (08 R382), an MG port at once
(log entry 157). -/
def State.delayRequest (s : State) (port : Nat) : State :=
  if port < 16 then s.modSub (port / 4) (port % 4) (fun y => { y with ptpWaiting := y.ptpWaiting + 1 }) else s.emit (.wirePtp port 0)

/-- A Sync exchange of a base in PTP mode with its selected master (R394, R397, R398, R400). -/
def State.ptpSync (s : State) (n : Nat) (x : Sync) : State :=
  let b := s.tb n
  if !b.hears x.port x.domain ∨ !b.master.any (fun m => m.identity == x.source && m.port == x.port) then s
  else
    let off := sat32 x.offset
    let s0 := s.delayRequest x.port
    if !x.valid then s0.modTb n (fun b => { b with validSyncs := 0 })
    else
      let s1 := s0.modTb n (fun b => { b with offset := off, lastSync := s.now, lastMaster := some (b.ext, x.masterNs) })
      if b.state = 4 then
        if 16 ≤ b.validSyncs + 1 then
          (s1.modTb n (fun b => { b with validSyncs := 0, inSyncs := 0, outSyncs := 0 })).setTbState n 2
        else s1.modTb n (fun b => { b with validSyncs := b.validSyncs + 1 })
      else
        let near := x.offset.natAbs ≤ 1000
        let far := decide (b.stepThreshold < x.offset.natAbs)
        let s2 := s1.modTb n (fun b => { b with
          inSyncs := if near then b.inSyncs + 1 else 0, outSyncs := if near then 0 else b.outSyncs + 1 })
        let s4 :=
          if far ∧ !(s.tbInUse n) then
            s2.modTb n (fun b => { b with
              ns := x.masterNs % two32, wraps := x.masterNs / two32, frac := 0, lastMaster := some (x.masterNs, x.masterNs) })
          else
            let s3 := s2.modTb n (fun y => y.servo (b.paced x.masterNs x.inc) s.now)
            (if far ∧ !b.largePosted then s3.raise 0x0602 (tbId n) (wrapInt 32 off) 0 else s3).modTb n (fun b => { b with largePosted := far })
        if b.state = 2 ∧ 16 ≤ (s4.tb n).inSyncs then s4.setTbState n 3
        else if b.state = 3 ∧ 16 ≤ (s4.tb n).outSyncs then s4.setTbState n 2
        else s4

def execPtpSync (tb : Nat) (x : Sync) (s : State) : Out := need (tb < 4) <| s.ptpSync tb x

/-- The order of the best master clock algorithm (R394; of IEEE 1588, PRESUMED, log entry 44). -/
def Announce.rank (x : Announce) : List Nat :=
  [x.priority1, x.clockClass, x.accuracy, x.variance, x.priority2, x.identity, x.stepsRemoved]

/-- An Announce message: the better master is selected. -/
def execPtpAnnounce (tb : Nat) (x : Announce) (s : State) : Out :=
  need (tb < 4) <|
    let b := s.tb tb
    if b.hears x.port x.domain then
      let better := match b.master with
        | none => true
        | some m => (m.identity == x.identity && m.port == x.port) || decide (List.Lex (· < ·) (Announce.rank x) (Announce.rank m))
      s.modTb tb (fun b => { b with
        master := if better then some x else b.master, lastAnnounce := if better then s.now else b.lastAnnounce })
    else s

/-- No valid Sync for 8 intervals of 125 ms, or no Announce for 3 intervals of 250 ms: HOLDOVER (R395, R398). -/
def execSyncTimeout (tb : Nat) (s : State) : Out :=
  need (tb < 4) <|
    let b := s.tb tb
    if b.mode = 1 ∧ (b.state = 2 ∨ b.state = 3) then
      ((s.reach (min (b.lastSync + 1000000000) (b.lastAnnounce + 750000000))).modTb tb (fun b => { b with master := none })).holdover tb
    else s

/-! ### PPS (R401–R403) -/

/-- An edge of PPS_IN as one base in PPS mode takes it: E advances, or takes the value of the last SET that waits; an edge within
E ± 1 ms steers the base unless it is in HOLDOVER, by an INC that is a free value inside R389 and slew_limit (log entry 45). -/
def State.ppsEdge (s : State) (n : Nat) : State :=
  let b := s.tb n
  if b.mode ≠ 2 ∨ b.state = 0 then s
  else
    let secs := max 1 ((s.now - b.ppsAt + 500000000) / 1000000000)
    let e := match b.ppsSets.getLast? with
      | some (v, _, _) => some v
      | none => b.ppsE.map (fun e => (e + secs * 1000000000) % two32)
    let s1 := b.ppsSets.foldl (fun s x => s.completeId x.2 2 0) s
    let s2 := s1.modTb n (fun x => { x with
      ppsE := e, ppsSets := [], ppsAt := s.now, ppsNear := if b.ppsSets.isEmpty then x.ppsNear else s.now })
    match e with
    | none => s2
    | some v =>
      let off := signed 32 (wrapInt 32 ((b.ns : Int) - v - b.ppsDelay))
      let (r, s3) := s2.draw
      let c := min (1342177280 * b.slewLimit / 1000000) 671088
      let near := off.natAbs ≤ 1000000
      let s4 := s3.modTb n (fun b =>
        let y := { b with offset := off, ppsNear := if near then s.now else b.ppsNear }
        if near ∧ b.state ≠ 4 then y.servo (1342177280 - c + r % (2 * c + 1)) s.now else y)
      if b.state = 4 then
        if near then (s4.modTb n (fun b => { b with goodEdges := 0 })).setTbState n 2 else s4
      else
        let good := if off.natAbs ≤ 100 then b.goodEdges + 1 else 0
        let s5 := s4.modTb n (fun b => { b with goodEdges := good })
        if b.state = 2 ∧ 4 ≤ good then s5.setTbState n 3 else s5

/-- A rising edge of PPS_IN at a TB0 value. -/
def execPpsInEdge (t : Nat) (s : State) : Out :=
  need true <| (List.range 4).foldl (fun s n => s.ppsEdge n) (s.at32 t)

/-- No edge within E ± 1 ms for 2 s: HOLDOVER. -/
def execPpsEdgeTimeout (tb : Nat) (s : State) : Out :=
  need (tb < 4) <|
    let b := s.tb tb
    if b.mode = 2 ∧ (b.state = 2 ∨ b.state = 3) ∧ b.ppsE.isSome then (s.reach (b.ppsNear + 2001000000)).holdover tb else s

/-- PPS_OUT rises at the next whole second of the base. -/
def execPpsOutRise (tb : Nat) (s : State) : Out :=
  need (tb < 4) <|
    let b := s.tb tb
    if b.drives ∧ !b.ppsHigh then
      ((s.reachOn tb ((b.ext / 1000000000 + 1) * 1000000000)).modTb tb (fun b => { b with ppsHigh := true })).emit (.pin 2 true)
    else s

/-- PPS_OUT falls pulse_width after the second. -/
def execPpsOutFall (tb : Nat) (s : State) : Out :=
  need (tb < 4) <|
    let b := s.tb tb
    if b.ppsHigh then
      ((s.reachOn tb (b.ext / 1000000000 * 1000000000 + b.pulseWidth)).modTb tb (fun b => { b with ppsHigh := false })).emit (.pin 2 false)
    else s

end Sys2Proof.Machine
end

