-- ==== Sys2Proof/Machine/Apply.lean ====
section
/-!
DEFINITION. The effect of a taken command by its opcode, wherever it comes: at its start, at a clearing, at its time, by a lead's note
or by the replay of flash; and what acceptance takes in hand by opcode (01 R37, 14 R581).
-/
set_option Elab.async false
namespace Sys2Proof.Machine

open Sys2Proof

/-- The effect of a taken command. -/
def State.applyOp (c : Cmd) (s : State) : State :=
  match c.opcode with
  | 0x0001 => effNop c s
  | 0x0002 => effGetInfo c s
  | 0x0003 => effResetUnit c s
  | 0x0004 => effWarmReset c s
  | 0x0005 => effSetLoopBounds c s
  | 0x0006 => effDeviceConfig c s
  | 0x0010 => effAbort c s
  | 0x0101 => effHitch c s
  | 0x0102 => effQueueConfig c s
  | 0x0103 => effJournalQuery c s
  | 0x0201 => effFlowRxOpen c s
  | 0x0202 => effFlowRxClose c s
  | 0x0203 => effBraidConfig c s
  | 0x0204 => effBraidLoopback c s
  | 0x0205 => effBraidRestrand c s
  | 0x0206 => effSourceBind c s
  | 0x0207 => effSourceStatus c s
  | 0x0208 => effPolicerSet c s
  | 0x0301 => effCanopyConfig c s
  | 0x0302 => effLayerSet c s
  | 0x0303 => effLayerUpload c s
  | 0x0304 => effCommit c s
  | 0x0305 => effLampTableLoad c s
  | 0x0306 => effWallTiling c s
  | 0x0307 => effScalerCoefs c s
  | 0x0401 => effProgramConfig c s
  | 0x0402 => effProgramStart c s
  | 0x0403 => effProgramStop c s
  | 0x0404 => effForceRefresh c s
  | 0x0405 => effSubpicMap c s
  | 0x0501 => effRateConfig c s
  | 0x0502 => effRateBounds c s
  | 0x0503 => effRateStatus c s
  | 0x0601 => effFlowTxOpen c s
  | 0x0602 => effFlowTxClose c s
  | 0x0603 => effShaperSet c s
  | 0x0604 => effSchedClassSet c s
  | 0x0701 => effTimebaseConfig c s
  | 0x0702 => effTimebaseAdjust c s
  | 0x0703 => effLaunchPolicy c s
  | 0x0704 => effCaptureArm c s
  | 0x0801 => effTwinConfig c s
  | 0x0802 => effTwinRole c s
  | 0x0803 => effTwinStatus c s
  | 0x0804 => effSplice c s
  | 0x0901 => effMemPolicy c s
  | 0x0902 => effMemRetrain c s
  | 0x0903 => effMemFreq c s
  | 0x0904 => effEccMode c s
  | 0x0905 => effEccLogRead c s
  | 0x0906 => effScrubConfig c s
  | 0x0907 => effEccTest c s
  | 0x0A01 => effCvConfig c s
  | 0x0A02 => effCvContext c s
  | 0x0B01 => effAudioPortConfig c s
  | 0x0B02 => effAudioRoute c s
  | 0x0B03 => effAudioStatus c s
  | 0x0C01 => effPowerBudget c s
  | 0x0C02 => effPermitStatus c s
  | 0x0C03 => effAvsBounds c s
  | 0x0C04 => effClockStatus c s
  | 0x0D01 => effUpdateBegin c s
  | 0x0D02 => effUpdateData c s
  | 0x0D03 => effUpdateVerify c s
  | 0x0D04 => effUpdateSchedule c s
  | 0x0D05 => effUpdateConfirm c s
  | 0x0D06 => effUpdateCancel c s
  | 0x0D07 => effOwnerLock c s
  | 0x0D08 => effLifecycleAdvance c s
  | 0x0D09 => effReturnAuthorise c s
  | 0x0E01 => effPmcConfig c s
  | 0x0E02 => effSampleConfig c s
  | 0x0E03 => effTraceConfig c s
  | 0x0E04 => effEventMask c s
  | _ => s

/-- Charges, reservations and permits that a command takes at its acceptance. -/
def State.onAccept (c : Cmd) (s : State) : State :=
  match c.opcode with
  | 0x0003 => acceptResetUnit c s
  | 0x0006 => acceptDeviceConfig c s
  | 0x0201 => acceptFlowRxOpen c s
  | 0x0203 => acceptBraidConfig c s
  | 0x0302 => acceptLayerSet c s
  | 0x0305 => acceptLampTableLoad c s
  | 0x0402 => acceptProgramStart c s
  | 0x0601 => acceptFlowTxOpen c s
  | 0x0603 => acceptShaperSet c s
  | 0x0902 => acceptMemRetrain c s
  | 0x0903 => acceptMemFreq c s
  | 0x0C01 => acceptPowerBudget c s
  | 0x0D02 => acceptUpdateData c s
  | _ => s

end Sys2Proof.Machine
end

