-- ==== Sys2Proof/Machine/Journal.lean ====
section
/-!
DEFINITION. The command packet (02 R53, R55), the journal (R57, R61, R62, R65) and the flash journal (R103).
-/
set_option Elab.async false
namespace Sys2Proof.Machine

open Sys2Proof

/-- *Command packet header*. -/
structure Header where
  opcode : Nat
  queue : Nat
  flags : Nat
  seq : Nat
  length : Nat
  alive : Nat
  object : Nat
  effTime : Nat
  effTb : Nat
  corr : Nat
  /-- every reserved bit and byte is zero (R55) -/
  clean : Bool
deriving DecidableEq, Repr

/-- A field of a packet. -/
def pktU (b : List Byte) (off n : Nat) : Nat := leNat ((b.drop off).take n)
def headerOf (b : List Byte) : Header :=
  { opcode := pktU b 0 2, queue := pktU b 2 1 % 16, flags := pktU b 3 1, seq := pktU b 4 4, length := pktU b 8 2, alive := pktU b 10 1,
    object := pktU b 12 4, effTime := pktU b 16 4, effTb := pktU b 20 1 % 4, corr := pktU b 24 4,
    clean := pktU b 2 1 < 16 && pktU b 3 1 < 16 && pktU b 11 1 == 0 && pktU b 20 1 < 4 && pktU b 21 3 == 0 && pktU b 28 4 == 0 }
/-- The parameter bytes of a packet. -/
def paramsOf (b : List Byte) (length : Nat) : List Byte := (b.drop 32).take (length - 36)

/-- The taken command that a packet spells. -/
def cmdOf (b : List Byte) (pos : Nat) (to_ : ReplyTo) (host : List Byte) : Cmd :=
  let h := headerOf b
  { q := h.queue, seq := h.seq, opcode := h.opcode, flags := h.flags, object := h.object, effTime := h.effTime, effTb := h.effTb,
    corr := h.corr, params := paramsOf b h.length, hostData := host, pos := pos, replyTo := to_, packet := b }

/-- A packet is taken: the expected SEQ and ALIVE follow it, and its SEQ enters the window with its ACCEPT reply (R57, R59, R61, R65). -/
def State.take (s : State) (q : Nat) (h : Header) (e : JEntry) : State :=
  s.modQueue q (fun k => { k with
    expSeq := (h.seq + 1) % two32, expAlive := (h.alive + 1) % 256, resyncState := false, anyAlive := false,
    window := (e :: k.window).take 1024 })

/-- The flash record of a DURABLE command. -/
def Cmd.record (c : Cmd) : FlashRec :=
  { q := c.q, seq := c.seq, opcode := c.opcode, flags := c.flags, object := c.object, corr := c.corr, params := c.params,
    order := c.flashOrder }
/-- A record enters the flash journal in acceptance order, whenever its write ends (R111). -/
def insertRecord (r : FlashRec) (l : List FlashRec) : List FlashRec :=
  l.takeWhile (fun x => x.order < r.order) ++ r :: l.dropWhile (fun x => x.order < r.order)
/-- A command that goes to flash takes its place behind every other, written or being written (R111). -/
def State.stampOrder (s : State) (c : Cmd) : Cmd :=
  if c.toFlash then
    { c with flashOrder := 1 + max ((s.nv.flash.map FlashRec.order).foldl max 0) ((s.hif.cmds.map Cmd.flashOrder).foldl max 0) }
  else c
/-- The flash journal has no free record (R103): the commands whose write is under way have theirs. -/
def State.flashFull (s : State) : Bool :=
  Config.flashRecords ≤ s.nv.flash.length + (s.hif.cmds.filter (fun c => c.toFlash && !c.flashDone)).length

/-- The pending time of a command that names one (R406). -/
def State.stampTime (s : State) (c : Cmd) : Cmd :=
  let stored (n t : Nat) : Cmd :=
    let pend := (s.tb n).store33 t
    { c with pend := pend, fireAt := s.pendExt n pend }
  if c.opcode = 0x0D04 then stored 0 (c.u 0 4) else if c.effTime = 0 then c else stored c.effTb c.effTime

end Sys2Proof.Machine
end

