-- ==== Sys2Proof/Machine/TwinApply.lean ====
section
/-!
DEFINITION. What a device does with its peer's messages about commands and state (10 R431, R442–R449, R457): a follower's journal, the
application of COMMIT_NOTEs, the join epoch, and becoming lead.
-/
set_option Elab.async false
namespace Sys2Proof.Machine

open Sys2Proof

/-! ### The follower's journal (R442) -/

/-- JOURNAL_ACK of an acceptance position. -/
def State.ackJournal (s : State) (pos : Nat) : State :=
  ({ s with twin := { s.twin with journaled := max s.twin.journaled pos } }).tetherSend 4 (leBytes 8 pos)
/-- A position that the device already holds: its command waits, or the duplicate window has its SEQ. -/
def State.holdsPos (s : State) (pos : Nat) (h : Header) : Bool :=
  s.hif.cmds.any (fun c => c.replicated && c.pos == pos) ||
    (decide (pos ≤ s.twin.journaled) && (s.queue h.queue).window.any (fun e => e.seq == h.seq))
/-- Commands stand in acceptance order. -/
def insertCmd (c : Cmd) (l : List Cmd) : List Cmd :=
  l.takeWhile (fun d => d.pos ≤ c.pos) ++ c :: l.dropWhile (fun d => d.pos ≤ c.pos)
/-- A COMMAND is journaled, in flash too when it is DURABLE, and acknowledged once it is; a position already held is only acknowledged, when
every journal that it needs has it. A position missed until now leaves what later ones have made of the queue's expected SEQ. The reply
address of a UDP queue is its bound source. -/
def State.journalCommand (s : State) (pos : Nat) (packet : List Byte) : State :=
  let h := headerOf packet
  if s.holdsPos pos h then
    if s.hif.cmds.any (fun c => c.replicated && c.pos == pos && c.phase == .accepting) then s else s.ackJournal pos
  else
    let b := (s.queue h.queue).bind
    let c0 := { cmdOf packet pos { udp := b.udp, addr := b.srcAddr, port := b.srcPort } [] with phase := .accepted }
    let c := s.stampOrder c0
    let e : JEntry := { seq := h.seq, opcode := h.opcode, corr := h.corr, accept := { kind := 1, status := 1, ts := s.ts }, quiet := c.quiet }
    let s1 := if s.twin.journaled < pos then s.take h.queue h e
      else s.modQueue h.queue (fun k => { k with window := (e :: k.window).take 1024 })
    let s2 := { s1 with hif := { s1.hif with nextPos := max s1.hif.nextPos (pos + 1) } }
    if c.toFlash then { s2 with
      hif := { s2.hif with cmds := insertCmd { c with phase := .accepting } s2.hif.cmds },
      twin := { s2.twin with journaled := max s2.twin.journaled pos } }
    else ({ s2 with hif := { s2.hif with cmds := insertCmd c s2.hif.cmds } }).ackJournal pos

/-! ### COMMIT_NOTE (R444, R447) -/

/-- The rejection that a note reports is journaled. -/
def State.journalReject (s : State) (c : Cmd) (status detail : Nat) : State :=
  let s0 := s.dropCmd c.q c.seq
  let s1 := { s0 with nv := { s0.nv with flash := flashDone s0.nv.flash c.q c.seq } }
  s1.modQueue c.q (fun k => { k with window := k.window.map (fun e =>
    if e.seq = c.seq then { e with accept := { kind := 1, status := status, detail := detail, ts := s.ts } } else e) })

/-- An upload or load whose data came as a data epoch takes effect as the note says. -/
def State.applyData (s : State) (c : Cmd) : State :=
  match s.epochOf c.pos with
  | none => (s.replicaFailed c).complete c 2 0
  | some b =>
    let s1 := s.modCmd c.q c.seq (fun d => { d with phase := .started })
    let s2 := { s1 with twin := { s1.twin with verified := s1.twin.verified.filter (fun x => x.pos != c.pos) } }
    if c.opcode = 0x0303 then ((s2.kickUpload c.layerIdx).ownerWrites (layerId c.layerIdx)).uploadArrived c.layerIdx b.bytes
    else (s2.kickLoad c.idx).lampArrived c.idx b.entries

/-- An UPDATE_DATA from host memory is written from its data epoch. -/
def State.applyUpdateData (s : State) (c : Cmd) : State :=
  if c.u 8 1 = 0 then s.applyOp c
  else match s.epochOf c.pos with
    | none => (s.replicaFailed c).complete c 2 0
    | some b =>
      ({ s with twin := { s.twin with verified := s.twin.verified.filter (fun x => x.pos != c.pos) } }).applyOp { c with hostData := b.bytes }

/-- Host bytes that only the lead reads and no epoch carries (SCALER_COEFS) are open here (log entry 5). -/
def State.openHostData (s : State) (c : Cmd) : Cmd × State :=
  if c.opcode = 0x0307 ∧ c.u 1 1 = 1 then
    let (v, s1) := s.draw
    ({ c with hostData := (List.range (128 * c.u 2 1)).map (fun i => BitVec.ofNat 8 (v / 256 ^ i)) }, s1)
  else (c, s)

/-- What the note of a started command brings: its effect now, or at the clearing or time that the note names (10 R444, R446). -/
def State.applyStarted (s1 : State) (c : Cmd) (n : Note) : State :=
  if c.opcode = 0x0303 ∨ c.opcode = 0x0305 then s1.applyData c
  else if c.opcode = 0x0304 then s1.armCommit c
  else if c.opcode = 0x0D02 then s1.applyUpdateData c
  else if c.clearing ∧ n.kind ≠ 0 then s1.modCmd c.q c.seq (fun d => { d with clearOf := s1.targetCanopy c.object })
  else if n.kind = 2 then s1
  else s1.applyOp { c with effTime := 0 }
/-- The effect that a note of success names: at once, at a clearing, or at a time. -/
def State.applyGood (s : State) (c0 : Cmd) (n : Note) : State :=
  let (c1, s0) := (s.onAccept c0).openHostData c0
  let time := n.kind = 2
  let c : Cmd := if time then { c1 with effTime := n.effect, effTb := n.tb } else c1
  let c := if time then s0.stampTime c else c
  let s1 := s0.modCmd c.q c.seq (fun _ => { c with phase := .started })
  let at_ := s1.extend n.effect
  let s2 := s1.applyStarted c n
  if n.kind = 1 then s2.modCmd c.q c.seq (fun d => { d with notBefore := some at_ }) else s2

/-- The outcome is the note's: a follower never decides one itself (R444). -/
def State.noteStands (s : State) (c : Cmd) (status detail : Nat) : State :=
  s.modQueue c.q (fun k => { k with window := k.window.map (fun e =>
    if e.seq = c.seq then { e with outcome := e.outcome.map (fun r => { r with status := status, detail := detail }) } else e) })
/-- An effect that the lead has had, applied here: where it does not come to the same outcome, the application has failed (R444, R447). -/
def State.judgeReplica (s : State) (c : Cmd) (n : Note) : State :=
  let own := (s.outcomeOf c).1
  let s1 := if own ≠ 2 ∧ own / 256 ≠ 3 then s.replicaFailed c else s
  if own = 2 then s1 else s1.noteStands c n.status n.detail
/-- A note is applied to its journaled command: success, an abort, an outcome without effect, an execution fault, or a rejection. The
target of an ABORT has a note of its own. -/
def State.applyNote (s : State) (pos : Nat) (n : Note) : State :=
  match s.hif.cmds.find? (fun c => c.replicated && c.pos == pos) with
  | none => s
  | some c =>
    if n.status = 2 then
      if c.opcode = 0x0010 then s.complete c 2 n.detail else (s.applyGood c n).judgeReplica c n
    else if n.status = 4 then s.complete c 4 n.detail
    else if n.status = 5 then (s.undoCmd c).complete c 5 0
    else if n.status / 256 = 3 ∨ c.opcode = 0x0010 then (s.undoCmd c).complete c n.status n.detail
    else s.journalReject c n.status n.detail

/-- The note next in commit-sequence order whose command has been journaled. -/
def State.nextNote (s : State) : Option (Nat × Note) :=
  match s.twin.notes.foldl (fun (m : Option (Nat × Note)) e =>
      match m with
      | none => some e
      | some x => if e.2.commitSeq < x.2.commitSeq then some e else m) none with
  | none => none
  | some e => if (s.twin.applied = 0 ∨ e.2.commitSeq ≤ s.twin.applied + 1) ∧
      s.hif.cmds.any (fun c => c.replicated && c.pos == e.1) then some e else none
/-- Notes held are applied in commit-sequence order. -/
def State.applyNotes : Nat → State → State
  | 0, s => s
  | fuel + 1, s =>
    match s.nextNote with
    | none => s
    | some e =>
      let s1 := { s with twin := { s.twin with
        notes := s.twin.notes.filter (fun x => x.2.commitSeq != e.2.commitSeq), applied := max s.twin.applied e.2.commitSeq } }
      (s1.applyNote e.1 e.2).applyNotes fuel

/-! ### The join epoch (R431, R448) -/

/-- *Contents of a join epoch*, which the spec lists without their encoding (log entry 58). -/
structure JoinContent where
  queues : Tab CmdQueue
  /-- taken commands without an outcome, and the last commit sequence -/
  cmds : List Cmd
  commitSeq : Nat
  canopies : Tab Canopy
  layers : Tab Layer
  lampTable : Tab LampRegion
  progs : Tab Program
  rx : Tab RxFlow
  tx : Tab TxFlow
  /-- by flow, the packets before the access unit of the apply clearing (R360) -/
  seqs : Tab Nat
  /-- weights of the best-effort queues, by sub-port -/
  weights : Tab (Tab Nat)
  bases : Tab TimeBase
  audioIns : Tab AudioIn
  audioPorts : Tab AudioPort
  routes : Tab Route
  charges : List Charge
  reservations : List Reservation
  eqBounds : Tab EqBounds
  avsBounds : Tab (Nat × Nat)
  eccModes : List Nat
  memOrder : Nat
  memRates : List Nat
  pageIdle : Nat
  postpone : Nat
  refreshThreshold : Nat
  scrubHours : Nat
  scrubNext : Option Nat
  limit : Nat
  throttle : Nat
  vinUpdateMin : Nat
deriving Inhabited

end Sys2Proof.Machine

namespace Sys2Proof.Config

/-- The bytes of a join epoch of some content, and what bytes of one say: their encoding is open (log entry 58). -/
opaque joinBytes : Sys2Proof.Machine.JoinContent → List Nat
opaque joinContent : List Nat → Sys2Proof.Machine.JoinContent

end Sys2Proof.Config

namespace Sys2Proof.Machine

open Sys2Proof

/-- The whole state of a would-be lead at its acceptance cut (R431, R448); `v` is where each running program's RTP sequence numbers will
stand at the apply clearing, which lies ahead (log entry 58). -/
def State.joinState (s : State) (v : Nat) : JoinContent :=
  { queues := (List.range 15).map (fun q => (q, s.queue q)), cmds := s.hif.cmds.filter Cmd.replicated, commitSeq := s.twin.commitSeq,
    canopies := s.comp.canopies, layers := s.comp.layers, lampTable := s.comp.lampTable, progs := s.progs, rx := s.rx,
    tx := s.egress.flows,
    seqs := s.egress.flows.map (fun e => (e.1, if (s.prog e.2.prog).running then v / 65536 ^ e.1 % 65536 else e.2.k)),
    weights := s.egress.subPorts.map (fun e => (e.1, e.2.weights)),
    bases := s.time.bases, audioIns := s.audio.ins, audioPorts := s.audio.ports, routes := s.audio.routes, charges := s.charges,
    reservations := s.mem.reservations, eqBounds := s.obs.eqBounds, avsBounds := s.power.avsBounds, eccModes := s.mem.eccModes,
    memOrder := s.mem.order, memRates := s.mem.rates, pageIdle := s.mem.pageIdle, postpone := s.mem.postpone,
    refreshThreshold := s.mem.threshold, scrubHours := s.mem.scrubHours, scrubNext := s.mem.scrubNext, limit := s.power.limit,
    throttle := s.power.threshold, vinUpdateMin := s.power.vinUpdateMin }

/-- A queue's journal as of the cut; the rest of the queue is this device's own. -/
def CmdQueue.join (own c : CmdQueue) : CmdQueue :=
  { own with expSeq := c.expSeq, expAlive := c.expAlive, resyncState := c.resyncState, window := c.window }
/-- Clearings of a running canopy from the cut up to an instant. -/
def Canopy.clearingsTo (c : Canopy) (t : Nat) : Nat :=
  let gr := gridOf c.geom.rate c.geom.offset
  if c.running ∧ c.g < t then gr.firstAfter (t - 1) - gr.firstAfter (c.g - 1) else 0
/-- A canopy as it stands at the apply clearing: its grid and its frame count have gone on; its frames are this device's own. -/
def Canopy.joined (c : Canopy) (t : Nat) : Canopy :=
  let gr := gridOf c.geom.rate c.geom.offset
  let n := c.clearingsTo t
  { c with frames := [], frameCount := c.frameCount + n, g := if n = 0 then c.g else gr.at (gr.firstAfter (t - 1)) }
/-- A program starts muted and in follow mode at its picture of the apply clearing (R431); its pictures and references, which no join epoch
carries, are none of this device's. -/
def Program.joined (p : Program) (n : Nat) : Program :=
  let x := { p with
    pictures := p.pictures + n, pics := [], store := [], records := [], agreed := [], ownCrcs := [], peerCrcs := [], peerReady := [],
    refs := p.refs.map (fun r => { r with available := false, motion := [], digests := [] }),
    mutedFrom := 0, peerMuted := none, peerMutedFrom := 0, splicedFrom := 0, followEnd := 0, recordsUntil := 0, splicedNow := none }
  if p.running || p.draining then { x with muted := some 3, follow := true } else x
/-- An ingress flow as configured; what it has received is this device's own, and none yet. -/
def RxFlow.joined (f : RxFlow) : RxFlow :=
  { f with seen := [], newest := none, state := 3, notComplete := 0, lastTsDrop := none, frames := [], past := [], held := none,
           counters := {}, samples := [] }
/-- An egress flow as configured, at its sequence number of the apply clearing. -/
def TxFlow.joined (f : TxFlow) (k : Nat) : TxFlow :=
  { f with k := k, legs := f.legs.map (fun l => { l with released := [], queue := [], sending := none, excused := 0, counts := [] }) }
/-- The would-be follower takes the lead's whole state at the apply clearing `t`. -/
def State.takeJoin (s : State) (j : JoinContent) (t : Nat) : State :=
  { s with
    hif := { s.hif with
      cmds := s.hif.cmds.filter (fun (c : Cmd) => !c.replicated) ++ j.cmds,
      queues := ((List.range 15).foldl (fun t q => Tab.set t q ((s.queue q).join (j.queues.get {} q))) s.hif.queues) },
    comp := { canopies := j.canopies.map (fun (e : Nat × Canopy) => (e.1, e.2.joined t)), layers := j.layers, lampTable := j.lampTable },
    progs := j.progs.map (fun (e : Nat × Program) => (e.1, e.2.joined ((j.canopies.get {} e.1).clearingsTo t))),
    rx := j.rx.map (fun (e : Nat × RxFlow) => (e.1, e.2.joined)),
    egress := { s.egress with
      flows := j.tx.map (fun (e : Nat × TxFlow) => (e.1, e.2.joined (j.seqs.get 0 e.1))),
      subPorts := j.weights.foldl (fun t (e : Nat × Tab Nat) => Tab.upd {} t e.1 (fun x => { x with weights := e.2 })) s.egress.subPorts },
    time := { s.time with bases := (List.range 4).foldl (fun t n =>
      let own := s.tb n
      let b := j.bases.get {} n
      Tab.set t n { own with
        mode := b.mode, domain := b.domain, slewLimit := b.slewLimit, stepThreshold := b.stepThreshold, ppsDelay := b.ppsDelay,
        follow := b.follow, ppsOut := b.ppsOut, pulseWidth := b.pulseWidth }) s.time.bases },
    audio := { s.audio with
      ins := j.audioIns.foldl (fun t (e : Nat × AudioIn) => Tab.upd {} t e.1 (fun x => { x with enabled := e.2.enabled })) s.audio.ins,
      ports := j.audioPorts, routes := j.routes },
    charges := j.charges,
    obs := { s.obs with eqBounds := j.eqBounds },
    mem := { s.mem with
      reservations := j.reservations, eccModes := j.eccModes, order := j.memOrder, rates := j.memRates, pageIdle := j.pageIdle,
      postpone := j.postpone, threshold := j.refreshThreshold, scrubHours := j.scrubHours, scrubNext := j.scrubNext },
    power := { s.power with avsBounds := j.avsBounds, limit := j.limit, threshold := j.throttle, vinUpdateMin := j.vinUpdateMin } }

/-- The join epoch applies on the lead (R431). -/
def State.joinLead (s : State) : State :=
  let s1 := { s with twin := { s.twin with role := 2, peerLost := false, split := false, joinApply := none } }
  let s2 := { s1 with progs := s1.progs.map (fun (e : Nat × Program) =>
    (e.1, if e.2.running then { e.2 with peerMuted := some 3, peerMutedFrom := 0, aloneNoted := false } else e.2)) }
  let s3 := (List.range 16).foldl (fun s p =>
    if (s.prog p).running then (s.sendRecords p 0 0).askTwinRefresh p else s) s2
  s3.raise 0x0701 deviceId s.twin.term 0
/-- The join epoch applies on the follower, which then journals the commands taken after the cut (R431). -/
def State.joinFollower (s : State) (b : EpochBuf) : State :=
  let held := s.twin.held
  let j := Config.joinContent (b.bytes.map BitVec.toNat)
  let s1 := s.takeJoin j (s.twin.joinApply.getD s.now)
  let s2 := { s1 with twin := { s1.twin with
    role := 3, peerLost := false, split := false, joinApply := none, joinIn := none, held := [], journaled := b.pos,
    applied := j.commitSeq, term := s1.twin.peerTerm } }
  let s3 := s2.raise 0x0701 deviceId s2.twin.term 0
  let s4 := held.foldl (fun s e => s.journalCommand e.1 e.2) s3
  s4.applyNotes s4.twin.notes.length
/-- The join epoch applies: the roles are taken, TWIN_FORMED posted. -/
def State.applyJoin (s : State) : State :=
  if s.twin.askRole = 2 ∨ s.isLead then s.joinLead
  else match s.twin.joinIn with
    | none => s
    | some b => s.joinFollower b

/-- The clearing at which a join epoch applies has come: of any running canopy, or none running the instant itself. -/
def State.joinDue (s : State) (g : Nat) : Bool := s.twin.joinApply.any (fun t => t ≤ g)

/-! ### Becoming lead (R457, R460) -/

/-- Insert a note in commit-sequence order. -/
def insertNote (n : Nat × Note) : List (Nat × Note) → List (Nat × Note)
  | [] => [n]
  | m :: l => if n.2.commitSeq ≤ m.2.commitSeq then n :: m :: l else m :: insertNote n l
/-- Numbers in rising order. -/
def insertNums : List Nat → List Nat
  | [] => []
  | n :: l => (insertNums l).takeWhile (fun x => x ≤ n) ++ n :: (insertNums l).dropWhile (fun x => x ≤ n)
/-- Replicated commands of the journal whose data comes as a data epoch and has not been verified, in acceptance order (R446). -/
def State.dataWaiting (s : State) : List Cmd :=
  s.hif.cmds.filter (fun (c : Cmd) => c.replicated && !s.twin.verified.any (fun b => b.pos == c.pos) &&
    (c.opcode == 0x0303 || c.opcode == 0x0305 || (c.opcode == 0x0D02 && c.u 8 1 != 0)))
/-- Epochs that a takeover finds incomplete are discarded, and end their commands: an EPOCH_DATA does not name its command, and epochs are
sent in acceptance order (R450; log entry 173). -/
def State.endIncomplete (s : State) (l : List EpochBuf) : State :=
  let nums := insertNums (l.map EpochBuf.number)
  let s1 := nums.foldl (fun s n => s.raise 0x070D deviceId n 0) s
  (s1.dataWaiting.zip nums).foldl (fun s e => s.complete e.1 0x0303 e.2) s1
/-- Reply room that a command still holds: its ACCEPT and its COMPLETE, or the one that is left (02 R79). -/
def Cmd.owes (c : Cmd) : Nat := if c.phase = .accepting then 2 else if c.quiet then 0 else 1
/-- The room of a queue's commands that this device answers itself; those it holds for its lead need none (02 R79, R446). -/
def State.reserveReplies (s : State) : State :=
  { s with hif := { s.hif with
    queues := (List.range 15).foldl (fun t q => Tab.set t q { s.queue q with
      reserved := ((s.hif.cmds.filter (fun (c : Cmd) => c.q == q && !s.mute c)).map Cmd.owes).foldl (· + ·) 0 }) s.hif.queues } }
/-- The device is the lead of a new term: it goes on from the last commit sequence it knows, and every queue but CQ15 may start with any
ALIVE (10 R457); the commands it replays start in acceptance order (02 R111). -/
def State.takeLead (s : State) (term last : Nat) (lost : Bool) : State :=
  State.reserveReplies { s with
    twin := { s.twin with
      role := 2, term := term % two32, peerLost := lost, receiving := [], joinIn := none, notes := [], commitSeq := max s.twin.commitSeq last,
      held := [] },
    hif := { s.hif with
      cmds := s.hif.cmds.map (fun c => if c.waitingToStart then { c with again := true } else c),
      queues := (List.range 15).foldl (fun t q => Tab.set t q { s.queue q with anyAlive := true }) s.hif.queues } }
/-- The end of a takeover, once every note is applied: the programs of a lost peer are unmuted, an incomplete epoch is given up, and the
commands that waited for the lead's word are accepted (10 R450, R457). -/
def State.leadNow (s : State) (receiving : List EpochBuf) (lost : Bool) : State :=
  let s3 := if lost then s.unmuteAll else s
  let s4 := s3.endIncomplete receiving
  ((s4.twinCount 5).raise 0x0708 deviceId s4.twin.term 0).tryAccepts
/-- The follower becomes lead, and goes on with its journal; `lost` when its peer is gone. -/
def State.becomeLead (s : State) (term : Nat) (lost : Bool) : State :=
  let notes := s.twin.notes.foldl (fun l n => insertNote n l) []
  let last := (notes.map (fun n => n.2.commitSeq)).foldl max s.twin.applied
  (notes.foldl (fun s e => s.applyNote e.1 e.2) (s.takeLead term last lost)).leadNow s.twin.receiving lost

end Sys2Proof.Machine
end

