-- ==== Sys2Proof/Machine/Clearing.lean ====
section
/-!
DEFINITION. The clearing of a canopy (04 R201–R207, R212–R214, R691, R696; 09 R408) and commands that reach their effect time (02 R101).
-/
set_option Elab.async false
namespace Sys2Proof.Machine

open Sys2Proof

/-! ### What is due at a grid instant -/

/-- A command that waits for a clearing may take effect at grid instant `g`: it started before, and its time has come (R99). -/
def State.dueAt (s : State) (c : Cmd) (g : Nat) : Bool :=
  !c.waitingToStart && c.notBefore.all (fun t => t ≤ g) && (c.effTime == 0 || s.fired c)

/-- An armed COMMIT takes effect on its whole group (R202), and completes. -/
def State.applyCommit (s : State) (id : Nat × Nat) (g : Nat) : State :=
  let s1 := (List.range 16).foldl (fun s k =>
    let mine := (s.canopy k).copies.filter (fun x => x.1 = id.1 ∧ x.2.1 = id.2)
    mine.foldl (fun s x => s.applyCopy x.2.2 g)
      (s.modCanopy k (fun c => { c with copies := c.copies.filter (fun x => !(x.1 = id.1 ∧ x.2.1 = id.2)) }))) s
  s1.completeId id 2 0
/-- The COMMITs whose copies a canopy holds. -/
def Canopy.commits (c : Canopy) : List (Nat × Nat) := (c.copies.map (fun x => (x.1, x.2.1))).dedup
/-- Armed COMMITs that are due (R201). -/
def State.applyCommits (s : State) (k g : Nat) : State :=
  (s.canopy k).commits.foldl (fun s id =>
    if (s.findCmd id.1 id.2).all (fun c => s.dueAt c g) then s.applyCommit id g else s) s

/-- A command that waits for this canopy, other than a CANOPY_CONFIG whose geometry waits. -/
def Cmd.waitsFor (c : Cmd) (k : Nat) : Bool := c.clearOf == some k && c.opcode != 0x0304 && !(c.opcode == 0x0301 && c.armed)
/-- Commands that wait for a canopy take effect in acceptance order (R206); `all` also those whose instant has not come (R691). -/
def State.applyWaiting (s : State) (k g : Nat) (all : Bool) : State :=
  (s.hif.cmds.filter (fun c => c.waitsFor k)).foldl (fun s c =>
    match s.findCmd c.q c.seq with
    | none => s
    | some d => if (all || s.dueAt d g) && !d.waitingToStart then s.applyOp { d with armed := true } else s) s

/-! ### A change of the grid, and a stop (R691, R696) -/

/-- CANOPY_CONFIGs whose geometry or stop has waited complete. -/
def State.completeGeometry (s : State) (k : Nat) : State :=
  (s.hif.cmds.filter (fun c => c.opcode = 0x0301 && c.idx = k && c.armed)).foldl (fun s c => s.ok c) s
/-- In place of a clearing, new geometry takes effect, or the canopy stops and what waits for it takes effect. -/
def State.regrid (s : State) (k g : Nat) : State :=
  let c := s.canopy k
  let s1 := s.setGeom k (c.nextGeom.getD c.geom)
  if c.stopping then
    let s2 := (s1.modCanopy k (fun c => { c with running := false, stopping := false })).completeGeometry k
    let s3 := (s2.canopy k).commits.foldl (fun s id => s.applyCommit id g) s2
    s3.applyWaiting k g true
  else (s1.aimGrid k).completeGeometry k

/-! ### A canopy frame begins -/

/-- A layer enters or leaves its fallback (R212–R214, R216). -/
def State.turnFallback (s : State) (i g : Nat) : State :=
  let l := s.layer i
  let s1 :=
    if l.fallDue then
      let s' := s.modLayer i (fun l => { l with fallDue := false, inFallback := true, returnDue := false })
      if l.inFallback then s' else s'.raise 0x0401 (layerId i) (g % two32) 0
    else if l.inFallback ∧ l.returnDue then
      (s.modLayer i (fun l => { l with inFallback := false, returnDue := false })).raise 0x0402 (layerId i) (g % two32) 0
    else s.modLayer i (fun l => { l with returnDue := false })
  s1.modLayer i (fun l => { l with fallbackFrames := if l.inFallback then satAdd 32 l.fallbackFrames 1 else l.fallbackFrames })

/-- What a layer contributes to the frame (R181): a deferred read takes the frame held at this instant, also where the newest one completes
only after it (log entry 89). -/
def State.shot (s : State) (i : Nat) : LayerShot :=
  let l := s.layer i
  let held := if i < 32 then (s.rxFlow l.active.source).held else none
  { index := i, cfg := l.active, fall := l.inFallback || l.lost, deferred := s.deferred i l.active Canopy.activeLamp, held := held, front := l.front, second := l.frontSecond,
    pair := l.pairs }

/-- Lamp regions in use at a clearing. -/
def State.lampInUse (s : State) (k : Nat) : Tab LampRegion :=
  let c := s.canopy k
  match lampRange c.geom c.look with
  | none => []
  | some (a, n) => s.comp.lampTable.filter (fun e => a ≤ e.1 && e.1 < a + n)

/-- Frames to keep: those unfinished, those that a picture is still coded from, and the newest 16 others. -/
def State.keptFrames (s : State) (k : Nat) : List CanFrame :=
  let busy (c : CanFrame) : Bool := !c.finishedAll || (s.pic k c.num).isSome
  (((s.canopy k).frames.zipIdx).filter (fun e => busy e.1 || e.2 < 16)).map Prod.fst

/-- The canopy frame of grid instant `g`, as the active state stands. -/
def State.beginFrame (s : State) (k g : Nat) : State :=
  let c := s.canopy k
  let fr : CanFrame := {
    num := c.frameCount, g := g, geom := c.geom, look := c.look, layers := (s.layerOrder k).map s.shot, lamp := s.lampInUse k,
    slot := s.upd.slot, band := if s.isVvc k then 128 else 64 }
  let kept := s.keptFrames k
  let gr := gridOf c.geom.rate c.geom.offset
  let whole := c.rem + 1000000000 * gr.den
  s.modCanopy k (fun c => { c with
    frames := fr :: kept, frameCount := c.frameCount + 1, g := g + whole / gr.num, rem := whole % gr.num })

/-- The program's picture of the canopy frame (06 R314, R317; 09 R413): a configuration epoch begins when one is due. -/
def State.beginPicture (s : State) (p num g : Nat) (newSlot : Bool) : State :=
  let x := s.prog p
  if !x.running then s
  else
    let due := x.epochDue || newSlot
    let y : Picture := {
      f := num, n := x.pictures, g := g, launch := g + x.plan.latency, req := x.refreshReq, want := s.wantStreams p, eos := x.stopNow,
      plan := x.plan, epoch := if due then x.epoch + 1 else x.epoch }
    s.modProg p (fun x => { x with
      epoch := if due then x.epoch + 1 else x.epoch, epochG := if due then g else x.epochG, epochDue := false,
      pictures := x.pictures + 1, pics := x.pics ++ [y], refreshReq := 0,
      running := !x.stopNow, draining := x.draining || x.stopNow, stopNow := false })

/-- The next frame of a running canopy begins, and its picture (04 R206; 06 R314). -/
def State.nextFrame (s1 : State) (k g frame : Nat) : State :=
  let s2 := ((List.range 32).filter (fun i => (s1.layer i).active.canopy == some k)).foldl (fun s i => s.turnFallback i g) s1
  let newSlot := s2.upd.switching.contains k
  let s3 := { s2 with upd := { s2.upd with switching := s2.upd.switching.filter (fun j => j != k) } }
  ((s3.beginFrame k g).beginPicture k frame g newSlot).refreshCanopy k
/-- The clearing at grid instant `g`. -/
def State.clear (s : State) (k g : Nat) : State :=
  let c := s.canopy k
  if c.stopping ∨ c.nextGeom.isSome then s.regrid k g
  else
    let s1 := (s.applyCommits k g).applyWaiting k g false
    let c1 := s1.canopy k
    if c1.stopping ∨ c1.nextGeom.isSome then s1.regrid k g
    else s1.nextFrame k g c1.frameCount

/-- TB0 reaches the canopy's grid instant; a join epoch applies there (10 R431). The clearing of a would-be follower's own canopy is
replaced by the lead's state. -/
def execClearing (canopy : Nat) (s : State) : Out :=
  need (canopy < 16) <|
    let c := s.canopy canopy
    let follows := s.twin.role == 1 && s.twin.askRole == 3
    if c.running then
      let s1 := s.reach c.g
      if s1.now < c.g then s1
      else if s1.joinDue c.g then (if follows then s1.applyJoin else s1.applyJoin.clear canopy c.g)
      else s1.clear canopy c.g
    else match s.twin.joinApply with
      | none => s
      | some t => if (List.range 16).any (fun k => (s.canopy k).running) then s else
          let s1 := s.reach t
          if s1.joinDue s1.now then s1.applyJoin else s1

/-! ### Effect times (02 R101, 09 R406) -/

/-- The base reaches the stored time of a started command without CLEARING; an upload or load whose data is still to come, and a
COMMIT, take it into account when they are ready. -/
def execEffectTimeReached (q seq : Nat) (s : State) : Out :=
  opOut q <|
    match s.findCmd q seq with
    | none => s
    | some c =>
      let transfer := c.opcode == 0x0303 || c.opcode == 0x0305
      if c.effTime = 0 ∨ c.clearing ∨ c.phase ≠ .started ∨ c.opcode = 0x0304 ∨ (transfer ∧ !c.armed) ∨ c.clearOf.isSome then s
      else
        let s1 := if s.fired c then s else s.reachOn c.effTb c.fireAt
        if s1.fired c then
          (s1.modCmd q seq (fun d => { d with effTime := 0 })).applyOp { c with effTime := 0 }
        else s1

end Sys2Proof.Machine
end

