-- ==== Sys2Proof/Machine/Check.lean ====
section
/-!
DEFINITION. Checks 7 to 9 of a taken command (02 R55, R56, R90, R99–R101, R103, R104; 09 R405; 17 R652–R660, R698).
-/
set_option Elab.async false
namespace Sys2Proof.Machine

open Sys2Proof

/-- What an opcode's own table asks of its parameters, of the state, of capacity and permits. -/
def State.checkOp (s : State) (c : Cmd) : Verdict :=
  match c.opcode with
  | 0x0001 => checkNop s c
  | 0x0002 => checkGetInfo s c
  | 0x0003 => checkResetUnit s c
  | 0x0004 => checkWarmReset s c
  | 0x0005 => checkSetLoopBounds s c
  | 0x0006 => checkDeviceConfig s c
  | 0x0010 => checkAbort s c
  | 0x0101 => checkHitch s c
  | 0x0102 => checkQueueConfig s c
  | 0x0103 => checkJournalQuery s c
  | 0x0201 => checkFlowRxOpen s c
  | 0x0202 => checkFlowRxClose s c
  | 0x0203 => checkBraidConfig s c
  | 0x0204 => checkBraidLoopback s c
  | 0x0205 => checkBraidRestrand s c
  | 0x0206 => checkSourceBind s c
  | 0x0207 => checkSourceStatus s c
  | 0x0208 => checkPolicerSet s c
  | 0x0301 => checkCanopyConfig s c
  | 0x0302 => checkLayerSet s c
  | 0x0303 => checkLayerUpload s c
  | 0x0304 => checkCommit s c
  | 0x0305 => checkLampTableLoad s c
  | 0x0306 => checkWallTiling s c
  | 0x0307 => checkScalerCoefs s c
  | 0x0401 => checkProgramConfig s c
  | 0x0402 => checkProgramStart s c
  | 0x0403 => checkProgramStop s c
  | 0x0404 => checkForceRefresh s c
  | 0x0405 => checkSubpicMap s c
  | 0x0501 => checkRateConfig s c
  | 0x0502 => checkRateBounds s c
  | 0x0503 => checkRateStatus s c
  | 0x0601 => checkFlowTxOpen s c
  | 0x0602 => checkFlowTxClose s c
  | 0x0603 => checkShaperSet s c
  | 0x0604 => checkSchedClassSet s c
  | 0x0701 => checkTimebaseConfig s c
  | 0x0702 => checkTimebaseAdjust s c
  | 0x0703 => checkLaunchPolicy s c
  | 0x0704 => checkCaptureArm s c
  | 0x0801 => checkTwinConfig s c
  | 0x0802 => checkTwinRole s c
  | 0x0803 => checkTwinStatus s c
  | 0x0804 => checkSplice s c
  | 0x0901 => checkMemPolicy s c
  | 0x0902 => checkMemRetrain s c
  | 0x0903 => checkMemFreq s c
  | 0x0904 => checkEccMode s c
  | 0x0905 => checkEccLogRead s c
  | 0x0906 => checkScrubConfig s c
  | 0x0907 => checkEccTest s c
  | 0x0A01 => checkCvConfig s c
  | 0x0A02 => checkCvContext s c
  | 0x0B01 => checkAudioPortConfig s c
  | 0x0B02 => checkAudioRoute s c
  | 0x0B03 => checkAudioStatus s c
  | 0x0C01 => checkPowerBudget s c
  | 0x0C02 => checkPermitStatus s c
  | 0x0C03 => checkAvsBounds s c
  | 0x0C04 => checkClockStatus s c
  | 0x0D01 => checkUpdateBegin s c
  | 0x0D02 => checkUpdateData s c
  | 0x0D03 => checkUpdateVerify s c
  | 0x0D04 => checkUpdateSchedule s c
  | 0x0D05 => checkUpdateConfirm s c
  | 0x0D06 => checkUpdateCancel s c
  | 0x0D07 => checkOwnerLock s c
  | 0x0D08 => checkLifecycleAdvance s c
  | 0x0D09 => checkReturnAuthorise s c
  | 0x0E01 => checkPmcConfig s c
  | 0x0E02 => checkSampleConfig s c
  | 0x0E03 => checkTraceConfig s c
  | 0x0E04 => checkEventMask s c
  | _ => none

/-- Flags byte and opcode's permitted flags (R55, R104, R105, R655). FLAGS: HITCH 0, DURABLE 1, CLEARING 2, QUIET 3; a row's: C 0, E 1,
D 2, Q 3. -/
def flagsOk (r : OpRow) (flags : Nat) : Bool :=
  (!bit flags 0 || r.code != 0x0010) && (!bit flags 1 || bit r.flags 2) && (!bit flags 2 || bit r.flags 0) &&
    (!bit flags 3 || bit r.flags 3)

/-- The opcodes that CQ15 takes in a formed twin (R90). -/
def localOps : List Nat :=
  [0x0001, 0x0002, 0x0103, 0x0207, 0x0503, 0x0802, 0x0803, 0x0905, 0x0B03, 0x0C02, 0x0C04, 0x0E01, 0x0E02, 0x0E03, 0x0E04]
/-- A command that reads host memory (R659). -/
def Cmd.readsHost (c : Cmd) : Bool :=
  c.opcode == 0x0303 || c.opcode == 0x0305 || (c.opcode == 0x0307 && c.u 1 1 == 1) || (c.opcode == 0x0D02 && c.u 8 1 == 1)

/-- The canopy of a CLEARING command has to run (R100). -/
def State.badClearing (s : State) (c : Cmd) : Verdict :=
  if !c.clearing then none
  else match s.targetCanopy c.object with
    | none => some (0x0202, c.object)
    | some k => badState (!(s.canopy k).running) (canopyId k)
/-- State rules that hold for every opcode (R90, R100, R103, R659). -/
def State.checkCommon (s : State) (c : Cmd) : Verdict :=
  firstOf [
    badState (c.q == 15 && s.formed && !localOps.contains c.opcode) deviceId,
    badState (c.replyTo.udp && c.readsHost) c.object,
    s.badClearing c,
    verdict (c.toFlash && s.flashFull) 0x0203 0]

/-- Check 9: object, parameters, state, time, lock, capacity, permits (R56). -/
def State.check9 (s : State) (r : OpRow) (c : Cmd) : Verdict :=
  let own := s.checkOp c
  let rank (v : Verdict) : Nat := match v with
    | none => 4
    | some (0x0201, _) => 1
    | some (n, _) => if n ≤ 0x0204 then 2 else 3
  firstOf [
    verdict (!s.objectOk r c.object) 0x0201 0xFFFF000C,
    verdict (c.effTime != 0 && !bit r.flags 1) 0x0201 0xFFFF0010,
    if rank own = 1 then own else none,
    s.checkCommon c,
    if rank own = 2 then own else none,
    if c.effTime = 0 then none else s.badTime c.effTb c.effTime c.replicated,
    own]

/-- Checks 7 to 9: why a taken command is rejected. -/
def State.checkTaken (s : State) (c : Cmd) (clean : Bool) (flagsByte : Nat) : Verdict :=
  match opRow c.opcode with
  | none => some (0x0104, 0)
  | some r => if clean && flagsOk r c.flags then s.check9 r c else some (0x0106, flagsByte)

/-- What a rejection does beside its reply: a refused permit is counted (14 R584), a restrand turned away is posted (03 R153). -/
def State.onReject (s : State) (c : Cmd) (v : Nat × Nat) : State :=
  if v.1 = 0x0208 then s.countRefusal (v.2 % 256)
  else if v.1 = 0x0202 ∧ c.opcode = 0x0205 then rejectBraidRestrand c s
  else s

end Sys2Proof.Machine
end

