-- ==== Sys2Proof/Machine/Packet.lean ====
section
/-!
DEFINITION. Queues and transport (02): the receipt checks of a command packet, taking it, its ACCEPT reply, duplicates, the fetch from a
ring and the datagram, and the host's writes to the registers of BAR0.
-/
set_option Elab.async false
namespace Sys2Proof.Machine

open Sys2Proof

/-! ### A packet that has passed check 1 (R56–R65, R69, R70) -/

/-- The ACCEPT reply of a packet that is not taken, or whose command is rejected. -/
def State.answer (s : State) (q : Nat) (h : Header) (dst : ReplyTo) (r : Reply) : State :=
  s.reply q dst (replyBytes q h.seq h.corr r)
/-- An ACCEPT reply's content now. -/
def State.acceptReply (s : State) (status detail : Nat) : Reply := { kind := 1, status := status, detail := detail % two32, ts := s.ts }

/-- A duplicate: the expected ALIVE goes on, OK_DUPLICATE names the status so far, and a COMPLETE reply already written is written
again (R62, R63). While the original's ACCEPT still waits for a journal, its status so far is OK_ACCEPTED (log entry 129). -/
def State.duplicate (s : State) (q : Nat) (h : Header) (dst : ReplyTo) (e : JEntry) : State :=
  let s1 := s.modQueue q (fun k => { k with expAlive := (h.alive + 1) % 256, anyAlive := false })
  let status := (e.outcome.map Reply.status).getD e.accept.status
  let s2 := s1.answer q h dst (s.acceptReply 3 status)
  match e.outcome with
  | some r => if e.quiet then s2 else s2.reply q dst (replyBytes q e.seq e.corr r)
  | none => s2

/-- The COMMAND message of a replicated command (10 R442). -/
def State.sendCommand (s : State) (pos : Nat) (packet : List Byte) : State :=
  ({ s with twin := { s.twin with unacked := s.twin.unacked ++ [(pos, packet, s.now)] } }).tetherSend 3 (leBytes 8 pos ++ packet)
/-- A rejected command of a twin is journaled at the peer as well: its COMMAND, and the note of its rejection (10 R444). -/
def State.replicateReject (s : State) (c : Cmd) (v : Nat × Nat) : State :=
  if s.replicates ∧ c.replicated then
    (({ s with hif := { s.hif with nextPos := c.pos + 1 } }).sendCommand c.pos c.packet).commitNote c 0 0 0 v.1 (v.2 % two32)
  else s

/-- The command is rejected at check 7, 8 or 9: final for its SEQ, with no COMPLETE reply (R57, R69). -/
def State.rejectTaken (s : State) (c : Cmd) (h : Header) (v : Nat × Nat) : State :=
  let r := s.acceptReply v.1 v.2
  let s1 := s.take c.q h { seq := h.seq, opcode := h.opcode, corr := h.corr, accept := r }
  ((s1.onReject c v).replicateReject c v).answer c.q h c.replyTo r
/-- The command is accepted: journaled, with what it takes in hand, its reply room and its acceptance position; its ACCEPT reply is
written once every journal holds it (R65, R70, R79, R96). -/
def State.acceptTaken (s : State) (c0 : Cmd) (h : Header) : State :=
  let c := s.stampOrder (s.stampTime c0)
  let e : JEntry := { seq := h.seq, opcode := h.opcode, corr := h.corr, accept := s.acceptReply 1 0, quiet := c.quiet }
  let s1 := s.take c.q h e
  let s2 := s1.modQueue c.q (fun k => { k with reserved := k.reserved + 2 })
  let s3 := { s2 with hif := { s2.hif with nextPos := c.pos + 1, cmds := s2.hif.cmds ++ [c] } }
  let s4 := s3.onAccept c
  let s5 := if s4.replicates ∧ c.replicated then s4.sendCommand c.pos c.packet else s4
  s5.tryAccept c.q c.seq

/-- Checks 3 to 9 of a packet of `LENGTH` bytes for queue `q`. -/
def State.receive (s : State) (q : Nat) (b : List Byte) (dst : ReplyTo) (host : List Byte) : State :=
  let h := headerOf b
  let k := s.queue q
  let no (status detail : Nat) : State := s.answer q h dst (s.acceptReply status detail)
  if s.isFollower ∧ q ≠ 15 then no 0x0206 s.twinRoleReg
  else if (opRow h.opcode).any (fun r => h.length != permittedLength r (paramsOf b h.length)) then
    no 0x0103 (((opRow h.opcode).map maxLength).getD 0)
  else if !k.resyncState && !k.anyAlive && h.alive != k.expAlive then no 0x0102 k.expAlive
  else if k.resyncState || h.seq == k.expSeq then
    let c := cmdOf b s.hif.nextPos dst host
    match s.checkTaken c h.clean h.flags with
    | some v => s.rejectTaken c h v
    | none => s.acceptTaken c h
  else match k.window.find? (fun e => e.seq == h.seq) with
    | some e => s.duplicate q h dst e
    | none => no 0x0105 k.expSeq

/-- CRC-32C of a packet of `n` bytes matches (R54, check 2). -/
def packetCrcOk (b : List Byte) (n : Nat) : Bool := leNat ((b.drop (n - 4)).take 4) == crc32c (b.take (n - 4))
/-- A LENGTH that check 1 takes, apart from the transport. -/
def lengthOk (n : Nat) : Bool := n % 4 == 0 && 36 ≤ n && n ≤ 4096

/-! ### FETCH_PACKET (R75–R79, R86, R692) -/

/-- A SWAP or the resync state's approach stops the fetch on a queue (R67, 10 R460), as do depth and reply room (R79). -/
def State.mayFetch (s : State) (q : Nat) : Bool :=
  s.power.ready && !s.power.warm && !s.fetchHeld q && !(q != 15 && s.isLead && s.twin.exchange.isSome)
/-- Slots written from SQ_HEAD on, up to SQ_TAIL or the end of the ring (R692). -/
def CmdQueue.slotsWritten (k : CmdQueue) : Nat := if k.sqHead ≤ k.sqTail then k.sqTail - k.sqHead else k.sqSize - k.sqHead
/-- SQ_HEAD moves on. -/
def State.consume (s : State) (q n : Nat) : State := s.modQueue q (fun k => { k with sqHead := (k.sqHead + n) % k.sqSize })
/-- The next packet of a ring, its slots as host memory holds them. -/
def State.fetchRing (s : State) (q : Nat) (slots host : List Byte) : State :=
  let n := (s.queue q).slotsWritten
  let h := headerOf slots
  if pktU slots 0 4 = 0xFFFFFFFF then s.modQueue q (fun k => { k with sqHead := 0 })
  else if !lengthOk h.length || n < cdiv h.length 64 then
    (s.consume q n).answer q h {} (s.acceptReply 0x0103 (min 4096 (64 * n)))
  else
    let b := slots.take h.length
    let s1 := s.consume q (cdiv h.length 64)
    if !packetCrcOk b h.length then (s1.chainFail 9).answer q h {} (s.acceptReply 0x0101 0)
    else if h.queue == q then s1.receive q b {} host
    else s1.answer q h {} (s.acceptReply 0x0101 0)

/-- A datagram's source as replies name it. -/
def replyToOf (d : Datagram) : ReplyTo := { udp := true, addr := d.addr, port := d.port }
/-- The datagram that has waited longest on a UDP queue (R87). -/
def State.fetchWaiting (s : State) (q : Nat) : State :=
  match (s.queue q).waiting with
  | [] => s
  | d :: l => (s.modQueue q (fun k => { k with waiting := l })).receive q d.payload (replyToOf d) []

/-- The device fetches a queue's next packet: `slots` are the bytes of every slot written from SQ_HEAD on, `hostData` what its command
reads of host memory at its start. -/
def execFetchPacket (q : Nat) (slots hostData : List Byte) (s : State) : Out :=
  need (isQueue q) <|
    let k := s.queue q
    if !s.mayFetch q then s
    else if k.bind.udp then s.fetchWaiting q
    else if !k.enable ∨ !s.hostUp ∨ k.slotsWritten = 0 ∨ slots.length ≠ 64 * k.slotsWritten then s
    else s.fetchRing q slots hostData

/-! ### COMMAND_DATAGRAM (R82–R88, R689) -/

/-- A datagram discarded without a reply is counted. -/
def State.discardOn (s : State) (q : Nat) : State := s.modQueue q (fun k => { k with discards := satAdd 32 k.discards 1 })
/-- UDP queues that listen on a port. -/
def State.listening (s : State) (port : Nat) : List Nat :=
  (List.range 16).filter (fun q => (s.queue q).bind.udp && (s.queue q).bind.port == port)
/-- Does an address field with its IP_VER name the address of a datagram (17 R694)? -/
def ipNames (ver : Nat) (field addr : List Byte) : Bool :=
  if ver = 4 then addr.length = 4 && field.take 4 == addr else addr.length = 16 && field == addr
/-- The source that a UDP queue accepts (R84; QUEUE_CONFIG SRC_ADDR: all zero accepts any). -/
def Binding.accepts (b : Binding) (d : Datagram) : Bool :=
  (b.srcAddr.all (fun x => x == 0) || ipNames b.ipVer b.srcAddr d.addr) && (b.srcPort == 0 || b.srcPort == d.port)
/-- A datagram of the management ports: it counts as a command's only on a port where a queue listens, from READY on; a fragment is
discarded (R83). -/
def State.commandDatagram (s : State) (d : Datagram) : State :=
  let l := s.listening d.dport
  if d.fragment ∨ !s.power.ready ∨ l = [] then s
  else if d.payload.length < 3 then s.discardOn (l.headD 0)
  else
    let q := pktU d.payload 2 1 % 16
    let n := (headerOf d.payload).length
    if s.power.warm ∨ !l.contains q ∨ !(s.queue q).bind.accepts d ∨ !lengthOk n ∨ n ≠ d.payload.length then
      s.discardOn q
    else if !packetCrcOk d.payload n then (s.discardOn q).chainFail 9
    else if s.mayFetch q ∧ (s.queue q).waiting = [] then s.receive q d.payload (replyToOf d) []
    else s.modQueue q (fun k => { k with waiting := k.waiting ++ [d] })

/-! ### The flash journal, and failed reads of host memory (R70, R103, R658) -/

/-- The flash write of a command ends: from now on the flash journal holds it; a follower acknowledges it (10 R442). -/
def execFlashJournalWritten (q seq : Nat) (s : State) : Out :=
  opOut q <|
    match s.findCmd q seq with
    | none => s
    | some c =>
      if !c.toFlash ∨ c.flashDone ∨ c.phase ≠ .accepting then s
      else
        let s0 := s.modCmd q seq (fun d => { d with flashDone := true })
        let s1 := { s0 with nv := { s0.nv with flash := insertRecord c.record s0.nv.flash } }
        let s2 := s1.tryAccept q seq
        if s.mute c then s2.ackJournal c.pos else s2

/-- A read of host memory fails for a command that has not got its data: it ends with FAULT_TIMEOUT (R658). -/
def execHostReadTimeout (q seq : Nat) (s : State) : Out :=
  opOut q <|
    match s.findCmd q seq with
    | none => s
    | some c =>
      let reading := (c.phase == .started && !c.armed) || s.startable c
      if c.readsHost ∧ reading ∧ !s.mute c then (((s.undoCmd c).commitNote c 0 0 0 0x0302 0).complete c 0x0302 0).kickAfter c else s

/-! ### Registers of the queues and of the event ring (R16, R67, R74, R77, R78, R690) -/

/-- SQ_TAIL; ignored before READY (14 R599). -/
def State.writeSqTail (s : State) (q v : Nat) : State :=
  if s.power.ready then s.modQueue q (fun k => { k with sqTail := v % 65536 % k.sqSize }) else s
def execSqTailDoorbell (q value : Nat) (s : State) : Out := need (isQueue q && value < two32) (s.writeSqTail q value)
/-- RQ_HEAD frees the entries up to the new index: those from it up to RQ_TAIL stay in use (log entry 16). -/
def State.writeRqHead (s : State) (q v : Nat) : State :=
  s.modQueue q (fun k =>
    let h := v % 65536 % k.rqSize
    { k with rqHead := h, rqUsed := (k.rqTail + k.rqSize - h) % k.rqSize })
def execRqHeadWrite (q value : Nat) (s : State) : Out := need (isQueue q && value < two32) (s.writeRqHead q value)
/-- HIF_EV_HEAD frees the entries up to the new index: those from it up to HIF_EV_TAIL stay in use (log entry 16). -/
def State.writeEvHead (s : State) (v : Nat) : State :=
  let e := s.hif
  let h := v % 65536 % e.evSize
  { s with hif := { e with evHead := h, evUsed := (e.evTail + e.evSize - h) % e.evSize } }
def execEvHeadWrite (value : Nat) (s : State) : Out := need (value < two32) (s.writeEvHead value)
/-- HIF_CQn_CTRL. -/
def State.writeCtrl (s : State) (q value : Nat) : State :=
  s.modQueue q (fun k => { k with
    enable := bit value 0, vectorEn := bit value 1, vector := bits value 12 8, resyncReq := k.resyncReq || bit value 16 })
/-- A write of HIF_CQn_CTRL with RESYNC. -/
def execResync (q value : Nat) (s : State) : Out := need (isQueue q && value < two32) (s.writeCtrl q value)
/-- Every taken command has its outcome: the window is cleared, the queue is in the resync state (R67). -/
def execResyncStateEnter (q : Nat) (s : State) : Out :=
  need (isQueue q) <|
    if (s.queue q).resyncReq ∧ s.outstandingOn q = 0 then
      s.modQueue q (fun k => { k with resyncReq := false, resyncState := true, window := [] })
    else s
/-- COUNT of a ring-size register (R690). -/
def sizeOk (lo value : Nat) : Bool :=
  let n := value % 131072
  lo ≤ n && n ≤ 65536 && (List.range 17).any (fun i => n == 2 ^ i)
/-- A write of a ring-size register. -/
def State.writeSize (s : State) (reg : SizeReg) (v : Nat) : State :=
  match reg with
  | .sq q => if sizeOk 128 v then s.modQueue q (fun k => { k with sqSize := v % 131072 }) else s
  | .rq q => if sizeOk 64 v then s.modQueue q (fun k => { k with rqSize := v % 131072 }) else s
  | .ev => if sizeOk 64 v then { s with hif := { s.hif with evSize := v % 131072 } } else s
def execRingSizeWrite (reg : SizeReg) (value : Nat) (s : State) : Out := need (sizeRegThere reg && value < two32) (s.writeSize reg value)

/-! ### REGISTER_WRITE (R15, R16) -/

/-- A 32-bit write to a queue's register block, `off` within it; read-only registers do not change. -/
def State.writeQueueReg (s : State) (q off v : Nat) : State :=
  match off with
  | 0x00 => s.modQueue q (fun k => { k with sqBaseLo := v / 4096 })
  | 0x04 => s.modQueue q (fun k => { k with sqBaseHi := v, sqBase := v * two32 + k.sqBaseLo * 4096 })
  | 0x08 => s.writeSize (.sq q) v
  | 0x0C => s.writeSqTail q v
  | 0x10 => s.modQueue q (fun k => { k with rqBaseLo := v / 4096 })
  | 0x14 => s.modQueue q (fun k => { k with rqBaseHi := v, rqBase := v * two32 + k.rqBaseLo * 4096 })
  | 0x18 => s.writeSize (.rq q) v
  | 0x1C => s.writeRqHead q v
  | 0x28 => s.writeCtrl q v
  | _ => s
/-- A vector that was pending is sent once its mask is clear. -/
def State.writeMsix (s : State) (i v : Nat) : State :=
  let vec := i / 4
  let s1 := { s with hif := { s.hif with msix := s.hif.msix.set i v } }
  if i % 4 = 3 ∧ v % 2 = 0 ∧ bit s.hif.msixPba vec then
    ({ s1 with hif := { s1.hif with msixPba := s1.hif.msixPba - 2 ^ vec } }).emit (.msix vec)
  else s1
/-- Read indices take up every record that stands between the new index and the writer. -/
def State.writeTrcRd (s : State) (v : Nat) : State :=
  let i := v % 8192
  { s with disp := { s.disp with trcRd := i, trcUnread := (s.disp.trcWr + 8192 - i) % 8192 } }
def State.writeSmpRd (s : State) (v : Nat) : State :=
  let i := v % 1024
  { s with obs := { s.obs with smpRd := i, smpUnread := (s.obs.smpWr + 1024 - i) % 1024 } }
/-- The recovery registers (15 R631). -/
def State.writeRecovery (s : State) (off v : Nat) : State :=
  match off with
  | 0x80 => s.writeRecCtrl v
  | 0x84 => { s with upd := { s.upd with recAddrLo := v / 4096 * 4096 } }
  | 0x88 => { s with upd := { s.upd with recAddrHi := v, recAddr := v * two32 + s.upd.recAddrLo } }
  | 0x8C => { s with upd := { s.upd with recLen := v % 67108864 } }
  | _ => s
/-- The registers whose write has a row of its own as well (09 R420, R426; 11 R516; 14 R601; 16 R640, R641, R643; 05 R269). -/
def State.writeOwnRow (s : State) (off v : Nat) : State :=
  if 0x4000 ≤ off ∧ off < 0x4080 ∧ off % 0x20 = 0x18 then s.writeCapInfo ((off - 0x4000) / 0x20) v
  else if 0x4200 ≤ off ∧ off < 0x4280 then s.writeC21 ((off - 0x4200) / 4) v
  else if 0x8800 ≤ off ∧ off < 0x8810 then s.writePmcOvf ((off - 0x8800) / 4) v
  else match off with
    | 0x5010 => s.writePwrAlert v
    | 0x8810 => s.pmcCtrl v
    | 0xA000 => s.writeEctCtrl v
    | 0xC000 => s.writeTrcCtrl v
    | _ => s
/-- A 32-bit write at an offset of BAR0; a read-only register or an offset without a register does not change. -/
def State.writeReg (s : State) (off v : Nat) : State :=
  if 0x1000 ≤ off ∧ off < 0x1400 then s.writeQueueReg ((off - 0x1000) / 64) (off % 64) v
  else if 0x3000 ≤ off ∧ off < 0x3200 then s.writeMsix ((off - 0x3000) / 4) v
  else match off with
    | 0x2000 => { s with hif := { s.hif with evBaseLo := v / 4096 } }
    | 0x2004 => { s with hif := { s.hif with evBaseHi := v, evBase := v * two32 + s.hif.evBaseLo * 4096 } }
    | 0x2008 => s.writeSize .ev v
    | 0x200C => s.writeEvHead v
    | 0x2014 => { s with hif := { s.hif with
        evVector := bits v 12 8, evUdp := bit v 2, evVectorEn := bit v 1, evEnable := bit v 0 } }
    | 0x9004 => s.writeSmpRd v
    | 0xA004 => { s with mem := { s.mem with ectTarget := v % 64 } }
    | 0xA008 => { s with mem := { s.mem with ectOffset := v % 8192 } }
    | 0xA00C => { s with mem := { s.mem with ectDataLo := v } }
    | 0xA010 => { s with mem := { s.mem with ectDataHi := v, ectData := v * two32 + s.mem.ectDataLo } }
    | 0xA014 => { s with mem := { s.mem with ectFlip0 := v } }
    | 0xA018 => { s with mem := { s.mem with ectFlip1 := v } }
    | 0xA01C => { s with mem := { s.mem with ectFlip2 := v % 65536 } }
    | 0xC008 => s.writeTrcRd v
    | _ => (s.writeRecovery off v).writeOwnRow off v
/-- 8-bit and 16-bit writes are discarded; a 64-bit write is two of 32 bits, the lower address first. A 32-bit or 64-bit access that is
not naturally aligned names no register. -/
def execRegisterWrite (off width value : Nat) (s : State) : Out :=
  need (isAccess off width && value < 2 ^ width) <|
    if width = 32 then s.writeReg off value
    else if width = 64 then (s.writeReg off (value % two32)).writeReg (off + 4) (value / two32)
    else s

end Sys2Proof.Machine
end

