-- ==== Sys2Proof/Machine/Start.lean ====
section
/-!
DEFINITION. The last step of start-up (14 R598): DURABLE commands are re-executed from the flash journal (02 R111, 17 R656), what a
power cut left of an update is settled (15 R606, R630), and the device is READY.
-/
set_option Elab.async false
namespace Sys2Proof.Machine

open Sys2Proof

/-- A flash record as a taken command: CLEARING and EFFECT_TIME are ignored, and no reply follows. -/
def FlashRec.cmd (r : FlashRec) (pos : Nat) : Cmd :=
  { q := r.q, seq := r.seq, opcode := r.opcode, flags := if bit r.flags 2 then r.flags - 4 else r.flags, object := r.object,
    corr := r.corr, params := r.params, pos := pos, phase := .started, flashDone := true, twinAcked := true, replayed := true }
/-- What check 9 finds for a record without regard to the flash journal. -/
def State.replayVerdict (s : State) (c : Cmd) : Verdict :=
  match opRow c.opcode with
  | none => some (0x0104, 0)
  | some r => firstOf [verdict (!s.objectOk r c.object) 0x0201 0xFFFF000C, s.checkOp c]
/-- One record is re-executed; one that the state as rebuilt so far no longer permits has no effect (log entry 59). -/
def State.replayRec (s : State) (r : FlashRec) : State :=
  let c := r.cmd s.hif.nextPos
  let s1 := { s with power := { s.power with replayed := s.power.replayed + 1 } }
  if r.done ∨ (s1.replayVerdict c).isSome then s1
  else
    let s2 := { s1 with hif := { s1.hif with nextPos := c.pos + 1, cmds := s1.hif.cmds ++ [c] } }
    (s2.onAccept c).applyOp c
/-- Records are re-executed in acceptance order, each after the outcome of the one before. -/
def State.replay (s : State) : List FlashRec → State
  | [] => s
  | r :: l => if s.hif.cmds.any Cmd.replayed then s else (s.replayRec r).replay l

/-- What a power cut left of an update (R606, R630). -/
def State.settleUpdate (s : State) : State :=
  let bank := s.nv.activeBank
  let burned := if s.upd.fwBank = bank then s.nv.burn s.upd.fwSecVersion (s.nv.bank bank).revokeBelow else s.nv
  let s1 := { s with nv := { burned with updAtLoss := 0 } }
  match s.nv.updAtLoss with
  | 6 => ({ s1 with upd := { s1.upd with lastResult := 2 } }).raise 0x0B03 deviceId s1.download.setVersion 3
  | 7 => { s1 with upd := { s1.upd with lastResult := 2 } }
  | 8 => { s1 with upd := { s1.upd with lastResult := 1 } }
  | _ => s1

/-- The journal has been replayed: the device is READY, every queue in the resync state. Until the replayed commands have their outcome
it is not. -/
def execReady (s : State) : Out :=
  need true <|
    if s.power.bootStage ≠ 5 then s
    else
      let s1 := s.replay (s.nv.flash.drop s.power.replayed)
      if s1.hif.cmds.any Cmd.replayed ∨ s1.power.replayed < s1.nv.flash.length then s1
      else
        let s2 := { s1 with
          power := { s1.power with bootStage := 6, ready := true },
          hif := { s1.hif with queues := (List.range 16).foldl (fun t q =>
            Tab.set t q { s1.queue q with resyncState := true, window := [] }) s1.hif.queues } }
        s2.settleUpdate

end Sys2Proof.Machine
end

