-- ==== Sys2Proof/Machine/TwinEvents.lean ====
section
/-!
DEFINITION. What arrives over the tether, and the tether's instants (10 R431–R450, R457–R462, R468): heartbeats and path loss, replicated
commands, acknowledgements and notes, epochs, ROLE messages, row records.
-/
set_option Elab.async false
namespace Sys2Proof.Machine

open Sys2Proof

/-! ### Forming fails (R432), the peer is lost (R440, R457, R458) -/

/-- Both devices return to SINGLE; what was received is discarded, and the commands of a would-be lead go on. Causes: 0 epoch, 1 peer
lost. -/
def State.formFailed (s : State) (cause : Nat) : State :=
  let s1 := ({ s with twin := { s.twin with
    role := 0, held := [], notes := [], unacked := [], verified := [], receiving := [], joinIn := none, rxFails := 0,
    peerLost := !s.twin.pathA.up && !s.twin.pathB.up } }).raise 0x0702 deviceId cause 0
  s1.abandonEpochs.tryAccepts
/-- Both paths are lost (R440, R459). -/
def State.peerGone (s : State) : State :=
  let s1 := ({ s with twin := { s.twin with peerLost := true } }).raise 0x0707 deviceId s.twin.term 0
  match s.twin.role with
  | 1 => (s1.formFailed 1).unmuteAll
  | 2 => if s.joining then (s1.formFailed 1).unmuteAll else s1.leadAlone
  | 3 => s1.becomeLead (s.twin.term + 1) true
  | _ => s1.unmuteAll

/-! ### HEARTBEAT (R438–R440, R468, R469) -/

def State.path (s : State) (p : Nat) : TPath := if p = 0 then s.twin.pathA else s.twin.pathB
def State.setPath (s : State) (p : Nat) (x : TPath) : State :=
  if p = 0 then { s with twin := { s.twin with pathA := x } } else { s with twin := { s.twin with pathB := x } }
/-- Heartbeat period of a path in ns. -/
def hbPeriod (p : Nat) : Nat := if p = 0 then 8000 else 64000

/-- Highest acceptance position journaled: a follower's, or of a device that takes commands itself, the last one taken. -/
def State.lastJournaled (s : State) : Nat := if s.isFollower then s.twin.journaled else s.hif.nextPos - 1
/-- The HEARTBEAT of this device now. -/
def State.heartbeatBytes (s : State) : List Byte :=
  let t := s.twin
  leBytes 8 s.nv.uid ++ leBytes 1 t.role ++ leBytes 1 (b2n t.pathA.up + 2 * b2n t.pathB.up) ++ leBytes 2 s.mutedMask ++
    leBytes 4 t.term ++ leBytes 4 s.ts ++ leBytes 4 t.lastEpoch ++ leBytes 8 s.lastJournaled
/-- A path can be sent on: the YT braid runs, or TWIN_CONFIG has named the MG ports. -/
def State.pathReady (s : State) (p : Nat) : Bool := if p = 0 then (s.braid 4).enabled else s.twin.mgPorts != 0
/-- The period of a path ends, counted from its last heartbeat: the next one is sent, whatever the twin state (R438); a SWAP that waits is
looked at again. -/
def execHeartbeatDue (path : Nat) (s : State) : Out :=
  need (path < 2) <|
    if !s.pathReady path then s
    else
      let due := ((s.path path).sentHb.map (fun t => t + hbPeriod path)).getD s.now
      let s1 := s.reach due
      if s1.now < due then s1
      else
        let s2 := s1.setPath path { s1.path path with sentHb := some s1.now }
        (s2.tetherOn path 1 s2.heartbeatBytes).trySwap

/-- A heartbeat of the peer counts for its path: 8 in a row, each within a period of the one before, bring it up; the peer of a device that
is not the lead is then no longer lost (R440, R458). -/
def State.beat (s : State) (p : Nat) : State :=
  let x := s.path p
  let timely := if x.lastHb.any (fun l => s.now ≤ l + hbPeriod p) then x.timely + 1 else 1
  let y : TPath := { x with lastHb := some s.now, timely := min timely 8 }
  if !x.up ∧ 8 ≤ timely then
    let s1 := (s.setPath p { y with up := true }).raise (if p = 0 then 0x0704 else 0x0706) deviceId x.losses 0
    { s1 with twin := { s1.twin with peerLost := s1.twin.peerLost && s1.isLead } }
  else s.setPath p y
/-- What R429 compares of a peer: a device learns it in a way that no tether message shows, so it is open (log entry 98). It is looked at
anew with each heartbeat while a twin may form. -/
def State.learnPeer (s : State) : State :=
  if s.twin.role = 1 ∨ (s.isLead ∧ s.twin.peerLost) then
    let (v, s1) := s.draw
    let f (i : Nat) : Nat := v / 2 ^ (32 * i) % two32
    { s1 with twin := { s1.twin with peer := {
      names := v / 2 ^ 256 % 2 ^ 64, ask := f 0, part := f 1, stepping := f 2, fwSet := f 3, tbMode := f 4, tbState := f 5, domain := f 6, rows := f 7 % 2 == 1 } } }
  else s
/-- Two leads find each other: the higher TERM mutes and becomes SINGLE (R468). -/
def State.findSplit (s : State) (peerRole peerTerm : Nat) : State :=
  if s.isLead ∧ s.twin.peerLost ∧ peerRole = 2 ∧ !s.twin.split then
    let s1 := ({ s with twin := { s.twin with split := true } }).raise 0x0709 deviceId s.twin.term peerTerm
    if peerTerm < s.twin.term then
      let s2 := s1.muteAll
      { s2 with twin := { s2.twin with role := 0, peerLost := false } }
    else s1
  else s
/-- A HEARTBEAT arrives. One that does not come from the named peer only shows its DEV_UID (R429). -/
def State.hearHeartbeat (s0 : State) (path : Nat) (payload : List Byte) : State :=
  if payload.length ≠ 32 then s0
  else
    let f (o n : Nat) := pktU payload o n
    let s1 := { s0 with twin := { s0.twin with peerSeenUid := f 0 8 } }
    if f 0 8 ≠ s0.twin.peerUid then s1
    else
      let s2 := (s1.beat path).learnPeer
      let s3 := { s2 with twin := { s2.twin with
        peerRole := f 8 1, peerTerm := f 12 4, peerMuted := f 10 2,
        tbDiff := if path = 0 then signed 32 (s2.ts + two32 - f 16 4) else s2.twin.tbDiff } }
      s3.findSplit (f 8 1) (f 12 4)
/-- A HEARTBEAT received at TB0 value `t`. -/
def execHeartbeat (path t : Nat) (payload : List Byte) (s : State) : Out :=
  need (path < 2 && t < two32) ((s.at32 t).hearHeartbeat path payload)

/-- Three periods without a heartbeat. -/
def execPathLost (path : Nat) (s : State) : Out :=
  need (path < 2) <|
    let x := s.path path
    match x.up, x.lastHb with
    | true, some l =>
      let limit := l + 3 * hbPeriod path
      let s1 := s.reach limit
      if s1.now < limit then s1
      else
        let n := satAdd 32 x.losses 1
        let s2 := (s1.setPath path { x with up := false, timely := 0, losses := n }).raise
          (if path = 0 then 0x0703 else 0x0705) deviceId n 0
        if (s2.path (1 - path)).up then s2 else s2.peerGone
    | _, _ => s

/-! ### COMMAND, JOURNAL_ACK, COMMIT_NOTE (R431, R442–R444) -/

/-- A would-be follower, which holds what it receives until the join epoch applies. -/
def State.willFollow (s : State) : Bool := s.twin.role == 1 && s.twin.askRole == 3
/-- Notes that can be applied are. -/
def State.drainNotes (s : State) : State := s.applyNotes s.twin.notes.length
def State.hearCommand (s : State) (payload : List Byte) : State :=
  if payload.length < 44 then s else
    let pos := pktU payload 0 8
    let packet := payload.drop 8
    if s.isFollower then (s.journalCommand pos packet).drainNotes
    else if s.willFollow ∧ !s.twin.held.any (fun e => e.1 == pos) then
      { s with twin := { s.twin with held := s.twin.held ++ [(pos, packet)] } }
    else s
def execCommand (payload : List Byte) (s : State) : Out := need true (s.hearCommand payload)
def State.hearJournalAck (s : State) (payload : List Byte) : State :=
  if payload.length ≠ 8 then s else
    let pos := pktU payload 0 8
    if !s.isLead then s
    else
      let s1 := { s with
        twin := { s.twin with unacked := s.twin.unacked.filter (fun e => e.1 != pos) },
        hif := { s.hif with cmds := s.hif.cmds.map (fun (c : Cmd) => if c.replicated && c.pos == pos then { c with twinAcked := true } else c) } }
      match s1.hif.cmds.find? (fun c => c.replicated && c.pos == pos) with
      | some c => (s1.tryAccept c.q c.seq).trySwap
      | none => s1.trySwap
def execJournalAck (payload : List Byte) (s : State) : Out := need true (s.hearJournalAck payload)
/-- 20 µs without an acknowledgement, counted from the last sending: the COMMAND is sent again. -/
def execJournalAckTimeout (pos : Nat) (s : State) : Out :=
  need (pos < 2 ^ 64) <|
    match s.twin.unacked.find? (fun e => e.1 == pos) with
    | none => s
    | some (_, packet, at_) =>
      if !s.replicates then s
      else
        let s1 := s.reach (at_ + 20000)
        if s1.now < at_ + 20000 then s1
        else
          let l := s1.twin.unacked.map (fun (e : Nat × List Byte × Nat) => if e.1 = pos then (e.1, e.2.1, s1.now) else e)
          ({ s1 with twin := { s1.twin with unacked := l } }).tetherSend 3 (leBytes 8 pos ++ packet)
def State.hearCommitNote (s : State) (payload : List Byte) : State :=
  if payload.length ≠ 28 then s else
    let f (o n : Nat) := pktU payload o n
    let n : Note := { commitSeq := f 8 8, effect := f 16 4, kind := f 20 1, tb := f 21 1 % 4, status := f 22 2, detail := f 24 4 }
    let known := s.twin.notes.any (fun e => e.2.commitSeq == n.commitSeq) || (s.isFollower && decide (n.commitSeq ≤ s.twin.applied))
    if known ∨ !(s.isFollower ∨ s.willFollow) then s
    else
      let s1 := { s with twin := { s.twin with notes := s.twin.notes ++ [(f 0 8, n)] } }
      if s.isFollower then s1.drainNotes else s1
def execCommitNote (payload : List Byte) (s : State) : Out := need true (s.hearCommitNote payload)

/-! ### Epochs (R431, R432, R448–R450) -/

/-- The grid instant at which a join epoch is to apply: of a running canopy's grid, at least 1 ms from now; without one, the instant 1 ms
from now (log entry 60). -/
def State.joinInstant (s : State) : Nat :=
  match (List.range 16).find? (fun k => (s.canopy k).running) with
  | none => s.now + 1000000
  | some k =>
    let g := gridOf (s.canopy k).geom.rate (s.canopy k).geom.offset
    g.at (g.firstAfter (s.now + 1000000))
/-- The forming conditions hold, and the device is the one to send the join epoch (R429, R431, R458). -/
def State.mayJoin (s : State) : Bool :=
  ((s.twin.role == 1 && s.twin.askRole == 2) || (s.isLead && s.twin.peerLost)) && s.twin.peerRole == 1 &&
    s.formingConditions.all (fun e => !e.2) && !s.joining
/-- The join epoch is sent at a cut, with the lead's whole state: the commands taken so far are in it (their encoding: log entry 58). -/
def execJoinEpochSend (s : State) : Out :=
  need true <|
    if s.mayJoin then
      let (v, s1) := s.draw
      let bytes := Config.joinBytes (s1.joinState v)
      let data : Tab Byte := (bytes.zipIdx).map (fun e => (e.2, BitVec.ofNat 8 e.1))
      s1.sendEpoch 0 (s.hif.nextPos - 1) s1.joinInstant bytes.length data
    else s

/-- Epoch data is taken by a follower, and by a device that will be one. -/
def State.takesEpochs (s : State) : Bool := s.isFollower || s.willFollow
/-- The epoch with a number, as received so far. -/
def State.epochIn (s : State) (n : Nat) : EpochBuf := (s.twin.receiving.find? (fun b => b.number = n)).getD { number := n }
/-- The other epochs in reception. -/
def State.otherEpochs (s : State) (n : Nat) : List EpochBuf := s.twin.receiving.filter (fun b => b.number != n)
def State.hearEpochData (s : State) (payload : List Byte) : State :=
  if payload.length < 12 ∨ !s.takesEpochs then s
  else
    let n := pktU payload 0 4
    let off := pktU payload 4 8
    let b := s.epochIn n
    let data := ((payload.drop 12).zipIdx).foldl (fun (t : Tab Byte) e => t.set (off + e.2) e.1) b.data
    { s with twin := { s.twin with receiving := s.otherEpochs n ++ [{ b with data := data }] } }
def execEpochData (payload : List Byte) (s : State) : Out := need true (s.hearEpochData payload)

/-- EPOCH_ACK: 0 verified, 1 check failed, 2 incomplete. -/
def State.ackEpoch (s : State) (n code : Nat) : State := s.tetherSend 8 (leBytes 4 n ++ leBytes 1 code)
/-- An epoch fails its check: discarded whole; the third failure in a row of the same state ends the forming, or the twin (R449, R458). -/
def State.epochFailed (s : State) (n code : Nat) : State :=
  let fails := s.twin.rxFails + 1
  let s1 := (({ s with twin := { s.twin with receiving := s.otherEpochs n, rxFails := fails } }).twinCount 6).ackEpoch n code
  if fails < 3 then s1
  else if s.isFollower then
    let s2 := s1.muteAll
    { s2 with
      twin := { s2.twin with role := 0, rxFails := 0, held := [], notes := [], verified := [], receiving := [] },
      hif := { s2.hif with cmds := s2.hif.cmds.filter (fun (c : Cmd) => !c.replicated) } }
  else s1.formFailed 0
/-- A verified epoch: a join epoch waits for its clearing, a data epoch for its command's effect. -/
def State.epochVerified (s : State) (b : EpochBuf) : State :=
  let s1 := { s with twin := { s.twin with lastEpoch := b.number, rxFails := 0, receiving := s.otherEpochs b.number } }
  let s2 :=
    if b.kind = 0 then
      { s1 with twin := { s1.twin with joinIn := some { b with verified := true }, joinApply := some (s.extend b.apply) } }
    else { s1 with twin := { s1.twin with verified := s1.twin.verified ++ [{ b with verified := true }] } }
  s2.ackEpoch b.number 0
def State.hearEpochEnd (s : State) (payload : List Byte) : State :=
  if payload.length ≠ 32 ∨ !s.takesEpochs then s
  else
    let f (o n : Nat) := pktU payload o n
    let b : EpochBuf := { s.epochIn (f 0 4) with kind := f 4 1, length := f 8 8, apply := f 20 4, pos := f 24 8 }
    let whole := b.data.length == b.length && b.data.all (fun e => e.1 < b.length)
    if !whole then s.epochFailed b.number 2
    else if crc32c b.bytes ≠ f 16 4 then (s.chainFail 11).epochFailed b.number 1
    else s.epochVerified b
def execEpochEnd (payload : List Byte) (s : State) : Out := need true (s.hearEpochEnd payload)

/-- The same state is sent again under a new number (R449). -/
def State.resendEpoch (s : State) (b : EpochBuf) : State :=
  let n := s.twin.nextEpoch
  let s1 := s.sendEpoch b.kind b.pos (if b.kind = 0 then s.joinInstant else 0) b.length b.data
  { s1 with twin := { s1.twin with sending := s1.twin.sending.map (fun x => if x.number = n then { x with fails := b.fails + 1 } else x) } }
/-- The lead's epoch is verified, or sent again; the third failure ends the forming, or the twin. -/
def State.hearEpochAck (s : State) (payload : List Byte) : State :=
  if payload.length ≠ 5 then s else
    let n := pktU payload 0 4
    match s.twin.sending.find? (fun b => b.number == n) with
    | none => s
    | some b =>
      let s1 := { s with twin := { s.twin with sending := s.twin.sending.filter (fun x => x.number != n) } }
      if pktU payload 4 1 = 0 then
        let s2 := { s1 with twin := { s1.twin with lastEpoch := n } }
        if b.kind = 0 then { s2 with twin := { s2.twin with joinApply := some b.apply } } else s2.dataVerified b
      else
        let s2 := s1.twinCount 6
        if b.fails + 1 < 3 then s2.resendEpoch b
        else if b.kind ≠ 0 then (s2.dataVerified b).leadAlone
        else s2.formFailed 0
def execEpochAck (payload : List Byte) (s : State) : Out := need true (s.hearEpochAck payload)

/-! ### ROLE (R457, R460) -/

/-- Commands that the follower has not journaled are dropped, as if not taken. -/
def State.dropUnjournaled (s : State) : State :=
  let gone := s.hif.cmds.filter (fun c => c.replicated && c.phase == .accepting && !c.twinAcked)
  gone.foldr (fun c s =>
    let s1 := (s.undoCmd c).dropCmd c.q c.seq
    let s2 := { s1 with nv := { s1.nv with flash := s1.nv.flash.filter (fun r => !(r.q = c.q ∧ r.seq = c.seq)) } }
    s2.modQueue c.q (fun k => { k with
      expSeq := c.seq, reserved := k.reserved - 2, window := k.window.filter (fun e => e.seq != c.seq) })) s
/-- A lead becomes follower; its replies to the commands of its journal need no room any more (02 R79). -/
def State.becomeFollower (s : State) (term : Nat) : State :=
  State.reserveReplies { s with twin := { s.twin with
    role := 3, term := term, unacked := [], exchange := none, journaled := s.hif.nextPos - 1, applied := s.twin.commitSeq, notes := [] } }
def State.hearRole (s : State) (payload : List Byte) : State :=
  if payload.length ≠ 5 then s else
    let term := pktU payload 0 4
    match pktU payload 4 1, s.twin.role, s.twin.exchange with
    | 1, 3, _ => (s.becomeLead term false).sendRole term 2
    | 2, 2, some (3, q, seq) => (s.becomeFollower term).completeId (q, seq) 2 term
    | 3, 2, x =>
      let s1 := (s.dropUnjournaled.becomeFollower term).sendRole term 4
      s1.completeOpt (x.map Prod.snd) 0x0302 0
    | 4, 3, some (2, q, seq) =>
      (({ s with twin := { s.twin with exchange := none } }).becomeLead term false).completeId (q, seq) 2 term
    | 5, 3, x => (s.becomeLead (s.twin.term + 1) true).completeOpt (x.map Prod.snd) 0x0302 0
    | 5, 2, _ => if s.twin.peerLost then s else s.leadAlone
    | _, _, _ => s
def execRole (payload : List Byte) (s : State) : Out := need true (s.hearRole payload)
/-- 100 µs without TAKE_DONE. -/
def execTakeDoneTimeout (s : State) : Out :=
  need true <|
    match s.twin.exchange with
    | some (2, q, seq) =>
      let s1 := s.reach (s.twin.takeAt + 100000)
      ({ s1 with twin := { s1.twin with exchange := none } }).completeId (q, seq) 0x0302 0
    | _ => s

/-! ### ROW_RECORD (R462) -/

/-- The record of a row is held for the program that follows, or whose picture had its budget from records (R464). -/
def State.hearRowRecord (s : State) (payload : List Byte) : State :=
  if payload.length < 12 then s else
    let p := pktU payload 0 1 % 16
    let n := pktU payload 4 4
    let row := pktU payload 2 2
    if s.formed ∧ ((s.prog p).muted.isSome ∨ (s.prog p).follow ∨ n < (s.prog p).followEnd) then
      s.modProg p (fun x => { x with
        records := (x.records.filter (fun e => n < e.1 + 16 && !(e.1 == n && e.2.1 == row))) ++ [(n, row, payload)] })
    else s
def execRowRecord (payload : List Byte) (s : State) : Out := need true (s.hearRowRecord payload)

end Sys2Proof.Machine
end

