-- ==== Sys2Proof/Machine/Tether.lean ====
section
/-!
DEFINITION. The tether's receiver (10 R433–R435, R441): blocks of path A from the block rows of YT_RX, datagrams of path B from the
management ports, the messages that their fragments make up, and what each message does.
-/
set_option Elab.async false
namespace Sys2Proof.Machine

open Sys2Proof

/-- A block or datagram as read: TYPE, FIRST, LAST, MSG_SEQ and payload. -/
structure Fragment where
  type : Nat
  first : Bool
  last : Bool
  seq : Nat
  part : List Byte
deriving DecidableEq, Repr

/-- Read a block (path 0) or datagram (path 1); none when its CRC or its length does not fit (R433, R434). -/
def readFragment (path : Nat) (b : List Byte) : Option Fragment :=
  let len := pktU b 2 2
  let whole := if path = 0 then b.length == 512 && decide (len ≤ 500) else b.length == len + 12 && decide (len ≤ 1400)
  if whole && pktU b (b.length - 4) 4 == crc32c (b.take (b.length - 4)) then
    some { type := pktU b 0 1, first := bit (pktU b 1 1) 0, last := bit (pktU b 1 1) 1, seq := pktU b 4 4, part := (b.drop 8).take len }
  else none

/-- What a whole message does, received on a path (*Tether messages*). -/
def State.hear (s : State) (path type : Nat) (m : List Byte) : State :=
  match type with
  | 0x01 => s.hearHeartbeat path m
  | 0x02 => s.hearRowCrc m
  | 0x03 => s.hearCommand m
  | 0x04 => s.hearJournalAck m
  | 0x05 => s.hearCommitNote m
  | 0x06 => s.hearEpochData m
  | 0x07 => s.hearEpochEnd m
  | 0x08 => s.hearEpochAck m
  | 0x09 => s.hearRole m
  | 0x0A => s.hearRowRecord m
  | _ => s

/-- A second copy of a datagram of path B, or one that a later datagram of its type has overtaken (R434). -/
def State.seenFragment (s : State) (path : Nat) (f : Fragment) : Bool :=
  path == 1 && (s.twin.rxSeq.find (path * 256 + f.type)).any (fun e =>
    let behind := (e + two32 - f.seq) % two32
    decide (0 < behind) && decide (behind < 2147483648))
/-- A fragment is taken: it begins, continues or ends the message of its type; at a gap in MSG_SEQ the partial message is discarded
(R435). -/
def State.takeFragment (s : State) (path : Nat) (f : Fragment) : State :=
  if s.seenFragment path f then s
  else
    let key := path * 256 + f.type
    let gap := (s.twin.rxSeq.find key).any (fun e => e != f.seq)
    let part := if f.first then some f.part
      else if gap then none else (s.twin.rxPart.find key).map (fun l => l ++ f.part)
    let kept (l : Tab (List Byte)) : Tab (List Byte) := match part with
      | some m => if f.last then l.erase key else l.set key m
      | none => l.erase key
    let s1 := { s with twin := { s.twin with
      rxSeq := s.twin.rxSeq.set key ((f.seq + 1) % two32), rxPart := kept s.twin.rxPart } }
    match part with
    | some m => if f.last then s1.hear path f.type m else s1
    | none => s1
/-- A block or datagram arrives on a path. -/
def State.takeTether (s : State) (path : Nat) (b : List Byte) : State :=
  match readFragment path b with
  | some f => s.takeFragment path f
  | none => s

/-- A block row of a braid arrives at TB0 value `t`; the blocks of YT_RX, as used, are tether blocks (R433). -/
def execYelucBlockRow (t braid : Nat) (blocks : List YBlock) (s : State) : Out :=
  need (braid < 5) <|
    let s0 := s.at32 t
    let b := s0.braid braid
    let s1 := s0.blockRow braid blocks
    if braid = 4 ∧ b.enabled ∧ !b.deaf ∧ b.locked then
      (b.usedOf 4 (b.readRow (strandsOf 4) blocks).2).foldl (fun s m => s.takeTether 0 m) s1
    else s1

/-- A datagram of the twin's peer: from an address that TWIN_CONFIG names, to the UDP port that it names (R428, R434). -/
def State.fromPeer (s : State) (d : Datagram) : Bool :=
  let t := s.twin
  !d.fragment && d.dport == t.udpPort &&
    ((bit t.mgPorts 0 && ipNames t.ipVer t.peerMg0 d.addr) || (bit t.mgPorts 1 && ipNames t.ipVer t.peerMg1 d.addr))
/-- A datagram of the management ports: the twin's peer's, or a command's (02 R83; R434). -/
def execCommandDatagram (d : Datagram) (s : State) : Out :=
  need true (if s.fromPeer d then s.takeTether 1 d.payload else s.commandDatagram d)

end Sys2Proof.Machine
end

