-- ==== Sys2Proof/Machine/Dispatch.lean ====
section
/-! DEFINITION. The dispatch of the commands to their meanings: one arm per constructor, each a direct call. -/
namespace Sys2Proof.Machine

open Sys2Proof

/-- The effect of a command on everything but the queue. -/
def exec (i : Instr) (s : State) : Host.Outcome State Fault Refusal :=
  match i with
  | .sqTailDoorbell q value => Sys2Proof.Machine.execSqTailDoorbell q value s
  | .fetchPacket q slots hostData => Sys2Proof.Machine.execFetchPacket q slots hostData s
  | .rqHeadWrite q value => Sys2Proof.Machine.execRqHeadWrite q value s
  | .resync q value => Sys2Proof.Machine.execResync q value s
  | .resyncStateEnter q => Sys2Proof.Machine.execResyncStateEnter q s
  | .ringSizeWrite reg value => Sys2Proof.Machine.execRingSizeWrite reg value s
  | .evHeadWrite value => Sys2Proof.Machine.execEvHeadWrite value s
  | .registerWrite off width value => Sys2Proof.Machine.execRegisterWrite off width value s
  | .commandDatagram d => Sys2Proof.Machine.execCommandDatagram d s
  | .flashJournalWritten q seq => Sys2Proof.Machine.execFlashJournalWritten q seq s
  | .journalCompaction => Sys2Proof.Machine.execJournalCompaction s
  | .hostReadTimeout q seq => Sys2Proof.Machine.execHostReadTimeout q seq s
  | .nop q seq => Sys2Proof.Machine.execNop q seq s
  | .getInfo q seq => Sys2Proof.Machine.execGetInfo q seq s
  | .resetUnit q seq => Sys2Proof.Machine.execResetUnit q seq s
  | .warmReset q seq => Sys2Proof.Machine.execWarmReset q seq s
  | .setLoopBounds q seq => Sys2Proof.Machine.execSetLoopBounds q seq s
  | .deviceConfig q seq => Sys2Proof.Machine.execDeviceConfig q seq s
  | .abort q seq => Sys2Proof.Machine.execAbort q seq s
  | .hitch q seq => Sys2Proof.Machine.execHitch q seq s
  | .queueConfig q seq => Sys2Proof.Machine.execQueueConfig q seq s
  | .journalQuery q seq => Sys2Proof.Machine.execJournalQuery q seq s
  | .flowRxOpen q seq => Sys2Proof.Machine.execFlowRxOpen q seq s
  | .flowRxClose q seq => Sys2Proof.Machine.execFlowRxClose q seq s
  | .braidConfig q seq => Sys2Proof.Machine.execBraidConfig q seq s
  | .braidLoopback q seq => Sys2Proof.Machine.execBraidLoopback q seq s
  | .braidRestrand q seq => Sys2Proof.Machine.execBraidRestrand q seq s
  | .sourceBind q seq => Sys2Proof.Machine.execSourceBind q seq s
  | .sourceStatus q seq => Sys2Proof.Machine.execSourceStatus q seq s
  | .policerSet q seq => Sys2Proof.Machine.execPolicerSet q seq s
  | .canopyConfig q seq => Sys2Proof.Machine.execCanopyConfig q seq s
  | .layerSet q seq => Sys2Proof.Machine.execLayerSet q seq s
  | .layerUpload q seq => Sys2Proof.Machine.execLayerUpload q seq s
  | .uploadComplete layer data => Sys2Proof.Machine.execUploadComplete layer data s
  | .commit q seq => Sys2Proof.Machine.execCommit q seq s
  | .commitArm q seq => Sys2Proof.Machine.execCommitArm q seq s
  | .lampTableLoad q seq => Sys2Proof.Machine.execLampTableLoad q seq s
  | .lampLoadComplete canopy entries => Sys2Proof.Machine.execLampLoadComplete canopy entries s
  | .wallTiling q seq => Sys2Proof.Machine.execWallTiling q seq s
  | .scalerCoefs q seq => Sys2Proof.Machine.execScalerCoefs q seq s
  | .programConfig q seq => Sys2Proof.Machine.execProgramConfig q seq s
  | .programStart q seq => Sys2Proof.Machine.execProgramStart q seq s
  | .programStop q seq => Sys2Proof.Machine.execProgramStop q seq s
  | .forceRefresh q seq => Sys2Proof.Machine.execForceRefresh q seq s
  | .subpicMap q seq => Sys2Proof.Machine.execSubpicMap q seq s
  | .rateConfig q seq => Sys2Proof.Machine.execRateConfig q seq s
  | .rateBounds q seq => Sys2Proof.Machine.execRateBounds q seq s
  | .rateStatus q seq => Sys2Proof.Machine.execRateStatus q seq s
  | .flowTxOpen q seq => Sys2Proof.Machine.execFlowTxOpen q seq s
  | .flowTxClose q seq => Sys2Proof.Machine.execFlowTxClose q seq s
  | .shaperSet q seq => Sys2Proof.Machine.execShaperSet q seq s
  | .schedClassSet q seq => Sys2Proof.Machine.execSchedClassSet q seq s
  | .timebaseConfig q seq => Sys2Proof.Machine.execTimebaseConfig q seq s
  | .timebaseAdjust q seq => Sys2Proof.Machine.execTimebaseAdjust q seq s
  | .launchPolicy q seq => Sys2Proof.Machine.execLaunchPolicy q seq s
  | .captureArm q seq => Sys2Proof.Machine.execCaptureArm q seq s
  | .twinConfig q seq => Sys2Proof.Machine.execTwinConfig q seq s
  | .twinRole q seq => Sys2Proof.Machine.execTwinRole q seq s
  | .twinStatus q seq => Sys2Proof.Machine.execTwinStatus q seq s
  | .splice q seq => Sys2Proof.Machine.execSplice q seq s
  | .memPolicy q seq => Sys2Proof.Machine.execMemPolicy q seq s
  | .memRetrain q seq => Sys2Proof.Machine.execMemRetrain q seq s
  | .memFreq q seq => Sys2Proof.Machine.execMemFreq q seq s
  | .eccMode q seq => Sys2Proof.Machine.execEccMode q seq s
  | .eccLogRead q seq => Sys2Proof.Machine.execEccLogRead q seq s
  | .scrubConfig q seq => Sys2Proof.Machine.execScrubConfig q seq s
  | .eccTest q seq => Sys2Proof.Machine.execEccTest q seq s
  | .cvConfig q seq => Sys2Proof.Machine.execCvConfig q seq s
  | .cvContext q seq => Sys2Proof.Machine.execCvContext q seq s
  | .audioPortConfig q seq => Sys2Proof.Machine.execAudioPortConfig q seq s
  | .audioRoute q seq => Sys2Proof.Machine.execAudioRoute q seq s
  | .audioStatus q seq => Sys2Proof.Machine.execAudioStatus q seq s
  | .powerBudget q seq => Sys2Proof.Machine.execPowerBudget q seq s
  | .permitStatus q seq => Sys2Proof.Machine.execPermitStatus q seq s
  | .avsBounds q seq => Sys2Proof.Machine.execAvsBounds q seq s
  | .clockStatus q seq => Sys2Proof.Machine.execClockStatus q seq s
  | .updateBegin q seq => Sys2Proof.Machine.execUpdateBegin q seq s
  | .updateData q seq hostData => Sys2Proof.Machine.execUpdateData q seq hostData s
  | .updateVerify q seq => Sys2Proof.Machine.execUpdateVerify q seq s
  | .verificationResult readBackOk => Sys2Proof.Machine.execVerificationResult readBackOk s
  | .stagingComplete => Sys2Proof.Machine.execStagingComplete s
  | .updateSchedule q seq => Sys2Proof.Machine.execUpdateSchedule q seq s
  | .updateConfirm q seq => Sys2Proof.Machine.execUpdateConfirm q seq s
  | .updateCancel q seq => Sys2Proof.Machine.execUpdateCancel q seq s
  | .ownerLock q seq => Sys2Proof.Machine.execOwnerLock q seq s
  | .lifecycleAdvance q seq => Sys2Proof.Machine.execLifecycleAdvance q seq s
  | .returnAuthorise q seq => Sys2Proof.Machine.execReturnAuthorise q seq s
  | .pmcConfig q seq => Sys2Proof.Machine.execPmcConfig q seq s
  | .sampleConfig q seq => Sys2Proof.Machine.execSampleConfig q seq s
  | .traceConfig q seq => Sys2Proof.Machine.execTraceConfig q seq s
  | .eventMask q seq => Sys2Proof.Machine.execEventMask q seq s
  | .clearing canopy => Sys2Proof.Machine.execClearing canopy s
  | .effectTimeReached q seq => Sys2Proof.Machine.execEffectTimeReached q seq s
  | .timeBaseWrap tb => Sys2Proof.Machine.execTimeBaseWrap tb s
  | .ptpSync tb x => Sys2Proof.Machine.execPtpSync tb x s
  | .ptpAnnounce tb x => Sys2Proof.Machine.execPtpAnnounce tb x s
  | .syncTimeout tb => Sys2Proof.Machine.execSyncTimeout tb s
  | .ppsInEdge t => Sys2Proof.Machine.execPpsInEdge t s
  | .ppsEdgeTimeout tb => Sys2Proof.Machine.execPpsEdgeTimeout tb s
  | .ppsOutRise tb => Sys2Proof.Machine.execPpsOutRise tb s
  | .ppsOutFall tb => Sys2Proof.Machine.execPpsOutFall tb s
  | .slewComplete tb => Sys2Proof.Machine.execSlewComplete tb s
  | .captureEvent tb source flow => Sys2Proof.Machine.execCaptureEvent tb source flow s
  | .packetArrival t p => Sys2Proof.Machine.execPacketArrival t p s
  | .legDown flow leg => Sys2Proof.Machine.execLegDown flow leg s
  | .lineDeadline flow => Sys2Proof.Machine.execLineDeadline flow s
  | .frameDeadline flow => Sys2Proof.Machine.execFrameDeadline flow s
  | .yelucBlockRow t braid blocks => Sys2Proof.Machine.execYelucBlockRow t braid blocks s
  | .alignmentMarker braid strand header payload skew => Sys2Proof.Machine.execAlignmentMarker braid strand header payload skew s
  | .clockStrandLost braid => Sys2Proof.Machine.execClockStrandLost braid s
  | .braidLockFail braid => Sys2Proof.Machine.execBraidLockFail braid s
  | .restoreTimeout braid => Sys2Proof.Machine.execRestoreTimeout braid s
  | .loopbackEnd braid errors => Sys2Proof.Machine.execLoopbackEnd braid errors s
  | .dispatch op => Sys2Proof.Machine.execDispatch op s
  | .preempt op => Sys2Proof.Machine.execPreempt op s
  | .promote op => Sys2Proof.Machine.execPromote op s
  | .ackTimeout unit => Sys2Proof.Machine.execAckTimeout unit s
  | .progressReport unit => Sys2Proof.Machine.execProgressReport unit s
  | .progressWatchdog unit => Sys2Proof.Machine.execProgressWatchdog unit s
  | .unitInternalError unit => Sys2Proof.Machine.execUnitInternalError unit s
  | .unitSelfTestDone unit passed => Sys2Proof.Machine.execUnitSelfTestDone unit passed s
  | .dispatcherLockstepMismatch => Sys2Proof.Machine.execDispatcherLockstepMismatch s
  | .dispatcherRestartEnd => Sys2Proof.Machine.execDispatcherRestartEnd s
  | .ctuComplete unit => Sys2Proof.Machine.execCtuComplete unit s
  | .operationComplete unit => Sys2Proof.Machine.execOperationComplete unit s
  | .cvDramTapEnd unit => Sys2Proof.Machine.execCvDramTapEnd unit s
  | .frameBudget prog pic => Sys2Proof.Machine.execFrameBudget prog pic s
  | .rowDecision prog pic row => Sys2Proof.Machine.execRowDecision prog pic row s
  | .launchTime prog pic => Sys2Proof.Machine.execLaunchTime prog pic s
  | .shaperEligible flow leg t => Sys2Proof.Machine.execShaperEligible flow leg t s
  | .wireIdle port sub t => Sys2Proof.Machine.execWireIdle port sub t s
  | .packetEnd port sub internalOk => Sys2Proof.Machine.execPacketEnd port sub internalOk s
  | .beTimeout port sub queue => Sys2Proof.Machine.execBeTimeout port sub queue s
  | .linkDown port sub => Sys2Proof.Machine.execLinkDown port sub s
  | .linkUp port sub => Sys2Proof.Machine.execLinkUp port sub s
  | .heartbeatDue path => Sys2Proof.Machine.execHeartbeatDue path s
  | .heartbeat path t payload => Sys2Proof.Machine.execHeartbeat path t payload s
  | .pathLost path => Sys2Proof.Machine.execPathLost path s
  | .rowCrc payload => Sys2Proof.Machine.execRowCrc payload s
  | .gateAllowanceEnd prog pic row => Sys2Proof.Machine.execGateAllowanceEnd prog pic row s
  | .command payload => Sys2Proof.Machine.execCommand payload s
  | .journalAck payload => Sys2Proof.Machine.execJournalAck payload s
  | .journalAckTimeout pos => Sys2Proof.Machine.execJournalAckTimeout pos s
  | .commitNote payload => Sys2Proof.Machine.execCommitNote payload s
  | .joinEpochSend => Sys2Proof.Machine.execJoinEpochSend s
  | .epochData payload => Sys2Proof.Machine.execEpochData payload s
  | .epochEnd payload => Sys2Proof.Machine.execEpochEnd payload s
  | .epochAck payload => Sys2Proof.Machine.execEpochAck payload s
  | .role payload => Sys2Proof.Machine.execRole payload s
  | .takeDoneTimeout => Sys2Proof.Machine.execTakeDoneTimeout s
  | .rowRecord payload => Sys2Proof.Machine.execRowRecord payload s
  | .refreshDue stack channel group idle => Sys2Proof.Machine.execRefreshDue stack channel group idle s
  | .dramTempReading stack temp => Sys2Proof.Machine.execDramTempReading stack temp s
  | .eyeTracking channel eye => Sys2Proof.Machine.execEyeTracking channel eye s
  | .retrainSlice channel found => Sys2Proof.Machine.execRetrainSlice channel found s
  | .permitRetry code holder => Sys2Proof.Machine.execPermitRetry code holder s
  | .caParityError t channel => Sys2Proof.Machine.execCaParityError t channel s
  | .dramReadReturn t channel ca raw reader => Sys2Proof.Machine.execDramReadReturn t channel ca raw reader s
  | .scrubRead raw => Sys2Proof.Machine.execScrubRead raw s
  | .keepLogWriteBack index => Sys2Proof.Machine.execKeepLogWriteBack index s
  | .rowRepair index => Sys2Proof.Machine.execRowRepair index s
  | .fillComplete owner slot => Sys2Proof.Machine.execFillComplete owner slot s
  | .mirrorCopyComplete channel => Sys2Proof.Machine.execMirrorCopyComplete channel s
  | .memRateSwitch stack => Sys2Proof.Machine.execMemRateSwitch stack s
  | .sramParityError unit second => Sys2Proof.Machine.execSramParityError unit second s
  | .sramEccError sram unit errors => Sys2Proof.Machine.execSramEccError sram unit errors s
  | .ectGo value => Sys2Proof.Machine.execEctGo value s
  | .eccTestDone => Sys2Proof.Machine.execEccTestDone s
  | .subframe input channel t sample error => Sys2Proof.Machine.execSubframe input channel t sample error s
  | .channelStatusBlock input channel bytes user => Sys2Proof.Machine.execChannelStatusBlock input channel bytes user s
  | .preambleTimeout input => Sys2Proof.Machine.execPreambleTimeout input s
  | .measurementWindowEnd input mclkHz => Sys2Proof.Machine.execMeasurementWindowEnd input mclkHz s
  | .rampEnd dest => Sys2Proof.Machine.execRampEnd dest s
  | .aes3StartBlock output => Sys2Proof.Machine.execAes3StartBlock output s
  | .pdmWarmUpEnd pair => Sys2Proof.Machine.execPdmWarmUpEnd pair s
  | .audioSlip object fill => Sys2Proof.Machine.execAudioSlip object fill s
  | .audioClockAsync ppb => Sys2Proof.Machine.execAudioClockAsync ppb s
  | .audioPlayInstant flow k => Sys2Proof.Machine.execAudioPlayInstant flow k s
  | .audioPacketFormed flow => Sys2Proof.Machine.execAudioPacketFormed flow s
  | .powerOnRelease vin => Sys2Proof.Machine.execPowerOnRelease vin s
  | .vinLow vin => Sys2Proof.Machine.execVinLow vin s
  | .vinNormal vin => Sys2Proof.Machine.execVinNormal vin s
  | .brownOut => Sys2Proof.Machine.execBrownOut s
  | .vinHigh vin => Sys2Proof.Machine.execVinHigh vin s
  | .vinHighClear vin => Sys2Proof.Machine.execVinHighClear vin s
  | .overvoltage => Sys2Proof.Machine.execOvervoltage s
  | .resetNAssert => Sys2Proof.Machine.execResetNAssert s
  | .resetNRise => Sys2Proof.Machine.execResetNRise s
  | .warmNAssert => Sys2Proof.Machine.execWarmNAssert s
  | .warmResetEnd => Sys2Proof.Machine.execWarmResetEnd s
  | .pcieReset cause => Sys2Proof.Machine.execPcieReset cause s
  | .pcieLinkUp => Sys2Proof.Machine.execPcieLinkUp s
  | .trstNAssert => Sys2Proof.Machine.execTrstNAssert s
  | .jtagInstruction code => Sys2Proof.Machine.execJtagInstruction code s
  | .refclkLost => Sys2Proof.Machine.execRefclkLost s
  | .refclkRestored => Sys2Proof.Machine.execRefclkRestored s
  | .junctionReading temp => Sys2Proof.Machine.execJunctionReading temp s
  | .throttleEngageStep iin => Sys2Proof.Machine.execThrottleEngageStep iin s
  | .throttleReleaseStep iin => Sys2Proof.Machine.execThrottleReleaseStep iin s
  | .thermalTrip => Sys2Proof.Machine.execThermalTrip s
  | .currentTrip => Sys2Proof.Machine.execCurrentTrip s
  | .avsMonitor rail short => Sys2Proof.Machine.execAvsMonitor rail short s
  | .avsLowerStep rail spare => Sys2Proof.Machine.execAvsLowerStep rail spare s
  | .mcPairFault cause => Sys2Proof.Machine.execMcPairFault cause s
  | .pairSelfTestDone passed => Sys2Proof.Machine.execPairSelfTestDone passed s
  | .rootPllLock => Sys2Proof.Machine.execRootPllLock s
  | .dramTrainingDone results => Sys2Proof.Machine.execDramTrainingDone results s
  | .initialFillDone => Sys2Proof.Machine.execInitialFillDone s
  | .imageSetLoaded bank => Sys2Proof.Machine.execImageSetLoaded bank s
  | .ready => Sys2Proof.Machine.execReady s
  | .bootFail => Sys2Proof.Machine.execBootFail s
  | .smbusReadWord code pecOk => Sys2Proof.Machine.execSmbusReadWord code pecOk s
  | .smbusWriteWord code value pecOk => Sys2Proof.Machine.execSmbusWriteWord code value pecOk s
  | .activation => Sys2Proof.Machine.execActivation s
  | .selfTestResult failed => Sys2Proof.Machine.execSelfTestResult failed s
  | .confirmWindowExpiry => Sys2Proof.Machine.execConfirmWindowExpiry s
  | .fallbackInstant => Sys2Proof.Machine.execFallbackInstant s
  | .oldPairRestartDone => Sys2Proof.Machine.execOldPairRestartDone s
  | .recGo value => Sys2Proof.Machine.execRecGo value s
  | .recoveryResult container => Sys2Proof.Machine.execRecoveryResult container s
  | .pmcSnap value => Sys2Proof.Machine.execPmcSnap value s
  | .pmcClearAll value => Sys2Proof.Machine.execPmcClearAll value s
  | .pmcLoRead n => Sys2Proof.Machine.execPmcLoRead n s
  | .pmcWrap n increment => Sys2Proof.Machine.execPmcWrap n increment s
  | .pmcOvfClear m value => Sys2Proof.Machine.execPmcOvfClear m value s
  | .sampleDue pair addr insn latency mode previousRetired => Sys2Proof.Machine.execSampleDue pair addr insn latency mode previousRetired s
  | .smpData0Read parityOk => Sys2Proof.Machine.execSmpData0Read parityOk s
  | .smpData5Read => Sys2Proof.Machine.execSmpData5Read s
  | .smpLostRead => Sys2Proof.Machine.execSmpLostRead s
  | .trcData0Read => Sys2Proof.Machine.execTrcData0Read s
  | .trcData3Read => Sys2Proof.Machine.execTrcData3Read s
  | .trcCtrlWrite value => Sys2Proof.Machine.execTrcCtrlWrite value s
  | .trcLostRead => Sys2Proof.Machine.execTrcLostRead s
  | .tbxTbnNsRead tb => Sys2Proof.Machine.execTbxTbnNsRead tb s
  | .capInfoClear tb value => Sys2Proof.Machine.execCapInfoClear tb value s
  | .tbxLateMaxRead prog => Sys2Proof.Machine.execTbxLateMaxRead prog s
  | .c21ViolClear m value => Sys2Proof.Machine.execC21ViolClear m value s
  | .pwrAlertClear value => Sys2Proof.Machine.execPwrAlertClear value s
  | .hifCqnDiscardsRead q => Sys2Proof.Machine.execHifCqnDiscardsRead q s
  | .hifEvLostRead => Sys2Proof.Machine.execHifEvLostRead s
  | .audInErrRead input => Sys2Proof.Machine.execAudInErrRead input s
  | .audSlipsRead => Sys2Proof.Machine.execAudSlipsRead s
  | .audMissingRead => Sys2Proof.Machine.execAudMissingRead s
  | .fusesRead => Sys2Proof.Machine.execFusesRead s
  | .perstNRise => Sys2Proof.Machine.execPerstNRise s
  | .busMasterEnable => Sys2Proof.Machine.execBusMasterEnable s
  | .codeWordLock braid strand locked => Sys2Proof.Machine.execCodeWordLock braid strand locked s
  | .flashWriteEnd readBackOk => Sys2Proof.Machine.execFlashWriteEnd readBackOk s
  | .laneRecalibration lane => Sys2Proof.Machine.execLaneRecalibration lane s
  | .laneRecalibrationEnd lane => Sys2Proof.Machine.execLaneRecalibrationEnd lane s
  | .equalizerDecision lane ctle vga dfe => Sys2Proof.Machine.execEqualizerDecision lane ctle vga dfe s
  | .pageIdleExpiry channel bank => Sys2Proof.Machine.execPageIdleExpiry channel bank s
  | .snapCopyReadable => Sys2Proof.Machine.execSnapCopyReadable s
  | .startChecksComplete => Sys2Proof.Machine.execStartChecksComplete s
  | .standbyPairRestored => Sys2Proof.Machine.execStandbyPairRestored s
  | .aes3StopBlockEnd output => Sys2Proof.Machine.execAes3StopBlockEnd output s

end Sys2Proof.Machine
end

