-- ==== Sys2Proof/WellFormed.lean ====
section
/-!
DEFINITION. Well-formed commands: every operand names a queue, an object, a port or a register that the device has, and every
register value and instant fits its width. The meaning of a well-formed command answers a next state.
-/
set_option Elab.async false
namespace Sys2Proof

open Sys2Proof.Machine

/-- The operands are ones the device has. -/
def Instr.wf : Instr → Bool
  | .sqTailDoorbell q value => isQueue q && value < two32
  | .fetchPacket q _ _ => isQueue q
  | .rqHeadWrite q value => isQueue q && value < two32
  | .resync q value => isQueue q && value < two32
  | .resyncStateEnter q => isQueue q
  | .ringSizeWrite reg value => sizeRegThere reg && value < two32
  | .evHeadWrite value => value < two32
  | .registerWrite off width value => isAccess off width && value < 2 ^ width
  | .commandDatagram _ => true
  | .flashJournalWritten q _ => isQueue q
  | .journalCompaction => true
  | .hostReadTimeout q _ => isQueue q
  | .nop q _ => isQueue q
  | .getInfo q _ => isQueue q
  | .resetUnit q _ => isQueue q
  | .warmReset q _ => isQueue q
  | .setLoopBounds q _ => isQueue q
  | .deviceConfig q _ => isQueue q
  | .abort q _ => isQueue q
  | .hitch q _ => isQueue q
  | .queueConfig q _ => isQueue q
  | .journalQuery q _ => isQueue q
  | .flowRxOpen q _ => isQueue q
  | .flowRxClose q _ => isQueue q
  | .braidConfig q _ => isQueue q
  | .braidLoopback q _ => isQueue q
  | .braidRestrand q _ => isQueue q
  | .sourceBind q _ => isQueue q
  | .sourceStatus q _ => isQueue q
  | .policerSet q _ => isQueue q
  | .canopyConfig q _ => isQueue q
  | .layerSet q _ => isQueue q
  | .layerUpload q _ => isQueue q
  | .uploadComplete layer _ => 32 ≤ layer && layer < 64
  | .commit q _ => isQueue q
  | .commitArm q _ => isQueue q
  | .lampTableLoad q _ => isQueue q
  | .lampLoadComplete canopy _ => canopy < 16
  | .wallTiling q _ => isQueue q
  | .scalerCoefs q _ => isQueue q
  | .programConfig q _ => isQueue q
  | .programStart q _ => isQueue q
  | .programStop q _ => isQueue q
  | .forceRefresh q _ => isQueue q
  | .subpicMap q _ => isQueue q
  | .rateConfig q _ => isQueue q
  | .rateBounds q _ => isQueue q
  | .rateStatus q _ => isQueue q
  | .flowTxOpen q _ => isQueue q
  | .flowTxClose q _ => isQueue q
  | .shaperSet q _ => isQueue q
  | .schedClassSet q _ => isQueue q
  | .timebaseConfig q _ => isQueue q
  | .timebaseAdjust q _ => isQueue q
  | .launchPolicy q _ => isQueue q
  | .captureArm q _ => isQueue q
  | .twinConfig q _ => isQueue q
  | .twinRole q _ => isQueue q
  | .twinStatus q _ => isQueue q
  | .splice q _ => isQueue q
  | .memPolicy q _ => isQueue q
  | .memRetrain q _ => isQueue q
  | .memFreq q _ => isQueue q
  | .eccMode q _ => isQueue q
  | .eccLogRead q _ => isQueue q
  | .scrubConfig q _ => isQueue q
  | .eccTest q _ => isQueue q
  | .cvConfig q _ => isQueue q
  | .cvContext q _ => isQueue q
  | .audioPortConfig q _ => isQueue q
  | .audioRoute q _ => isQueue q
  | .audioStatus q _ => isQueue q
  | .powerBudget q _ => isQueue q
  | .permitStatus q _ => isQueue q
  | .avsBounds q _ => isQueue q
  | .clockStatus q _ => isQueue q
  | .updateBegin q _ => isQueue q
  | .updateData q _ _ => isQueue q
  | .updateVerify q _ => isQueue q
  | .verificationResult _ => true
  | .stagingComplete => true
  | .updateSchedule q _ => isQueue q
  | .updateConfirm q _ => isQueue q
  | .updateCancel q _ => isQueue q
  | .ownerLock q _ => isQueue q
  | .lifecycleAdvance q _ => isQueue q
  | .returnAuthorise q _ => isQueue q
  | .pmcConfig q _ => isQueue q
  | .sampleConfig q _ => isQueue q
  | .traceConfig q _ => isQueue q
  | .eventMask q _ => isQueue q
  | .clearing canopy => canopy < 16
  | .effectTimeReached q _ => isQueue q
  | .timeBaseWrap tb => tb < 4
  | .ptpSync tb _ => tb < 4
  | .ptpAnnounce tb _ => tb < 4
  | .syncTimeout tb => tb < 4
  | .ppsInEdge _ => true
  | .ppsEdgeTimeout tb => tb < 4
  | .ppsOutRise tb => tb < 4
  | .ppsOutFall tb => tb < 4
  | .slewComplete tb => tb < 4
  | .captureEvent tb _ _ => tb < 4
  | .packetArrival _ p => p.port < 4 && p.sub < 4
  | .legDown flow leg => flow < 256 && leg < 2
  | .lineDeadline flow => flow < 256
  | .frameDeadline flow => flow < 256
  | .yelucBlockRow _ braid _ => braid < 5
  | .alignmentMarker braid strand _ _ _ => braid < 5 && strand < 9
  | .clockStrandLost braid => braid < 5
  | .braidLockFail braid => braid < 5
  | .restoreTimeout braid => braid < 5
  | .loopbackEnd braid _ => braid < 5
  | .dispatch op => op.prog < 16
  | .preempt op => op.prog < 16
  | .promote op => op.prog < 16
  | .ackTimeout unit => isUnit unit
  | .progressReport unit => isUnit unit
  | .progressWatchdog unit => isUnit unit
  | .unitInternalError unit => isUnit unit
  | .unitSelfTestDone unit _ => isUnit unit
  | .dispatcherLockstepMismatch => true
  | .dispatcherRestartEnd => true
  | .ctuComplete unit => isUnit unit
  | .operationComplete unit => isUnit unit
  | .cvDramTapEnd unit => 8 ≤ unit && unit < 16
  | .frameBudget prog _ => prog < 16
  | .rowDecision prog _ _ => prog < 16
  | .launchTime prog _ => prog < 16
  | .shaperEligible flow _ _ => flow < 1024
  | .wireIdle port sub _ => port < 4 && sub < 4
  | .packetEnd port sub _ => port < 4 && sub < 4
  | .beTimeout port sub queue => port < 4 && sub < 4 && queue < 8
  | .linkDown port sub => port < 4 && sub < 4
  | .linkUp port sub => port < 4 && sub < 4
  | .heartbeatDue path => path < 2
  | .heartbeat path t _ => path < 2 && t < two32
  | .pathLost path => path < 2
  | .rowCrc _ => true
  | .gateAllowanceEnd prog _ _ => prog < 16
  | .command _ => true
  | .journalAck _ => true
  | .journalAckTimeout pos => pos < 2 ^ 64
  | .commitNote _ => true
  | .joinEpochSend => true
  | .epochData _ => true
  | .epochEnd _ => true
  | .epochAck _ => true
  | .role _ => true
  | .takeDoneTimeout => true
  | .rowRecord _ => true
  | .refreshDue stack channel group _ => stack < 2 && channel < 18 && group < 4
  | .dramTempReading stack _ => stack < 2
  | .eyeTracking channel _ => isChannel channel
  | .retrainSlice channel _ => isChannel channel
  | .permitRetry _ _ => true
  | .caParityError t channel => isChannel channel && decide (t < two32)
  | .dramReadReturn t channel ca _ reader => isChannel channel && decide (ca < 2 ^ 30) && decide (t < two32) && decide (reader.prog < 16)
  | .scrubRead _ => true
  | .keepLogWriteBack index => index < 64
  | .rowRepair index => index < 64
  | .fillComplete owner _ => owner < 16777216 * 16
  | .mirrorCopyComplete channel => isChannel channel
  | .memRateSwitch stack => stack < 2
  | .sramParityError unit _ => isUnit unit
  | .sramEccError sram _ _ => decide (sram < two32)
  | .ectGo value => value < two32
  | .eccTestDone => true
  | .subframe input channel t _ _ => input < 8 && channel < 2 && decide (t < two32)
  | .channelStatusBlock input channel bytes user => input < 8 && channel < 2 && decide (bytes.length = 24) && decide (user.length = 24)
  | .preambleTimeout input => input < 8
  | .measurementWindowEnd input mclkHz => input < 9 && decide (mclkHz < 2 ^ 18)
  | .rampEnd dest => dest < 2 ^ 38
  | .aes3StartBlock output => isAesOut output
  | .pdmWarmUpEnd pair => isPdm pair
  | .audioSlip object fill => isSlipObject object && decide (fill ≤ 64)
  | .audioClockAsync _ => true
  | .audioPlayInstant flow _ => flow < 256
  | .audioPacketFormed flow => flow < 1024
  | .powerOnRelease vin => vin < 65536
  | .vinLow vin => vin < 65536
  | .vinNormal vin => vin < 65536
  | .brownOut => true
  | .vinHigh vin => vin < 65536
  | .vinHighClear vin => vin < 65536
  | .overvoltage => true
  | .resetNAssert => true
  | .resetNRise => true
  | .warmNAssert => true
  | .warmResetEnd => true
  | .pcieReset cause => cause < 3
  | .pcieLinkUp => true
  | .trstNAssert => true
  | .jtagInstruction _ => true
  | .refclkLost => true
  | .refclkRestored => true
  | .junctionReading temp => decide (-32768 ≤ temp) && decide (temp < 32768)
  | .throttleEngageStep iin => iin < 65536
  | .throttleReleaseStep iin => iin < 65536
  | .thermalTrip => true
  | .currentTrip => true
  | .avsMonitor rail _ => rail < 5
  | .avsLowerStep rail _ => rail < 5
  | .mcPairFault cause => cause < 2
  | .pairSelfTestDone _ => true
  | .rootPllLock => true
  | .dramTrainingDone results => results.all (fun e => isChannel e.1 && e.2.1 < 3)
  | .initialFillDone => true
  | .imageSetLoaded bank => bank < 2
  | .ready => true
  | .bootFail => true
  | .smbusReadWord code _ => code < 256
  | .smbusWriteWord code value _ => code < 256 && value < 65536
  | .activation => true
  | .selfTestResult failed => failed.all isUnit
  | .confirmWindowExpiry => true
  | .fallbackInstant => true
  | .oldPairRestartDone => true
  | .recGo value => value < two32
  | .recoveryResult _ => true
  | .pmcSnap value => value < two32
  | .pmcClearAll value => value < two32
  | .pmcLoRead n => n < 128
  | .pmcWrap n _ => n < 128
  | .pmcOvfClear m value => m < 4 && value < two32
  | .sampleDue pair addr insn _ mode _ => pair < 2 && addr < 2 ^ 64 && insn < two32 && (mode == 0 || mode == 1 || mode == 3)
  | .smpData0Read _ => true
  | .smpData5Read => true
  | .smpLostRead => true
  | .trcData0Read => true
  | .trcData3Read => true
  | .trcCtrlWrite value => value < two32
  | .trcLostRead => true
  | .tbxTbnNsRead tb => tb < 4
  | .capInfoClear tb value => tb < 4 && value < two32
  | .tbxLateMaxRead prog => prog < 16
  | .c21ViolClear m value => m < 32 && value < two32
  | .pwrAlertClear value => value < two32
  | .hifCqnDiscardsRead q => isQueue q
  | .hifEvLostRead => true
  | .audInErrRead input => input < 8
  | .audSlipsRead => true
  | .audMissingRead => true
  | .fusesRead => true
  | .perstNRise => true
  | .busMasterEnable => true
  | .codeWordLock braid strand _ => braid < 5 && strand < 9
  | .flashWriteEnd _ => true
  | .laneRecalibration lane => isLane lane
  | .laneRecalibrationEnd lane => isLane lane
  | .equalizerDecision lane _ _ _ => isLane lane
  | .pageIdleExpiry channel bank => isChannel channel && bank < 16
  | .snapCopyReadable => true
  | .startChecksComplete => true
  | .standbyPairRestored => true
  | .aes3StopBlockEnd output => isAesOut output

end Sys2Proof
end

