-- ==== Sys2Proof/Safety.lean ====
section
/-!
DEFINITION. What counts as a safe state and a safe run, and the words in which the statements speak of a command that starts.
-/
set_option Elab.async false
namespace Sys2Proof

open Sys2Proof.Machine

/-- A step that stops neither with a fault nor with a refusal. -/
def StepsOn (s : State) : Prop := ∃ t, step s = .next t

/-- Every command that waits has operands the device has. -/
def PendingWf (s : State) : Prop := ∀ c ∈ s.pending, c.wf = true

/-- `n` steps, ended by the first that stops. -/
def steps : Nat → State → Out
  | 0, s => .next s
  | n + 1, s => match step s with
    | .next t => steps n t
    | o => o

namespace Machine

/-- The command as its start leaves it. -/
def Cmd.begun (c : Cmd) : Cmd := { c with phase := .started }

/-- The command engine starts a command: it is marked started (02 R102). -/
def State.begun (s : State) (c : Cmd) : State := s.modCmd c.q c.seq Cmd.begun

/-- `c` is a taken command of an opcode, on a queue of the device, and may start (02 R91, R93, R96). -/
def State.Starts (s : State) (c : Cmd) (code : Nat) : Prop :=
  isQueue c.q = true ∧ s.findCmd c.q c.seq = some c ∧ c.opcode = code ∧ s.startable c = true

/-- `c` may start, and takes effect as soon as it does: it carries neither CLEARING nor an EFFECT_TIME (02 R99, R101, R102), and is no
program setting that waits for a clearing of its running program (06 R316, 07 R324). -/
def State.StartsNow (s : State) (c : Cmd) (code : Nat) : Prop :=
  s.Starts c code ∧ c.clearing = false ∧ c.effTime = 0 ∧ s.awaitsClearing c = none

/-- The row of an opcode, given a command that starts now, answers the state that `eff` describes, after the COMMIT_NOTE of a twin with
the outcome that the effect gave (10 R444). `eff` is given the started command and the state as its start leaves it. -/
def Runs (row : Nat → Nat → Instr) (code : Nat) (eff : Cmd → State → State) : Prop :=
  ∀ (s : State) (c : Cmd), s.StartsNow c code → exec (row c.q c.seq) s = .next ((eff c.begun (s.begun c)).noteOutcome c.begun 0 0)

/-- The same for a command and a state that meet a condition. -/
def RunsIf (row : Nat → Nat → Instr) (code : Nat) (p : Cmd → State → Prop) (eff : Cmd → State → State) : Prop :=
  ∀ (s : State) (c : Cmd), s.StartsNow c code → p c.begun (s.begun c) →
    exec (row c.q c.seq) s = .next ((eff c.begun (s.begun c)).noteOutcome c.begun 0 0)

/-- The command as its start leaves it when it waits for the next clearing of canopy `k`: not before the instant of that clearing
(06 R314–R317, 07 R324, 08 R350). -/
def State.begunAt (s : State) (c : Cmd) (k : Nat) : State :=
  (s.modCmd c.q c.seq Cmd.begun).modCmd c.q c.seq (fun d => { d with notBefore := some (s.nextClearing k c.replicated) })

/-- The row of an opcode, given a command without CLEARING and EFFECT_TIME that takes effect at a clearing by its nature, answers the
state that `eff` describes, after the COMMIT_NOTE of a twin with the instant of that clearing (10 R444). -/
def RunsAtClearing (row : Nat → Nat → Instr) (code : Nat) (p : Cmd → State → Prop) (eff : Cmd → State → State) : Prop :=
  ∀ (s : State) (c : Cmd) (k : Nat), s.Starts c code → c.clearing = false → c.effTime = 0 → s.awaitsClearing c = some k →
    p c.begun (s.begunAt c k) → exec (row c.q c.seq) s =
      .next ((eff c.begun (s.begunAt c k)).noteOutcome c.begun 1 (s.nextClearing k c.replicated % two32))

/-- In every state that meets a condition, the command answers the state that `f` describes. -/
def Answers (i : Instr) (p : State → Prop) (f : State → State) : Prop := ∀ s, p s → exec i s = .next (f s)

/-- In every state that meets a condition, the command answers a state that stands in a relation to it. -/
def Leads (i : Instr) (p : State → Prop) (post : State → State → Prop) : Prop := ∀ s, p s → ∃ t, exec i s = .next t ∧ post s t

/-- The command has passed its commit point, and its outcome is still to come (02 R107). -/
def State.commits (s : State) (c : Cmd) : State := s.modCmd c.q c.seq (fun d => { d with phase := .committed })

/-- The rows of the opcodes that start when they may and do nothing otherwise. -/
def opRows : List (Nat × (Nat → Nat → Instr)) := [
  (0x0001, .nop), (0x0002, .getInfo), (0x0003, .resetUnit), (0x0004, .warmReset), (0x0005, .setLoopBounds),
  (0x0006, .deviceConfig), (0x0010, .abort), (0x0101, .hitch), (0x0102, .queueConfig), (0x0103, .journalQuery)] ++ [
  (0x0201, .flowRxOpen), (0x0202, .flowRxClose), (0x0203, .braidConfig), (0x0204, .braidLoopback), (0x0205, .braidRestrand),
  (0x0206, .sourceBind), (0x0207, .sourceStatus), (0x0208, .policerSet), (0x0301, .canopyConfig), (0x0302, .layerSet),
  (0x0306, .wallTiling), (0x0307, .scalerCoefs)] ++ [
  (0x0401, .programConfig), (0x0402, .programStart), (0x0403, .programStop), (0x0404, .forceRefresh), (0x0405, .subpicMap),
  (0x0501, .rateConfig), (0x0502, .rateBounds), (0x0503, .rateStatus), (0x0601, .flowTxOpen), (0x0602, .flowTxClose),
  (0x0603, .shaperSet), (0x0604, .schedClassSet), (0x0701, .timebaseConfig), (0x0702, .timebaseAdjust),
  (0x0703, .launchPolicy), (0x0704, .captureArm)] ++ [
  (0x0801, .twinConfig), (0x0802, .twinRole), (0x0803, .twinStatus), (0x0804, .splice), (0x0901, .memPolicy),
  (0x0902, .memRetrain), (0x0903, .memFreq), (0x0904, .eccMode), (0x0905, .eccLogRead), (0x0906, .scrubConfig),
  (0x0907, .eccTest), (0x0A01, .cvConfig), (0x0A02, .cvContext), (0x0B01, .audioPortConfig), (0x0B02, .audioRoute),
  (0x0B03, .audioStatus)] ++ [
  (0x0C01, .powerBudget), (0x0C02, .permitStatus), (0x0C03, .avsBounds), (0x0C04, .clockStatus), (0x0D01, .updateBegin),
  (0x0D03, .updateVerify), (0x0D04, .updateSchedule), (0x0D05, .updateConfirm), (0x0D06, .updateCancel), (0x0D07, .ownerLock),
  (0x0D08, .lifecycleAdvance), (0x0D09, .returnAuthorise), (0x0E01, .pmcConfig), (0x0E02, .sampleConfig),
  (0x0E03, .traceConfig), (0x0E04, .eventMask)]

end Machine

end Sys2Proof
end

