-- ==== Sys2Proof/Certificates/Slice0/Obligations.lean ====
section
/-!
DEFINITION. The statements for the provers: what the commands of each family do when they start or happen, and what holds of the machine
as a whole. A statement that rests on a choice of the model, and not on a rule alone, names the log entry.
-/
set_option Elab.async false

open Sys2Proof Sys2Proof.Machine

/-! ### The machine as a whole -/

/-- A step with a command at the front of the queue runs that command, with the rest of the queue left to the steps that follow. -/
def Obligations.StepRunsTheFrontCommand : Prop :=
  ∀ (s : State) (c : Instr) (rest : List Instr), s.pending = c :: rest → step s = exec c { s with pending := rest }

/-- An empty queue: the step is one tick of the time-base clocks (the model's choice, log entry 1). Each running base that does not follow
another and does not slew gains its INC (09 R388), with EPOCH inverted at a wrap of NS (09 R390); a stopped base stands, and so does every
base without a clock. Nothing changes but the time bases, the performance counters and what their overflow posts. -/
def Obligations.IdleStepIsOneTick : Prop :=
  (∀ s : State, s.pending = [] → ∃ t, step s = .next t ∧ (∃ b o h l, t = { s with time := b, obs := o, hif := h, out := l }) ∧
    (s.clocked = false → t = s) ∧
    (s.clocked = true → ∀ n, n < 4 → (s.tb n).state ≠ 0 → (s.tb n).mode ≠ 3 → (s.tb n).slew = none →
      (t.tb n).units = (s.tb n).units + (s.tb n).inc ∧ (t.tb n).ns < two32 ∧ (t.tb n).frac < two30 ∧
        ((t.tb n).wraps = (s.tb n).wraps → (t.tb n).epoch = (s.tb n).epoch) ∧
        ((t.tb n).wraps = (s.tb n).wraps + 1 → (t.tb n).epoch = !(s.tb n).epoch)) ∧
    (s.clocked = true → ∀ n, n < 4 → (s.tb n).state = 0 → t.tb n = s.tb n))

/-- A command whose operands the device has answers a next state in every state; any other stops the model (the model's choice, log
entry 61). -/
def Obligations.CommandsAnswerExactlyWhenWellFormed : Prop :=
  (∀ (i : Instr) (s : State), i.wf = true → ∃ t, exec i s = .next t) ∧
  (∀ (i : Instr) (s : State), i.wf = false → exec i s = .fault .noSuchObject)

/-- From every state whose waiting commands have operands the device has, the machine runs them first in, first out: after as many steps
as it likes, none has stopped, each has taken one command, and no command has put another into the queue. -/
def Obligations.QueuedCommandsRunInOrder : Prop :=
  ∀ (n : Nat) (s : State), PendingWf s → n ≤ s.pending.length →
    ∃ t, steps n s = .next t ∧ t.pending = s.pending.drop n ∧ PendingWf t

/-- Fuses only burn (00 R8; 15 R606, R620, R634, R635): whatever a step does, the part number stays, the anti-rollback counter and the
count of returns never go back, and a revoked key slot stays revoked. -/
def Obligations.FusesOnlyBurn : Prop :=
  ∀ s t : State, step s = .next t →
    t.nv.part = s.nv.part ∧ s.nv.antiRollback ≤ t.nv.antiRollback ∧ s.nv.revoked ⊆ t.nv.revoked ∧ s.nv.returns ≤ t.nv.returns

/-- The DRAM is written down in one form only, and every step keeps it: the words of every channel in rising order of their addresses, and
no word listed that equals the word of the fill pattern, which an unlisted one holds (11 R502, R503). -/
def Obligations.MemoryKeepsItsForm : Prop := ∀ s t : State, s.mem.wf = true → step s = .next t → t.mem.wf = true

/-- The state at reset meets the two invariants, and holds what the spec states for reset: rings of 256 slots and entries in the resync state
with ring phase 1 (02), no event masked (16 R649), no time base running but TB0 with the nominal INC (09 R388, R391), the current limit and
temperature threshold (14), no time for a capture, pair 0 active, nothing written in DRAM. -/
def Obligations.ResetState : Prop :=
  State.reset.pending = [] ∧ PendingWf State.reset ∧ State.reset.mem.wf = true ∧ State.reset.power.ready = false ∧
  (∀ q, q < 16 → (State.reset.queue q).sqSize = 256 ∧ (State.reset.queue q).rqSize = 256 ∧ (State.reset.queue q).sqHead = 0 ∧
    (State.reset.queue q).sqTail = 0 ∧ (State.reset.queue q).rqHead = 0 ∧ (State.reset.queue q).rqTail = 0 ∧
    (State.reset.queue q).rqPhase = true ∧ (State.reset.queue q).resyncState = true ∧ (State.reset.queue q).expSeq = 0 ∧
    (State.reset.queue q).expAlive = 0 ∧ (State.reset.queue q).enable = false) ∧
  (∀ g, State.reset.hif.evMask.get 0 g = 0) ∧ State.reset.hif.evSize = 256 ∧
  (∀ n, n < 4 → (State.reset.tb n).inc = 0x50000000 ∧ (State.reset.tb n).ns = 0 ∧ (State.reset.tb n).capture = none) ∧
  (State.reset.tb 0).state = 1 ∧ (State.reset.tb 1).state = 0 ∧ (State.reset.tb 2).state = 0 ∧ (State.reset.tb 3).state = 0 ∧
  State.reset.power.limit = 520 ∧ State.reset.power.threshold = 100 ∧ State.reset.power.pair0 = 0 ∧ State.reset.power.pair1 = 1 ∧
  (∀ ch ca, State.reset.storedWord ch ca = eccEncode State.reset.mem.fill 0)

/-- The rows of the opcodes for a command that does not take effect at once (02 R91, R93, R96, R99, R101, R102): without a taken command of
that SEQ and opcode that may start, nothing changes; a CLEARING command whose target canopy runs is marked started, with its canopy and the
instant it waits for; a command with an EFFECT_TIME is marked started. In a twin the note of it goes to the peer (10 R444). -/
def Obligations.CommandsWaitForTheirTurnAndTheirTime : Prop :=
  ∀ r ∈ opRows,
    (∀ (s : State) (q seq : Nat), isQueue q = true → s.findCmd q seq = none → exec (r.2 q seq) s = .next s) ∧
    (∀ (s : State) (q seq : Nat) (c : Cmd), isQueue q = true → s.findCmd q seq = some c → ¬(c.opcode = r.1 ∧ s.startable c = true) →
      exec (r.2 q seq) s = .next s) ∧
    (∀ (s : State) (c : Cmd) (k : Nat), s.Starts c r.1 → c.clearing = true → s.targetCanopy c.object = some k →
      (s.canopy k).running = true → c.effTime = 0 →
      exec (r.2 c.q c.seq) s = .next (((s.modCmd c.q c.seq Cmd.begun).modCmd c.q c.seq (fun d => { d with
        clearOf := some k, notBefore := some (s.nextClearing k c.replicated) })).commitNote c.begun 1
          (s.nextClearing k c.replicated % two32) 0 2 0)) ∧
    (∀ (s : State) (c : Cmd), s.Starts c r.1 → c.clearing = false → c.effTime ≠ 0 →
      exec (r.2 c.q c.seq) s = .next ((s.modCmd c.q c.seq Cmd.begun).commitNote c.begun 2 c.effTime c.effTb 2 0))

/-- A command that may start (02 R91, R93, R96, R97, R105): no earlier command of its queue still waits to start or, unresolved,
conflicts with it, and neither it nor an earlier unresolved one carries HITCH, as the HITCH command always does; among the commands that a
reset runs again, no earlier one of any queue still waits to start (R111); an ABORT starts past all of that. A command on the device
conflicts with every other (R92). -/
def Obligations.StartableMeansFenced : Prop :=
  (∀ (s : State) (c d : Cmd), s.startable c = true → c.opcode ≠ 0x0010 → d ∈ s.hif.cmds → d.pos < c.pos →
    c.hitch = false ∧ d.hitch = false ∧
      (d.q = c.q → d.phase ≠ .accepting ∧ d.phase ≠ .accepted ∧ c.object ≠ deviceId ∧ d.object ≠ deviceId ∧
        ∀ o ∈ c.objects, o ∉ d.objects)) ∧
  (∀ (s : State) (c : Cmd), c.phase = .accepted → s.power.warm = false → s.mute c = false →
    (∀ d ∈ s.hif.cmds, d.pos < c.pos → c.hitch = false ∧ d.hitch = false ∧
      (c.again = true → d.again = true → d.waitingToStart = false) ∧
      (d.q = c.q → d.waitingToStart = false ∧ c.conflicts d = false)) → s.startable c = true) ∧
  (∀ (s : State) (c : Cmd), c.opcode = 0x0010 → c.phase = .accepted → s.power.warm = false → s.mute c = false → s.startable c = true) ∧
  (∀ c : Cmd, c.opcode = 0x0101 → c.hitch = true)

/-- An outcome (02 R69, R104, R110): the command leaves the taken ones, its SEQ holds the outcome, every other queue is as it was, and its
one COMPLETE reply is sent, unless it is QUIET, was replayed, or is a replicated command of a follower. Nothing else changes but the
journal's note of an aborted command. -/
def Obligations.OutcomesAreJournaledAndAnswered : Prop :=
  ∀ (s : State) (c : Cmd) (status detail : Nat),
    let t := s.complete c status detail
    let r : Reply := { kind := 2, status := status, detail := detail % two32, ts := s.ts }
    (∃ h f o, t = { s with hif := h, nv := { s.nv with flash := f }, out := o }) ∧ (status ≠ 5 → t.nv = s.nv) ∧
    t.hif.cmds = s.hif.cmds.filter (fun d => !(d.q = c.q ∧ d.seq = c.seq)) ∧
    (∀ q, q ≠ c.q → t.queue q = s.queue q) ∧
    (c.opcode ≠ 0x0102 → (t.queue c.q).window = setOutcome (s.queue c.q).window c.seq r) ∧
    (c.quiet = true ∨ c.replayed = true ∨ s.mute c = true → t.out = s.out) ∧
    (c.quiet = false → c.replayed = false → s.mute c = false → c.replyTo.udp = true → s.power.warm = false →
      t.out = .datagram c.replyTo.addr c.replyTo.port (replyBytes c.q c.seq c.corr r) :: s.out)

/-- A rejected command leaves the shadow state of the canopies and layers, and the active one, as it was. -/
def Obligations.RejectedCommandsLeaveTheShadowState : Prop :=
  (∀ (s : State) (c : Cmd) (h : Header) (v : Nat × Nat), (s.rejectTaken c h v).comp = s.comp) ∧
  (∀ (s : State) (q : Nat) (b : List Byte) (dst : ReplyTo) (host : List Byte),
    s.checkTaken (cmdOf b s.hif.nextPos dst host) (headerOf b).clean (headerOf b).flags ≠ none →
    (s.receive q b dst host).comp = s.comp)

/-- A packet of a known opcode with a reserved bit of QUEUE (bits 7:4), of FLAGS (bits 7:4) or of EFFECT_TB (bits 7:2), or a reserved header
byte (11, 21 to 23, 28 to 31), that is not zero is rejected with ERR_FLAGS and the FLAGS byte. -/
def Obligations.ReservedHeaderBitsAreRejected : Prop :=
  ∀ (s : State) (b : List Byte) (dst : ReplyTo) (host : List Byte), (opRow (pktU b 0 2)).isSome = true →
    (16 ≤ pktU b 2 1 ∨ 16 ≤ pktU b 3 1 ∨ pktU b 11 1 ≠ 0 ∨ 4 ≤ pktU b 20 1 ∨ pktU b 21 3 ≠ 0 ∨ pktU b 28 4 ≠ 0) →
    s.checkTaken (cmdOf b s.hif.nextPos dst host) (headerOf b).clean (headerOf b).flags = some (0x0106, pktU b 3 1) ∧
    ∀ q, (s.isFollower = false ∨ q = 15) →
      (∀ r, opRow (pktU b 0 2) = some r → (headerOf b).length = permittedLength r (paramsOf b (headerOf b).length)) →
      ((s.queue q).resyncState = true ∨
        ((s.queue q).anyAlive = true ∨ (headerOf b).alive = (s.queue q).expAlive) ∧ (headerOf b).seq = (s.queue q).expSeq) →
      s.receive q b dst host = s.rejectTaken (cmdOf b s.hif.nextPos dst host) (headerOf b) (0x0106, pktU b 3 1)

/-- Checks 3 to 6 of a packet for a queue of a device that takes it, and duplicates (02 R56, R57, R59, R61–R64): a wrong LENGTH answers the
longest of the opcode, another ALIVE the expected one, a SEQ outside the window the expected one; a duplicate moves the expected ALIVE, not
the expected SEQ, runs nothing, and answers OK_DUPLICATE with the status so far and, after its outcome, the COMPLETE reply again. -/
def Obligations.ReceiptChecksAnswer : Prop :=
  ∀ (s : State) (q : Nat) (b : List Byte) (dst : ReplyTo) (host : List Byte), s.isFollower = false ∨ q = 15 →
    let h := headerOf b
    let k := s.queue q
    let fits : Prop := ∀ r, opRow h.opcode = some r → h.length = permittedLength r (paramsOf b h.length)
    let alive : Prop := k.resyncState = true ∨ k.anyAlive = true ∨ h.alive = k.expAlive
    (∀ r, opRow h.opcode = some r → h.length ≠ permittedLength r (paramsOf b h.length) →
      s.receive q b dst host = s.answer q h dst (s.acceptReply 0x0103 (maxLength r))) ∧
    (fits → ¬alive → s.receive q b dst host = s.answer q h dst (s.acceptReply 0x0102 k.expAlive)) ∧
    (fits → alive → k.resyncState = false → h.seq ≠ k.expSeq → (∀ e ∈ k.window, e.seq ≠ h.seq) →
      s.receive q b dst host = s.answer q h dst (s.acceptReply 0x0105 k.expSeq)) ∧
    (∀ e, fits → alive → k.resyncState = false → h.seq ≠ k.expSeq → k.window.find? (fun e => e.seq = h.seq) = some e →
      let s1 := s.modQueue q (fun k => { k with expAlive := (h.alive + 1) % 256, anyAlive := false })
      (e.outcome = none → s.receive q b dst host = s1.answer q h dst (s.acceptReply 3 e.accept.status)) ∧
      (∀ r, e.outcome = some r → e.quiet = false → s.receive q b dst host =
        (s1.answer q h dst (s.acceptReply 3 r.status)).reply q dst (replyBytes q e.seq e.corr r)))

/-- A future time (09 R405, R406): it is accepted when it lies strictly ahead of its running base and less than 2^31 ns ahead, ERR_TIME_AMBIG
with the base's value otherwise; what is stored fires once the base has gained as many nanoseconds as the time lay ahead, and not before,
across a wrap of NS as well. -/
def Obligations.FutureTimesFireWhenTheyAreReached : Prop :=
  (∀ (b : TimeBase) (t k : Nat), b.ns < two32 → t < two32 → k < two32 →
    0 < (t + two32 - b.ns) % two32 → (t + two32 - b.ns) % two32 < 2147483648 →
    fired33 ((b.value33 + k) % (2 * two32)) (b.store33 t) = decide ((t + two32 - b.ns) % two32 ≤ k)) ∧
  (∀ (s : State) (n t : Nat), (s.tb n).state ≠ 0 →
    let ahead := (t + two32 - (s.tb n).ns) % two32
    (0 < ahead ∧ ahead < 2147483648 → s.badTime n t false = none) ∧
    (¬(0 < ahead ∧ ahead < 2147483648) → s.badTime n t false = some (0x0205, (s.tb n).ns))) ∧
  (∀ (s : State) (n t : Nat) (r : Bool), (s.tb n).state = 0 → s.badTime n t r = some (0x0202, tbId n))

/-- The stored words of the DRAM: a write is read back, every other word of every channel reads as before, and nothing but the words of the
channels changes (11 R481). -/
def Obligations.DramWordsReadBack : Prop :=
  ∀ (s : State) (ch ca w : Nat),
    (s.putWord ch ca w).storedWord ch ca = w ∧
    (∀ ch' ca', ch' ≠ ch ∨ ca' / 8 ≠ ca / 8 → (s.putWord ch ca w).storedWord ch' ca' = s.storedWord ch' ca') ∧
    (∃ cs, s.putWord ch ca w = { s with mem := { s.mem with channels := cs } })

/-- The DEC-TED code (11 R499–R501): every stored word decodes clean to its data and W; with any one of its 80 bits wrong it is corrected
as a single error, and with any two wrong as a double error, at the right places. -/
def Obligations.CodeCorrectsAnyTwoBits : Prop :=
  ∀ d w : Nat, d < 2 ^ 64 → w < 2 →
    (eccDecode (eccEncode d w)).kind = 0 ∧ (eccDecode (eccEncode d w)).data = d ∧ (eccDecode (eccEncode d w)).w = (w == 1) ∧
    (∀ i, i < 80 → (eccDecode (eccEncode d w ^^^ 2 ^ i)).kind = 1 ∧ (eccDecode (eccEncode d w ^^^ 2 ^ i)).word = eccEncode d w ∧
      (eccDecode (eccEncode d w ^^^ 2 ^ i)).bits = [i]) ∧
    (∀ i j, i < j → j < 80 → (eccDecode (eccEncode d w ^^^ 2 ^ i ^^^ 2 ^ j)).kind = 2 ∧
      (eccDecode (eccEncode d w ^^^ 2 ^ i ^^^ 2 ^ j)).word = eccEncode d w ∧
      (eccDecode (eccEncode d w ^^^ 2 ^ i ^^^ 2 ^ j)).bits = [i, j])

/-- Replies and event records (02 R54, R68, R73; 16 R649): 24 and 32 bytes, the CRC-32C of the bytes before them little-endian in the last
four, the reply's and the record's fields at their offsets; a masked event changes nothing; another one advances EVENT_SEQ. -/
def Obligations.RepliesAndEventRecords : Prop :=
  crc32c [0x31, 0x32, 0x33, 0x34, 0x35, 0x36, 0x37, 0x38, 0x39] = 0xE3069283 ∧
  (∀ (q seq corr : Nat) (r : Reply), q < 256 → seq < two32 → corr < two32 → r.kind < 256 → r.status < 65536 → r.detail < two32 →
    r.ts < two32 →
    let b := replyBytes q seq corr r
    b.length = 24 ∧ pktU b 0 1 = q ∧ pktU b 1 1 = r.kind ∧ pktU b 2 2 = r.status ∧ pktU b 4 4 = seq ∧ pktU b 8 4 = corr ∧
      pktU b 12 4 = r.detail ∧ pktU b 16 4 = r.ts ∧ b.drop 20 = leBytes 4 (crc32c (b.take 20))) ∧
  (∀ (e : EventRec) (phase : Bool), e.queue < 256 → e.event < 65536 → e.seq < two32 → e.object < two32 → e.d0 < two32 → e.d1 < two32 →
    e.ts < two32 →
    let b := eventBytes e phase
    b.length = 32 ∧ pktU b 0 1 = e.queue ∧ pktU b 1 1 = 3 ∧ pktU b 2 2 = e.event ∧ pktU b 4 4 = e.seq ∧ pktU b 8 4 = e.object ∧
      pktU b 12 4 = e.d0 ∧ pktU b 16 4 = e.d1 ∧ pktU b 20 4 = e.ts ∧ pktU b 24 1 = b2n phase ∧
      b.drop 28 = leBytes 4 (crc32c (b.take 28))) ∧
  (∀ (s : State) (q code o d0 d1 : Nat), bit (s.hif.evMask.get 0 (code / 256)) (code % 256) = true → s.raiseFor q code o d0 d1 = s) ∧
  (∀ (s : State) (q code o d0 d1 : Nat), bit (s.hif.evMask.get 0 (code / 256)) (code % 256) = false → s.twin.role ≠ 3 →
    (s.raiseFor q code o d0 d1).hif.eventSeq = (s.hif.eventSeq + 1) % two32)

/-! ### Commands of the host, family by family (17; what each does at its start) -/

/-- Device and queue commands, when they start and neither CLEARING nor an EFFECT_TIME delays them: NOP and HITCH only complete (R97);
GET_INFO and JOURNAL_QUERY write their record and complete (R66, R72); SET_LOOP_BOUNDS sets the bounds it names (01 R47);
DEVICE_CONFIG passes its commit point and its flash write begins (R663); EVENT_MASK sets a group's mask (R649); WARM_RESET passes its
commit point and the reset starts (14 R591, R592). So these rows complete: NOP, HITCH, GET_INFO, JOURNAL_QUERY, SET_LOOP_BOUNDS,
DEVICE_CONFIG, EVENT_MASK, WARM_RESET. -/
def Obligations.DeviceCommandsRun : Prop :=
  Runs .nop 0x0001 (fun c s => s.ok c) ∧
  Runs .hitch 0x0101 (fun c s => s.ok c) ∧
  Runs .getInfo 0x0002 (fun c s => (s.writeBuf c (c.u 0 8) s.infoRecord).ok c 64) ∧
  Runs .journalQuery 0x0103 (fun c s => (s.writeBuf c (c.u 4 8) (s.journalRecord (c.u 0 1))).ok c 16) ∧
  RunsIf .setLoopBounds 0x0005 (fun c _ => c.u 0 1 = 0) (fun c s =>
    (s.modProg c.idx (fun p => { p with
      permitted := some (bitsSet 128 (c.u 4 16), bitsSet 16 (c.u 20 2), bitsSet 16 (c.u 22 2)) })).ok c) ∧
  RunsIf .setLoopBounds 0x0005 (fun c _ => c.u 0 1 ≠ 0) (fun c s =>
    let b : EqBounds := {
      ctleMin := c.u 5 1, ctleMax := c.u 6 1, vgaMin := c.u 7 1, vgaMax := c.u 8 1, dfeMin := c.i 9 1, dfeMax := c.i 10 1 }
    let lanes := if c.u 4 1 = 255 then (List.range 78).filter isLane else [c.u 4 1]
    State.ok { s with obs := { s.obs with eqBounds := lanes.foldl (fun t l => t.set l b) s.obs.eqBounds } } c) ∧
  Runs .deviceConfig 0x0006 (fun c s =>
    { s.commits c with power := { s.power with cfgWrites := s.power.cfgWrites ++ [(1, c.q, c.seq)] } }) ∧
  Runs .eventMask 0x0E04 (fun c s =>
    State.ok { s with hif := { s.hif with evMask := s.hif.evMask.set (c.u 0 1) (c.u 4 4) } } c) ∧
  Runs .warmReset 0x0004 (fun c s =>
    ({ s.commits c with power := { s.power with warmCmd := some (c.q, c.seq) } }).startWarm (some 2))

/-- RESET_UNIT by the state of the unit and what it runs (05 R256, R257): a retired unit starts its self-test; an idle one goes to a
warm spare, or there is none and FAULT_INTERNAL ends the command; one that runs an operation is marked for its pre-emption. So this row
completes: RESET_UNIT. -/
def Obligations.ResetUnitRuns : Prop :=
  RunsIf .resetUnit 0x0003 (fun c s => (s.unit c.idx).state = 2) (fun c s =>
    (s.commits c).modUnit c.idx (fun x => { x with state := 3, cmd := some (c.q, c.seq) })) ∧
  (∀ sp, RunsIf .resetUnit 0x0003
    (fun c s => (s.unit c.idx).state ≠ 2 ∧ (s.unit c.idx).op = none ∧ s.spareOf c.idx = some sp) (fun c s =>
    ((((s.commits c).retireUnit c.idx).bringIn c.idx sp).traceSwap c.idx sp).ok c (unitId sp))) ∧
  RunsIf .resetUnit 0x0003
    (fun c s => (s.unit c.idx).state ≠ 2 ∧ (s.unit c.idx).op = none ∧ s.spareOf c.idx = none) (fun c s =>
    (s.commits c).fail c 0x0303 c.object) ∧
  (∀ k, RunsIf .resetUnit 0x0003 (fun c s => (s.unit c.idx).state ≠ 2 ∧ (s.unit c.idx).op = some k) (fun c s =>
    let s1 := (s.commits c).modUnit c.idx (fun x => { x with cmd := some (c.q, c.seq) })
    { s1 with disp := { s1.disp with ops := s1.disp.ops.map (fun o => if o.key = k then { o with preempt := true } else o) } }))

/-- QUEUE_CONFIG binds a queue (R84, R664): another queue at once, with the resync state and an empty window when its transport or
source changes; its own queue after its reply. So this row completes: QUEUE_CONFIG. -/
def Obligations.QueueConfigRuns : Prop :=
  let moved (c : Cmd) (s : State) : Prop :=
    c.binding.udp ≠ (s.queue (c.u 0 1)).bind.udp ∨ c.binding.srcAddr ≠ (s.queue (c.u 0 1)).bind.srcAddr ∨
      c.binding.srcPort ≠ (s.queue (c.u 0 1)).bind.srcPort
  RunsIf .queueConfig 0x0102 (fun c s => c.u 0 1 ≠ c.q ∧ moved c s) (fun c s =>
    (s.modQueue (c.u 0 1) (fun k => { k with bind := c.binding, resyncState := true, window := [] })).ok c) ∧
  RunsIf .queueConfig 0x0102 (fun c s => c.u 0 1 ≠ c.q ∧ ¬moved c s) (fun c s =>
    (s.modQueue (c.u 0 1) (fun k => { k with bind := c.binding })).ok c) ∧
  RunsIf .queueConfig 0x0102 (fun c s => c.u 0 1 = c.q ∧ moved c s) (fun c s =>
    (s.modQueue (c.u 0 1) (fun k => { k with rebind := some c.binding })).ok c) ∧
  RunsIf .queueConfig 0x0102 (fun c s => c.u 0 1 = c.q ∧ ¬moved c s) (fun c s => s.ok c)

/-- ABORT by what it names (R106–R108): a target before its commit point is aborted; one past it, and one with its outcome, leaves
OK_ALREADY_COMPLETE; another ABORT is ERR_STATE; a SEQ that is neither taken nor in the window is ERR_RANGE. So this row completes:
ABORT. -/
def Obligations.AbortRuns : Prop :=
  (∀ t, RunsIf .abort 0x0010
    (fun c s => s.findCmd (c.u 0 1) (c.u 4 4) = some t ∧ t.opcode ≠ 0x0010 ∧ t.phase ≠ .committed ∧ commitsAtAcceptance t.opcode = false)
    (fun c s => (s.abortCmd t).ok c)) ∧
  (∀ t, RunsIf .abort 0x0010
    (fun c s => s.findCmd (c.u 0 1) (c.u 4 4) = some t ∧ t.opcode ≠ 0x0010 ∧ (t.phase = .committed ∨ commitsAtAcceptance t.opcode = true))
    (fun c s => s.complete c 4 0)) ∧
  (∀ t, RunsIf .abort 0x0010 (fun c s => s.findCmd (c.u 0 1) (c.u 4 4) = some t ∧ t.opcode = 0x0010)
    (fun c s => s.complete c 0x0202 deviceId)) ∧
  (∀ e, RunsIf .abort 0x0010
    (fun c s => s.findCmd (c.u 0 1) (c.u 4 4) = none ∧ (s.queue (c.u 0 1)).window.find? (fun e => e.seq = c.u 4 4) = some e)
    (fun c s => if e.opcode = 0x0010 then s.complete c 0x0202 deviceId else s.complete c 4 0)) ∧
  RunsIf .abort 0x0010
    (fun c s => s.findCmd (c.u 0 1) (c.u 4 4) = none ∧ (s.queue (c.u 0 1)).window.find? (fun e => e.seq = c.u 4 4) = none)
    (fun c s => s.complete c 0x0201 4)

/-- Ingest commands (03): FLOW_RX_OPEN opens its flow as its parameters say (03 R113, R114, R128, R135), with one leg or two for RTP and
none for a braid, whose ply starts at its next frame-start block, and completes once the pages it reserved are filled (11 R504).
FLOW_RX_CLOSE gives everything back; SOURCE_BIND binds to a canopy's grid (R158), the periods of a former grid keep theirs (R693);
SOURCE_STATUS writes its record; BRAID_CONFIG restarts the lock when the braid is turned on or off or changes its rate, and holds the larger
of its own charge and that of the BRAID_CONFIG that still wait (01 R37); BRAID_LOOPBACK runs for its DURATION; BRAID_RESTRAND moves a
strand at once and posts it, or starts a restore of at most 100 ms (R152). So these rows complete: FLOW_RX_OPEN, FLOW_RX_CLOSE,
SOURCE_BIND, SOURCE_STATUS, BRAID_CONFIG, BRAID_LOOPBACK, BRAID_RESTRAND. -/
def Obligations.IngestCommandsRun : Prop :=
  (Runs .flowRxOpen 0x0201 (fun c s =>
    let leg (o : Nat) : RxLeg := c.rxLeg o s.now (c.pktRate.1 * c.u 24 2) c.pktRate.2 (c.u 24 2)
    let s1 := s.modRx c.idx (fun _ => {
      isOpen := true, kind := c.u 0 1, buffers := c.u 2 1, merge := c.u 3 1, width := c.u 4 2, height := c.u 6 2,
      sampling := c.u 8 1, depth := c.u 9 1, packing := c.u 10 1, rate := c.u 11 1, colorimetry := c.u 12 1,
      transfer := c.u 13 1, tsCheck := decide (c.u 14 1 = 1), ply := c.u 15 1, braid := c.u 16 4 % 16777216, npkt := c.u 20 4,
      lmax := c.u 24 2, channels := c.u 26 1, audio := c.u 27 1, linkOffset := c.u 28 4,
      legs := if c.u 0 1 = 1 then [] else if c.u 1 1 = 2 then [leg 32, leg 80] else [leg 32],
      nextFrame := (s.rxFlow c.idx).nextFrame })
    (if c.u 0 1 = 1 then s1.modBraid (c.u 16 4 % 16777216) (fun b => { b with plyFrames := b.plyFrames.erase (c.u 15 1) }) else s1).finish
      c)) ∧
  Runs .flowRxClose 0x0202 (fun c s =>
    (((s.modRx c.idx (fun f => { nextFrame := f.nextFrame })).uncharge (fun ch => ch.owner = c.object)).freePages c.object 0).ok c) ∧
  Runs .sourceBind 0x0206 (fun c s =>
    let i := c.u 0 4 % 16777216
    let g := (s.canopy i).geom
    (s.modRx c.idx (fun f => { f.bindTo i (gridOf g.rate g.offset) s.now with
      allowance := if c.u 4 4 = 0xFFFFFFFF then 100000 else c.u 4 4 })).ok c) ∧
  Runs .sourceStatus 0x0207 (fun c s =>
    (s.writeBuf c (c.u 0 8) (s.sourceRecord c.idx)).ok c (s.sourceRecord c.idx).length) ∧
  Runs .braidConfig 0x0203 (fun c s =>
    let b := s.braid c.idx
    let on := decide (c.u 0 1 = 1)
    let s1 := (s.modBraid c.idx (fun x =>
      { (if on = false ∨ b.enabled = false ∨ b.rate ≠ c.u 1 1 then x.restartLock s.now else x) with
        enabled := on, rate := c.u 1 1, autoRestrand := decide (c.u 2 1 = 1) })).ok c
    s1.rechargeObject c.object 4 (s1.braidCharges c.idx (s1.waitingFor 0x0203 c.object))) ∧
  Runs .braidLoopback 0x0204 (fun c s =>
    (s.modBraid c.idx (fun b => { b with
      loop := some { q := c.q, seq := c.seq, kind := c.u 0 1, stop := s.now + c.u 4 4 * 1000000 } })).commits c) ∧
  RunsIf .braidRestrand 0x0205 (fun c _ => c.u 1 1 = 0) (fun c s =>
    ((s.modBraid c.idx (fun b => { b with restranded := some (c.u 0 1), matched := 0 })).raiseFor c.q 0x0306 c.object (c.u 0 1) 1).ok c) ∧
  RunsIf .braidRestrand 0x0205 (fun c _ => c.u 1 1 ≠ 0) (fun c s =>
    (s.modBraid c.idx (fun b => { b with restoring := some (c.q, c.seq, s.now + 100000000), matched := 0 })).commits c)

/-- POLICER_SET replaces the rates and depths of a leg, and a value outside R136 is ERR_RANGE. -/
def Obligations.PolicerSetReplacesRatesAndDepths : Prop :=
  Runs .policerSet 0x0208 (fun c s =>
    (s.modRx c.idx (fun f => { f with legs := f.legs.modify (c.u 0 1) (fun l => { l with
      newSet := some { cRate := c.u 4 8, pRate := c.u 12 8, cDepth := c.u 20 4, pDepth := c.u 24 4, overhead := 0 } }) })).ok c) ∧
  (∀ (s : State) (c : Cmd), checkPolicerSet s c = none →
    125000 ≤ c.u 4 8 ∧ c.u 4 8 ≤ 50000000000 ∧ 125000 ≤ c.u 12 8 ∧ c.u 12 8 ≤ 50000000000 ∧ 1538 ≤ c.u 20 4 ∧
    c.u 20 4 ≤ 16777215 ∧ 1538 ≤ c.u 24 4 ∧ c.u 24 4 ≤ 16777215 ∧ c.u 4 8 ≤ c.u 12 8 ∧ c.u 24 4 ≤ c.u 20 4) ∧
  (∀ (s : State) (c : Cmd),
    ¬(125000 ≤ c.u 4 8 ∧ c.u 4 8 ≤ 50000000000 ∧ 125000 ≤ c.u 12 8 ∧ c.u 12 8 ≤ 50000000000 ∧ 1538 ≤ c.u 20 4 ∧
      c.u 20 4 ≤ 16777215 ∧ 1538 ≤ c.u 24 4 ∧ c.u 24 4 ≤ 16777215 ∧ c.u 4 8 ≤ c.u 12 8 ∧ c.u 24 4 ≤ c.u 20 4) →
    ∃ d, checkPolicerSet s c = some (0x0201, d))

/-- CANOPY_CONFIG (04 R200, R696): a canopy that does not run takes the geometry at once, and starts when RUN is 1; one that
runs keeps it until its clearing, unless nothing of it changes. The looks go to shadow state, and to the active state of a canopy
that is configured for the first time. -/
def Obligations.CanopyConfigRuns : Prop :=
  let looks (c : Cmd) (s : State) : State :=
    let s1 := s.modCanopy c.idx (fun x => { x with configured := true, shadowLook := c.canopyLook })
    if (s.canopy c.idx).configured then s1 else s1.publishLook c.idx c.canopyLook
  let same (c : Cmd) (s : State) : Prop :=
    c.u 0 1 = 1 ∧ (s.canopy c.idx).nextGeom.getD (s.canopy c.idx).geom = c.canopyGeom ∧ (s.canopy c.idx).stopping = false
  RunsIf .canopyConfig 0x0301 (fun c s => (s.canopy c.idx).running = false ∧ c.u 0 1 = 1) (fun c s =>
    (((looks c s).setGeom c.idx c.canopyGeom).startCanopy c.idx).ok c) ∧
  RunsIf .canopyConfig 0x0301 (fun c s => (s.canopy c.idx).running = false ∧ c.u 0 1 ≠ 1) (fun c s =>
    ((looks c s).setGeom c.idx c.canopyGeom).ok c) ∧
  RunsIf .canopyConfig 0x0301 (fun c s => (s.canopy c.idx).running = true ∧ same c s) (fun c s =>
    ((looks c s).recharge c.idx).ok c) ∧
  RunsIf .canopyConfig 0x0301 (fun c s => (s.canopy c.idx).running = true ∧ ¬same c s) (fun c s =>
    (((looks c s).modCanopy c.idx (fun x => { x with
      nextGeom := some c.canopyGeom, stopping := decide (c.u 0 1 ≠ 1) })).recharge c.idx).modCmd c.q c.seq
        (fun d => { d with phase := .committed, armed := true }))

/-- LAYER_SET, WALL_TILING and SCALER_COEFS change shadow state (04 R171, R193, R200, R230): a layer's new settings, with the charges of
the canopies that it leaves and joins; a canopy's tiling; one set of coefficients. A LAYER_SET that asks for a graphic layer's buffers at
another size or format, or unbinds it, also exchanges the pair that waits and ends the layer's uploads (R697); active state and every other
layer stay. So these rows complete: LAYER_SET, WALL_TILING, SCALER_COEFS. -/
def Obligations.LayerCommandsRun : Prop :=
  let n (c : Cmd) (s : State) : LayerCfg := c.layerCfg (s.layer c.layerIdx).shadow
  let moved (c : Cmd) (s : State) : Prop := 32 ≤ c.layerIdx ∧
    (((n c s).canopy ≠ none ∧ (n c s).gfxGeom ≠ (s.layer c.layerIdx).uploadGeom) ∨
      ((n c s).canopy = none ∧ (s.layer c.layerIdx).newPair ≠ none))
  RunsIf .layerSet 0x0302 (fun c s => ¬moved c s) (fun c s =>
    let i := c.layerIdx
    let s2 := (s.uncharge (fun x => x.owner = layerId i && x.slot = 3 && x.pos = c.pos)).dropPair c
    let s3 := (([(n c s).canopy, (s.layer i).shadow.canopy].filterMap (fun o => o)).dedup).foldl State.recharge
      (s2.modLayer i (fun l => { l with shadow := n c s }))
    s3.finish c (b2n (s3.deferred i (n c s) Canopy.shadowLamp))) ∧
  (∀ (s : State) (c : Cmd), s.StartsNow c 0x0302 → moved c.begun (s.begun c) →
    ∃ t, exec (.layerSet c.q c.seq) s = .next t ∧ t.comp.canopies = s.comp.canopies ∧
      t.layer c.layerIdx = { s.layer c.layerIdx with
        shadow := n c s, newPair := if (n c s).canopy = none then none else some [], pending := false, backOf := none,
        uploading := none } ∧
      (∀ j, j ≠ c.layerIdx → t.layer j = s.layer j) ∧
      ∀ d ∈ t.hif.cmds, ¬(d.opcode = 0x0303 ∧ d.layerIdx = c.layerIdx)) ∧
  Runs .wallTiling 0x0306 (fun c s =>
    (s.modCanopy c.idx (fun k => { k with tiling := (List.range (c.u 0 2)).map c.rect })).ok c) ∧
  Runs .scalerCoefs 0x0307 (fun c s =>
    let set : CoefSet := if c.u 1 1 = 1 then some c.coefSet else none
    (s.modLayer c.idx (fun l => { l with
      shadow := if c.u 0 1 = 0 then { l.shadow with hCoefs := set } else { l.shadow with vCoefs := set } })).ok c)

/-- LAYER_UPLOAD, COMMIT and LAMP_TABLE_LOAD time their own effect (04 R201–R204, R217–R220, R227): an upload begins on its layer, into
the back or the new pair, unless one runs there or an armed COMMIT holds it; a COMMIT waits while another armed one names one of its
canopies, and is armed or copies at once otherwise; a load begins on its canopy unless one runs there. UPDATE_DATA's data is in hand when
it starts: its flash write begins while an update is RECEIVING (15 R610). So these rows complete: LAYER_UPLOAD, COMMIT,
LAMP_TABLE_LOAD, UPDATE_DATA. -/
def Obligations.SelfTimedCommandsStart : Prop :=
  let begun (s : State) (c : Cmd) : State := s.modCmd c.q c.seq Cmd.begun
  (∀ (s : State) (c : Cmd), s.Starts c 0x0303 → exec (.layerUpload c.q c.seq) s = .next ((begun s c).kickUpload c.layerIdx)) ∧
  (∀ (s : State) (d : Cmd) (i : Nat),
    s.hif.cmds.find? (fun c => c.opcode = 0x0303 && c.layerIdx = i && c.phase == .started && !c.armed) = some d →
    (s.layer i).uploading = none → s.uploadArmed i = false → (s.layer i).uploadGeom ≠ none →
    (s.kickUpload i).layer i = (match (s.layer i).newPair with
      | some b => { s.layer i with
          uploading := some (d.q, d.seq), pending := false, backOf := none, before := some (b, (s.layer i).pending),
          newPair := some (if d.u 20 1 = 1 then [] else b) }
      | none => { s.layer i with
          uploading := some (d.q, d.seq), pending := false, backOf := none, before := some ((s.layer i).back, (s.layer i).pending),
          back := if d.u 20 1 = 1 then (s.layer i).front else (s.layer i).back })) ∧
  (∀ (s : State) (c : Cmd), s.Starts c 0x0304 → (begun s c).commitBlocked c.begun = true →
    exec (.commit c.q c.seq) s = .next (begun s c)) ∧
  (∀ (s : State) (c : Cmd), s.Starts c 0x0304 → (begun s c).commitBlocked c.begun = false →
    exec (.commit c.q c.seq) s = .next ((begun s c).armCommit c.begun)) ∧
  (∀ (s : State) (c : Cmd), s.Starts c 0x0305 → exec (.lampTableLoad c.q c.seq) s = .next ((begun s c).kickLoad c.idx)) ∧
  (∀ (s : State) (c : Cmd), s.Starts c 0x0303 → c.armed = false →
    (∀ d ∈ s.hif.cmds, d.opcode = 0x0303 → d.layerIdx = c.layerIdx → d.phase = .started → d.armed = true) →
    (s.layer c.layerIdx).uploading = none → s.uploadArmed c.layerIdx = false → (s.layer c.layerIdx).uploadGeom ≠ none →
    exec (.layerUpload c.q c.seq) s = .next ((begun s c).modLayer c.layerIdx (fun l =>
      let l1 := { l with
        uploading := some (c.q, c.seq), pending := false, backOf := none, before := some (l.newPair.getD l.back, l.pending) }
      match l.newPair with
      | some b => { l1 with newPair := some (if c.u 20 1 = 1 then [] else b) }
      | none => { l1 with back := if c.u 20 1 = 1 then l.front else l.back }))) ∧
  (∀ (s : State) (c : Cmd), s.Starts c 0x0305 → c.armed = false →
    (∀ d ∈ s.hif.cmds, d.opcode = 0x0305 → d.idx = c.idx → d.phase = .started → d.armed = true) → (s.canopy c.idx).loading = none →
    exec (.lampTableLoad c.q c.seq) s = .next ((begun s c).modCanopy c.idx (fun k => { k with loading := some (c.q, c.seq) }))) ∧
  (∀ (s : State) (c : Cmd), s.Starts c 0x0304 → (begun s c).commitBlocked c.begun = false →
    c.commitCanopies.any (fun k => (s.canopy k).running) = true →
    ∃ t, exec (.commit c.q c.seq) s = .next t ∧
      (∀ k ∈ c.commitCanopies, ∃ copy, (c.q, c.seq, copy) ∈ (t.canopy k).copies ∧ copy.look = (s.canopy k).shadowLook) ∧
      ∃ d at_, t.findCmd c.q c.seq = some d ∧ d.phase = .committed ∧ d.armed = true ∧ d.notBefore = some at_ ∧ s.now < at_) ∧
  (∀ (s : State) (c : Cmd), s.Starts c 0x0304 → (begun s c).commitBlocked c.begun = false →
    c.commitCanopies.any (fun k => (s.canopy k).running) = false →
    ∃ t, exec (.commit c.q c.seq) s = .next t ∧ t.findCmd c.q c.seq = none ∧
      ∀ k ∈ c.commitCanopies, (t.canopy k).look = (s.canopy k).shadowLook) ∧
  (∀ (s : State) (c : Cmd) (data : List Byte), s.Starts c 0x0D02 → s.upd.dataCmd = none → s.upd.state = 1 → c.u 8 1 ≠ 1 →
    ∃ t d, exec (.updateData c.q c.seq data) s = .next t ∧ t.upd.dataCmd = some (c.q, c.seq) ∧ t.findCmd c.q c.seq = some d ∧
      d.phase = .committed ∧ d.hostData = s.dataFor c data) ∧
  (∀ (s : State) (c : Cmd) (data : List Byte), s.Starts c 0x0D02 → s.upd.dataCmd = none → s.upd.state ≠ 1 →
    exec (.updateData c.q c.seq data) s =
      .next (((begun s c).unpermit (fun p => p.pos = c.pos)).fail c.begun 0x0303 deviceId)) ∧
  (∀ (s : State) (c : Cmd) (data : List Byte), s.Starts c 0x0D02 → s.upd.dataCmd = none → s.upd.state = 1 → c.u 8 1 ≠ 1 →
    let bytes := s.dataFor c data
    exec (.updateData c.q c.seq data) s =
      .next (({ (begun s c).modCmd c.q c.seq (fun d => { d with hostData := bytes }) with
        upd := { s.upd with dataCmd := some (c.q, c.seq) } }).beginWrite { c.begun with hostData := bytes }))

/-- PROGRAM_CONFIG, SUBPIC_MAP, RATE_CONFIG and RATE_BOUNDS set a program that does not run at once (06 R270; 07 R323, R345; 08 R350),
and PROGRAM_STOP of such a program completes (06 R314); a RATE_CONFIG that breaks a limit of what is about to start is
refused (log entry 146). FORCE_REFRESH asks an active program for a refresh with its next picture (06 R303, R304), and completes without effect on
another; LAUNCH_POLICY sets the base and the window of one that is not active (09 R412); RATE_STATUS writes the 64 bytes of a stream's
record (07 R348). What the program has come not to permit since acceptance ends with FAULT_INTERNAL (log entry 156). So these rows complete: PROGRAM_CONFIG, SUBPIC_MAP,
RATE_CONFIG, RATE_BOUNDS, PROGRAM_STOP, FORCE_REFRESH, LAUNCH_POLICY, RATE_STATUS. -/
def Obligations.IdleProgramCommandsRun : Prop :=
  (let cfg (c : Cmd) (s : State) : ProgCfg := c.progCfg ((s.canopy c.idx).configured && (s.canopy c.idx).comingGeom.mode == 1)
   let alters (c : Cmd) (s : State) : Prop :=
     s.progActive c.idx = true ∧ (cfg c s).fixedPart ≠ ((s.prog c.idx).cfg.getD {}).fixedPart
   RunsIf .programConfig 0x0401 (fun c s => (s.prog c.idx).running = false ∧ ¬alters c s) (fun c s =>
     ((s.modProg c.idx (fun p => { p with cfg := some (cfg c s) })).recharge c.idx).ok c) ∧
   RunsIf .programConfig 0x0401 (fun c s => (s.prog c.idx).running = false ∧ alters c s) (fun c s => s.fail c 0x0303 c.object)) ∧
  RunsIf .subpicMap 0x0405 (fun c s => (s.prog c.idx).running = false) (fun c s =>
    (s.modProg c.idx (fun p => { p with
      mapMode := c.u 0 1, mapSet := if c.u 0 1 = 1 then some ((bitsSet 256 (c.u 4 32)).map (fun i => i + 1)) else none })).ok c) ∧
  RunsIf .rateConfig 0x0501
    (fun c s => (s.prog c.idx).running = false ∧ lowestBad (s.badNewRate c.idx (c.rateCfg (s.prog c.idx).rate)) = none) (fun c s =>
    (s.modProg c.idx (fun x => { x with rate := c.rateCfg x.rate })).ok c) ∧
  (∀ o, RunsIf .rateConfig 0x0501 (fun c s => lowestBad (s.badNewRate c.idx (c.rateCfg (s.prog c.idx).rate)) = some o) (fun c s =>
    s.fail c 0x0303 c.object)) ∧
  RunsIf .rateBounds 0x0502 (fun c s => (s.prog c.idx).running = false) (fun c s =>
    (s.modProg c.idx (fun p => { p with rate := c.rateBounds p.rate })).ok c) ∧
  RunsIf .programStop 0x0403 (fun c s => (s.prog c.idx).running = false) (fun c s => s.ok c) ∧
  RunsIf .forceRefresh 0x0404 (fun c s => s.progActive c.idx = true) (fun c s =>
    (s.modProg c.idx (fun p => { p with
      refreshReq := askRefresh p.refreshReq (if c.u 0 1 = 0 then 2 else 1), epochDue := true })).ok c) ∧
  RunsIf .forceRefresh 0x0404 (fun c s => s.progActive c.idx = false) (fun c s => s.ok c) ∧
  RunsIf .launchPolicy 0x0703 (fun c s => s.progActive c.idx = false) (fun c s =>
    (s.modProg c.idx (fun p => { p with launchBase := c.u 0 1, window := some (c.u 4 4) })).ok c) ∧
  RunsIf .launchPolicy 0x0703 (fun c s => s.progActive c.idx = true) (fun c s => s.fail c 0x0303 c.object) ∧
  (∀ x, RunsIf .rateStatus 0x0503 (fun c s => s.statusStream c.idx (c.u 0 2) = some x) (fun c s =>
    (s.writeBuf c (c.u 4 8) (s.rateRecord c.idx x)).ok c 64)) ∧
  RunsIf .rateStatus 0x0503 (fun c s => s.statusStream c.idx (c.u 0 2) = none) (fun c s => s.fail c 0x0303 c.object)

/-- PROGRAM_START, PROGRAM_STOP and the settings of a running program take effect at the next clearing of the program's canopy (06
R314–R317, 07 R324, 08 R350): the row binds the command to that clearing, and nothing of the program changes yet, but that a new bit
rate or buffer size waits; a canopy that does not run is started for a PROGRAM_START, which is past its commit point then. So these rows
complete their start: PROGRAM_START, PROGRAM_CONFIG, PROGRAM_STOP, SUBPIC_MAP, RATE_CONFIG, RATE_BOUNDS. -/
def Obligations.ProgramCommandsWaitForTheirClearing : Prop :=
  let held (row : Nat → Nat → Instr) (code : Nat) : Prop :=
    RunsAtClearing row code (fun c s => c.armed = false ∧ (s.prog c.idx).running = true) (fun c s => s.awaitClearing c c.idx)
  held .programConfig 0x0401 ∧ held .programStop 0x0403 ∧ held .subpicMap 0x0405 ∧ held .rateBounds 0x0502 ∧
  RunsAtClearing .rateConfig 0x0501 (fun c s => c.armed = false ∧ (s.prog c.idx).running = true ∧
      lowestBad (s.badNewRate c.idx (c.rateCfg (s.prog c.idx).rate)) = none) (fun c s =>
    let x := s.prog c.idx
    let r := c.rateCfg x.rate
    (s.modProg c.idx (fun y => { y with
      rateWaits := y.rateWaits || (r.bitRate != x.rate.bitRate || r.cpb x.plan.geom.rate != x.rate.cpb x.plan.geom.rate) })).awaitClearing
        c c.idx) ∧
  RunsAtClearing .programStart 0x0402 (fun c s => c.armed = false ∧ (s.canopy c.idx).running = true) (fun c s =>
    s.awaitClearing c c.idx) ∧
  RunsAtClearing .programStart 0x0402 (fun c s => (s.canopy c.idx).running = false) (fun c s =>
    ((s.startCanopy c.idx).awaitClearing c c.idx).modCmd c.q c.seq (fun d => { d with phase := .committed, notBefore := none }))

/-- The egress commands (08): FLOW_TX_OPEN opens its flow as its parameters say, a class-0 or class-1 shaper on each leg; FLOW_TX_CLOSE
completes at once for a flow that is not open, and otherwise closes when its last packet has left (R368); SHAPER_SET replaces the
buckets of a leg (R376), and the flow's egress charge is the largest of what it shapes to and what the SHAPER_SET that still wait ask for
(01 R37); SCHED_CLASS_SET sets a best-effort queue or the seven weights of a sub-port (R378). So these rows complete: FLOW_TX_OPEN,
FLOW_TX_CLOSE, SHAPER_SET, SCHED_CLASS_SET. -/
def Obligations.EgressCommandsRun : Prop :=
  Runs .flowTxOpen 0x0601 (fun c s =>
    let k := if c.u 0 1 = 0 then s.audio.txK else s.audio.txK.set c.idx (cdiv (s.now * audioHz (c.u 14 1)) 1000000000)
    let s1 := { s with audio := { s.audio with txK := k } }
    ((s1.modTx c.idx (fun _ => {
      isOpen := true, kind := c.u 0 1, cls := c.u 1 1, checksum := c.u 3 1, prog := c.u 4 4 % 16777216, stream := c.u 8 2,
      maxPayload := c.u 10 2, pt := c.u 12 1, channels := c.u 13 1, audio := c.u 14 1, ssrc := c.u 16 4, seq0 := c.u 20 2,
      legs := if c.u 2 1 = 2 then [s.newLeg c 24, s.newLeg c 88] else [s.newLeg c 24],
      openedAt := s.now })).settleCharges c.pos).ok c) ∧
  RunsIf .flowTxClose 0x0602 (fun c s => (s.txFlow c.idx).isOpen = false) (fun c s => s.ok c) ∧
  RunsIf .flowTxClose 0x0602 (fun c s => (s.txFlow c.idx).isOpen = true) (fun c s =>
    ((s.commits c).modTx c.idx (fun f => { f with closing := some (c.q, c.seq, s.now) })).closeDone c.idx) ∧
  Runs .shaperSet 0x0603 (fun c s =>
    let s1 := (s.modTx c.idx (fun f => { f with legs := f.legs.modify (c.u 0 1) (fun l => { l with newSet := some {
      cRate := c.u 4 8, pRate := c.u 12 8, cDepth := 8 * c.u 20 4, pDepth := 8 * c.u 24 4, overhead := c.u 28 1 } }) })).ok c
    s1.rechargeObject c.object 5 (s1.peakCharges c.idx (s1.waitingFor 0x0603 c.object))) ∧
  RunsIf .schedClassSet 0x0604 (fun c _ => c.cls = 6) (fun c s => (s.modTx c.idx (fun f => { f with beQueue := c.u 0 1 })).ok c) ∧
  RunsIf .schedClassSet 0x0604 (fun c _ => c.cls ≠ 6) (fun c s =>
    (s.modSub (c.u 1 1) (c.u 2 1) (fun x => { x with
      weights := (List.range 7).foldl (fun w i => Tab.set w (i + 1) (c.u (4 + i) 1)) x.weights })).ok c)

/-- The time-base commands (09): TIMEBASE_CONFIG stops a base (R391), or starts one in its new mode with its settings, without the history
of the old mode and in ACQUIRE or FREERUN (R391, R393, R394, R401); TIMEBASE_ADJUST sets, steps, slews or tunes a base that may be adjusted
(R402, R687); CAPTURE_ARM arms one capture, at once for source 0, or disarms (R423–R426). So these rows complete: TIMEBASE_CONFIG,
TIMEBASE_ADJUST, CAPTURE_ARM. -/
def Obligations.TimeCommandsRun : Prop :=
  RunsIf .timebaseConfig 0x0701 (fun c _ => c.u 0 1 = 0) (fun c s =>
    ((s.setTbStateFor c.q c.idx 0).modTb c.idx (fun b => { b with mode := 0, ppsOut := false })).settlePps.ok c) ∧
  RunsIf .timebaseConfig 0x0701 (fun c _ => c.u 0 1 ≠ 0) (fun c s =>
    let b0 := s.tb c.idx
    let m := c.u 1 1
    let fresh : Prop := b0.state = 0 ∨ b0.mode ≠ m
    let s0 := if c.u 6 1 = 1 then (List.range 4).foldl (fun s i => s.modTb i (fun b => { b with ppsOut := false })) s else s
    let s1 := s0.modTb c.idx (fun b => { b with
      mode := m, domain := if m = 1 then c.u 2 1 else b.domain, portA := c.u 3 1, portB := c.u 4 1,
      slewLimit := if m = 3 then b.slewLimit else c.u 5 1, ppsOut := decide (c.u 6 1 = 1),
      stepThreshold := if m = 1 then c.u 8 4 else b.stepThreshold, ppsDelay := if m = 2 then c.u 12 4 else b.ppsDelay,
      follow := if m = 3 then c.i 16 4 else 0, pulseWidth := if c.u 6 1 = 1 then c.u 20 4 else b.pulseWidth,
      offset := if m = 3 then c.i 16 4 else if fresh then 0 else b.offset })
    let s2 := if fresh then
        (s1.modTb c.idx (fun b => { b with
          inSyncs := 0, outSyncs := 0, validSyncs := 0, largePosted := false, master := none, incs := [], ppsE := none, goodEdges := 0,
          lastMaster := none, lastSync := s.now, lastAnnounce := s.now })).setTbStateFor c.q c.idx (if m = 1 ∨ m = 2 then 2 else 1)
      else s1
    (s2.modTb c.idx (fun b => b.followTb0 (s2.tb 0))).settlePps.ok c) ∧
  RunsIf .timebaseAdjust 0x0702 (fun c s => s.badAdjust c.idx (c.u 0 1) = true) (fun c s => s.fail c 0x0303 c.object) ∧
  RunsIf .timebaseAdjust 0x0702 (fun c s => s.badAdjust c.idx (c.u 0 1) = false ∧ c.u 0 1 = 0 ∧ (s.tb c.idx).mode ≠ 2) (fun c s =>
    (s.modTb c.idx (fun b => { b with ns := c.u 4 4, frac := 0, wraps := 0 })).ok c) ∧
  RunsIf .timebaseAdjust 0x0702 (fun c s => s.badAdjust c.idx (c.u 0 1) = false ∧ c.u 0 1 = 0 ∧ (s.tb c.idx).mode = 2) (fun c s =>
    s.modTb c.idx (fun b => { b with ppsSets := b.ppsSets ++ [(c.u 4 4, c.q, c.seq)] })) ∧
  RunsIf .timebaseAdjust 0x0702 (fun c s => s.badAdjust c.idx (c.u 0 1) = false ∧ c.u 0 1 = 1) (fun c s =>
    (s.modTb c.idx (fun b => b.stepBy (c.i 4 4))).ok c) ∧
  RunsIf .timebaseAdjust 0x0702
    (fun c s => s.badAdjust c.idx (c.u 0 1) = false ∧ c.u 0 1 = 2 ∧ ¬(c.i 4 4 = 0 ∧ (s.tb c.idx).slew = none)) (fun c s =>
    (s.modTb c.idx (fun b => { b with slew := some {
      left := (b.slew.getD { left := 0, cmds := [] }).left + c.i 4 4 * (two30 : Int),
      cmds := (b.slew.getD { left := 0, cmds := [] }).cmds ++ [(c.q, c.seq)] } })).commits c) ∧
  RunsIf .timebaseAdjust 0x0702 (fun c s => s.badAdjust c.idx (c.u 0 1) = false ∧ c.u 0 1 = 3) (fun c s =>
    (s.modTb c.idx (fun b => { b with inc := c.u 4 4 })).ok c) ∧
  RunsIf .timebaseAdjust 0x0702
    (fun c s => s.badAdjust c.idx (c.u 0 1) = false ∧ c.u 0 1 = 2 ∧ c.i 4 4 = 0 ∧ (s.tb c.idx).slew = none) (fun c s => s.ok c) ∧
  RunsIf .captureArm 0x0704 (fun c s => c.u 0 1 = 2 ∧ ∀ k, (s.tb c.idx).capture = some k → k.continuous = true) (fun c s =>
    (s.modTb c.idx (fun b => { b with capture := none })).ok c) ∧
  (∀ k, RunsIf .captureArm 0x0704 (fun c s => c.u 0 1 = 2 ∧ (s.tb c.idx).capture = some k ∧ k.continuous = false) (fun c s =>
    ((s.modTb c.idx (fun b => { b with capture := none })).completeId (k.q, k.seq) 5 0).ok c)) ∧
  RunsIf .captureArm 0x0704 (fun c _ => c.u 0 1 ≠ 2) (fun c s =>
    let s1 := s.modTb c.idx (fun b => { b with
      capture := some { continuous := decide (c.u 0 1 = 1), source := c.u 1 1, flow := c.u 4 4 % 16777216, q := c.q, seq := c.seq,
                        bufAddr := c.u 8 8, bufLen := c.u 16 4 },
      capCount := 0, capSource := c.u 1 1 })
    let s2 := if c.u 1 1 = 0 then s1.captured c.idx else s1
    if c.u 0 1 = 1 then s2.ok c else s2)

/-- The twin commands (10): TWIN_CONFIG begins FORMING with the peer that it names (R428); TWIN_ROLE starts a SWAP or a TAKE past its
commit point, or leaves the twin (R460); TWIN_STATUS writes its record (R469); SPLICE lets a muted program splice, and asks for
the refresh that it splices at (R465). So these rows complete: TWIN_CONFIG, TWIN_ROLE, TWIN_STATUS, SPLICE. -/
def Obligations.TwinCommandsRun : Prop :=
  Runs .twinConfig 0x0801 (fun c s =>
    let s1 := { s with twin := { s.twin with
      role := 1, peerUid := c.u 0 8, askRole := c.u 8 1, autoSplice := c.u 9 1 == 1, ytRate := c.u 10 1, mgPorts := c.u 11 1,
      udpPort := c.u 12 2, ipVer := c.u 14 1, peerMg0 := c.bytes 16 16, peerMg1 := c.bytes 32 16 } }
    (s1.modBraid 4 (fun x =>
      { (if (s.braid 4).enabled = false ∨ (s.braid 4).rate ≠ c.u 10 1 then x.restartLock s.now else x) with
        enabled := true, rate := c.u 10 1 })).ok c) ∧
  RunsIf .twinRole 0x0802 (fun c _ => c.u 0 1 = 0) (fun c s =>
    ({ s.commits c with twin := { s.twin with exchange := some (1, c.q, c.seq) } }).trySwap) ∧
  RunsIf .twinRole 0x0802 (fun c _ => c.u 0 1 = 1) (fun c s =>
    ({ s.commits c with twin := { s.twin with exchange := some (2, c.q, c.seq), takeAt := s.now } }).sendRole (s.twin.term + 1) 3) ∧
  RunsIf .twinRole 0x0802 (fun c _ => c.u 0 1 ≠ 0 ∧ c.u 0 1 ≠ 1) (fun c s => s.leave.ok c s.twin.term) ∧
  Runs .twinStatus 0x0803 (fun c s =>
    (s.writeBuf c (c.u 0 8) (s.twinRecord s.formingFailure)).ok c 128) ∧
  RunsIf .splice 0x0804 (fun c s => (s.prog c.idx).peerMuted.any (fun m => m ≤ 1) = false) (fun c s =>
    (s.modProg c.idx (fun p => { p with spliceOk := true })).ok c) ∧
  (∀ m, m ≤ 1 → RunsIf .splice 0x0804 (fun c s => (s.prog c.idx).peerMuted = some m) (fun c s =>
    ((s.modProg c.idx (fun p => { p with spliceOk := true })).askTwinRefresh c.idx).ok c))

/-- The DRAM commands (11): MEM_POLICY, ECC_MODE and SCRUB_CONFIG set their values (R478, R482, R484, R507, R514); MEM_RETRAIN passes its
commit point and trains its channel, MEM_FREQ has every channel trained for its rate (R493, R498); ECC_LOG_READ writes the error table, and
clears its settled entries when asked (R515); ECC_TEST starts its test, one at a time (R516). So these rows complete: MEM_POLICY,
MEM_RETRAIN, MEM_FREQ, ECC_MODE, ECC_LOG_READ, SCRUB_CONFIG, ECC_TEST. -/
def Obligations.MemoryCommandsRun : Prop :=
  Runs .memPolicy 0x0901 (fun c s => State.ok { s with mem := { s.mem with
    order := c.u 0 1, pageIdle := c.u 1 1, postpone := c.u 2 1, threshold := c.u 3 1 } } c) ∧
  RunsIf .memRetrain 0x0902 (fun c s => s.channelBusy c.idx = true ∨ s.inService c.idx = false) (fun c s =>
    (s.unpermit (fun p => p.pos = c.pos)).fail c 0x0303 c.object) ∧
  RunsIf .memRetrain 0x0902 (fun c s => s.channelBusy c.idx = false ∧ s.inService c.idx = true) (fun c s =>
    (s.commits c).modChannel c.idx (fun x => { x with
      retraining := some (s.mem.rates.getD (c.idx / 32) 0, some (c.q, c.seq)), waitPermit := false })) ∧
  Runs .memFreq 0x0903 (fun c s =>
    s.trainable.foldl (fun s ch => s.modChannel ch (fun x => { x with retraining := some (c.u 0 1, some (c.q, c.seq)) }))
      { s with mem := { s.mem with freq := some { rate := c.u 0 1, cmd := (c.q, c.seq) } } }) ∧
  Runs .eccMode 0x0904 (fun c s =>
    State.ok { s with mem := { s.mem with eccModes := s.mem.eccModes.set (c.u 0 1) (c.u 1 1) } } c) ∧
  Runs .eccLogRead 0x0905 (fun c s =>
    let s1 := s.writeBuf c (c.u 4 8) s.mem.tableRecord
    State.ok { s1 with mem := { s1.mem with
      table := if c.u 0 1 = 1 then s.mem.table.filter (fun e => !e.2.settled) else s.mem.table } } c s.mem.table.length) ∧
  Runs .scrubConfig 0x0906 (fun c s => State.ok { s with mem := { s.mem with scrubNext := some (c.u 0 1) } } c) ∧
  RunsIf .eccTest 0x0907 (fun _ s => s.mem.ectBusy = true) (fun c s => s.fail c 0x0303 c.object) ∧
  RunsIf .eccTest 0x0907 (fun _ s => s.mem.ectBusy = false) (fun c s =>
    (s.commits c).startEct { channel := c.idx, word := c.u 0 2, data := c.u 4 8, flips := c.u 12 10, cmd := some (c.q, c.seq) })

/-- CV_CONFIG and CV_CONTEXT (12): tap 0 ends what a unit taps; a tap of a unit without one starts a fresh context of the algorithm,
and a DRAM tap keeps the command until its last word (R523, R525); a unit that taps refuses another tap and another context (R526). A
context is written out as 32 bytes with its results, or set (R526, R527). So these rows complete: CV_CONFIG, CV_CONTEXT. -/
def Obligations.VerificationCommandsRun : Prop :=
  RunsIf .cvConfig 0x0A01 (fun c s => c.u 1 1 = 0 ∧ (s.cvUnit c.idx).tap = 1) (fun c s => (s.endDramTap c.idx).ok c) ∧
  RunsIf .cvConfig 0x0A01 (fun c s => c.u 1 1 = 0 ∧ (s.cvUnit c.idx).tap ≠ 1) (fun c s =>
    let live := s.liveContext c.idx
    (live.2.modCv c.idx (fun _ => { live.1 with tap := 0 })).ok c) ∧
  RunsIf .cvConfig 0x0A01 (fun c s => c.u 1 1 ≠ 0 ∧ (s.cvUnit c.idx).tap ≠ 0) (fun c s => s.fail c 0x0303 c.object) ∧
  RunsIf .cvConfig 0x0A01 (fun c s => c.u 1 1 ≠ 0 ∧ (s.cvUnit c.idx).tap = 0) (fun c s =>
    let s1 := s.modCv c.idx (fun x => { x with
      algo := c.u 0 1, value := crcStart (crcAlgo (c.u 0 1)), length := 0, alive := 0, unwritten := false, tap := c.u 1 1,
      stream := c.u 2 2, source := c.u 4 4, da := c.u 8 8, dramLen := c.u 16 8, at_ := c.u 8 8, bad := none, since := s.now,
      cmd := if c.u 1 1 = 1 then some (c.q, c.seq) else none })
    if c.u 1 1 = 1 then s1.commits c else s1.ok c) ∧
  RunsIf .cvContext 0x0A02 (fun c _ => c.u 0 1 = 0) (fun c s =>
    let x := (s.liveContext c.idx).1
    ((s.liveContext c.idx).2.writeBuf c (c.u 4 8)
      (x.record ++ ((x.results ++ List.replicate (16 - x.results.length) 0).take 16).flatMap (leBytes 8))).ok c 160) ∧
  RunsIf .cvContext 0x0A02 (fun c s => c.u 0 1 ≠ 0 ∧ (s.cvUnit c.idx).tap ≠ 0) (fun c s => s.fail c 0x0303 c.object) ∧
  RunsIf .cvContext 0x0A02 (fun c s => c.u 0 1 ≠ 0 ∧ (s.cvUnit c.idx).tap = 0) (fun c s =>
    (s.modCv c.idx (fun x => { x with
      algo := c.u 16 1, alive := c.u 17 1, unwritten := bit (c.u 18 1) 0, length := c.u 20 6, value := c.u 32 8 })).ok c)

/-- The audio commands (13): AUDIO_PORT_CONFIG configures an input or a port, or the clock's reference, whose new choice is acquired unless
it is locked already (R538, R539); AUDIO_ROUTE exchanges a silent or data route at once, and ramps a sounding one out first (R560–R562);
AUDIO_STATUS writes its record. A port that is turned on leads in, and completes then if it is an AES3 output (R552), or warms up (R555);
one that is turned off ramps its routes out first. So these rows complete: AUDIO_PORT_CONFIG, AUDIO_ROUTE, AUDIO_STATUS. -/
def Obligations.AudioCommandsRun : Prop :=
  RunsIf .audioPortConfig 0x0B01
    (fun c s => if c.cls = 13 then s.refAbsent c = true else s.rateHeld c = true ∨ s.pdmMismatch c = true)
    (fun c s => s.fail c 0x0303 c.object) ∧
  RunsIf .audioPortConfig 0x0B01 (fun c s => c.cls ≠ 13 ∧ isAesIn c.idx = true ∧ s.rateHeld c = false ∧ s.pdmMismatch c = false) (fun c s =>
    (s.configInput c.idx (c.u 0 1 == 1) (c.u 1 1)).ok c) ∧
  (let set (c : Cmd) (s : State) : State := s.modPort c.idx (fun p => { p with
      rate := c.u 1 1, csMode := c.u 2 1, csBytes := c.bytes 4 23, highpass := decide (c.u 3 1 = 1), enabled := decide (c.u 0 1 = 1) })
   let port (c : Cmd) (s : State) : Prop := c.cls ≠ 13 ∧ isAesIn c.idx = false ∧ s.rateHeld c = false ∧ s.pdmMismatch c = false
   let waits (c : Cmd) (s : State) (st : Nat) : State :=
     (s.commits c).modPort c.idx (fun p => { p with state := st, since := s.now, cmd := some (c.q, c.seq) })
   RunsIf .audioPortConfig 0x0B01 (fun c s => port c s ∧ ((s.audioPort c.idx).enabled = true ↔ c.u 0 1 = 1)) (fun c s => (set c s).ok c) ∧
   RunsIf .audioPortConfig 0x0B01
     (fun c s => port c s ∧ (s.audioPort c.idx).enabled = false ∧ c.u 0 1 = 1 ∧ isAesOut c.idx = true) (fun c s => waits c (set c s) 1) ∧
   RunsIf .audioPortConfig 0x0B01
     (fun c s => port c s ∧ (s.audioPort c.idx).enabled = false ∧ c.u 0 1 = 1 ∧ isAesOut c.idx = false) (fun c s =>
     ((set c s).modPort c.idx (fun p => { p with state := 1, since := s.now })).ok c) ∧
   RunsIf .audioPortConfig 0x0B01
     (fun c s => port c s ∧ (s.audioPort c.idx).enabled = true ∧ c.u 0 1 ≠ 1 ∧ isAesOut c.idx = true) (fun c s =>
     waits c (((set c s).routesTo (audioId c.idx)).foldl (fun s e => s.muteRoute e.1 0 true) (set c s)) 5) ∧
   RunsIf .audioPortConfig 0x0B01
     (fun c s => port c s ∧ (s.audioPort c.idx).enabled = true ∧ c.u 0 1 ≠ 1 ∧ isAesOut c.idx = false) (fun c s =>
     let froms := s.audio.routes.filter (fun e => match e.2.src with
       | .mic p _ => p == c.idx
       | _ => false)
     ((froms.foldl (fun s e => s.muteRoute e.1 1 false) (set c s)).modPort c.idx (fun p => { p with state := 0 })).ok c)) ∧
  RunsIf .audioPortConfig 0x0B01 (fun c s => c.cls = 13 ∧ s.refAbsent c = false) (fun c s =>
    let ref := c.u 0 1
    let locked : Prop := ref = 0 ∨ (2 ≤ ref ∧ (s.audioIn (ref - 2)).state = 3) ∨
      (ref = 1 ∧ 10 ≤ (s.audioIn 8).clean ∧ (s.audioIn 8).cls = carriedClass (c.u 1 1))
    let s1 : State := { s with audio := { s.audio with
      ref := ref, mclkIn := c.u 1 1, mclkOut := c.u 2 1,
      clkState := if ref = s.audio.ref then s.audio.clkState else if locked then 2 else 0 } }
    (if ref = 1 ∧ (s.audioIn 8).enabled = false then s1.modIn 8 (fun x => { x with enabled := true, winEnd := windowEnd s.now })
     else s1).ok c) ∧
  RunsIf .audioRoute 0x0B02 (fun c s =>
      let r := s.route (routeKey c.object (c.u 0 1))
      r.ramp = 3 ∨ s.dataSrc r.src = true ∨ s.dataSrc c.audioSrc = true) (fun c s =>
    let key := routeKey c.object (c.u 0 1)
    ((s.modRoute key (fun r => { r with src := c.audioSrc, next := none, ramp := 3, cause := 0, sample := 0, j := 0 })).raiseRoute
      key).judgePair key |>.ok c) ∧
  RunsIf .audioRoute 0x0B02 (fun c s =>
      let r := s.route (routeKey c.object (c.u 0 1))
      ¬(r.ramp = 3 ∨ s.dataSrc r.src = true ∨ s.dataSrc c.audioSrc = true)) (fun c s =>
    (s.modRoute (routeKey c.object (c.u 0 1)) (fun x => { x with
      next := some c.audioSrc, ramp := 2, cause := 4, j := if x.ramp = 2 then x.j else 0 })).ok c) ∧
  Runs .audioStatus 0x0B03 (fun c s => (s.writeBuf c (c.u 0 8) (s.audioRecord c.idx)).ok c 64)

/-- The power and observation commands (14, 16): POWER_BUDGET sets its values at once and starts their flash write (17 R668); AVS_BOUNDS
sets a rail's bounds (R586); PERMIT_STATUS and CLOCK_STATUS write their records; PMC_CONFIG sets a counter, cleared when CLEAR is 1 (R638,
R639); SAMPLE_CONFIG sets a pair's sampler (R645); TRACE_CONFIG sets the trace (05 R266). So these rows complete: POWER_BUDGET,
PERMIT_STATUS, AVS_BOUNDS, CLOCK_STATUS, PMC_CONFIG, SAMPLE_CONFIG, TRACE_CONFIG. -/
def Obligations.PowerAndObservationCommandsRun : Prop :=
  Runs .powerBudget 0x0C01 (fun c s =>
    { s.commits c with power := { s.power with
      limit := c.u 0 2, threshold := c.u 2 1, vinUpdateMin := c.u 4 2,
      cfgWrites := s.power.cfgWrites ++ [(2, c.q, c.seq)] } }) ∧
  Runs .permitStatus 0x0C02 (fun c s => (s.writeBuf c (c.u 0 8) s.permitRecord).ok c 40) ∧
  Runs .avsBounds 0x0C03 (fun c s =>
    State.ok { s with power := { s.power with avsBounds := s.power.avsBounds.set (c.u 0 1) (c.u 2 2, c.u 4 2) } } c) ∧
  Runs .clockStatus 0x0C04 (fun c s => (s.draw.2.writeBuf c (c.u 0 8) (s.clockRecord s.draw.1)).ok c 512) ∧
  Runs .pmcConfig 0x0E01 (fun c s =>
    (s.modPmc (c.u 0 1) (fun p => { p with
      count := if bit (c.u 1 1) 2 then 0 else p.count, enable := bit (c.u 1 1) 0, chain := bit (c.u 1 1) 1, leg := c.u 2 1,
      qual := c.u 3 1, event := c.u 4 2, object := c.u 8 4 })).ok c) ∧
  Runs .sampleConfig 0x0E02 (fun c s =>
    State.ok { s with obs := { s.obs with sampling := s.obs.sampling.set (c.u 0 1) (c.u 1 1, c.u 2 1 == 1, c.u 4 4, 0) } } c) ∧
  Runs .traceConfig 0x0E03 (fun c s =>
    State.ok { s with disp := { s.disp.traceCtrl (c.u 0 1) with trcDecisions := c.u 2 2, trcPrograms := c.u 4 2 } } c)

/-- The update commands (15): UPDATE_BEGIN takes up a download, or a new one into an erased bank (R609); UPDATE_VERIFY enters VERIFYING past
its commit point (R611); UPDATE_SCHEDULE takes its A, as it was stored at its acceptance, and its window (R614, R615; 09 R406); UPDATE_CONFIRM
notes the host's confirmation in its confirm window (R618); UPDATE_CANCEL by state (R621); OWNER_LOCK, LIFECYCLE_ADVANCE and
RETURN_AUTHORISE change the non-volatile state, and a lock ends a schedule (R624, R633, R634). One that the state does not permit any more
ends with FAULT_INTERNAL (log entry 156). So these rows complete: UPDATE_BEGIN, UPDATE_VERIFY, UPDATE_SCHEDULE, UPDATE_CONFIRM,
UPDATE_CANCEL, OWNER_LOCK, LIFECYCLE_ADVANCE, RETURN_AUTHORISE. -/
def Obligations.UpdateCommandsRun : Prop :=
  let refused (row : Nat → Nat → Instr) (code : Nat) (p : Cmd → State → Prop) : Prop :=
    RunsIf row code p (fun c s => s.fail c 0x0303 c.object)
  RunsIf .updateBegin 0x0D01 (fun _ s => s.upd.state ≤ 1) (fun c s =>
    let b := s.download
    let kept := if c.u 1 1 = 1 ∧ b.hasRecord = true ∧ b.verified = false ∧ b.format = c.u 0 1 ∧ b.total = c.u 4 4 then b.fullSectors else []
    let b' : Bank := {
      data := b.data.filter (fun e => kept.contains (e.1 / 262144)), erased := kept, format := c.u 0 1, total := c.u 4 4,
      hasRecord := true }
    State.ok { s.modDownload (fun _ => b') with upd := { s.upd with
      state := 1, format := c.u 0 1, total := c.u 4 4, received := b'.received, stagedSet := none } } c) ∧
  refused .updateBegin 0x0D01 (fun _ s => 1 < s.upd.state) ∧
  RunsIf .updateVerify 0x0D03 (fun _ s => s.mayVerify = true) (fun c s =>
    { s.commits c with upd := { s.upd with state := 2, verifyCmd := some (c.q, c.seq), cancelPending := false } }) ∧
  refused .updateVerify 0x0D03 (fun _ s => s.mayVerify = false) ∧
  RunsIf .updateSchedule 0x0D04 (fun _ s => s.upd.state = 4 ∨ s.isFollower = true) (fun c s =>
    { s with upd := { s.upd with
      state := if s.upd.state = 4 then 5 else s.upd.state, a := some c.pend, aAt := c.fireAt.toNat, window := c.u 4 2,
      hostConfirm := c.u 6 1 == 1, scheduleCmd := some (c.q, c.seq) } }) ∧
  refused .updateSchedule 0x0D04 (fun _ s => s.upd.state ≠ 4 ∧ s.isFollower = false) ∧
  RunsIf .updateConfirm 0x0D05 (fun _ s => s.upd.state = 6) (fun c s =>
    (State.ok { s with upd := { s.upd with hostConfirmed := true } } c).tryConfirm c.q) ∧
  refused .updateConfirm 0x0D05 (fun _ s => s.upd.state ≠ 6) ∧
  RunsIf .updateCancel 0x0D06 (fun _ s => s.upd.state = 1) (fun c s => ((s.cancelUpdate c.q).discardDownload).ok c) ∧
  RunsIf .updateCancel 0x0D06 (fun _ s => s.upd.state = 2) (fun c s =>
    { s.commits c with upd := { s.upd with cancelPending := true, cancelCmd := some (c.q, c.seq) } }) ∧
  RunsIf .updateCancel 0x0D06 (fun _ s => 3 ≤ s.upd.state ∧ s.upd.state ≤ 5) (fun c s =>
    let s1 := ((s.commits c).cancelUpdate c.q).discardDownload
    let s2 := match s1.pairIn 1 with
      | some p => s1.setPair p 2
      | none => s1
    { s2 with upd := { s2.upd with cancelCmd := some (c.q, c.seq) } }) ∧
  RunsIf .updateCancel 0x0D06 (fun _ s => s.upd.state = 6) (fun c s =>
    { (s.commits c).decideFallback 2 with upd := { ((s.commits c).decideFallback 2).upd with cancelCmd := some (c.q, c.seq) } }) ∧
  RunsIf .updateCancel 0x0D06 (fun _ s => s.upd.state = 0) (fun c s => s.complete c 4 0) ∧
  RunsIf .ownerLock 0x0D07 (fun c s => c.u 0 1 ≠ 0 ∧ s.nv.ownerLock = some (c.bytes 4 8)) (fun c s =>
    State.ok { s with nv := { s.nv with ownerLock := none } } c) ∧
  RunsIf .ownerLock 0x0D07 (fun c s => c.u 0 1 = 0 ∧ s.nv.ownerLock = none ∧ s.upd.state ≠ 5) (fun c s =>
    State.ok { s with nv := { s.nv with ownerLock := some (c.bytes 4 8) } } c) ∧
  RunsIf .ownerLock 0x0D07 (fun c s => c.u 0 1 = 0 ∧ s.nv.ownerLock = none ∧ s.upd.state = 5) (fun c s =>
    let s1 : State := { s with
      nv := { s.nv with ownerLock := some (c.bytes 4 8) }, upd := { s.upd with state := 4, a := none, scheduleCmd := none } }
    ((s1.completeOpt s.upd.scheduleCmd 5 0).raiseFor c.q 0x0B04 deviceId s.downloadVersion 0).ok c) ∧
  refused .ownerLock 0x0D07 (fun c s => if c.u 0 1 = 0 then s.nv.ownerLock ≠ none else s.nv.ownerLock ≠ some (c.bytes 4 8)) ∧
  RunsIf .lifecycleAdvance 0x0D08 (fun c s => checkLifecycleAdvance s c = none) (fun c s => State.ok { s with
    nv := { s.nv with nextLife := c.u 0 1, keyKill := s.nv.keyKill || c.u 0 1 == 4 },
    upd := { s.upd with lifeNext := c.u 0 1 } } c) ∧
  refused .lifecycleAdvance 0x0D08 (fun c s => checkLifecycleAdvance s c ≠ none) ∧
  RunsIf .returnAuthorise 0x0D09 (fun c s => checkReturnAuthorise s c = none ∧ c.u 0 1 = 0) (fun c s => State.ok { s with
    nv := { s.nv with nextLife := 3, eraseSettings := true }, upd := { s.upd with lifeNext := 3 } } c) ∧
  RunsIf .returnAuthorise 0x0D09 (fun c s => checkReturnAuthorise s c = none ∧ c.u 0 1 ≠ 0) (fun c s => State.ok { s with
    nv := { s.nv with nextLife := 2, returns := s.nv.returns + 1 }, upd := { s.upd with lifeNext := 2 } } c) ∧
  refused .returnAuthorise 0x0D09 (fun c s => checkReturnAuthorise s c ≠ none)

/-! ### Events, family by family: what each does when it happens as the spec describes it -/

/-- The device takes a packet of a host ring when the queue is enabled, its transport is up and slots have been written (02 R75, R77, R79):
the skip slot moves SQ_HEAD to 0 (R692), a LENGTH beyond the written slots answers check 1 and passes them, a sound packet is received, and
another answers check 2 (R56), with a failure of hand-off 9 posted and counted where its CRC is wrong (12 R536). A waiting datagram is
received in its turn (R82). A datagram that is not the twin peer's and holds no sound packet for its queue is discarded and counted (R86,
R88); a sound one is received at once, or waits; one of the peer is taken as a tether fragment (10 R434). So these rows complete: FETCH_PACKET, COMMAND_DATAGRAM. -/
def Obligations.PacketsAreTaken : Prop :=
  (∀ q slots host, isQueue q = true →
    let there (s : State) : Prop :=
      s.mayFetch q = true ∧ (s.queue q).bind.udp = false ∧ (s.queue q).enable = true ∧ s.hostUp = true ∧ (s.queue q).slotsWritten ≠ 0 ∧
        slots.length = 64 * (s.queue q).slotsWritten
    let n := (headerOf slots).length
    let passed (s : State) (m : Nat) : State := s.modQueue q (fun k => { k with sqHead := (k.sqHead + m) % k.sqSize })
    Answers (.fetchPacket q slots host) (fun s => there s ∧ pktU slots 0 4 = 0xFFFFFFFF) (fun s =>
      s.modQueue q (fun k => { k with sqHead := 0 })) ∧
    Answers (.fetchPacket q slots host)
      (fun s => there s ∧ pktU slots 0 4 ≠ 0xFFFFFFFF ∧ (lengthOk n = false ∨ (s.queue q).slotsWritten < cdiv n 64))
      (fun s => (passed s (s.queue q).slotsWritten).answer q (headerOf slots) {}
        (s.acceptReply 0x0103 (min 4096 (64 * (s.queue q).slotsWritten)))) ∧
    Answers (.fetchPacket q slots host)
      (fun s => there s ∧ pktU slots 0 4 ≠ 0xFFFFFFFF ∧ lengthOk n = true ∧ cdiv n 64 ≤ (s.queue q).slotsWritten ∧
        packetCrcOk (slots.take n) n = true ∧ (headerOf slots).queue = q)
      (fun s => (passed s (cdiv n 64)).receive q (slots.take n) {} host) ∧
    Answers (.fetchPacket q slots host)
      (fun s => there s ∧ pktU slots 0 4 ≠ 0xFFFFFFFF ∧ lengthOk n = true ∧ cdiv n 64 ≤ (s.queue q).slotsWritten ∧
        packetCrcOk (slots.take n) n = false)
      (fun s => ((passed s (cdiv n 64)).chainFail 9).answer q (headerOf slots) {} (s.acceptReply 0x0101 0)) ∧
    Answers (.fetchPacket q slots host)
      (fun s => there s ∧ pktU slots 0 4 ≠ 0xFFFFFFFF ∧ lengthOk n = true ∧ cdiv n 64 ≤ (s.queue q).slotsWritten ∧
        packetCrcOk (slots.take n) n = true ∧ (headerOf slots).queue ≠ q)
      (fun s => (passed s (cdiv n 64)).answer q (headerOf slots) {} (s.acceptReply 0x0101 0)) ∧
    (∀ d l, Answers (.fetchPacket q slots host)
      (fun s => s.mayFetch q = true ∧ (s.queue q).bind.udp = true ∧ (s.queue q).waiting = d :: l)
      (fun s => (s.modQueue q (fun k => { k with waiting := l })).receive q d.payload (replyToOf d) []))) ∧
  (∀ d : Datagram,
    let q := pktU d.payload 2 1 % 16
    let n := (headerOf d.payload).length
    let counts (s : State) : Prop := s.fromPeer d = false ∧ d.fragment = false ∧ s.power.ready = true ∧ s.listening d.dport ≠ [] ∧ 3 ≤ d.payload.length
    let sound (s : State) : Prop :=
      s.power.warm = false ∧ q ∈ s.listening d.dport ∧ (s.queue q).bind.accepts d = true ∧ lengthOk n = true ∧ n = d.payload.length
    let ok : Prop := packetCrcOk d.payload n = true
    Answers (.commandDatagram d) (fun s => s.fromPeer d = true) (fun s => s.takeTether 1 d.payload) ∧
    Answers (.commandDatagram d) (fun s => counts s ∧ ¬sound s) (fun s =>
      s.modQueue q (fun k => { k with discards := satAdd 32 k.discards 1 })) ∧
    Answers (.commandDatagram d) (fun s => counts s ∧ sound s ∧ ¬ok) (fun s =>
      (s.modQueue q (fun k => { k with discards := satAdd 32 k.discards 1 })).chainFail 9) ∧
    Answers (.commandDatagram d) (fun s => counts s ∧ sound s ∧ ok ∧ s.mayFetch q = true ∧ (s.queue q).waiting = []) (fun s =>
      s.receive q d.payload (replyToOf d) []) ∧
    Answers (.commandDatagram d) (fun s => counts s ∧ sound s ∧ ok ∧ ¬(s.mayFetch q = true ∧ (s.queue q).waiting = [])) (fun s =>
      s.modQueue q (fun k => { k with waiting := k.waiting ++ [d] })))

/-- The registers of a command queue and of the event ring (02 R67, R74, R77, R78; 17 R690): SQ_TAIL is taken modulo the ring's size from
READY on (14 R599); RQ_HEAD and EV_HEAD leave the entries from them up to the tail in use (log entry 16); CTRL sets the queue's enable and
vector and may ask for a resync, which comes when every taken command has its outcome; a ring-size register takes a power of two in its
range only. So these rows complete: SQ_TAIL_DOORBELL, RQ_HEAD_WRITE, EV_HEAD_WRITE, RESYNC, RESYNC_STATE_ENTER, RING_SIZE_WRITE. -/
def Obligations.QueueRegistersAct : Prop :=
  (∀ q v, isQueue q = true → v < two32 →
    Answers (.sqTailDoorbell q v) (fun s => s.power.ready = true) (fun s =>
      s.modQueue q (fun k => { k with sqTail := v % 65536 % k.sqSize })) ∧
    Answers (.sqTailDoorbell q v) (fun s => s.power.ready = false) (fun s => s) ∧
    Answers (.rqHeadWrite q v) (fun _ => True) (fun s => s.modQueue q (fun k => { k with
      rqHead := v % 65536 % k.rqSize, rqUsed := (k.rqTail + k.rqSize - v % 65536 % k.rqSize) % k.rqSize })) ∧
    Answers (.resync q v) (fun _ => True) (fun s => s.modQueue q (fun k => { k with
      enable := bit v 0, vectorEn := bit v 1, vector := bits v 12 8, resyncReq := k.resyncReq || bit v 16 }))) ∧
  (∀ v, v < two32 → Answers (.evHeadWrite v) (fun _ => True) (fun s => { s with hif := { s.hif with
    evHead := v % 65536 % s.hif.evSize, evUsed := (s.hif.evTail + s.hif.evSize - v % 65536 % s.hif.evSize) % s.hif.evSize } })) ∧
  (∀ q, isQueue q = true →
    Answers (.resyncStateEnter q) (fun s => (s.queue q).resyncReq = true ∧ s.outstandingOn q = 0) (fun s =>
      s.modQueue q (fun k => { k with resyncReq := false, resyncState := true, window := [] }))) ∧
  (∀ q v k, isQueue q = true → v < two32 → k ≤ 16 → v % 131072 = 2 ^ k →
    Answers (.ringSizeWrite (.sq q) v) (fun _ => 7 ≤ k) (fun s => s.modQueue q (fun x => { x with sqSize := 2 ^ k })) ∧
    Answers (.ringSizeWrite (.sq q) v) (fun _ => k < 7) (fun s => s) ∧
    Answers (.ringSizeWrite (.rq q) v) (fun _ => 6 ≤ k) (fun s => s.modQueue q (fun x => { x with rqSize := 2 ^ k })) ∧
    Answers (.ringSizeWrite .ev v) (fun _ => 6 ≤ k) (fun s => { s with hif := { s.hif with evSize := 2 ^ k } })) ∧
  (∀ reg v, sizeRegThere reg = true → v < two32 → (∀ k, v % 131072 ≠ 2 ^ k) →
    Answers (.ringSizeWrite reg v) (fun _ => True) (fun s => s))

/-- REGISTER_WRITE (00 R15, R16): 8-bit and 16-bit writes change nothing; a 64-bit write is two of 32 bits, the lower address first; a
32-bit write reaches the register at its address, of which the two halves of a base address, and of ECT_DATA, take effect with the upper
one (R16); registers that have a row of their own act through it too. So this row completes: REGISTER_WRITE. -/
def Obligations.RegisterWritesAct : Prop :=
  (∀ off w v, isAccess off w = true → v < 2 ^ w → w = 8 ∨ w = 16 → Answers (.registerWrite off w v) (fun _ => True) (fun s => s)) ∧
  (∀ off v, isAccess off 32 = true → v < 2 ^ 32 → Answers (.registerWrite off 32 v) (fun _ => True) (fun s => s.writeReg off v)) ∧
  (∀ off v, isAccess off 64 = true → v < 2 ^ 64 →
    Answers (.registerWrite off 64 v) (fun _ => True) (fun s => (s.writeReg off (v % two32)).writeReg (off + 4) (v / two32))) ∧
  (∀ q v (s : State), q < 16 → v < two32 →
    s.writeReg (0x1000 + 64 * q + 0x00) v = s.modQueue q (fun k => { k with sqBaseLo := v / 4096 }) ∧
    s.writeReg (0x1000 + 64 * q + 0x04) v = s.modQueue q (fun k => { k with sqBaseHi := v, sqBase := v * two32 + k.sqBaseLo * 4096 }) ∧
    s.writeReg (0x1000 + 64 * q + 0x10) v = s.modQueue q (fun k => { k with rqBaseLo := v / 4096 }) ∧
    s.writeReg (0x1000 + 64 * q + 0x14) v = s.modQueue q (fun k => { k with rqBaseHi := v, rqBase := v * two32 + k.rqBaseLo * 4096 }) ∧
    s.writeReg (0x1000 + 64 * q + 0x0C) v = s.writeSqTail q v ∧ s.writeReg (0x1000 + 64 * q + 0x28) v = s.writeCtrl q v) ∧
  (∀ v (s : State), v < two32 →
    s.writeReg 0xA00C v = { s with mem := { s.mem with ectDataLo := v } } ∧
    s.writeReg 0xA010 v = { s with mem := { s.mem with ectDataHi := v, ectData := v * two32 + s.mem.ectDataLo } } ∧
    s.writeReg 0xA000 v = s.writeEctCtrl v ∧ s.writeReg 0x5010 v = s.writePwrAlert v ∧ s.writeReg 0xC000 v = s.writeTrcCtrl v)

/-- A command's flash journal write ends: the flash journal holds it in its place by acceptance, and its acceptance is tried (02 R70, R103,
R111). A read of host memory that fails gives up what the command began, ends it with FAULT_TIMEOUT (17 R658), and lets the next upload or
load that waited behind it begin. So these rows complete: FLASH_JOURNAL_WRITTEN, HOST_READ_TIMEOUT. -/
def Obligations.JournalAndHostReadEnd : Prop :=
  (∀ q seq c, isQueue q = true →
    Answers (.flashJournalWritten q seq)
      (fun s => s.findCmd q seq = some c ∧ c.toFlash = true ∧ c.flashDone = false ∧ c.phase = .accepting ∧ s.mute c = false)
      (fun s =>
        let s0 := s.modCmd q seq (fun d => { d with flashDone := true })
        let before := s0.nv.flash.takeWhile (fun x => x.order < c.record.order)
        let after := s0.nv.flash.dropWhile (fun x => x.order < c.record.order)
        State.tryAccept { s0 with nv := { s0.nv with flash := before ++ c.record :: after } } q seq)) ∧
  (∀ q seq c, isQueue q = true →
    Answers (.hostReadTimeout q seq)
      (fun s => s.findCmd q seq = some c ∧ c.readsHost = true ∧ s.mute c = false ∧
        ((c.phase = .started ∧ c.armed = false) ∨ s.startable c = true))
      (fun s => (((s.undoCmd c).commitNote c 0 0 0 0x0302 0).complete c 0x0302 0).kickAfter c)) ∧
  (∀ q seq c, isQueue q = true → Answers (.hostReadTimeout q seq) (fun s => s.findCmd q seq = some c ∧ c.readsHost = false) (fun s => s))

/-- The data of an upload and of a load arrives (04 R218, R228; 10 R446): on a device that leads a formed twin it goes to the follower
first. A COMMIT whose turn has come is armed (R203). Reserved pages are filled: their words hold the fill pattern, those of graphic
buffers written zeros (04 R217), and the command that waits for its last reservation completes (11 R504). So these rows complete:
UPLOAD_COMPLETE, LAMP_LOAD_COMPLETE, COMMIT_ARM, FILL_COMPLETE. -/
def Obligations.TransfersEnd : Prop :=
  (∀ layer data c, 32 ≤ layer → layer < 64 →
    Answers (.uploadComplete layer data)
      (fun s => (s.layer layer).uploading.bind (fun id => s.findCmd id.1 id.2) = some c ∧
        (s.ownerWrites (layerId layer)).sendsData c = false)
      (fun s => (s.ownerWrites (layerId layer)).uploadArrived layer ((s.ownerWrites (layerId layer)).dataFor c data)) ∧
    Answers (.uploadComplete layer data)
      (fun s => (s.layer layer).uploading.bind (fun id => s.findCmd id.1 id.2) = some c ∧
        (s.ownerWrites (layerId layer)).sendsData c = true)
      (fun s => (s.ownerWrites (layerId layer)).dataEpoch c data.length (bytesTab data))) ∧
  (∀ layer data c w h fmt, 32 ≤ layer → layer < 64 →
    let old (s : State) : Layer := s.layer layer
    Leads (.uploadComplete layer data)
      (fun s => (old s).uploading = some (c.q, c.seq) ∧ s.findCmd c.q c.seq = some c ∧ (old s).uploadGeom = some (w, h, fmt) ∧
        c.layerIdx = layer ∧ c.clearing = false ∧ c.effTime = 0 ∧ s.sendsData c = false ∧
        ∀ d ∈ s.hif.cmds, d.opcode = 0x0303 → d.layerIdx = layer → d.phase = .started → d.armed = false → d.q = c.q ∧ d.seq = c.seq)
      (fun s t => t.findCmd c.q c.seq = none ∧ (t.layer layer).uploading = none ∧ (t.layer layer).pending = true ∧
        (t.layer layer).backOf = none ∧
        (∀ b, (old s).newPair = some b →
          (t.layer layer).newPair = some (writeRect b w fmt c (s.dataFor c data)) ∧ (t.layer layer).back = (old s).back) ∧
        ((old s).newPair = none →
          (t.layer layer).newPair = none ∧ (t.layer layer).back = writeRect (old s).back w fmt c (s.dataFor c data)))) ∧
  (∀ canopy entries c, canopy < 16 →
    let old (s : State) : Canopy := s.canopy canopy
    let regions (s : State) : Tab LampRegion :=
      c.lampRegions ((s.mem.reservations.filter (s.freeBlock canopy)).map Reservation.pages) (s.entriesFor c entries)
    let loaded (s : State) : Prop :=
      (old s).loading = some (c.q, c.seq) ∧ s.findCmd c.q c.seq = some c ∧ c.idx = canopy ∧ c.clearing = false ∧ s.sendsData c = false ∧
        ∀ d ∈ s.hif.cmds, d.opcode = 0x0305 → d.idx = canopy → d.phase = .started → d.armed = false → d.q = c.q ∧ d.seq = c.seq
    Leads (.lampLoadComplete canopy entries) (fun s => loaded s ∧ c.effTime ≠ 0 ∧ s.fired c = false) (fun s t =>
      (t.canopy canopy).loading = none ∧ (t.canopy canopy).arrived = (old s).arrived ++ [((c.q, c.seq), regions s)]) ∧
    Leads (.lampLoadComplete canopy entries)
      (fun s => loaded s ∧ c.effTime = 0 ∧ ∀ e ∈ (old s).arrived, e.1 ≠ (c.q, c.seq))
      (fun s t => (t.canopy canopy).loading = none ∧ (t.canopy canopy).arrived = (old s).arrived ∧
        ∀ e ∈ regions s, (t.canopy canopy).staged.find e.1 = some e.2)) ∧
  (∀ canopy entries c, canopy < 16 →
    Answers (.lampLoadComplete canopy entries)
      (fun s => (s.canopy canopy).loading.bind (fun id => s.findCmd id.1 id.2) = some c ∧ s.sendsData c = false)
      (fun s => s.lampArrived canopy (s.entriesFor c entries))) ∧
  (∀ q seq c, isQueue q = true →
    Answers (.commitArm q seq)
      (fun s => s.findCmd q seq = some c ∧ c.opcode = 0x0304 ∧ c.phase = .started ∧ c.armed = false ∧ s.commitBlocked c = false)
      (fun s => s.armCommit c) ∧
    Leads (.commitArm q seq)
      (fun s => s.findCmd q seq = some c ∧ c.opcode = 0x0304 ∧ c.phase = .started ∧ c.armed = false ∧ s.commitBlocked c = false ∧
        c.commitCanopies.any (fun k => (s.canopy k).running) = true)
      (fun s t => (∀ k ∈ c.commitCanopies, ∃ copy, (q, seq, copy) ∈ (t.canopy k).copies ∧ copy.look = (s.canopy k).shadowLook) ∧
        ∃ d at_, t.findCmd q seq = some d ∧ d.phase = .committed ∧ d.armed = true ∧ d.notBefore = some at_ ∧ s.now < at_) ∧
    Answers (.commitArm q seq) (fun s => s.findCmd q seq = some c ∧ s.commitBlocked c = true) (fun s => s)) ∧
  (∀ owner slot, owner < 16777216 * 16 →
    let due (s : State) : List Reservation := s.mem.reservations.filter (fun x => x.owner = owner && x.slot = slot && !x.filled)
    Answers (.fillComplete owner slot) (fun _ => True) (fun s =>
      let s1 := ((due s).flatMap (fun r => r.pages ++ r.mirror)).foldl (fun s e => s.fillPage (decide (owner / 16777216 = 4)) e) s
      let l := s1.mem.reservations.map (fun x => if x.owner = owner ∧ x.slot = slot then { x with filled := true } else x)
      ((due s).filterMap Reservation.cmd).foldl State.fillEnded { s1 with mem := { s1.mem with reservations := l } }) ∧
    Answers (.fillComplete owner slot) (fun s => ∀ r ∈ due s, r.cmd = none) (fun s =>
      let s1 := ((due s).flatMap (fun r => r.pages ++ r.mirror)).foldl (fun s e => s.fillPage (decide (owner / 16777216 = 4)) e) s
      let l := s1.mem.reservations.map (fun x => if x.owner = owner ∧ x.slot = slot then { x with filled := true } else x)
      { s1 with mem := { s1.mem with reservations := l } }))

/-- The clearing of a running canopy comes at its next grid instant, and clears it there (04 R206; 09 R408); a canopy that does not run has
none. The time base of an EFFECT_TIME reaches it: the command takes effect, once (02 R101, 09 R406). So these rows complete: CLEARING,
EFFECT_TIME_REACHED. -/
def Obligations.ClearingsAndEffectTimesCome : Prop :=
  (∀ k, k < 16 →
    Answers (.clearing k)
      (fun s => (s.canopy k).running = true ∧ (s.canopy k).g ≤ (s.reach (s.canopy k).g).now ∧
        (s.reach (s.canopy k).g).joinDue (s.canopy k).g = false)
      (fun s => (s.reach (s.canopy k).g).clear k (s.canopy k).g) ∧
    Leads (.clearing k)
      (fun s => (s.canopy k).running = true ∧ (s.canopy k).g ≤ (s.reach (s.canopy k).g).now ∧
        (s.reach (s.canopy k).g).joinDue (s.canopy k).g = false ∧ (s.canopy k).stopping = false ∧ (s.canopy k).nextGeom = none ∧
        (s.canopy k).copies = [] ∧ ∀ d ∈ s.hif.cmds, d.waitsFor k = false)
      (fun s t =>
        let c := s.canopy k
        let gr := gridOf c.geom.rate c.geom.offset
        (t.canopy k).frameCount = c.frameCount + 1 ∧ (t.canopy k).g = c.g + (c.rem + 1000000000 * gr.den) / gr.num ∧
          (∃ fr rest, (t.canopy k).frames = fr :: rest ∧ fr.num = c.frameCount ∧ fr.g = c.g ∧ fr.look = c.look) ∧
          ((s.prog k).running = true → (t.prog k).pictures = (s.prog k).pictures + 1)) ∧
    Answers (.clearing k) (fun s => (s.canopy k).running = false ∧ s.twin.joinApply = none) (fun s => s)) ∧
  (∀ q seq c, isQueue q = true → c.effTime ≠ 0 → c.clearing = false → c.phase = .started → c.opcode ≠ 0x0304 →
    (c.opcode = 0x0303 ∨ c.opcode = 0x0305 → c.armed = true) → c.clearOf = none →
    Answers (.effectTimeReached q seq)
      (fun s => s.findCmd q seq = some c ∧ c.fireAt ≤ (s.tb c.effTb).count)
      (fun s => (s.modCmd q seq (fun d => { d with effTime := 0 })).applyOp { c with effTime := 0 }) ∧
    Leads (.effectTimeReached q seq)
      (fun s => s.findCmd q seq = some c ∧ c.fireAt ≤ (s.tb c.effTb).count ∧ c.opcode = 0x0306)
      (fun s t => t.findCmd q seq = none ∧ (t.canopy c.idx).tiling = (List.range (c.u 0 2)).map c.rect ∧
        ∀ k, k ≠ c.idx → t.canopy k = s.canopy k) ∧
    Leads (.effectTimeReached q seq)
      (fun s => s.findCmd q seq = some c ∧ c.fireAt ≤ (s.tb c.effTb).count ∧ c.opcode = 0x0906)
      (fun s t => t.findCmd q seq = none ∧ t.mem = { s.mem with scrubNext := some (c.u 0 1) }) ∧
    Answers (.effectTimeReached q seq)
      (fun s => s.findCmd q seq = some c ∧ (s.tb c.effTb).count < c.fireAt ∧
        c.fireAt ≤ ((s.reachOn c.effTb c.fireAt).tb c.effTb).count)
      (fun s => ((s.reachOn c.effTb c.fireAt).modCmd q seq (fun d => { d with effTime := 0 })).applyOp
        { c with effTime := 0 }))

/-- The time bases (09): a slew ends with its commands (R402, R687); an armed capture takes an event of its source (R423–R426); NS wraps when
time reaches it (R388, R686); Sync and Announce messages are judged (R394–R400); a base that misses them, or its PPS, goes to HOLDOVER (R398,
R401); PPS_OUT rises at a whole second and falls a pulse width later (R403). So these rows complete: SLEW_COMPLETE, CAPTURE_EVENT,
TIME_BASE_WRAP, PTP_SYNC, PTP_ANNOUNCE, SYNC_TIMEOUT, PPS_EDGE_TIMEOUT, PPS_OUT_RISE, PPS_OUT_FALL, PPS_IN_EDGE. -/
def Obligations.TimeBaseEventsAct : Prop :=
  (∀ n sl, n < 4 →
    Answers (.slewComplete n) (fun s => (s.tb n).slew = some sl ∧ (s.tb n).mode = 3) (fun s =>
      sl.cmds.foldl (fun s id => s.completeId id 2 0) (s.modTb n (fun b => { b with slew := none }))) ∧
    Answers (.slewComplete n)
      (fun s => (s.tb n).slew = some sl ∧ (s.tb n).mode ≠ 3 ∧ (s.tb n).state ≠ 0 ∧ s.clocked = true ∧ slewStep (s.tb n).slewLimit ≠ 0)
      (fun s => sl.cmds.foldl (fun s id => s.completeId id 2 0)
        ((s.advance (sl.left.natAbs / slewStep (s.tb n).slewLimit + 1)).modTb n (fun b => { b with slew := none })))) ∧
  (∀ n source flow k, n < 4 →
    Answers (.captureEvent n source flow)
      (fun s => (s.tb n).capture = some k ∧ k.source = source ∧ (source = 0x40 → k.flow = flow)) (fun s => s.captured n) ∧
    Leads (.captureEvent n source flow)
      (fun s => (s.tb n).capture = some k ∧ k.source = source ∧ (source = 0x40 → k.flow = flow))
      (fun s t => (t.tb n).capNs = (s.tb n).ns ∧ (t.tb n).capFrac = (s.tb n).frac ∧ (t.tb n).capValid = true ∧
        (t.tb n).capCount = ((s.tb n).capCount + 1) % 65536 ∧ (t.tb n).capOverrun = ((s.tb n).capOverrun || (s.tb n).capValid) ∧
        (t.tb n).capture = (if k.continuous = true then some k else none) ∧
        (k.continuous = false → t.findCmd k.q k.seq = none)) ∧
    Answers (.captureEvent n source flow) (fun s => (s.tb n).capture = some k ∧ k.source ≠ source) (fun s => s)) ∧
  (∀ n, n < 4 →
    let heard (x : Sync) (s : State) : Prop := (s.tb n).hears x.port x.domain = true ∧
      ∃ m, (s.tb n).master = some m ∧ m.identity = x.source ∧ m.port = x.port
    Answers (.timeBaseWrap n) (fun _ => True) (fun s => s.reachOn n (((s.tb n).wraps + 1) * two32)) ∧
    Leads (.timeBaseWrap n)
      (fun s => (s.tb n).state ≠ 0 ∧ (s.tb n).mode ≠ 3 ∧ (s.tb n).slew = none ∧ (s.tb n).inc ≠ 0 ∧ (s.tb n).ns < two32 ∧
        (s.tb n).frac < two30 ∧ s.clocked = true)
      (fun s t => (s.tb n).wraps < (t.tb n).wraps) ∧
    Leads (.syncTimeout n) (fun s => (s.tb n).mode = 1 ∧ ((s.tb n).state = 2 ∨ (s.tb n).state = 3)) (fun _ t =>
      (t.tb n).state = 4 ∧ (t.tb n).master = none) ∧
    Leads (.ppsEdgeTimeout n)
      (fun s => (s.tb n).mode = 2 ∧ ((s.tb n).state = 2 ∨ (s.tb n).state = 3) ∧ (s.tb n).ppsE.isSome = true)
      (fun _ t => (t.tb n).state = 4) ∧
    (∀ t e, Leads (.ppsInEdge t)
      (fun s => ((s.at32 t).tb n).mode = 2 ∧ ((s.at32 t).tb n).state ≠ 0 ∧ ((s.at32 t).tb n).ppsSets = [] ∧
        ((s.at32 t).tb n).ppsE = some e)
      (fun s u => (u.tb n).ppsAt = (s.at32 t).now ∧ ∃ k, 1 ≤ k ∧ (u.tb n).ppsE = some ((e + k * 1000000000) % two32))) ∧
    (∀ x, Answers (.ptpSync n x) (fun s => ¬heard x s) (fun s => s)) ∧
    (∀ x : Sync, x.valid = false → Answers (.ptpSync n x) (fun s => heard x s ∧ 16 ≤ x.port)
      (fun s => (s.emit (.wirePtp x.port 0)).modTb n (fun b => { b with validSyncs := 0 }))) ∧
    (∀ x : Sync, x.valid = true →
      let taken (s : State) : State := (s.emit (.wirePtp x.port 0)).modTb n (fun b => { b with
        offset := sat32 x.offset, lastSync := s.now, lastMaster := some (b.ext, x.masterNs) })
      let back (s : State) : Prop := heard x s ∧ (s.tb n).state = 4 ∧ 16 ≤ x.port
      Answers (.ptpSync n x) (fun s => back s ∧ (s.tb n).validSyncs + 1 < 16) (fun s =>
        (taken s).modTb n (fun b => { b with validSyncs := b.validSyncs + 1 })) ∧
      Answers (.ptpSync n x) (fun s => back s ∧ 16 ≤ (s.tb n).validSyncs + 1) (fun s =>
        ((taken s).modTb n (fun b => { b with validSyncs := 0, inSyncs := 0, outSyncs := 0 })).setTbState n 2)) ∧
    (∀ x, Answers (.ptpAnnounce n x) (fun s => (s.tb n).hears x.port x.domain = true ∧ (s.tb n).master = none) (fun s =>
      s.modTb n (fun b => { b with master := some x, lastAnnounce := s.now }))) ∧
    (∀ x, Answers (.ptpAnnounce n x) (fun s => (s.tb n).hears x.port x.domain = false) (fun s => s)) ∧
    Answers (.syncTimeout n) (fun s => (s.tb n).mode = 1 ∧ ((s.tb n).state = 2 ∨ (s.tb n).state = 3)) (fun s =>
      ((s.reach (min ((s.tb n).lastSync + 1000000000) ((s.tb n).lastAnnounce + 750000000))).modTb n
        (fun b => { b with master := none })).holdover n) ∧
    Answers (.ppsEdgeTimeout n)
      (fun s => (s.tb n).mode = 2 ∧ ((s.tb n).state = 2 ∨ (s.tb n).state = 3) ∧ (s.tb n).ppsE.isSome = true)
      (fun s => (s.reach ((s.tb n).ppsNear + 2001000000)).holdover n) ∧
    Answers (.ppsOutRise n) (fun s => (s.tb n).drives = true ∧ (s.tb n).ppsHigh = false) (fun s =>
      ((s.reachOn n (((s.tb n).ext / 1000000000 + 1) * 1000000000)).modTb n (fun b => { b with ppsHigh := true })).emit (.pin 2 true)) ∧
    Answers (.ppsOutFall n) (fun s => (s.tb n).ppsHigh = true) (fun s =>
      ((s.reachOn n ((s.tb n).ext / 1000000000 * 1000000000 + (s.tb n).pulseWidth)).modTb n
        (fun b => { b with ppsHigh := false })).emit (.pin 2 false))) ∧
  (∀ t, Answers (.ppsInEdge t) (fun _ => True) (fun s => ((((s.at32 t).ppsEdge 0).ppsEdge 1).ppsEdge 2).ppsEdge 3))

/-- Ingest events (03): a frame over 9,216 bytes changes nothing but the time (R123; log entry 138); any other received packet counts, and
counts as an FCS error, a pause frame or a packet of no flow when it is one (16 *Performance counter events*), and is taken by the flow that
it matches otherwise, its leg coming up with its event (R124, R130); a leg goes down 2T after its last packet (R130), with its event; the
line deadline that comes first marks its line (R160); the frame deadline that comes first declares its period: its state, its late lines,
its layers, its event (R161, R162, R165). So these rows complete: PACKET_ARRIVAL, LEG_DOWN, LINE_DEADLINE, FRAME_DEADLINE. -/
def Obligations.IngestPacketsAndDeadlines : Prop :=
  (∀ t (p : RxPkt), p.port < 4 → p.sub < 4 →
    let counted (s : State) : State := (s.at32 t).happen 0x0201 [] (4 * p.port + p.sub) 0 1
    Answers (.packetArrival t p) (fun _ => 9216 < p.len) (fun s => s.at32 t) ∧
    Answers (.packetArrival t p) (fun _ => p.len ≤ 9216 ∧ p.fcsOk = false) (fun s =>
      (counted s).happen 0x0202 [] (4 * p.port + p.sub) 0 1) ∧
    Answers (.packetArrival t p) (fun _ => p.len ≤ 9216 ∧ p.fcsOk = true ∧ p.pause = true) (fun s =>
      (counted s).happen 0x0204 [] (4 * p.port + p.sub) 0 1) ∧
    Answers (.packetArrival t p) (fun s => p.len ≤ 9216 ∧ p.fcsOk = true ∧ p.pause = false ∧ (counted s).matchRx p = none) (fun s =>
      (counted s).happen 0x0203 [] (4 * p.port + p.sub) 0 1) ∧
    (∀ i leg, Answers (.packetArrival t p)
      (fun s => p.len ≤ 9216 ∧ p.fcsOk = true ∧ p.pause = false ∧ (counted s).matchRx p = some (i, leg)) (fun s =>
        let f := (counted s).rxFlow i
        let a := (f.legs.getD leg {}).arrive (counted s).now f.legPeriod
        let s2 := ((counted s).modRx i (fun _ => ({ f with legs := f.legs.set leg a.1 }).packet (counted s).now leg p)).ownerWrites (rxId i)
        let s3 := if a.2 = true then s2.raise 0x0302 (rxId i) leg 0 else s2
        if p.internalOk = true then s3 else s3.chainFail 2))) ∧
  (∀ flow leg l, flow < 256 → leg < 2 →
    Answers (.legDown flow leg) (fun s => (s.rxFlow flow).legs[leg]? = some l ∧ l.up = true) (fun s =>
      let f := s.rxFlow flow
      ((s.reach (l.lastRx.getD 0 + cdiv (2 * f.legPeriod.1) f.legPeriod.2)).modRx flow (fun f =>
        { f with legs := f.legs.set leg { l with up := false, runStart := none } })).raise 0x0301 (rxId flow) leg 0) ∧
    Answers (.legDown flow leg) (fun s => (s.rxFlow flow).legs[leg]? = some l ∧ l.up = false) (fun s => s)) ∧
  (∀ flow w, flow < 256 →
    let due (s : State) : Option GridWatch :=
      earliest (s.rxFlow flow).lineDue ((s.rxFlow flow).watches.filter (fun w => w.era == (s.rxFlow flow).era || decide (w.lineGrid ≤ w.stop)))
    Answers (.lineDeadline flow) (fun s => due s = some w) (fun s =>
      (s.reach ((s.rxFlow flow).lineDue w)).modRx flow (fun f => (f.markLine w).setWatch (w.lineMarked f.height))) ∧
    Answers (.lineDeadline flow) (fun s => due s = none) (fun s => s)) ∧
  (∀ flow w, flow < 256 →
    Answers (.frameDeadline flow) (fun s => earliest GridWatch.due (s.rxFlow flow).watches = some w) (fun s =>
      let s1 := s.reach w.due
      let f := s1.rxFlow flow
      ((((s1.modRx flow (fun f => (f.declare w).setWatch w.declared)).layersAfter flow (f.judge w).1).declareEvent flow (f.judge w).1
        w.next f.notComplete (f.judge w).2 (f.cause w))).refreshReaders flow) ∧
    Answers (.frameDeadline flow) (fun s => (s.rxFlow flow).watches = []) (fun s => s.refreshReaders flow))

/-- Braid events (03): the strands read a row, which brings a braid to its lock or is taken by it, the tether's blocks as
fragments of its messages (10 R433), and goes back on YT_TX while the far-end loop runs (R139–R151, R154, R157); a marker code word of its strand is noted at its spacing and any other control code word ignored
(R146); the clock strand's loss is posted once, and ends a restore (R148, 01 R46); a braid that has not locked in its time posts it and
starts again (R155); a restore that has not matched ends with FAULT_TIMEOUT (R152); a test loop ends after its DURATION with its ten counts
(R157); a strand gains or loses its lock (R139). So these rows complete: YELUC_BLOCK_ROW, ALIGNMENT_MARKER, CLOCK_STRAND_LOST,
BRAID_LOCK_FAIL, RESTORE_TIMEOUT, LOOPBACK_END, CODE_WORD_LOCK. -/
def Obligations.BraidEventsAct : Prop :=
  (∀ t b blocks, b < 5 →
    let hears (s : State) : Prop := ((s.at32 t).braid b).enabled = true ∧ ((s.at32 t).braid b).deaf = false
    let r (s : State) : Braid × List RxBlock := ((s.at32 t).braid b).readRow (strandsOf b) blocks
    let read (s : State) : State := (s.at32 t).modBraid b (fun _ => (r s).1)
    let noted (s : State) : State :=
      (if ((s.at32 t).braid b).loop.isSome = true then (read s).returnRow b (strandsOf b) (r s).2 else read s).noteRow b (r s).2
    Answers (.yelucBlockRow t b blocks) (fun s => ¬hears s) (fun s => s.at32 t) ∧
    Answers (.yelucBlockRow t b blocks) (fun s => hears s ∧ ((s.at32 t).braid b).locked = false) (fun s => (noted s).tryLock b) ∧
    Answers (.yelucBlockRow t b blocks) (fun s => hears s ∧ ((s.at32 t).braid b).locked = true) (fun s =>
      let taken := (noted s).takeRow b (r s).2 ((s.at32 t).braid b)
      if b = 4 then (((s.at32 t).braid b).usedOf 4 (r s).2).foldl (fun s m => s.takeTether 0 m) taken else taken)) ∧
  (∀ b strand header payload skew, b < 5 → strand < 9 →
    let hears (s : State) : Prop := (s.braid b).enabled = true ∧ (s.braid b).deaf = false
    (∀ n, markerOf strand header payload = some n → Answers (.alignmentMarker b strand header payload skew) hears (fun s =>
      ((s.modBraid b (fun x => { x with strands := Tab.upd ({} : Strand) x.strands strand (fun y => y.marker n skew) })).judgeStrands
        b).tryLock b)) ∧
    (markerOf strand header payload = none → Answers (.alignmentMarker b strand header payload skew) (fun _ => True) (fun s => s))) ∧
  (∀ strand count, strand < 9 → count < 65536 → markerOf strand 12 (0x4D + 256 * strand + 65536 * count) = some count) ∧
  (∀ (x : Strand) (count skew : Nat),
    (x.marker count skew).markerCount = some count ∧ (x.marker count skew).skew = skew ∧ (x.marker count skew).missedMarkers = 0 ∧
    (x.marker count skew).sinceMarker = some 0 ∧
    (x.marker count skew).markers =
      (if x.sinceMarker = some 16384 ∧ ∃ c, x.markerCount = some c ∧ (c + 1 + x.missedMarkers) % 65536 = count then x.markers + 1 else 1)) ∧
  (∀ b, b < 5 →
    Answers (.clockStrandLost b) (fun s => (s.braid b).enabled = true ∧ (s.braid b).clockLost = false ∧ (s.braid b).deaf = false) (fun s =>
      ((s.braidFault b).modBraid b (fun x => { x with clockLost := true })).raise 0x0305 (braidId b) 0 0) ∧
    Answers (.clockStrandLost b) (fun s => (s.braid b).clockLost = true) (fun s => s) ∧
    Answers (.braidLockFail b) (fun s => (s.braid b).enabled = true ∧ (s.braid b).locked = false) (fun s =>
      let s1 := s.reach ((s.braid b).lockStart + 20000000 * 2 ^ (s.braid b).rate)
      (s1.raise 0x0304 (braidId b) ((s.braid b).firstUnlocked (dataStrands b)) 0).modBraid b (fun x => x.restartLock s1.now))) ∧
  (∀ b q seq t, b < 5 →
    Answers (.restoreTimeout b) (fun s => (s.braid b).restoring = some (q, seq, t)) (fun s =>
      ((s.reach t).modBraid b (fun x => { x with restoring := none, matched := 0 })).failOpt (some (q, seq)) 0x0302 0)) ∧
  (∀ b errors run c, b < 5 →
    Answers (.loopbackEnd b errors) (fun s => (s.braid b).loop = some run ∧ (s.reach run.stop).findCmd run.q run.seq = some c) (fun s =>
      let s1 := (s.reach run.stop).modBraid b (fun x => { x with loop := none })
      let s2 := if c.u 28 4 = 0 then s1
        else s1.writeBuf c (c.u 20 8) ((List.range 10).map (fun i => leBytes 8 (errors.getD i 0))).flatten
      s2.ok c (min (if run.kind = 2 then run.returned else (errors.take 10).sum) 4294967295)) ∧
    Answers (.loopbackEnd b errors) (fun s => (s.braid b).loop = none) (fun s => s)) ∧
  (∀ b strand locked, b < 5 → strand < 9 →
    Answers (.codeWordLock b strand locked) (fun s => (s.braid b).enabled = true ∧ (s.braid b).deaf = false) (fun s =>
      ((s.modBraid b (fun x => { x with strands := Tab.upd ({} : Strand) x.strands strand (fun y =>
        { y with locked := locked, goodHeaders := if locked then 64 else 0 }) })).judgeStrands b).tryLock b) ∧
    Answers (.codeWordLock b strand locked) (fun s => (s.braid b).enabled = false ∨ (s.braid b).deaf = true) (fun s => s))

/-- Rate control, the dispatcher's rows for operations and the gate (05, 06, 07, 10): a budget that is due and a row that is due are decided
(R331, R336), a row by the records of a program that follows (R462); an operation that may be placed is dispatched (R240, R243, R259),
preempted (R244–R246) and promoted (R241); a picture's launch time arrives once (09 R413); the peer's row CRC is taken in a formed twin, and
a row's allowance ends where the gate has not decided it (R451–R453). So these rows complete: FRAME_BUDGET, LAUNCH_TIME, ROW_DECISION,
GATE_ALLOWANCE_END, ROW_CRC, DISPATCH, PREEMPT, PROMOTE. -/
def Obligations.PictureEventsAct : Prop :=
  (∀ p f y, p < 16 →
    Leads (.frameBudget p f) (fun s => s.pic p f = some y ∧ s.budgetDue p y = true ∧ (s.prog p).follow = false ∧ (s.prog p).splicedNow = none) (fun s t =>
      let x := s.prog p
      let kind := x.kindOf y
      let d := x.decidePicture y kind (if kind = 2 then 0 else x.poc + 1)
        (if kind = 2 then [] else (x.usable.take y.plan.cfg.nref).map RefPic.picture)
      let z0 : Picture := { d.1 with undo := some x.beforeBudget }
      (t.prog p).pics = x.pics.map (fun z => if z.f = f then z0 else z) ∧ (t.prog p).poc = (if kind = 2 then 0 else x.poc + 1) ∧
      (t.prog p).streams = ((x.streams.zip y.plan.geos).zipIdx).map
        (fun e => e.1.1.budget e.1.2 x.rateWaits z0 (z0.allowance e.1.2 (x.refPocs z0)))) ∧
    Answers (.frameBudget p f)
      (fun s => s.pic p f = some y ∧ s.budgetDue p y = true ∧ (s.prog p).follow = true ∧ (s.prog p).splicedNow = none ∧
        s.rowRecord p y.n 0 = none)
      (fun s => s) ∧
    Answers (.frameBudget p f) (fun s => s.pic p f = some y ∧ s.budgetDue p y = false) (fun s => s) ∧
    Answers (.launchTime p f) (fun s => s.pic p f = some y ∧ y.launchArrived = false) (fun s =>
      (s.reach (s.toTb0 p y.launch)).modPic p f (fun y => { y with launchArrived := true })) ∧
    Answers (.launchTime p f) (fun s => s.pic p f = some y ∧ y.launchArrived = true) (fun s => s)) ∧
  (∀ p f row y, p < 16 →
    (∀ rec, Answers (.rowDecision p f row)
      (fun s => s.pic p f = some y ∧ s.rowDue p row y = true ∧ ((s.prog p).follow = true ∨ y.n < (s.prog p).followEnd) ∧ s.rowRecord p y.n row = some rec)
      (fun s => s.decideByRecord p row y rec)) ∧
    Answers (.rowDecision p f row)
      (fun s => s.pic p f = some y ∧ s.rowDue p row y = true ∧ (s.prog p).follow = false ∧ (s.prog p).followEnd ≤ y.n ∧
        (s.decideRow p row y).peerFollows p y.n = false)
      (fun s => s.decideRow p row y) ∧
    (∀ rec, Leads (.rowDecision p f row)
      (fun s => s.pic p f = some y ∧ s.rowDue p row y = true ∧ ((s.prog p).follow = true ∨ y.n < (s.prog p).followEnd) ∧ s.rowRecord p y.n row = some rec)
      (fun _ t => ∃ z, t.pic p f = some z ∧ z.qps.find row = some (leNat ((rec.drop 8).take 1)) ∧ z.undo = none)) ∧
    Leads (.rowDecision p f row)
      (fun s => s.pic p f = some y ∧ s.rowDue p row y = true ∧ (s.prog p).follow = false ∧ (s.prog p).followEnd ≤ y.n ∧
        (s.decideRow p row y).peerFollows p y.n = false)
      (fun _ t => ∃ z qp, t.pic p f = some z ∧ z.qps.find row = some qp ∧ z.undo = none) ∧
    Answers (.rowDecision p f row) (fun s => s.pic p f = some y ∧ s.rowDue p row y = false) (fun s => s) ∧
    (∀ e own, Answers (.gateAllowanceEnd p f row)
      (fun s => s.pic p f = some y ∧ s.allowanceEnd p y row = some e ∧ y.gate.find row = none ∧ y.crcs.find row = some own ∧
        (s.prog p).muted = none ∧ (s.reach e).formed = false)
      (fun s => (s.reach e).modPic p f (fun z => { z with gate := z.gate.set row 0 }))) ∧
    (∀ e, Answers (.gateAllowanceEnd p f row)
      (fun s => s.pic p f = some y ∧ s.allowanceEnd p y row = some e ∧ y.gate.find row = none)
      (fun s => (s.reach e).decideGate p f row true))) ∧
  (∀ payload : List Byte, payload.length = 16 →
    let f (o n : Nat) := leNat ((payload.drop o).take n)
    Answers (.rowCrc payload) (fun s => s.formed = true) (fun s =>
      s.takeRowCrc (f 0 1 % 16) (f 4 4) (f 2 2) (f 8 4) (s.extend (f 12 4)) (f 1 1)) ∧
    Answers (.rowCrc payload)
      (fun s =>
        let x := s.prog (f 0 1 % 16)
        s.formed = true ∧ x.running = true ∧ bit (f 1 1) 1 = false ∧ (∀ y ∈ x.pics, y.n ≠ f 4 4) ∧
          x.ownCrcs.find (crcKey (f 4 4) (f 2 2)) = none ∧ x.peerCrcs.find (crcKey (f 4 4) (f 2 2)) = none)
      (fun s => s.modProg (f 0 1 % 16) (fun x =>
        let recent (e : Nat × Nat) : Bool := decide (x.pictures ≤ e.1 / 4096 + 16)
        { x with
          peerCrcs := (x.peerCrcs.set (crcKey (f 4 4) (f 2 2)) (f 8 4 * 2 + b2n (bit (f 1 1) 0))).filter recent,
          peerReady := (x.peerReady.set (crcKey (f 4 4) (f 2 2)) (s.extend (f 12 4))).filter recent })) ∧
    Answers (.rowCrc payload) (fun s => s.formed = false) (fun s => s)) ∧
  (∀ op k, op.prog < 16 → opKey op = some k →
    (∀ u, Answers (.dispatch op)
      (fun s => s.disp.restarting = false ∧ s.ready k = true ∧ (k.pic, k.row) ∈ s.inFlight k.prog ∧ k ∈ s.rowOps k.prog k.pic k.row ∧
        k.kind ≠ .launch ∧ s.placeOn k = some u ∧ s.isNext k = true)
      (fun s =>
        let s2 := (((s.deliver k u).placed k.prog false).traceUnit 1 k u).happen 0x0101 (opObjects k u) 0 0 1
        let s3 := if (s.op k).any (fun o => o.progress != 0 || o.lastUnit.isSome) = true then s2.traceUnit 3 k u else s2
        if (s.op k).any Op.reissue = true then (s3.traceUnit 6 k u).happen 0x0103 (opObjects k u) 0 0 1 else s3)) ∧
    (∀ u, Leads (.dispatch op)
      (fun s => s.disp.restarting = false ∧ s.ready k = true ∧ (k.pic, k.row) ∈ s.inFlight k.prog ∧ k ∈ s.rowOps k.prog k.pic k.row ∧
        k.kind ≠ .launch ∧ s.placeOn k = some u ∧ s.isNext k = true)
      (fun s t => (t.unit u).op = some k ∧ (t.unit u).awaitAck = true ∧ (t.unit u).lastReport = s.now ∧
        ∃ o, t.op k = some o ∧ o.unit = some u)) ∧
    Answers (.dispatch op) (fun s => s.disp.restarting = true) (fun s => s) ∧
    (∀ o u, Answers (.preempt op)
      (fun s => s.op k = some o ∧ o.unit = some u ∧ o.done = false ∧ s.disp.restarting = false ∧ (k.kind = .encode ∨ k.kind = .pack) ∧
        (k.kind = .encode → o.progress < ((s.opPlan k).segs.getD k.seg (0, 0)).2 - ((s.opPlan k).segs.getD k.seg (0, 0)).1) ∧
        (s.unit u).cmd = none ∧ (∃ j ∈ s.readyOps, s.preempts j k u = true ∧ s.worst j k = true))
      (fun s => (((s.traceUnit 2 k u).returnOp k false).freeUnit u).happen 0x0102 (opObjects k u) 0 0 1)) ∧
    (∀ o u, Leads (.preempt op)
      (fun s => s.op k = some o ∧ o.unit = some u ∧ o.done = false ∧ s.disp.restarting = false ∧ (k.kind = .encode ∨ k.kind = .pack) ∧
        (k.kind = .encode → o.progress < ((s.opPlan k).segs.getD k.seg (0, 0)).2 - ((s.opPlan k).segs.getD k.seg (0, 0)).1) ∧
        (s.unit u).cmd = none ∧ (∃ j ∈ s.readyOps, s.preempts j k u = true ∧ s.worst j k = true))
      (fun _ t => (t.unit u).op = none ∧ ∃ o', t.op k = some o' ∧ o'.unit = none ∧ o.progress ≤ o'.progress)) ∧
    Answers (.preempt op) (fun s => s.op k = none) (fun s => s) ∧
    (∀ o, Leads (.promote op)
      (fun s => (k.pic, k.row) ∈ s.inFlight k.prog ∧ k ∈ s.rowOps k.prog k.pic k.row ∧ s.ready k = true ∧ 2 ≤ s.level k ∧
        (s.reach ((s.deadline k : Int) - s.remaining k - 24000 + 1).toNat).op k = some o ∧
        (s.reach ((s.deadline k : Int) - s.remaining k - 24000 + 1).toNat).slack k < 24000)
      (fun _ t => ∃ o', t.op k = some o' ∧ o'.raised = true)) ∧
    (∀ o, Answers (.promote op)
      (fun s => (k.pic, k.row) ∈ s.inFlight k.prog ∧ k ∈ s.rowOps k.prog k.pic k.row ∧ s.ready k = true ∧ 2 ≤ s.level k ∧
        (s.reach ((s.deadline k : Int) - s.remaining k - 24000 + 1).toNat).op k = some o ∧
        (s.reach ((s.deadline k : Int) - s.remaining k - 24000 + 1).toNat).slack k < 24000)
      (fun s =>
        let s1 := s.reach ((s.deadline k : Int) - s.remaining k - 24000 + 1).toNat
        ((s1.modOp k (fun o => { o with raised := true })).traceUnit 8 k (o.unit.getD (65536 * 255))).happen 0x0104
          [progId k.prog] 0 0 1)))

/-- The events of units (05 R242, R243, R249, R250, R254, R257): a busy unit that misses its acknowledgement for 2 µs (cause 1) or its
progress (cause 2) faults, and so does one with an internal error (cause 0) that is in service; a report acknowledges; a CTU is coded, with
WPP once the CTUs above it are (06 R290); a completion is taken, but gathered while the dispatcher restarts, which lasts 12 µs; a self-test
ends warm or retired. So these rows complete: ACK_TIMEOUT, PROGRESS_REPORT, PROGRESS_WATCHDOG, UNIT_INTERNAL_ERROR, UNIT_SELF_TEST_DONE,
CTU_COMPLETE, OPERATION_COMPLETE, DISPATCHER_LOCKSTEP_MISMATCH, DISPATCHER_RESTART_END. -/
def Obligations.UnitEventsAct : Prop :=
  (∀ u, isUnit u = true →
    Answers (.ackTimeout u) (fun s => s.busyUnit u = true ∧ (s.unit u).awaitAck = true) (fun s =>
      (s.reach ((s.unit u).lastReport + 2000)).unitFault u 1) ∧
    Leads (.ackTimeout u) (fun s => s.busyUnit u = true ∧ (s.unit u).awaitAck = true) (fun _ t =>
      (t.unit u).state = 2 ∧ (t.unit u).op = none) ∧
    Leads (.progressWatchdog u) (fun s => s.busyUnit u = true) (fun _ t => (t.unit u).state = 2 ∧ (t.unit u).op = none) ∧
    Leads (.unitInternalError u) (fun s => (s.unit u).state ≠ 2) (fun _ t => (t.unit u).state = 2 ∧ (t.unit u).op = none) ∧
    Answers (.ackTimeout u) (fun s => s.busyUnit u = false) (fun s => s) ∧
    Answers (.progressReport u) (fun s => s.busyUnit u = true) (fun s =>
      s.modUnit u (fun x => { x with awaitAck := false, lastReport := s.now })) ∧
    Answers (.progressWatchdog u) (fun s => s.busyUnit u = true) (fun s =>
      (s.reach ((s.unit u).lastReport + s.watchdog u)).unitFault u 2) ∧
    Answers (.unitInternalError u) (fun s => (s.unit u).state ≠ 2 ∧ (s.unit u).op = none) (fun s => (s.chainFail 6).unitFault u 0) ∧
    (∀ k, Answers (.unitInternalError u) (fun s => (s.unit u).state ≠ 2 ∧ (s.unit u).op = some k) (fun s =>
      ((s.ownerPoisons (progId k.prog)).chainFail 6).unitFault u 0)) ∧
    Answers (.unitInternalError u) (fun s => (s.unit u).state = 2) (fun s => s) ∧
    Answers (.unitSelfTestDone u true) (fun s => (s.unit u).state = 3) (fun s =>
      (s.modUnit u (fun y => { y with state := 1, cmd := none, standsFor := none })).completeOpt (s.unit u).cmd 2 0) ∧
    Answers (.unitSelfTestDone u false) (fun s => (s.unit u).state = 3) (fun s =>
      ((s.modUnit u (fun y => { y with state := 2, cmd := none, standsFor := none })).unpermit
        (fun q => q.code = 7 && q.holder = unitId u)).failOpt (s.unit u).cmd 0x0303 (unitId u)) ∧
    (∀ k o y c, Answers (.ctuComplete u)
      (fun s => (s.unit u).op = some k ∧ s.op k = some o ∧ s.pic k.prog k.pic = some y ∧ s.frame k.prog k.pic = some c ∧
        k.kind = .encode ∧ o.done = false ∧ o.progress < (y.plan.segs.getD k.seg (0, 0)).2 - (y.plan.segs.getD k.seg (0, 0)).1 ∧
        s.wppReady k o y = true)
      (fun s => s.codeCtu k o u y c)) ∧
    (∀ k o y c, Leads (.ctuComplete u)
      (fun s => (s.unit u).op = some k ∧ s.op k = some o ∧ s.pic k.prog k.pic = some y ∧ s.frame k.prog k.pic = some c ∧
        k.kind = .encode ∧ o.done = false ∧ o.progress < (y.plan.segs.getD k.seg (0, 0)).2 - (y.plan.segs.getD k.seg (0, 0)).1 ∧
        s.wppReady k o y = true ∧ (s.unit u).cmd = none)
      (fun _ t => (t.unit u).awaitAck = false ∧ ∃ o', t.op k = some o' ∧
        (o'.progress = o.progress + 1 ∨ (o'.progress = o.progress ∧ o.cut = false ∧ o'.cut = true)))) ∧
    (∀ k o, Leads (.operationComplete u)
      (fun s => s.disp.restarting = false ∧ (s.unit u).op = some k ∧ s.op k = some o ∧ o.done = false ∧ (s.unit u).cmd = none ∧
        (k.kind = .encode → ((s.opPlan k).segs.getD k.seg (0, 0)).2 - ((s.opPlan k).segs.getD k.seg (0, 0)).1 ≤ o.progress))
      (fun _ t => (t.unit u).op = none ∧ (t.unit u).awaitAck = false)) ∧
    Answers (.operationComplete u) (fun s => s.disp.restarting = false) (fun s => s.takeCompletion u) ∧
    Answers (.operationComplete u) (fun s => s.disp.restarting = true ∧ (s.unit u).op.isSome = true) (fun s =>
      { s with disp := { s.disp with gathered := s.disp.gathered ++ [u] } })) ∧
  Answers .dispatcherLockstepMismatch (fun s => s.disp.restarting = false) (fun s =>
    { s with disp := { s.disp with restarting := true, restartEnd := s.now + 12000, gathered := [] } }) ∧
  Answers .dispatcherLockstepMismatch (fun s => s.disp.restarting = true) (fun s => s) ∧
  Answers .dispatcherRestartEnd (fun s => s.disp.restarting = true ∧ s.disp.gathered = []) (fun s =>
    let s1 := s.reach s.disp.restartEnd
    { s1 with disp := { s1.disp with restarting := false } }) ∧
  Answers .dispatcherRestartEnd (fun s => s.disp.restarting = true) (fun s =>
    let s1 := s.reach s.disp.restartEnd
    s1.disp.gathered.foldl (fun s u => s.takeCompletion u) { s1 with disp := { s1.disp with restarting := false, gathered := [] } })

/-- Egress events (08): a leg's head packet is released when the first instant that its buckets and its launch
time allow has come (R372, R374); an idle wire takes the next
packet, among them what the firmware sends on Q0 (log entry 172): none while the link is down or the wire is busy, a waiting PTP message first, then the first shaped packet that its launch guard
lets start, then best effort (R380, R382–R384); a packet ends on the wire, with its FCS inverted and counted if its internal check failed
(R370; 12 R535); a best-effort packet that has waited 2 ms is dropped and counted (R381); a link that goes down discards what its legs have
released (R385), and comes up. So these rows complete: SHAPER_ELIGIBLE, WIRE_IDLE, PACKET_END, BE_TIMEOUT, LINK_DOWN, LINK_UP. -/
def Obligations.EgressEventsAct : Prop :=
  (∀ flow leg t l0 p rest, flow < 1024 →
    let l (s : State) : TxLeg := if l0.newSet.isSome = true then l0.update (s.at32 t).now else l0
    let cost (s : State) : Nat := 8 * ((l s).frameLen p + (l s).overhead)
    let instant (s : State) : Nat := max (max p.launch p.passed) ((l s).tLast +
      min (max ((l s).p.wait (cost s)) (if (s.txFlow flow).cls = 0 then (l s).c.wait (cost s) else 0)) 2147483649)
    let there (s : State) : Prop := s.txLeg flow leg = some l0 ∧ l0.queue = p :: rest
    Answers (.shaperEligible flow leg t) (fun s => there s ∧ instant s ≤ (s.at32 t).now) (fun s =>
      (s.at32 t).releaseHead flow leg ((l s).update (instant s)) p rest (cost s) (instant s)) ∧
    Answers (.shaperEligible flow leg t)
      (fun s => there s ∧ instant s ≤ (s.at32 t).now ∧ (s.txFlow flow).cls = 0 ∧ p.muted = false ∧
        ((s.at32 t).subPort l0.port l0.sub).linkUp = true)
      (fun s => (s.at32 t).modLeg flow leg (fun _ =>
        let x := (l s).update (instant s)
        { x with queue := rest, p := x.p.take (cost s), c := x.c.take (cost s), released := x.released ++ [(p, instant s)] })) ∧
    Answers (.shaperEligible flow leg t) (fun s => there s ∧ (s.at32 t).now < instant s) (fun s =>
      (s.at32 t).modLeg flow leg (fun _ => (l s).update (s.at32 t).now)) ∧
    Answers (.shaperEligible flow leg t) (fun s => s.txLeg flow leg = some l0 ∧ l0.queue = []) (fun s => s)) ∧
  (∀ port sub, port < 4 → sub < 4 →
    (∀ t,
      let now (s : State) : State := (s.at32 t).firmwareSends port sub
      let free (s : State) : Prop := ((now s).subPort port sub).linkUp = true ∧ ((now s).subPort port sub).wire = none
      let ptp (s : State) : Prop := ((now s).subPort port sub).ptpWaiting ≠ 0 ∧ (now s).guardOk port sub 110 = true
      let line (s : State) : List (Nat × Nat × Nat × TxPkt) := ((now s).waitingOn port sub).mergeSort shapedBefore
      let may (s : State) (e : Nat × Nat × Nat × TxPkt) : Bool :=
        e.2.2.2.first || (now s).guardOk port sub ((((now s).txLeg e.2.1 e.2.2.1).map (fun l => l.frameLen e.2.2.2 + l.overhead)).getD 0)
      let counted (s : State) : State :=
        ((line s).takeWhile (fun e => !may s e)).foldl (fun s e => s.countLeg e.2.1 e.2.2.1 5 1) (now s)
      Answers (.wireIdle port sub t) (fun s => ¬free s) now ∧
      Answers (.wireIdle port sub t) (fun s => free s ∧ ptp s) (fun s =>
        ((now s).modSub port sub (fun x => { x with
          ptpWaiting := x.ptpWaiting - 1, wire := some (none, (now s).now + (now s).wireTime port 110) })).emit (.wirePtp port sub)) ∧
      (∀ e, Answers (.wireIdle port sub t) (fun s => free s ∧ ¬ptp s ∧ (line s).find? (may s) = some e) (fun s =>
        (counted s).startShaped e.2.1 e.2.2.1 e.2.2.2)) ∧
      (∀ q b, Answers (.wireIdle port sub t)
        (fun s => free s ∧ ¬ptp s ∧ (line s).find? (may s) = none ∧ ((now s).subPort port sub).bestQueue = some (q, b))
        (fun s => if (now s).guardOk port sub ((now s).beBytes b) = true then (counted s).startBe port sub q b else (counted s).holdBe b)) ∧
      Answers (.wireIdle port sub t)
        (fun s => free s ∧ ¬ptp s ∧ (line s).find? (may s) = none ∧ ((now s).subPort port sub).bestQueue = none) counted) ∧
    (∀ e at_, Answers (.packetEnd port sub e) (fun s => (s.subPort port sub).wire = some (none, at_)) (fun s =>
      (s.reach at_).modSub port sub (fun x => { x with wire := none }))) ∧
    (∀ f leg at_ p x e,
      let ended (s : State) : State := (s.reach at_).modSub port sub (fun x => { x with wire := none })
      let late (s u : State) : Option Int := match u.egress.trains.find? (fun t => t.has p f leg) with
        | some t => if t.prog < 16 then
            some (((x + s.wireTime port ((((ended s).txLeg f leg).map (fun l => l.frameLen p)).getD 0) : Nat) : Int) - t.windowEnd) else none
        | none => none
      let sent (s : State) : List Byte := (((ended s).txLeg f leg).map (fun l => l.frame ((ended s).txFlow f) p)).getD []
      let off (s : State) (frame : List Byte) : State :=
        ((ended s).modLeg f leg (fun l => { l with sending := none })).emit (.wire port sub f leg frame)
      let there (s : State) : Prop :=
        (s.subPort port sub).wire = some (some (f, leg), at_) ∧ ((ended s).txLeg f leg).bind TxLeg.sending = some (p, x)
      Answers (.packetEnd port sub true) there (fun s => (off s (sent s)).packetGone f leg p (late s (off s (sent s)))) ∧
      Answers (.packetEnd port sub e) (fun s => there s ∧ e = false) (fun s =>
        let frame := (sent s).take ((sent s).length - 4) ++ ((sent s).drop ((sent s).length - 4)).map (fun b => b ^^^ 0xFF)
        let s3 := (((off s frame).countLeg f leg 6 1).chainFail 8).raise 0x0903 (txId f) leg (((s.txFlow f).seq0 + p.k) % 65536)
        s3.packetGone f leg p (late s s3))) ∧
    (∀ e, Answers (.packetEnd port sub e) (fun s => (s.subPort port sub).wire = none) (fun s => s)) ∧
    (∀ q b rest f leg pk, q < 8 → Answers (.beTimeout port sub q)
      (fun s => (s.subPort port sub).beQueues.get [] q = b :: rest ∧ b.flow = some (f, leg) ∧ b.pkt = some pk)
      (fun s => ((((s.reach (b.entered + 2000000)).modSub port sub (fun x =>
        { x with beQueues := x.beQueues.set q rest })).countLeg f leg 4 1).freePacket pk).closeDone f)) ∧
    Leads (.linkDown port sub) (fun s => ∀ e ∈ s.egress.flows, ∀ l ∈ e.2.legs, l.port = port → l.sub = sub → l.released = []) (fun s t =>
      t = s.modSub port sub (fun x => { x with linkUp := false })) ∧
    Answers (.linkDown port sub) (fun _ => True) (fun s =>
      (s.egress.flows.flatMap (fun e => (e.2.legs.zipIdx).flatMap (fun l =>
        if l.1.port = port ∧ l.1.sub = sub then l.1.released.map (fun r => (e.1, l.2, r.1)) else []))).foldl
          (fun s e => ((s.modLeg e.1 e.2.1 (fun l => { l with released := l.released.tail })).countLeg e.1 e.2.1 2 1).packetGone
            e.1 e.2.1 e.2.2 none)
        (s.modSub port sub (fun x => { x with linkUp := false }))) ∧
    Answers (.linkUp port sub) (fun _ => True) (fun s => s.modSub port sub (fun x => { x with linkUp := true })))

/-- The twin's events (10): a device sends its heartbeat on each path that it can send on, a period after the last one (R438); a heartbeat
shows its sender, and one of the named peer counts (R439); three periods without one lose a path, with its event, and the last one the peer
(R439, R440); what is not acknowledged for 20 µs is sent again (R442); a TAKE without its answer ends after 100 µs (R460). So these rows
complete: HEARTBEAT_DUE, HEARTBEAT, PATH_LOST, JOURNAL_ACK_TIMEOUT, TAKE_DONE_TIMEOUT. -/
def Obligations.TwinPathsAct : Prop :=
  (∀ path, path < 2 →
    let due (s : State) : Nat := ((s.path path).sentHb.map (fun t => t + hbPeriod path)).getD s.now
    let ready (s : State) : Prop := if path = 0 then (s.braid 4).enabled = true else s.twin.mgPorts ≠ 0
    Answers (.heartbeatDue path) (fun s => ¬ready s) (fun s => s) ∧
    Answers (.heartbeatDue path) (fun s => ready s ∧ due s ≤ (s.reach (due s)).now) (fun s =>
      let s1 := s.reach (due s)
      let s2 := s1.setPath path { s1.path path with sentHb := some s1.now }
      (s2.tetherOn path 1 (leBytes 8 s2.nv.uid ++ leBytes 1 s2.twin.role ++
        leBytes 1 (b2n s2.twin.pathA.up + 2 * b2n s2.twin.pathB.up) ++ leBytes 2 s2.mutedMask ++ leBytes 4 s2.twin.term ++
        leBytes 4 s2.ts ++ leBytes 4 s2.twin.lastEpoch ++ leBytes 8 s2.lastJournaled)).trySwap) ∧
    (∀ t (payload : List Byte), t < two32 → payload.length = 32 →
      let s1 (s : State) : State := { s.at32 t with twin := { (s.at32 t).twin with peerSeenUid := pktU payload 0 8 } }
      Answers (.heartbeat path t payload) (fun s => pktU payload 0 8 ≠ (s.at32 t).twin.peerUid) s1 ∧
      Answers (.heartbeat path t payload) (fun s => pktU payload 0 8 = (s.at32 t).twin.peerUid) (fun s =>
        let s2 := ((s1 s).beat path).learnPeer
        State.findSplit { s2 with twin := { s2.twin with
          peerRole := pktU payload 8 1, peerTerm := pktU payload 12 4, peerMuted := pktU payload 10 2,
          tbDiff := if path = 0 then signed 32 (s2.ts + two32 - pktU payload 16 4) else s2.twin.tbDiff } }
            (pktU payload 8 1) (pktU payload 12 4))) ∧
    (∀ l, Answers (.pathLost path)
      (fun s => (s.path path).up = true ∧ (s.path path).lastHb = some l ∧ l + 3 * hbPeriod path ≤ (s.reach (l + 3 * hbPeriod path)).now)
      (fun s =>
        let n := satAdd 32 (s.path path).losses 1
        let s2 := ((s.reach (l + 3 * hbPeriod path)).setPath path { s.path path with up := false, timely := 0, losses := n }).raise
          (if path = 0 then 0x0703 else 0x0705) deviceId n 0
        if (s2.path (1 - path)).up = true then s2 else s2.peerGone)) ∧
    Answers (.pathLost path) (fun s => (s.path path).up = false) (fun s => s)) ∧
  (∀ pos e, pos < 2 ^ 64 →
    Answers (.journalAckTimeout pos)
      (fun s => s.twin.unacked.find? (fun e => e.1 == pos) = some e ∧ s.replicates = true ∧ e.2.2 + 20000 ≤ (s.reach (e.2.2 + 20000)).now)
      (fun s =>
        let s1 := s.reach (e.2.2 + 20000)
        let l := s1.twin.unacked.map (fun (x : Nat × List Byte × Nat) => if x.1 = pos then (x.1, x.2.1, s1.now) else x)
        State.tetherSend { s1 with twin := { s1.twin with unacked := l } } 3 (leBytes 8 pos ++ e.2.1)) ∧
    Answers (.journalAckTimeout pos) (fun s => s.twin.unacked.find? (fun e => e.1 == pos) = none) (fun s => s)) ∧
  (∀ q seq,
    Answers .takeDoneTimeout (fun s => s.twin.exchange = some (2, q, seq)) (fun s =>
      let s1 := s.reach (s.twin.takeAt + 100000)
      ({ s1 with twin := { s1.twin with exchange := none } }).completeId (q, seq) 0x0302 0)) ∧
  Answers .takeDoneTimeout (fun s => s.twin.exchange = none) (fun s => s)

/-- The messages of the tether (10 R431, R442, R444, R448–R450, R458, R460): a follower journals a command and takes a commit note, a device
that will follow holds them; the lead takes an acknowledgement; epoch data and an epoch's end are taken by a device that takes epochs, which
answers an end with what it lacks; the first and last messages of SWAP, TAKE and LEAVE change the roles. So these rows complete: COMMAND,
JOURNAL_ACK, COMMIT_NOTE, JOIN_EPOCH_SEND, EPOCH_DATA, EPOCH_END, EPOCH_ACK, ROLE, ROW_RECORD. -/
def Obligations.TwinMessagesAct : Prop :=
  (∀ payload : List Byte, 44 ≤ payload.length →
    Answers (.command payload) (fun s => s.isFollower = true) (fun s =>
      (s.journalCommand (pktU payload 0 8) (payload.drop 8)).drainNotes) ∧
    Answers (.command payload)
      (fun s => s.isFollower = false ∧ s.willFollow = true ∧ ∀ e ∈ s.twin.held, e.1 ≠ pktU payload 0 8)
      (fun s => { s with twin := { s.twin with held := s.twin.held ++ [(pktU payload 0 8, payload.drop 8)] } })) ∧
  (∀ payload : List Byte, 44 ≤ payload.length →
    let pos := pktU payload 0 8
    let h := headerOf (payload.drop 8)
    Leads (.command payload)
      (fun s => s.isFollower = true ∧ s.twin.notes = [] ∧ s.holdsPos pos h = false ∧
        ∀ r, ({ cmdOf (payload.drop 8) pos r [] with phase := .accepted } : Cmd).toFlash = false)
      (fun s t => t.twin.journaled = max s.twin.journaled pos ∧ t.hif.nextPos = max s.hif.nextPos (pos + 1) ∧
        ∃ d ∈ t.hif.cmds, d.pos = pos ∧ d.q = (cmdOf (payload.drop 8) pos {} []).q ∧ d.phase = .accepted)) ∧
  (∀ payload : List Byte, payload.length = 8 →
    Answers (.journalAck payload) (fun s => s.isLead = false) (fun s => s) ∧
    Leads (.journalAck payload) (fun s => s.isLead = true ∧ ∀ c ∈ s.hif.cmds, c.replicated = false) (fun s t =>
      t = State.trySwap { s with twin := { s.twin with unacked := s.twin.unacked.filter (fun e => e.1 != pktU payload 0 8) } })) ∧
  (∀ payload : List Byte, payload.length = 28 →
    Answers (.commitNote payload)
      (fun s => s.isFollower = true ∧ s.twin.applied < pktU payload 8 8 ∧ ∀ e ∈ s.twin.notes, e.2.commitSeq ≠ pktU payload 8 8)
      (fun s => ({ s with twin := { s.twin with notes := s.twin.notes ++ [(pktU payload 0 8, ({
        commitSeq := pktU payload 8 8, effect := pktU payload 16 4, kind := pktU payload 20 1, tb := pktU payload 21 1 % 4,
        status := pktU payload 22 2, detail := pktU payload 24 4 } : Note))] } }).drainNotes) ∧
    Answers (.commitNote payload) (fun s => s.isFollower = false ∧ s.willFollow = false) (fun s => s)) ∧
  (Answers .joinEpochSend (fun s => s.mayJoin = true) (fun s =>
      let bytes := Config.joinBytes (s.draw.2.joinState s.draw.1)
      let data : Tab Byte := (bytes.zipIdx).map (fun e => (e.2, BitVec.ofNat 8 e.1))
      s.draw.2.sendEpoch 0 (s.hif.nextPos - 1) s.draw.2.joinInstant bytes.length data) ∧
    Answers .joinEpochSend (fun s => s.mayJoin = false) (fun s => s)) ∧
  Leads .joinEpochSend (fun s => s.mayJoin = true) (fun s t => t.twin.nextEpoch = (s.twin.nextEpoch + 1) % two32 ∧
    ∃ b, t.twin.sending = s.twin.sending ++ [b] ∧ b.number = s.twin.nextEpoch ∧ b.kind = 0 ∧ b.pos = s.hif.nextPos - 1) ∧
  (∀ payload : List Byte, 12 ≤ payload.length →
    Answers (.epochData payload) (fun s => s.takesEpochs = true) (fun s =>
      let data := ((payload.drop 12).zipIdx).foldl
        (fun (t : Tab Byte) e => t.set (pktU payload 4 8 + e.2) e.1) (s.epochIn (pktU payload 0 4)).data
      { s with twin := { s.twin with receiving := s.twin.receiving.filter (fun b => b.number ≠ pktU payload 0 4) ++
        [{ s.epochIn (pktU payload 0 4) with data := data }] } }) ∧
    Answers (.epochData payload) (fun s => s.takesEpochs = false) (fun s => s)) ∧
  (∀ payload : List Byte, payload.length = 32 →
    let b (s : State) : EpochBuf := { s.epochIn (pktU payload 0 4) with
      kind := pktU payload 4 1, length := pktU payload 8 8, apply := pktU payload 20 4, pos := pktU payload 24 8 }
    let takes (s : State) : Prop := s.takesEpochs = true
    let whole (s : State) : Prop := (b s).data.length = (b s).length ∧ ∀ e ∈ (b s).data, e.1 < (b s).length
    Answers (.epochEnd payload) (fun s => takes s ∧ ¬whole s) (fun s => s.epochFailed (b s).number 2) ∧
    Answers (.epochEnd payload) (fun s => takes s ∧ whole s ∧ crc32c (b s).bytes ≠ pktU payload 16 4) (fun s =>
      (s.chainFail 11).epochFailed (b s).number 1) ∧
    Answers (.epochEnd payload) (fun s => takes s ∧ whole s ∧ crc32c (b s).bytes = pktU payload 16 4) (fun s =>
      s.epochVerified (b s)) ∧
    Leads (.epochEnd payload) (fun s => takes s ∧ whole s ∧ crc32c (b s).bytes = pktU payload 16 4) (fun s t =>
      t.twin.lastEpoch = (b s).number ∧ t.twin.rxFails = 0 ∧
        ((b s).kind = 0 → t.twin.joinIn = some { b s with verified := true } ∧ t.twin.joinApply = some (s.extend (b s).apply)) ∧
        ((b s).kind ≠ 0 → t.twin.verified = s.twin.verified ++ [{ b s with verified := true }]))) ∧
  (∀ (payload : List Byte) b, payload.length = 5 →
    let n := pktU payload 0 4
    let rest (s : State) : List EpochBuf := s.twin.sending.filter (fun x => x.number != n)
    Answers (.epochAck payload)
      (fun s => s.twin.sending.find? (fun x => x.number == n) = some b ∧ pktU payload 4 1 = 0 ∧ b.kind = 0)
      (fun s => { s with twin := { s.twin with sending := rest s, lastEpoch := n, joinApply := some b.apply } }) ∧
    Answers (.epochAck payload)
      (fun s => s.twin.sending.find? (fun x => x.number == n) = some b ∧ pktU payload 4 1 ≠ 0 ∧ b.fails + 1 < 3)
      (fun s => (({ s with twin := { s.twin with sending := rest s } }).twinCount 6).resendEpoch b)) ∧
  (∀ payload : List Byte, payload.length = 5 →
    Answers (.role payload) (fun s => pktU payload 4 1 = 1 ∧ s.twin.role = 3) (fun s =>
      (s.becomeLead (pktU payload 0 4) false).sendRole (pktU payload 0 4) 2) ∧
    Leads (.role payload) (fun s => pktU payload 4 1 = 1 ∧ s.twin.role = 3 ∧ s.twin.notes = []) (fun _ t =>
      t.twin.role = 2 ∧ t.twin.term = pktU payload 0 4 % two32) ∧
    (∀ q seq, Leads (.role payload)
      (fun s => pktU payload 4 1 = 2 ∧ s.twin.role = 2 ∧ s.twin.exchange = some (3, q, seq))
      (fun _ t => t.twin.role = 3 ∧ t.twin.term = pktU payload 0 4 ∧ t.findCmd q seq = none)) ∧
    (∀ q seq, Answers (.role payload)
      (fun s => pktU payload 4 1 = 2 ∧ s.twin.role = 2 ∧ s.twin.exchange = some (3, q, seq))
      (fun s => (s.becomeFollower (pktU payload 0 4)).completeId (q, seq) 2 (pktU payload 0 4))) ∧
    Answers (.role payload) (fun s => pktU payload 4 1 = 5 ∧ s.twin.role = 3 ∧ s.twin.exchange = none) (fun s =>
      s.becomeLead (s.twin.term + 1) true)) ∧
  (∀ payload : List Byte, 12 ≤ payload.length →
    Answers (.rowRecord payload)
      (fun s => s.formed = true ∧ ((s.prog (pktU payload 0 1 % 16)).muted.isSome = true ∨ (s.prog (pktU payload 0 1 % 16)).follow = true ∨
        pktU payload 4 4 < (s.prog (pktU payload 0 1 % 16)).followEnd))
      (fun s => s.modProg (pktU payload 0 1 % 16) (fun x => { x with
        records := (x.records.filter (fun e => pktU payload 4 4 < e.1 + 16 && !(e.1 == pktU payload 4 4 && e.2.1 == pktU payload 2 2))) ++
          [(pktU payload 4 4, pktU payload 2 2, payload)] })) ∧
    Answers (.rowRecord payload) (fun s => s.formed = false) (fun s => s))

/-- The DRAM's own events (11): a due refresh of an idle group is issued with its debt, one that may be postponed adds to the debt (R483,
R484); a reading at the threshold doubles a stack's rate once, with its event (R485, R486); an eye measurement moves the delays by a step at
most, and a low margin asks for retraining (R491, R492); the third C/A parity failure in 1 µs retires the channel (R494); a slice that finds an eye of 0.25 UI and 25 mV or more ends a
retraining, and becomes the active set of the current rate, a lesser one retires the channel (R489, R494); a stack that all its channels are trained for passes to the new rate (R498); an idle page closes (R482); a copy onto a spare ends, its
mirrored pages with the words of their other copies (R495). So these rows complete: REFRESH_DUE, DRAM_TEMP_READING, EYE_TRACKING, CA_PARITY_ERROR, RETRAIN_SLICE, MEM_RATE_SWITCH, MIRROR_COPY_COMPLETE,
PAGE_IDLE_EXPIRY. -/
def Obligations.DramEventsAct : Prop :=
  (∀ stack channel group, stack < 2 → channel < 18 → group < 4 →
    let ch := 32 * stack + channel
    let due (s : State) : Nat := (s.channel ch).debt.get 0 group + 1
    let owed (s : State) : State := s.modChannel ch (fun x => { x with debt := x.debt.set group (due s) })
    let runs (s : State) : Prop := (s.channel ch).retired = false ∧ (s.channel ch).selfRefresh = false
    Answers (.refreshDue stack channel group true) runs (fun s => (owed s).issueRefresh ch group (due s)) ∧
    Leads (.refreshDue stack channel group true) runs (fun _ t => (t.channel ch).debt.get 0 group = 0) ∧
    Answers (.refreshDue stack channel group false)
      (fun s => runs s ∧ s.mem.doubled.getD stack false = false ∧ due s ≤ s.mem.postpone)
      (fun s => { owed s with mem := (owed s).mem.postDecision stack false }) ∧
    Answers (.refreshDue stack channel group false)
      (fun s => runs s ∧ s.mem.doubled.getD stack false = false ∧ s.mem.postpone < due s)
      (fun s =>
        let s2 := (owed s).issueRefresh ch group (due s - s.mem.postpone)
        { s2 with mem := s2.mem.postDecision stack true })) ∧
  (∀ stack (temp : Int), stack < 2 → -32768 ≤ temp → temp ≤ 32767 →
    Leads (.dramTempReading stack temp)
      (fun s => s.mem.doubled.getD stack false = false ∧ (s.mem.threshold : Int) * 16 ≤ temp) (fun s t =>
        t = (stackChannels stack).foldl
          (fun s ch => if 160 ≤ (temp - (s.channel ch).trainedTemp).natAbs then s.autoRetrain ch else s)
          ((State.doubleDebts { s with mem := { s.mem with
            temps := s.mem.temps.set stack temp, doubled := s.mem.doubled.set stack true } } stack).raise
              0x0801 deviceId stack (wrapInt 32 temp)))) ∧
  (∀ ch (eye : EyeScan), isChannel ch = true →
    let seen (s : State) : State := s.modChannel ch (fun x => { x with
      delays := (trackDelay x.delays.1 eye.read, trackDelay x.delays.2 eye.write), margin := eye.width })
    Answers (.eyeTracking ch eye) (fun s => s.inService ch = true ∧ 15 * 256 ≤ eye.width * 100) seen ∧
    Answers (.eyeTracking ch eye) (fun s => s.inService ch = true ∧ eye.width * 100 < 15 * 256) (fun s => (seen s).autoRetrain ch) ∧
    Answers (.eyeTracking ch eye) (fun s => s.inService ch = false) (fun s => s)) ∧
  (∀ ch t, isChannel ch = true → t < two32 →
    let fails (s : State) : List Nat :=
      (((s.at32 t).channel ch).caFails.filter (fun x => (s.at32 t).now ≤ x + 1000)) ++ [(s.at32 t).now]
    let noted (s : State) : State := (s.at32 t).modChannel ch (fun x => { x with caFails := fails s })
    let there (s : State) : Prop := ((s.at32 t).channel ch).retired = false
    Answers (.caParityError t ch) (fun s => there s ∧ (fails s).length < 3) noted ∧
    Answers (.caParityError t ch) (fun s => there s ∧ 3 ≤ (fails s).length) (fun s => (noted s).retireChannel ch 1) ∧
    Leads (.caParityError t ch) (fun s => there s ∧ 3 ≤ (fails s).length) (fun _ u =>
      (u.channel ch).retired = true ∧ ch ∈ u.nv.retired)) ∧
  (∀ ch (m : EyeScan) rate, isChannel ch = true →
    let taken (s : State) (x : Channel) : Channel := { x with
      retraining := none, sets := x.sets.set rate (some m), trainedTemp := s.mem.temps.getD (ch / 32) 0 }
    let ended (s : State) : State := (s.unpermit (fun p => p.code = 2 && p.holder = channelId ch)).takePhy (channelId ch)
    let passes : Prop := 64 ≤ m.width ∧ 25 ≤ m.height
    Answers (.retrainSlice ch (some m))
      (fun s => (s.channel ch).retraining = some (rate, none) ∧ passes ∧ rate = s.mem.rates.getD (ch / 32) 0 ∧
        rate < (s.channel ch).sets.length)
      (fun s => ended (s.modChannel ch (fun x => { taken s x with margin := m.width, delays := (m.read, m.write) }))) ∧
    Answers (.retrainSlice ch (some m))
      (fun s => (s.channel ch).retraining = some (rate, none) ∧ passes ∧ rate ≠ s.mem.rates.getD (ch / 32) 0)
      (fun s => ended (s.modChannel ch (taken s))) ∧
    (∀ cmd, Answers (.retrainSlice ch (some m)) (fun s => (s.channel ch).retraining = some (rate, cmd) ∧ ¬passes) (fun s =>
      s.retireChannel ch 0)) ∧
    Answers (.retrainSlice ch none) (fun _ => True) (fun s => s)) ∧
  (∀ f, Leads (.memRateSwitch 0)
    (fun s => s.mem.freq = some f ∧ f.stage = 0 ∧ ∀ ch ∈ allChannels, ((s.channel ch).retraining.bind Prod.snd) ≠ some f.cmd)
    (fun s t => t.mem.freq = some { f with stage := 1, since := s.now } ∧ ∃ l : List Nat, t.mem.rates = l.set 0 f.rate)) ∧
  (∀ ch, isChannel ch = true →
    Answers (.mirrorCopyComplete ch) (fun s => ch ∈ s.mem.copying) (fun s =>
      let s1 := (((s.logicalOf ch).map s.mirroredOn).getD []).foldl State.renewPage s
      State.unpermit { s1 with mem := { s1.mem with copying := s1.mem.copying.filter (fun x => x != ch) } }
        (fun p => p.code = 3 && p.holder = channelId ch)) ∧
    Leads (.mirrorCopyComplete ch) (fun s => ch ∈ s.mem.copying) (fun _ t =>
      ch ∉ t.mem.copying ∧ ∀ p ∈ t.power.permits, ¬(p.code = 3 ∧ p.holder = channelId ch)) ∧
    (∀ bank row t, bank < 16 →
      Answers (.pageIdleExpiry ch bank) (fun s => (s.channel ch).openRows.find bank = some (row, t)) (fun s =>
        (s.reach t).modChannel ch (fun x => { x with openRows := x.openRows.erase bank }))))

/-- Error correction (11): a read of a channel in service is decoded (R499–R501): a clean written word reaches its reader, one whose W bit
is clear counts as unwritten (R502), and reaches it as bad; a read of a retired channel is served from the mirror or ends as
uncorrectable (R494; log entry 177); the scrubber reads the patrol's word and moves on (R514); a
word that is correctable 16 times is written back (R508, R509); a pending row is repaired while its bank has a spare row, which the flash
keeps, and gets its event (R511, R512); an ECC test starts by its command or its register and ends with its decoding (R516). So these rows
complete: DRAM_READ_RETURN, SCRUB_READ, KEEP_LOG_WRITE_BACK, ROW_REPAIR, ECT_GO, ECC_TEST_DONE. -/
def Obligations.ErrorCorrectionActs : Prop :=
  (∀ t ch ca raw (op : OpName), isChannel ch = true → ca < 2 ^ 30 → t < two32 → op.prog < 16 →
    let word (s : State) : Nat := raw.getD ((s.at32 t).storedWord ch ca)
    let d (s : State) : Decoded := eccDecode (word s)
    let page (s : State) : Option (Nat × Nat) := (s.at32 t).pageAt ch ca
    let read (s : State) : State := ((s.at32 t).touchRow ch ca).watchRead ch ca false false
    let clean (s : State) : Prop :=
      ((s.at32 t).channel ch).retired = false ∧ (d s).kind = 0 ∧ ((d s).w = true ∨ (s.at32 t).awaitsCopy ch = false)
    let other : Prop := op.kind ≠ 8 ∧ op.kind ≠ 6
    let counted (s : State) : State := { read s with mem := { (read s).mem with unwritten := satAdd 32 (read s).mem.unwritten 1 } }
    Answers (.dramReadReturn t ch ca raw op) clean (fun s => (read s).serveWord ch ca (page s) op (word s)) ∧
    Answers (.dramReadReturn t ch ca raw op) (fun s => clean s ∧ other ∧ (d s).w = true ∧ opKey op = none) read ∧
    (∀ k, Answers (.dramReadReturn t ch ca raw op) (fun s => clean s ∧ other ∧ (d s).w = true ∧ opKey op = some k) (fun s =>
      (read s).fillSram k (word s) (d s))) ∧
    (∀ k, Answers (.dramReadReturn t ch ca raw op) (fun s => clean s ∧ other ∧ (d s).w = false ∧ opKey op = some k) (fun s =>
      (counted s).readerBad k (page s) (ca % 65536) true)) ∧
    Answers (.dramReadReturn t ch ca raw op) (fun s => clean s ∧ other ∧ (d s).w = false ∧ opKey op = none) counted ∧
    Answers (.dramReadReturn t ch ca raw op)
      (fun s => ((s.at32 t).channel ch).retired = true ∧ ((s.at32 t).channel ch).was = none) (fun s => s.at32 t) ∧
    (∀ c, Answers (.dramReadReturn t ch ca raw op)
      (fun s => ((s.at32 t).channel ch).retired = true ∧ ((s.at32 t).channel ch).was = some c)
      (fun s =>
        let s0 := s.at32 t
        let home := s0.mem.homeOf (c, ca / 65536)
        let copy := s0.mirrorWord home (ca % 65536)
        (s0.fromMirror home (ca % 65536) copy).serveWord ch ca (some home) op (copy.getD (eccPoison 0))))) ∧
  (∀ raw, Answers (.scrubRead raw) (fun s => s.patrolWord = none) (fun s => s)) ∧
  (∀ raw ch w, Answers (.scrubRead raw)
    (fun s => s.patrolWord = some (ch, w) ∧ (eccDecode (raw.getD (s.storedWord ch (8 * w)))).kind = 0 ∧
      (eccDecode (raw.getD (s.storedWord ch (8 * w)))).w = true)
    (fun s =>
      let s2 := (s.touchRow ch (8 * w)).watchRead ch (8 * w) false true
      { s2 with mem := s2.mem.patrolNext (s.patrolled.getLastD 0) ch w })) ∧
  (∀ i e, i < 64 →
    (∀ ca, Answers (.keepLogWriteBack i)
      (fun s => s.mem.table.find i = some e ∧ e.kind = 0 ∧ 16 ≤ e.hits ∧ (e.state = 0 ∨ e.state = 2) ∧
        s.wordAt e.channel e.location = some ca)
      (fun s => (s.writeWord e.channel ca (eccDecode (s.storedWord e.channel ca)).word).enterWatch i)) ∧
    Answers (.keepLogWriteBack i) (fun s => s.mem.table.find i = some e ∧ e.hits < 16) (fun s => s) ∧
    (let bank := bits e.location 16 13
     let used (s : State) : Nat := ((s.channel e.channel).repairs.filter (fun r => r.1 = bank)).length
     Answers (.rowRepair i)
      (fun s => s.mem.table.find i = some e ∧ e.state = 3 ∧ s.channelBusy e.channel = false ∧ 8 ≤ used s)
      (fun s => (s.modEntry i (fun e => { e with state := 5 })).raise 0x080A (channelId e.channel) e.location i) ∧
     Leads (.rowRepair i)
      (fun s => s.mem.table.find i = some e ∧ e.state = 3 ∧ s.channelBusy e.channel = false ∧ used s < 8)
      (fun s t => t.nv.repairs = s.nv.repairs.set e.channel ((s.channel e.channel).repairs ++ [(bank, bits e.location 31 17)])) ∧
     Answers (.rowRepair i) (fun s => s.mem.table.find i = some e ∧ e.state ≠ 3) (fun s => s))) ∧
  (∀ v, v < two32 →
    Answers (.ectGo v) (fun s => bit v 0 = true ∧ s.mem.ectBusy = false) (fun s => s.startEct {
      channel := s.mem.ectTarget, word := s.mem.ectOffset, data := s.mem.ectData,
      flips := s.mem.ectFlip2 * 2 ^ 64 + s.mem.ectFlip1 * two32 + s.mem.ectFlip0, cmd := none }) ∧
    Answers (.ectGo v) (fun s => bit v 0 = false ∨ s.mem.ectBusy = true) (fun s => s)) ∧
  (∀ x, Leads .eccTestDone
    (fun s => s.mem.ectTest = some x ∧ isChannel x.channel = true ∧ (s.channel x.channel).retired = false ∧ x.cmd = none)
    (fun s t =>
      let s1 := (({ s with mem := { s.mem with ectBusy := false, ectTest := none } } : State)).modChannel x.channel
        (fun y => { y with training := y.training.set x.word (eccEncode x.data 1 ^^^ x.flips) })
      t = { s1 with mem := s1.mem.ectDecoded (eccDecode (eccEncode x.data 1 ^^^ x.flips)) }))

/-- Verification units and audio inputs (12 R525; 13 R545–R548, R563): a DRAM tap reads the words that are left and ends; a subframe of an
enabled input is taken at its time; a missing preamble is finding 1; a channel-status block with a good CRCC is held; a measurement window
ends. So these rows complete: CV_DRAM_TAP_END, SUBFRAME, PREAMBLE_TIMEOUT, CHANNEL_STATUS_BLOCK, MEASUREMENT_WINDOW_END. -/
def Obligations.AudioInputsAct : Prop :=
  (∀ u, 8 ≤ u → u < 16 →
    Answers (.cvDramTapEnd u) (fun s => (s.cvUnit u).tap = 1) (fun s =>
      (State.tapRest u (((s.cvUnit u).da + (s.cvUnit u).dramLen - (s.cvUnit u).at_) / 8) s).endDramTap u) ∧
    Answers (.cvDramTapEnd u) (fun s => (s.cvUnit u).tap ≠ 1) (fun s => s)) ∧
  (∀ i ch t smp, i < 8 → ch < 2 → t < two32 →
    Answers (.subframe i ch t smp true) (fun s => ((s.at32 t).audioIn i).enabled = true) (fun s => (s.at32 t).badSubframe i ch) ∧
    Answers (.subframe i ch t smp false) (fun s => ((s.at32 t).audioIn i).enabled = true) (fun s =>
      (s.at32 t).goodSubframe i ch (signed 24 (wrapInt 24 smp))) ∧
    (∀ e, Answers (.subframe i ch t smp e) (fun s => ((s.at32 t).audioIn i).enabled = false) (fun s => s.at32 t))) ∧
  (∀ i t, i < 8 →
    Answers (.preambleTimeout i)
      (fun s => (s.audioIn i).enabled = true ∧ (s.audioIn i).state ≠ 1 ∧ (s.audioIn i).lastA = some t)
      (fun s =>
        let hz := if classHz (s.audioIn i).cls = 0 then 48000 else classHz (s.audioIn i).cls
        (s.reach (t + 2000000000 / hz)).audioFinding i 1) ∧
    Answers (.preambleTimeout i)
      (fun s => (s.audioIn i).enabled = true ∧ (s.audioIn i).state ≠ 1 ∧ (s.audioIn i).lastA = none)
      (fun s => s.audioFinding i 1) ∧
    Leads (.preambleTimeout i)
      (fun s => (s.audioIn i).enabled = true ∧ (s.audioIn i).state ≠ 1 ∧ s.routesFrom i = [])
      (fun _ t => (t.audioIn i).state = 1 ∧ (t.audioIn i).lost = true ∧ (t.audioIn i).lastA = none ∧ (t.audioIn i).clean = 0) ∧
    Answers (.preambleTimeout i) (fun s => (s.audioIn i).enabled = false ∨ (s.audioIn i).state = 1) (fun s => s)) ∧
  (∀ i ch (b u : List Byte), i < 8 → ch < 2 → b.length = 24 → u.length = 24 →
    Answers (.channelStatusBlock i ch b u)
      (fun s => (s.audioIn i).enabled = true ∧ crcOf 3 (b.take 23) ≠ (b.getD 23 0).toNat)
      (fun s => ((s.modIn i (fun x => { x with user := x.user.set ch u })).chainFail 13).modIn i (fun x => { x with csErr := satAdd 16 x.csErr 1 })) ∧
    Leads (.channelStatusBlock i ch b u)
      (fun s => (s.audioIn i).enabled = true ∧ crcOf 3 (b.take 23) = (b.getD 23 0).toNat ∧ s.routesFrom i = [])
      (fun s t => (t.audioIn i).cs = (s.audioIn i).cs.set ch b ∧ (t.audioIn i).user = (s.audioIn i).user.set ch u ∧
        (t.audioIn i).data = (b.getD 0 0).toNat.testBit 1 ∧ (t.audioIn i).csErr = (s.audioIn i).csErr)) ∧
  (∀ i hz, i < 8 → hz < 2 ^ 18 →
    Answers (.measurementWindowEnd i hz) (fun s => (s.audioIn i).enabled = false) (fun s => s)) ∧
  (∀ i hz, i < 8 → hz < 2 ^ 18 → Leads (.measurementWindowEnd i hz)
    (fun s => (s.audioIn i).enabled = true ∧ (s.audioIn i).cls = 0 ∧ (s.audioIn i).window = none) (fun s t =>
      ∃ u : State, t = u.reportFinding i 0 ∧ (u.audioIn i).measHz = 0 ∧ (u.audioIn i).cls = 0 ∧ (u.audioIn i).clean = 0 ∧
        (u.audioIn i).dirty = false ∧
        u.now = (s.reach (if (s.audioIn i).winEnd = 0 then windowEnd s.now else (s.audioIn i).winEnd)).now)) ∧
  (∀ hz, hz < 2 ^ 18 → Leads (.measurementWindowEnd 8 hz)
    (fun s => (s.audioIn 8).cls = 0 ∧ classOf hz = 0) (fun s t =>
      ∃ u : State, t = u.reportFinding 8 hz ∧ u.audio.mclkMeas = mclkClass hz ∧ (u.audioIn 8).measHz = hz ∧ (u.audioIn 8).clean = 0 ∧
        u.now = (s.reach (if (s.audioIn 8).winEnd = 0 then windowEnd s.now else (s.audioIn 8).winEnd)).now))

/-- Audio outputs and flows (13): a ramp in ends at full level, a ramp out at silence or at the route's next source (R561, R562); an output's
lead-in ends, its last block after its ramps (R552), a PDM pair's 20 ms (R555); a slip repeats or drops a frame, with its event
(R543); the measured clock is far beyond 10 ppm, with its event (R544); a sample's play instant plays each channel (R557); an egress flow
forms its next packet (R558). So these rows complete: RAMP_END, AES3_START_BLOCK, AES3_STOP_BLOCK_END, PDM_WARM_UP_END, AUDIO_SLIP,
AUDIO_CLOCK_ASYNC, AUDIO_PLAY_INSTANT, AUDIO_PACKET_FORMED. -/
def Obligations.AudioOutputsAct : Prop :=
  (∀ d, d < 2 ^ 38 →
    (∀ f ch, Answers (.rampEnd d) (fun s => (s.route d).ramp = 1 ∧ (s.route d).src = .flow f ch) (fun s =>
      (s.modRoute d (fun r => { r with ramp := 0, j := 0 })).outputSettled (routeObject d))) ∧
    (∀ n, Leads (.rampEnd d) (fun s => (s.route d).ramp = 2 ∧ (s.route d).next = some n) (fun _ t =>
      ∃ u : State, t = ((u.raiseRoute d).judgePair d).outputSettled (routeObject d) ∧ (u.route d).src = n ∧ (u.route d).ramp = 3 ∧
        (u.route d).next = none ∧ (u.route d).cause = 0)) ∧
    Answers (.rampEnd d) (fun s => (s.route d).ramp = 0 ∨ (s.route d).ramp = 3) (fun s => s)) ∧
  (∀ o, isAesOut o = true →
    Answers (.aes3StartBlock o) (fun s => (s.audioPort o).state = 1) (fun s =>
      let p := s.audioPort o
      let s1 := (s.reach (p.since + portTime p.rate 192)).modPort o (fun p => { p with state := 2 })
      ((s1.routesTo (audioId o)).foldl (fun s e => s.raiseRoute e.1) s1).outputSettled (audioId o)) ∧
    Answers (.aes3StartBlock o) (fun s => (s.audioPort o).state ≠ 1) (fun s => s) ∧
    Answers (.aes3StopBlockEnd o)
      (fun s => (s.audioPort o).state = 5 ∧ ∀ e ∈ s.routesTo (audioId o), e.2.ramp ≠ 1 ∧ e.2.ramp ≠ 2)
      (fun s =>
        let p := s.audioPort o
        ((s.reach (p.since + portTime p.rate (64 + 192))).modPort o (fun p => { p with state := 0, cmd := none })).completeOpt
          p.cmd 2 0)) ∧
  (∀ pr, isPdm pr = true →
    Answers (.pdmWarmUpEnd pr) (fun s => (s.audioPort pr).state = 1) (fun s =>
      let s1 := (s.reach ((s.audioPort pr).since + 20000000)).modPort pr (fun p => { p with state := 2 })
      (s1.audio.routes.filter (fun e => match e.2.src with
        | .mic p _ => p == pr
        | _ => false)).foldl (fun s e => s.raiseRoute e.1) s1) ∧
    Answers (.pdmWarmUpEnd pr) (fun s => (s.audioPort pr).state ≠ 1) (fun s => s)) ∧
  (∀ obj fill, isSlipObject obj = true → fill ≤ 64 →
    Answers (.audioSlip obj fill) (fun _ => 16 ≤ fill ∧ fill ≤ 48) (fun s =>
      { s with audio := { s.audio with fills := s.audio.fills.set obj fill } }) ∧
    Answers (.audioSlip obj fill) (fun _ => fill < 16 ∨ 48 < fill) (fun s =>
      let s1 := s.slipRoutes obj (decide (fill < 16))
      State.raise { s1 with audio := { s1.audio with fills := s.audio.fills.set obj 32, slips := satAdd 32 s.audio.slips 1 } }
        0x0A01 obj fill (if fill < 16 then 0 else 1))) ∧
  (∀ v : Int, -2147483648 ≤ v → v ≤ 2147483647 →
    Answers (.audioClockAsync v) (fun s => (10000 < v ∨ v < -10000) ∧ s.audio.async = false) (fun s =>
      State.raise { s with audio := { s.audio with ppb := v, async := true } } 0x0A02 deviceId (wrapInt 32 v) 0) ∧
    Answers (.audioClockAsync v) (fun _ => -10000 ≤ v ∧ v ≤ 10000) (fun s =>
      { s with audio := { s.audio with ppb := v, async := false } })) ∧
  (∀ flow k, flow < 256 →
    Leads (.audioPlayInstant flow k)
      (fun s => (s.rxFlow flow).isOpen = true ∧ 2 ≤ (s.rxFlow flow).kind ∧
        (∀ ch < (s.rxFlow flow).channels, (s.rxFlow flow).samples.find (k % two32 * 64 + ch) = none) ∧
        k % max 1 (audioSamples (s.rxFlow flow).audio) = 0)
      (fun s t => t.audio.missing = satAdd 32 s.audio.missing 1) ∧
    Leads (.audioPlayInstant flow k)
      (fun s => (s.rxFlow flow).isOpen = true ∧ 2 ≤ (s.rxFlow flow).kind ∧
        ∃ ch < (s.rxFlow flow).channels, (s.rxFlow flow).samples.find (k % two32 * 64 + ch) ≠ none)
      (fun s t => t.audio.missing = s.audio.missing ∧
        (t.rxFlow flow).samples = (s.rxFlow flow).samples.filter (fun e => e.1 / 64 != k % two32)) ∧
    Answers (.audioPlayInstant flow k) (fun s => (s.rxFlow flow).isOpen = false ∨ (s.rxFlow flow).kind < 2) (fun s => s)) ∧
  (∀ flow, flow < 1024 →
    Leads (.audioPacketFormed flow)
      (fun s => (s.txFlow flow).isOpen = true ∧ (s.txFlow flow).kind ≠ 0 ∧ (s.txFlow flow).closing = none)
      (fun s t => t.audio.txK.get 0 flow = s.audio.txK.get 0 flow + audioSamples (s.txFlow flow).audio) ∧
    Answers (.audioPacketFormed flow) (fun s => (s.txFlow flow).isOpen = false) (fun s => s))

/-- Power, temperature and voltage events (14): a supply in range releases the power-on reset (R569); VIN out of range and back,
over-current and over-heat post their events and throttle by steps (R569, R574, R575); the trips take a cold start with their cause (R577,
R578, R591); a rail moves by 5 mV inside its bounds (R585), and one left outside new bounds moves to the nearest (01 R50); PWR_ALERT bits
clear by writing 1 unless they hold (R601). So these rows complete: POWER_ON_RELEASE, VIN_LOW, VIN_NORMAL, VIN_HIGH, VIN_HIGH_CLEAR,
BROWN_OUT, OVERVOLTAGE, THERMAL_TRIP, CURRENT_TRIP, JUNCTION_READING, THROTTLE_ENGAGE_STEP, THROTTLE_RELEASE_STEP, AVS_MONITOR,
AVS_LOWER_STEP, PWR_ALERT_CLEAR. -/
def Obligations.PowerEventsAct : Prop :=
  (∀ vin, vin < 65536 →
    Answers (.powerOnRelease vin) (fun s => s.power.held = 1 ∧ 2400 ≤ vin ∧ vin ≤ 5600) (fun s =>
      State.measure { s with power := { s.power with vin := vin, vinAt := vin, held := if s.power.resetN then 0 else 2 } }) ∧
    Answers (.powerOnRelease vin) (fun _ => vin < 2400 ∨ 5600 < vin) (fun s => s) ∧
    Answers (.vinLow vin) (fun s => vin < 2500 ∧ s.power.vinLow = false) (fun s =>
      (State.measure { s with power := { s.power with vin := vin, vinAt := vin, vinLow := true } }).raise 0x0102 deviceId vin
        s.power.iin) ∧
    Answers (.vinLow vin) (fun s => 2500 ≤ vin ∨ s.power.vinLow = true) (fun s => s) ∧
    Answers (.vinNormal vin) (fun s => 2550 ≤ vin ∧ s.power.vinLow = true) (fun s =>
      (State.measure { s with power := { s.power with vin := vin, vinAt := vin, vinLow := false } }).raise 0x0103 deviceId vin
        s.power.iin) ∧
    Answers (.vinHigh vin) (fun s => 5600 < vin ∧ s.power.vinHigh = false) (fun s =>
      ((State.measure { s with power := { s.power with vin := vin, vinAt := vin, vinHigh := true } }).raise 0x0104 deviceId vin
        s.power.iin).alertBit 2) ∧
    Answers (.vinHighClear vin) (fun s => vin ≤ 5500 ∧ s.power.vinHigh = true) (fun s =>
      State.measure { s with power := { s.power with vin := vin, vinAt := vin, vinHigh := false } }) ∧
    Answers (.vinHighClear vin) (fun s => 5500 < vin ∨ s.power.vinHigh = false) (fun s => s) ∧
    Answers (.vinHigh vin) (fun s => vin ≤ 5600 ∨ s.power.vinHigh = true) (fun s => s) ∧
    Answers (.vinNormal vin) (fun s => vin < 2550 ∨ s.power.vinLow = false) (fun s => s)) ∧
  Answers .brownOut (fun _ => True) (fun s => s.coldStart 2 1) ∧
  Answers .overvoltage (fun _ => True) (fun s => s.coldStart 3 1) ∧
  Answers .thermalTrip (fun s => 125 * 16 ≤ s.power.tjAt) (fun s => s.coldStart 4 3) ∧
  Answers .thermalTrip (fun s => s.power.tjAt < 125 * 16) (fun s => s) ∧
  (∀ e ∈ [(Instr.brownOut, 2, 1), (.overvoltage, 3, 1), (.thermalTrip, 4, 3), (.currentTrip, 5, 0)],
    Leads e.1 (fun s => e.2.1 = 4 → 125 * 16 ≤ s.power.tjAt) (fun s t =>
      t.power.rstCause = e.2.1 ∧ t.power.held = e.2.2 ∧ t.power.bootStage = 0 ∧ t.power.ready = false ∧ t.power.alert = 0 ∧
        t.hif.cmds = [] ∧ t.comp = {} ∧ t.progs = [] ∧ t.twin = {} ∧ t.upd = {} ∧ (∀ n, t.tb n = State.reset.tb n) ∧
        t.nv.part = s.nv.part ∧ t.pending = s.pending)) ∧
  Answers .currentTrip (fun _ => True) (fun s => s.coldStart 5 0) ∧
  (∀ temp : Int, -32768 ≤ temp → temp < 32768 →
    Answers (.junctionReading temp) (fun _ => 115 * 16 ≤ temp) (fun s =>
      State.alertBit { s with power := { s.power with tj := temp, tjAt := temp } } 3) ∧
    Answers (.junctionReading temp) (fun _ => temp < 115 * 16) (fun s =>
      { s with power := { s.power with tj := temp, tjAt := temp } })) ∧
  (∀ iin, iin < 65536 →
    let seen (s : State) : State := State.measure { s with power := { s.power with iin := iin } }
    Answers (.throttleEngageStep iin) (fun s => (seen s).power.overCurrent = false ∧ (seen s).power.overHeat = false) seen ∧
    Leads (.throttleEngageStep iin) (fun s => (seen s).power.overCurrent = true ∨ (seen s).power.overHeat = true) (fun s t =>
      t.power.step = min 8 (s.power.step + 1) ∧ t.power.iin = iin ∧
        t.power.causeCurrent = (s.power.causeCurrent || (seen s).power.overCurrent) ∧
        t.power.causeThermal = (s.power.causeThermal || (seen s).power.overHeat)) ∧
    Answers (.throttleReleaseStep iin)
      (fun s => 1 < s.power.step ∧ iin * 100 ≤ 950 * s.power.limit ∧ s.power.tj ≤ ((s.power.threshold : Int) - 2) * 16)
      (fun s => { seen s with power := { (seen s).power with step := s.power.step - 1 } }) ∧
    Answers (.throttleReleaseStep iin) (fun s => 950 * s.power.limit < iin * 100) seen) ∧
  (∀ rail, rail < 5 →
    Answers (.avsMonitor rail true) (fun s => s.power.bootStage ≠ 0) (fun s =>
      s.avsMove rail (((s.power.avsMv.get 0 rail : Nat) : Int) + 5)) ∧
    Answers (.avsMonitor rail false) (fun s => s.power.bootStage ≠ 0 ∧ s.avsOutside rail = true) (fun s =>
      s.avsMove rail ((s.power.avsMv.get 0 rail : Nat) : Int)) ∧
    Answers (.avsMonitor rail false) (fun s => s.power.bootStage = 0 ∨ s.avsOutside rail = false) (fun s => s) ∧
    Answers (.avsLowerStep rail true) (fun s => s.power.bootStage ≠ 0) (fun s =>
      s.avsMove rail (((s.power.avsMv.get 0 rail : Nat) : Int) - 5)) ∧
    Answers (.avsLowerStep rail false) (fun _ => True) (fun s => s)) ∧
  (∀ v, v < two32 → Answers (.pwrAlertClear v) (fun _ => True) (fun s =>
    s.setAlert (((List.range 6).filter (fun i => bit s.power.alert i && (!bit v i || s.alertHolds i))).map (fun i => 2 ^ i)).sum
      (v / 256 % 64)))

/-- Reset pins, PCI Express, JTAG, REFCLK and SMBus (14 R571, R572, R589, R591, R595, R599; 15 R637): RESET_N low takes a cold start that
waits for its rise; PERST_N, a lost link and a hot reset stop DMA at once; the link comes up when the endpoint can train; a life-cycle state
that denies a JTAG instruction selects BYPASS; a lost REFCLK holds over with its event; an SMBus write sets the limit in its range only. So
these rows complete: RESET_N_ASSERT, RESET_N_RISE, PCIE_RESET, PERST_N_RISE, PCIE_LINK_UP, BUS_MASTER_ENABLE, TRST_N_ASSERT,
JTAG_INSTRUCTION, REFCLK_LOST, REFCLK_RESTORED, SMBUS_READ_WORD, SMBUS_WRITE_WORD. -/
def Obligations.PinAndBusEventsAct : Prop :=
  Answers .resetNAssert (fun s => s.power.held = 0 ∨ s.power.held = 2) (fun s =>
    State.coldStart { s with power := { s.power with resetN := false } } 1 2) ∧
  Leads .resetNAssert (fun s => s.power.held = 0 ∨ s.power.held = 2) (fun s t =>
    t.power.rstCause = 1 ∧ t.power.held = 2 ∧ t.power.resetN = false ∧ t.power.bootStage = 0 ∧ t.power.ready = false ∧ t.hif.cmds = [] ∧
      t.comp = {} ∧ t.progs = [] ∧ t.pending = s.pending) ∧
  Answers .resetNRise (fun s => s.power.held = 2 ∧ 2400 ≤ s.power.vinAt ∧ s.power.vinAt ≤ 5600) (fun s =>
    { s with power := { s.power with resetN := true, held := 0 } }) ∧
  Answers .resetNRise (fun s => s.power.held ≠ 2) (fun s => { s with power := { s.power with resetN := true } }) ∧
  (∀ cause, cause < 3 → Answers (.pcieReset cause) (fun _ => True) (fun s => { s with hif := { s.hif with
    linkUp := false, busMaster := false, msix := [], msixPba := 0, perstHigh := if cause = 0 then false else s.hif.perstHigh } })) ∧
  Answers .perstNRise (fun _ => True) (fun s => { s with hif := { s.hif with perstHigh := true } }) ∧
  Answers .pcieLinkUp (fun s => s.hif.perstHigh = true ∧ 2 ≤ s.power.bootStage) (fun s => { s with hif := { s.hif with linkUp := true } }) ∧
  Answers .pcieLinkUp (fun s => s.hif.perstHigh = false) (fun s => s) ∧
  Answers .busMasterEnable (fun s => s.hif.linkUp = true) (fun s => State.flushAll { s with hif := { s.hif with busMaster := true } }) ∧
  Answers .busMasterEnable (fun s => s.hif.linkUp = false) (fun s => s) ∧
  Answers .trstNAssert (fun _ => True) (fun s => { s with upd := { s.upd with jtag := 1 } }) ∧
  (∀ code, Answers (.jtagInstruction code) (fun s => jtagAllowed s.nv.lifecycle code = true) (fun s =>
      { s with upd := { s.upd with jtag := code } }) ∧
    Answers (.jtagInstruction code) (fun s => jtagAllowed s.nv.lifecycle code = false) (fun s =>
      { s with upd := { s.upd with jtag := 0 } })) ∧
  Answers .refclkLost (fun s => s.power.pllLocked = true) (fun s =>
    State.alertBit (State.raise { s with power := { s.power with
      pllLocked := false, refclkOk := false, holdover := true, refclkLostAt := s.now } } 0x0108 deviceId 0 0) 1) ∧
  Answers .refclkRestored (fun s => s.power.holdover = true) (fun s =>
    State.raise { s with power := { s.power with pllLocked := true, refclkOk := true, holdover := false } } 0x0109 deviceId
      ((s.now - s.power.refclkLostAt) / 1000) 0) ∧
  (∀ code, code < 256 →
    Answers (.smbusReadWord code true) (fun _ => True) (fun s => s.emit (.smbus (s.smbusWord code))) ∧
    Answers (.smbusReadWord code false) (fun _ => True) (fun s => (s.chainFail 14).emit (.smbus none))) ∧
  (∀ v, v < 65536 →
    Answers (.smbusWriteWord 0x10 v true) (fun _ => 10 ≤ v ∧ v ≤ 520) (fun s =>
      State.emit { s with power := { s.power with limit := v } } (.smbus (some v))) ∧
    Answers (.smbusWriteWord 0x10 v true) (fun _ => v < 10 ∨ 520 < v) (fun s => s.emit (.smbus none)) ∧
    (∀ code, code < 256 → Answers (.smbusWriteWord code v false) (fun _ => True) (fun s => (s.chainFail 14).emit (.smbus none))))

/-- Start-up in its order (14 R598, R600; 00 R8; 11 R489, R490, R503; 15 R629, R635): fuses, root PLL, DRAM training, initial fill, the
image set of a valid bank, READY when the journal has been replayed; no valid image ends in BOOT_FAIL with its alert. A step that is not due
does nothing. A recovery starts in BOOT_FAIL and stores its container, or its code (15 R631, R632). So these rows complete: FUSES_READ,
ROOT_PLL_LOCK, DRAM_TRAINING_DONE, INITIAL_FILL_DONE, IMAGE_SET_LOADED, BOOT_FAIL, READY, REC_GO, RECOVERY_RESULT. -/
def Obligations.StartUpGoesInOrder : Prop :=
  Leads .fusesRead (fun s => s.power.held = 0 ∧ s.power.bootStage = 0) (fun s t =>
    t.power.bootStage = 1 ∧ t.nv.lifecycle = s.nv.nextLife ∧ t.upd.fusesRead = true) ∧
  Answers .fusesRead (fun s => s.power.held ≠ 0 ∨ s.power.bootStage ≠ 0) (fun s => s) ∧
  Leads .rootPllLock (fun s => s.power.bootStage = 1 ∧ s.nv.lifecycle ≠ 4) (fun s t =>
    t.power.bootStage = 2 ∧ t.power.pllLocked = true ∧ t.nv = s.nv.applyErase ∧ t.power.limit = s.nv.applyErase.limit.getD 520) ∧
  Answers .rootPllLock (fun s => s.power.bootStage ≠ 1 ∨ s.nv.lifecycle = 4) (fun s => s) ∧
  (∀ l, (∀ e ∈ l, isChannel e.1 = true ∧ e.2.1 < 3) →
    Leads (.dramTrainingDone l) (fun s => s.power.bootStage = 2) (fun _ t => t.power.bootStage = 3 ∧ t.mem.copying = []) ∧
    Answers (.dramTrainingDone l) (fun s => s.power.bootStage ≠ 2) (fun s => s)) ∧
  Leads .initialFillDone (fun s => s.power.bootStage = 3) (fun _ t => t.power.bootStage = 4 ∧ t.audio.clkRunning = true) ∧
  Answers .initialFillDone (fun s => s.power.bootStage ≠ 3) (fun s => s) ∧
  (∀ b, b < 2 →
    Leads (.imageSetLoaded b) (fun s => s.power.bootStage = 4 ∧ (s.nv.bank b).valid = true ∧ b = s.nv.activeBank) (fun s t =>
      t.power.bootStage = 5 ∧ t.upd.fwBank = b ∧ t.upd.fwSetVersion = (s.nv.bank b).setVersion ∧ t.upd.fwConfirmed = true) ∧
    Answers (.imageSetLoaded b) (fun s => (s.nv.bank b).valid = false) (fun s => s)) ∧
  Answers .bootFail (fun s => s.power.bootStage = 4) (fun s => State.alertBit { s with power := { s.power with bootStage := 7 } } 0) ∧
  Answers .bootFail (fun s => s.power.bootStage ≠ 4) (fun s => s) ∧
  Leads .ready (fun s => s.power.bootStage = 5 ∧ s.nv.flash = [] ∧ s.hif.cmds = []) (fun _ t =>
    ∃ u : State, t = u.settleUpdate ∧ u.power.ready = true ∧ u.power.bootStage = 6 ∧
      ∀ q, q < 16 → (u.queue q).resyncState = true ∧ (u.queue q).window = []) ∧
  Answers .ready (fun s => s.power.bootStage ≠ 5) (fun s => s) ∧
  (∀ v, v < two32 →
    Answers (.recGo v)
      (fun s => bit v 0 = true ∧ s.power.bootStage = 7 ∧ s.upd.recBusy = false ∧
        (s.nv.lifecycle = 1 ∨ s.nv.lifecycle = 2 ∨ s.nv.lifecycle = 3))
      (fun s => { s with upd := { s.upd with recBusy := true, recCode := 0 } }) ∧
    Answers (.recGo v) (fun s => s.power.bootStage ≠ 7) (fun s => s)) ∧
  (∀ container : List Byte,
    let code (s : State) : Nat := s.verifyCode (fun i => (container.getD i 0).toNat) 0 container.length true true true
    let runs (s : State) : Prop := s.upd.recBusy = true ∧ container.length = s.upd.recLen
    Answers (.recoveryResult container) (fun s => runs s ∧ code s ≠ 0) (fun s =>
      { s with upd := { s.upd with recBusy := false, recCode := code s } }) ∧
    Answers (.recoveryResult container) (fun s => runs s ∧ code s = 0) (fun s =>
      State.coldStart { s.draw.2 with nv := (s.draw.2.nv.setBank 0 (recoveredBank container)).writeMarker 0 } (s.draw.1 % 8) 0))

/-- Warm resets, pairs and SRAMs (14 R591–R597; 11 R505, R506): WARM_N starts a warm reset of a ready device; its end
runs the pairs again, writes the staged events and completes its command; a pair's fault, a pair's self-test, a third SRAM error and a second
parity error act by the unit they name. So these rows complete: WARM_N_ASSERT, WARM_RESET_END, MC_PAIR_FAULT, PAIR_SELF_TEST_DONE,
SRAM_PARITY_ERROR, SRAM_ECC_ERROR, LANE_RECALIBRATION, LANE_RECALIBRATION_END, JOURNAL_COMPACTION, PERMIT_RETRY. -/
def Obligations.PairAndSramEventsAct : Prop :=
  Answers .warmNAssert (fun _ => True) (fun s => s.startWarm (some 1)) ∧
  Leads .warmNAssert (fun s => s.power.ready = true ∧ s.power.warm = false ∧ s.upd.state ≤ 2) (fun s t =>
    t.power.warm = true ∧ t.power.warmCause = 1 ∧ t.power.warmCount = min 63 (s.power.warmCount + 1)) ∧
  Answers .warmResetEnd (fun s => s.power.warm = true) (fun s =>
    let s1 : State := { s with
      power := { s.power.pairsRun with warm := false, warmCmd := none }, hif := { s.hif with evStaged := [] } }
    ((s.hif.evStaged.foldl State.writeEvent s1.rerun).flushAll).completeOpt s.power.warmCmd 2 0) ∧
  Leads .warmResetEnd (fun s => s.power.warm = true) (fun _ t =>
    t.power.warm = false ∧ t.power.warmCmd = none ∧ t.hif.evStaged = []) ∧
  Answers .warmResetEnd (fun s => s.power.warm = false) (fun s => s) ∧
  (∀ cause, cause < 2 →
    Answers (.mcPairFault cause) (fun s => s.power.warm = false ∧ s.power.held = 0 ∧ 4 ≤ s.power.bootStage) (fun s => s.pairFault cause) ∧
    (∀ p, Leads (.mcPairFault cause)
      (fun s => s.power.warm = false ∧ s.power.held = 0 ∧ 4 ≤ s.power.bootStage ∧ s.pairIn 0 = some p ∧ s.pairState (1 - p) = 1 ∧
        s.upd.state = 0)
      (fun _ t => t.pairState (1 - p) = 0 ∧ t.pairState p = 2 ∧ t.power.pairTest = some p)) ∧
    (∀ p, Leads (.mcPairFault cause)
      (fun s => s.power.warm = false ∧ s.power.held = 0 ∧ 4 ≤ s.power.bootStage ∧ s.pairIn 0 = some p ∧ s.pairState (1 - p) ≠ 1 ∧
        ¬(3 ≤ s.upd.state ∧ s.upd.state ≤ 5))
      (fun _ t => t.power.rstCause = 6 ∧ t.power.bootStage = 0 ∧ t.power.ready = false ∧ t.hif.cmds = [])) ∧
    Answers (.mcPairFault cause) (fun s => s.power.warm = true) (fun s => s)) ∧
  (∀ p, Answers (.pairSelfTestDone true) (fun s => s.power.pairTest = some p) (fun s =>
      (State.setPair { s with power := { s.power with pairTest := none } } p 1).raise 0x010B (pairId p) p 0) ∧
    Answers (.pairSelfTestDone false) (fun s => s.power.pairTest = some p) (fun s =>
      ((State.setPair { s with power := { s.power with pairTest := none } } p 3).raise 0x010C (pairId p) p 0).alertBit 5)) ∧
  (∀ u, isUnit u = true →
    Answers (.sramParityError u true) (fun s => (s.unit u).state ≠ 2) (fun s => (s.chainFail 5).unitFault u 0) ∧
    Leads (.sramParityError u true) (fun s => (s.unit u).state ≠ 2) (fun _ t => (t.unit u).state = 2 ∧ (t.unit u).op = none) ∧
    Answers (.sramParityError u false) (fun _ => True) (fun s => s.chainFail 5)) ∧
  (∀ sram u n, sram < two32 →
    Answers (.sramEccError sram u n) (fun _ => n ≤ 2) (fun s => s) ∧
    Answers (.sramEccError sram u n)
      (fun s => 2 < n ∧ isUnit u = true ∧ (s.unit u).state ≠ 2)
      (fun s =>
        let h := Config.sramHandOff sram
        let s0 := if 10 ≤ h ∧ h ≤ 12 then s.chainFail h else s
        ((s0.raise 0x0808 deviceId sram 0xFFFFFFFF).alertBit 4).unitFault u 0) ∧
    Leads (.sramEccError sram u n) (fun s => 2 < n ∧ isUnit u = true ∧ (s.unit u).state ≠ 2) (fun _ t =>
      (t.unit u).state = 2 ∧ (t.unit u).op = none ∧ bit t.power.alert 4 = true)) ∧
  (∀ lane, isLane lane = true →
    Answers (.laneRecalibration lane) (fun s => lane ∈ s.power.recal) (fun s => s) ∧
    Answers (.laneRecalibration lane) (fun s => lane ∉ s.power.recal ∧ s.permitRefusal [lanePermit lane] = none) (fun s =>
      let s1 := s.grant [lanePermit lane]
      { s1 with power := { s1.power with
        recal := s.power.recal ++ [lane], recalWaiting := s.power.recalWaiting.filter (fun l => l != lane) } }) ∧
    Answers (.laneRecalibrationEnd lane) (fun _ => True) (fun s =>
      let s1 := (s.unpermit (fun p => p.code = 5 && p.holder = lane)).takePhy lane
      { s1 with power := { s1.power with recal := s.power.recal.filter (fun l => l != lane) } })) ∧
  Answers .journalCompaction
    (fun s => s.nv.flash.any FlashRec.done = true ∧ s.power.ready = true ∧ s.permitRefusal [flashPermit deviceId 0] = none)
    (fun s => { s with
      nv := { s.nv with flash := s.nv.flash.filter (fun r => !r.done) }, power := { s.power with compactWaiting := false } }) ∧
  (∀ h, Answers (.permitRetry 5 h) (fun s => h ∈ s.power.recalWaiting) (fun s => s.recalibrate h) ∧
    Answers (.permitRetry 2 h) (fun s => (s.channel h).waitPermit = true) (fun s => s.autoRetrain h) ∧
    Answers (.permitRetry 3 h) (fun s => h ∈ s.mem.copyWait) (fun s => s.startCopy h) ∧
    Answers (.permitRetry 4 h) (fun s => s.power.compactWaiting = true) (fun s => s.compact) ∧
    Answers (.permitRetry 4 h)
      (fun s => s.power.compactWaiting = true ∧ s.permitRefusal [flashPermit deviceId 0] = none)
      (fun s => { s with
        nv := { s.nv with flash := s.nv.flash.filter (fun r => !r.done) }, power := { s.power with compactWaiting := false } }))

/-- The events of an update (15 R610–R613, R616–R621): a verification passes to staging, or ends with its code; staging ends; A comes: the
pairs swap, the confirm window opens and is announced (R616, R617); confirmation needs the self-test, the start checks and, when asked, the
host (R618, R619); an expired window falls back at its instant, with cause 1 (R620); a flash write's end is taken, or
its failed read-back counts for hand-off 12 and it is repeated (R610; 12 R536; 17 R663). So these rows complete: VERIFICATION_RESULT, STAGING_COMPLETE, ACTIVATION, SELF_TEST_RESULT, START_CHECKS_COMPLETE,
CONFIRM_WINDOW_EXPIRY, FALLBACK_INSTANT, OLD_PAIR_RESTART_DONE, STANDBY_PAIR_RESTORED, FLASH_WRITE_END. -/
def Obligations.UpdateEventsAct : Prop :=
  (∀ ok, Answers (.verificationResult ok) (fun s => s.upd.state ≠ 2) (fun s => s) ∧
    (let code (s : State) : Nat := s.verifyCode s.download.rd s.download.format s.download.total s.download.whole ok false
     Answers (.verificationResult ok) (fun s => s.upd.state = 2 ∧ s.upd.cancelPending = false ∧ code s = 0) (fun s => s.beginStaging) ∧
     Answers (.verificationResult ok) (fun s => s.upd.state = 2 ∧ s.upd.cancelPending = false ∧ code s ≠ 0) (fun s =>
      State.failOpt { s with upd := { s.upd with state := 0, lastResult := 4, code := code s, verifyCmd := none } }
        s.upd.verifyCmd 0x0303 (code s)))) ∧
  Leads (.verificationResult true)
    (fun s => s.upd.state = 2 ∧ s.upd.cancelPending = false ∧
      s.verifyCode s.download.rd s.download.format s.download.total s.download.whole true false = 0)
    (fun s t => t.upd.state = 3 ∧
      t.upd.stagedSet = some (setVersionOf s.download.rd s.download.format, secVersionOf s.download.rd s.download.format) ∧
      t.download.verified = true ∧ ∀ p, s.pairIn 1 = some p → t.pairState p = 2) ∧
  Leads .stagingComplete (fun s => s.upd.state = 3) (fun s t =>
    t.upd.state = 4 ∧ t.upd.verifyCmd = none ∧ ∀ id, s.upd.verifyCmd = some id → t.findCmd id.1 id.2 = none) ∧
  Answers .stagingComplete (fun s => s.upd.state = 3) (fun s =>
    State.completeOpt { s.pairBack with upd := { s.upd with state := 4, verifyCmd := none, phyStaged := true } } s.upd.verifyCmd 2 0) ∧
  Answers .stagingComplete (fun s => s.upd.state ≠ 3) (fun s => s) ∧
  Answers .activation (fun s => s.upd.a = none) (fun s => s) ∧
  (∀ a v sec, Leads .activation (fun s => s.upd.a = some a ∧ s.upd.state = 5 ∧ s.upd.stagedSet = some (v, sec) ∧ s.upd.scheduleCmd = none)
    (fun s t => ∃ u : State, t = u.raise 0x0B01 deviceId v (s.upd.aAt % two32) ∧ u.upd.state = 6 ∧ u.upd.a = none ∧
      u.upd.fwSetVersion = v ∧ u.upd.fwSecVersion = sec ∧ u.upd.fwConfirmed = false ∧ u.upd.selfTestPassed = false ∧
      u.upd.startChecks = false ∧ u.upd.hostConfirmed = false ∧ u.upd.slot = 1 - s.upd.slot)) ∧
  Answers (.selfTestResult []) (fun s => s.upd.state = 6) (fun s =>
    State.tryConfirm { s with upd := { s.upd with selfTestPassed := true } } 255) ∧
  (∀ l, (∀ u ∈ l, isUnit u = true) → Answers (.selfTestResult l) (fun s => s.upd.state ≠ 6) (fun s => s)) ∧
  Answers (.selfTestResult []) (fun s => s.upd.state = 6 ∧ s.upd.startChecks = false) (fun s =>
    { s with upd := { s.upd with selfTestPassed := true } }) ∧
  Answers .startChecksComplete (fun s => s.upd.state = 6 ∧ s.upd.selfTestPassed = false) (fun s =>
    { s with upd := { s.upd with startChecks := true } }) ∧
  Answers .startChecksComplete (fun s => s.upd.state = 6) (fun s =>
    State.tryConfirm { s with upd := { s.upd with startChecks := true } } 255) ∧
  Answers .confirmWindowExpiry (fun s => s.upd.state = 6) (fun s =>
    (s.reach (s.upd.aAt + s.upd.window * 1000000000)).decideFallback 1) ∧
  Leads .confirmWindowExpiry (fun s => s.upd.state = 6) (fun s t =>
    t.upd.state = 7 ∧ t.upd.fallbackAt = some ((s.reach (s.upd.aAt + s.upd.window * 1000000000)).now + 1000000, 1)) ∧
  Answers .confirmWindowExpiry (fun s => s.upd.state ≠ 6) (fun s => s) ∧
  (∀ b cause, Leads .fallbackInstant (fun s => s.upd.fallbackAt = some (b, cause)) (fun s t =>
    t.upd.state = 0 ∧ t.upd.lastResult = 2 ∧ t.upd.fallbackAt = none ∧ t.upd.slot = 1 - s.upd.slot ∧ t.upd.stagedSet = none ∧
      t.upd.fwConfirmed = true ∧ t.upd.fwBank = s.nv.activeBank)) ∧
  (∀ b cause, Answers .fallbackInstant (fun s => s.upd.fallbackAt = some (b, cause)) (fun s =>
    let s1 := (s.reach b).fallBack cause
    State.completeOpt { s1 with upd := { s1.upd with cancelCmd := none } } s.upd.cancelCmd 2 0)) ∧
  Answers .oldPairRestartDone (fun s => s.upd.state = 0 ∧ s.upd.lastResult = 1) (fun s => s.pairBack) ∧
  Answers .oldPairRestartDone (fun s => s.upd.state ≠ 0) (fun s => s) ∧
  (∀ id, Answers .standbyPairRestored (fun s => s.upd.cancelCmd = some id ∧ s.upd.state = 0) (fun s =>
    State.completeId { s.pairBack with upd := { s.upd with cancelCmd := none } } id 2 0)) ∧
  (∀ id c, Answers (.flashWriteEnd false)
    (fun s => s.upd.dataCmd = some id ∧ s.findCmd id.1 id.2 = some c ∧ c.phase = .committed) (fun s => s.chainFail 12)) ∧
  (∀ e rest, Answers (.flashWriteEnd false) (fun s => s.upd.dataCmd = none ∧ s.power.cfgWrites = e :: rest) (fun s => s.chainFail 12)) ∧
  (∀ id c, Answers (.flashWriteEnd true)
    (fun s => s.upd.dataCmd = some id ∧ s.findCmd id.1 id.2 = some c ∧ c.phase = .committed)
    (fun s => State.endUpdateData { s with upd := { s.upd with dataCmd := none } } c)) ∧
  (∀ id c, Leads (.flashWriteEnd true)
    (fun s => s.upd.dataCmd = some id ∧ s.findCmd id.1 id.2 = some c ∧ c.phase = .committed)
    (fun _ t => t.upd.dataCmd = none ∧ t.findCmd id.1 id.2 = none)) ∧
  (∀ kind q seq rest c, Answers (.flashWriteEnd true)
    (fun s => s.upd.dataCmd = none ∧ s.power.cfgWrites = (kind, q, seq) :: rest ∧ s.findCmd q seq = some c)
    (fun s =>
      let s2 := State.unpermit { s with power := { s.power with cfgWrites := rest } } (fun p => p.code = 4 && p.pos = c.pos)
      State.ok { s2 with nv := s2.nv.settle kind c } c))

/-- Registers with an effect of their own (02 R74, R88; 05 R267, R269; 09 R420, R426; 13 R543, R546, R557; 16 R641–R647): counters that a
read clears answer what they held; a low half latches its high half; a snapshot copies every counter; records are read and freed; status
bits clear by writing 1; an equalizer decision is held at its bounds and counted (01 R48, R50). So these rows complete: PMC_SNAP,
PMC_CLEAR_ALL, TRC_CTRL_WRITE, PMC_OVF_CLEAR, C21_VIOL_CLEAR, CAP_INFO_CLEAR, SNAP_COPY_READABLE, PMC_LO_READ, PMC_WRAP, SAMPLE_DUE,
SMP_DATA0_READ, SMP_DATA5_READ, SMP_LOST_READ, TRC_DATA0_READ, TRC_DATA3_READ, TRC_LOST_READ, TBX_TBN_NS_READ, TBX_LATE_MAX_READ,
HIF_CQN_DISCARDS_READ, HIF_EV_LOST_READ, AUD_IN_ERR_READ, AUD_SLIPS_READ, AUD_MISSING_READ, EQUALIZER_DECISION. -/
def Obligations.ReadsAndClearsAct : Prop :=
  (∀ v, v < two32 →
    let snap (s : State) : State := { s with obs := { s.obs with
      pmcs := s.obs.pmcs.map (fun (e : Nat × Pmc) => (e.1, { e.2 with snap := e.2.count })),
      snapSeq := (s.obs.snapSeq + 1) % 256, snapBusy := true } }
    let clear (s : State) : State := { s with obs := { s.obs with
      pmcs := s.obs.pmcs.map (fun (e : Nat × Pmc) => (e.1, { e.2 with count := 0 })), ovf := [] } }
    Answers (.pmcSnap v) (fun _ => bit v 0 = true ∧ bit v 1 = false) snap ∧
    Answers (.pmcClearAll v) (fun _ => bit v 0 = false ∧ bit v 1 = true) clear ∧
    Answers (.pmcClearAll v) (fun _ => bit v 0 = true ∧ bit v 1 = true) (fun s => clear (snap s)) ∧
    Answers (.trcCtrlWrite v) (fun _ => True) (fun s => { s with disp := s.disp.traceCtrl v }) ∧
    (∀ m, m < 4 → Answers (.pmcOvfClear m v) (fun _ => True) (fun s => { s with obs := { s.obs with
      ovf := s.obs.ovf.filter (fun n => !(n / 32 == m && bit v (n % 32))) } })) ∧
    (∀ m, m < 32 → Answers (.c21ViolClear m v) (fun _ => True) (fun s => { s with time := { s.time with
      c21 := s.time.c21.filter (fun f => !(f / 32 == m && bit v (f % 32))) } })) ∧
    (∀ n, n < 4 → Answers (.capInfoClear n v) (fun _ => True) (fun s => s.modTb n (fun b => { b with
      capValid := b.capValid && !bit v 0, capOverrun := b.capOverrun && !bit v 1 })))) ∧
  Answers .snapCopyReadable (fun _ => True) (fun s => { s with obs := { s.obs with snapBusy := false } }) ∧
  (∀ n, n < 128 →
    Answers (.pmcLoRead n) (fun _ => True) (fun s =>
      (s.modPmc n (fun p => { p with hi := (s.pmc n).count / two32 })).emit (.readData ((s.pmc n).count % two32))) ∧
    (∀ i, i < 2 ^ 48 →
      Answers (.pmcWrap n i) (fun s => (s.pmc n).enable = true ∧ 2 ^ 48 ≤ (s.pmc n).count + i) (fun s => s.pmcAdd n i) ∧
      Answers (.pmcWrap n i) (fun s => (s.pmc n).enable = false) (fun s => s))) ∧
  (∀ pr a i l m, pr < 2 → a < 2 ^ 64 → i < two32 → m = 0 ∨ m = 1 ∨ m = 3 → ∀ ev th ct,
    Answers (.sampleDue pr a i l m true)
      (fun s => s.obs.sampling.find pr = some (ev, true, th, ct) ∧ s.power.warm = false ∧ s.obs.smpUnread < 1024)
      (fun s => { s with obs := { s.obs with
        smpRing := s.obs.smpRing.set s.obs.smpWr (s.sampleRecord pr ev a i l m), smpWr := (s.obs.smpWr + 1) % 1024,
        smpUnread := s.obs.smpUnread + 1 } }) ∧
    Answers (.sampleDue pr a i l m true)
      (fun s => s.obs.sampling.find pr = some (ev, true, th, ct) ∧ s.power.warm = false ∧ 1024 ≤ s.obs.smpUnread)
      (fun s => { s with obs := { s.obs with smpLost := satAdd 32 s.obs.smpLost 1 } })) ∧
  Answers (.smpData0Read true) (fun _ => True) (fun s =>
    State.emit { s with obs := { s.obs with smpData := (s.obs.smpRing.get {} s.obs.smpRd).words } }
      (.readData ((s.obs.smpRing.get {} s.obs.smpRd).words.getD 0 0))) ∧
  Answers .smpData5Read (fun _ => True) (fun s =>
    State.emit { s with obs := s.obs.nextSample } (.readData (s.obs.smpData.getD 5 0))) ∧
  Answers .smpLostRead (fun _ => True) (fun s => State.emit { s with obs := { s.obs with smpLost := 0 } } (.readData s.obs.smpLost)) ∧
  Answers .trcData0Read (fun _ => True) (fun s =>
    State.emit { s with disp := { s.disp with trcData := (s.disp.trcRing.get {} s.disp.trcRd).words } }
      (.readData ((s.disp.trcRing.get {} s.disp.trcRd).words.getD 0 0))) ∧
  Answers .trcData3Read (fun _ => True) (fun s =>
    State.emit { s with disp := { s.disp with trcRd := (s.disp.trcRd + 1) % 8192, trcUnread := s.disp.trcUnread - 1 } }
      (.readData (s.disp.trcData.getD 3 0))) ∧
  Answers .trcLostRead (fun _ => True) (fun s => State.emit { s with disp := { s.disp with trcLost := 0 } } (.readData s.disp.trcLost)) ∧
  (∀ n, n < 4 → Answers (.tbxTbnNsRead n) (fun _ => True) (fun s =>
    (s.modTb n (fun b => { b with latFrac := b.frac, latStatus := s.tbStatusReg n })).emit (.readData (s.tb n).ns))) ∧
  (∀ p, p < 16 → Answers (.tbxLateMaxRead p) (fun _ => True) (fun s =>
    State.emit { s with time := { s.time with lateMax := s.time.lateMax.set p 0 } } (.readData (s.time.lateMax.get 0 p)))) ∧
  (∀ q, isQueue q = true → Answers (.hifCqnDiscardsRead q) (fun _ => True) (fun s =>
    (s.modQueue q (fun k => { k with discards := 0 })).emit (.readData (s.queue q).discards))) ∧
  Answers .hifEvLostRead (fun _ => True) (fun s => State.emit { s with hif := { s.hif with evLost := 0 } } (.readData s.hif.evLost)) ∧
  (∀ i, i < 8 → Answers (.audInErrRead i) (fun _ => True) (fun s =>
    (s.modIn i (fun x => { x with subErr := 0, csErr := 0 })).emit
      (.readData ((s.audioIn i).subErr * 65536 + (s.audioIn i).csErr)))) ∧
  Answers .audSlipsRead (fun _ => True) (fun s => State.emit { s with audio := { s.audio with slips := 0 } } (.readData s.audio.slips)) ∧
  Answers .audMissingRead (fun _ => True) (fun s =>
    State.emit { s with audio := { s.audio with missing := 0 } } (.readData s.audio.missing)) ∧
  (∀ lane (c v d : Int), isLane lane = true →
    let into (s : State) (e : Int × Int × Int) : Int × Int × Int :=
      let b := s.obs.eqBounds.get {} lane
      (clip e.1 b.ctleMin b.ctleMax, clip e.2.1 b.vgaMin b.vgaMax, clip e.2.2 b.dfeMin b.dfeMax)
    let outside (s : State) : Prop := ∃ e, s.obs.eqNow.find lane = some e ∧ into s e ≠ e
    let rest (s : State) : List Nat := s.obs.eqClamped.filter (fun l => l != lane)
    let clamp (s : State) (now : Int × Int × Int) : State := State.happen { s with obs := { s.obs with
      eqNow := s.obs.eqNow.set lane now, eqClamped := rest s ++ [lane],
      eqClamps := s.obs.eqClamps.upd 0 lane (fun n => satAdd 32 n 1) } } 0x0601 [] lane 0 1
    Answers (.equalizerDecision lane c v d) (fun s => ¬outside s ∧ into s (c, v, d) = (c, v, d)) (fun s => { s with obs := { s.obs with
      eqNow := s.obs.eqNow.set lane (c, v, d), eqClamped := rest s } }) ∧
    Answers (.equalizerDecision lane c v d) (fun s => ¬outside s ∧ into s (c, v, d) ≠ (c, v, d)) (fun s =>
      clamp s (into s (c, v, d))) ∧
    (∀ e, Answers (.equalizerDecision lane c v d) (fun s => s.obs.eqNow.find lane = some e ∧ into s e ≠ e) (fun s =>
      clamp s (into s e))))
end

