-- ==== Sys2Proof/Laws/Tab.lean ====
section
/-!
SUPPORT. The laws of a sparse table: a read after a write, and that every operation keeps the rising order of its numbers.
-/
set_option Elab.async false
namespace Sys2Proof

variable {α : Type}

/-- Reading a number after a write of a number. -/
@[simp] theorem Tab.get_set (d : α) (t : Tab α) (i j : Nat) (a : α) : (t.set i a).get d j = if j = i then a else t.get d j := by
  induction t with
  | nil => simp [Tab.set, Tab.get]
  | cons e t ih =>
    obtain ⟨k, b⟩ := e
    unfold Tab.set
    by_cases h1 : i = k
    · subst h1
      by_cases h : j = i <;> simp [Tab.get, h]
    · by_cases h2 : i < k
      · simp only [h1, h2, if_true, if_false, Tab.get]
      · by_cases h3 : j = k
        · subst h3
          simp [h2, Tab.get, Ne.symm h1, h1]
        · simp [h1, h2, h3, Tab.get, ih]

/-- Reading a number after a change of a number. -/
@[simp] theorem Tab.get_upd (d : α) (t : Tab α) (i j : Nat) (f : α → α) :
    (t.upd d i f).get d j = if j = i then f (t.get d i) else t.get d j := by simp [Tab.upd]

/-- The numbers of a table rise strictly. -/
def Tab.Rising (t : Tab α) : Prop := t.Pairwise (fun a b => a.1 < b.1)

theorem Tab.rising_nil : Tab.Rising ([] : Tab α) := List.Pairwise.nil

/-- The numbers listed after a write. -/
theorem Tab.mem_set {t : Tab α} {i : Nat} {a : α} {e : Nat × α} (h : e ∈ t.set i a) : e = (i, a) ∨ e ∈ t := by
  induction t with
  | nil => simpa [Tab.set] using h
  | cons x t ih =>
    obtain ⟨k, b⟩ := x
    unfold Tab.set at h
    split at h
    · simp only [List.mem_cons] at h ⊢
      exact h.imp_right .inr
    · split at h
      · simpa only [List.mem_cons] using h
      · simp only [List.mem_cons] at h ⊢
        rcases h with h | h
        · exact .inr (.inl h)
        · exact (ih h).imp_right .inr

/-- A write keeps the order. -/
theorem Tab.rising_set {t : Tab α} (h : Tab.Rising t) (i : Nat) (a : α) : Tab.Rising (t.set i a) := by
  induction t with
  | nil => simp [Tab.set, Tab.Rising]
  | cons e t ih =>
    obtain ⟨k, b⟩ := e
    obtain ⟨h1, h2⟩ := List.pairwise_cons.mp h
    unfold Tab.set
    split
    · next hk => exact List.pairwise_cons.mpr ⟨fun x hx => hk ▸ h1 x hx, h2⟩
    · next hk =>
      split
      · next hl =>
        refine List.pairwise_cons.mpr ⟨fun x hx => ?_, h⟩
        rcases List.mem_cons.mp hx with rfl | hx
        · exact hl
        · exact lt_trans hl (h1 x hx)
      · next hl =>
        refine List.pairwise_cons.mpr ⟨fun x hx => ?_, ih h2⟩
        rcases Tab.mem_set hx with rfl | hx
        · exact lt_of_le_of_ne (Nat.le_of_not_lt hl) (Ne.symm hk)
        · exact h1 x hx

/-- Dropping entries keeps the order. -/
theorem Tab.rising_filter {t : Tab α} (h : Tab.Rising t) (p : Nat × α → Bool) : Tab.Rising (t.filter p) :=
  List.Pairwise.filter p h

/-- Changing contents keeps the order. -/
theorem Tab.rising_map {t : Tab α} (h : Tab.Rising t) (f : Nat × α → Nat × α) (hf : ∀ e, (f e).1 = e.1) : Tab.Rising (t.map f) :=
  List.Pairwise.map f (fun a b hab => by rw [hf a, hf b]; exact hab) h

/-- A number below all that are listed reads as the reset value. -/
theorem Tab.get_below {d : α} {t : Tab α} {j : Nat} (h : ∀ e ∈ t, j < e.1) : t.get d j = d := by
  induction t with
  | nil => rfl
  | cons e t ih =>
    obtain ⟨k, b⟩ := e
    have hk : j < k := h (k, b) (by simp)
    simp only [Tab.get, Nat.ne_of_lt hk, if_false]
    exact ih (fun x hx => h x (by simp [hx]))

/-- Erasing a number makes it read as the reset value. -/
@[simp] theorem Tab.get_erase (d : α) (t : Tab α) (i j : Nat) : (t.erase i).get d j = if j = i then d else t.get d j := by
  induction t with
  | nil => simp [Tab.erase, Tab.get]
  | cons e t ih =>
    obtain ⟨k, b⟩ := e
    unfold Tab.erase at ih ⊢
    by_cases hk : k = i
    · subst hk
      by_cases hj : j = k
      · simp [hj] at ih ⊢; exact ih
      · simp [hj, Tab.get] at ih ⊢; exact ih
    · have hb : List.filter (fun e => e.1 != i) ((k, b) :: t) = (k, b) :: List.filter (fun e => e.1 != i) t := by simp [hk]
      rw [hb]
      by_cases hj : j = k
      · subst hj; simp [Tab.get, hk]
      · simp only [Tab.get, hj, if_false]
        exact ih

end Sys2Proof
end

