-- ==== Sys2Proof/Laws/State.lean ====
section
/-!
SUPPORT. What each update of the state leaves alone, field by field, and what its own bank reads as after it.
-/
namespace Sys2Proof.Machine

open Sys2Proof

@[simp] theorem State.modQueue_charges (s : State) (q : Nat) (f : CmdQueue → CmdQueue) : (s.modQueue q f).charges = s.charges := rfl
@[simp] theorem State.modQueue_encLost (s : State) (q : Nat) (f : CmdQueue → CmdQueue) : (s.modQueue q f).encLost = s.encLost := rfl
@[simp] theorem State.modQueue_rx (s : State) (q : Nat) (f : CmdQueue → CmdQueue) : (s.modQueue q f).rx = s.rx := rfl
@[simp] theorem State.modQueue_braids (s : State) (q : Nat) (f : CmdQueue → CmdQueue) : (s.modQueue q f).braids = s.braids := rfl
@[simp] theorem State.modQueue_comp (s : State) (q : Nat) (f : CmdQueue → CmdQueue) : (s.modQueue q f).comp = s.comp := rfl
@[simp] theorem State.modQueue_progs (s : State) (q : Nat) (f : CmdQueue → CmdQueue) : (s.modQueue q f).progs = s.progs := rfl
@[simp] theorem State.modQueue_disp (s : State) (q : Nat) (f : CmdQueue → CmdQueue) : (s.modQueue q f).disp = s.disp := rfl
@[simp] theorem State.modQueue_egress (s : State) (q : Nat) (f : CmdQueue → CmdQueue) : (s.modQueue q f).egress = s.egress := rfl
@[simp] theorem State.modQueue_time (s : State) (q : Nat) (f : CmdQueue → CmdQueue) : (s.modQueue q f).time = s.time := rfl
@[simp] theorem State.modQueue_audio (s : State) (q : Nat) (f : CmdQueue → CmdQueue) : (s.modQueue q f).audio = s.audio := rfl
@[simp] theorem State.modQueue_twin (s : State) (q : Nat) (f : CmdQueue → CmdQueue) : (s.modQueue q f).twin = s.twin := rfl
@[simp] theorem State.modQueue_mem (s : State) (q : Nat) (f : CmdQueue → CmdQueue) : (s.modQueue q f).mem = s.mem := rfl
@[simp] theorem State.modQueue_cv (s : State) (q : Nat) (f : CmdQueue → CmdQueue) : (s.modQueue q f).cv = s.cv := rfl
@[simp] theorem State.modQueue_power (s : State) (q : Nat) (f : CmdQueue → CmdQueue) : (s.modQueue q f).power = s.power := rfl
@[simp] theorem State.modQueue_nv (s : State) (q : Nat) (f : CmdQueue → CmdQueue) : (s.modQueue q f).nv = s.nv := rfl
@[simp] theorem State.modQueue_upd (s : State) (q : Nat) (f : CmdQueue → CmdQueue) : (s.modQueue q f).upd = s.upd := rfl
@[simp] theorem State.modQueue_obs (s : State) (q : Nat) (f : CmdQueue → CmdQueue) : (s.modQueue q f).obs = s.obs := rfl
@[simp] theorem State.modQueue_out (s : State) (q : Nat) (f : CmdQueue → CmdQueue) : (s.modQueue q f).out = s.out := rfl
@[simp] theorem State.modQueue_free (s : State) (q : Nat) (f : CmdQueue → CmdQueue) : (s.modQueue q f).free = s.free := rfl
@[simp] theorem State.modQueue_pending (s : State) (q : Nat) (f : CmdQueue → CmdQueue) : (s.modQueue q f).pending = s.pending := rfl

@[simp] theorem State.modRx_hif (s : State) (i : Nat) (f : RxFlow → RxFlow) : (s.modRx i f).hif = s.hif := rfl
@[simp] theorem State.modRx_charges (s : State) (i : Nat) (f : RxFlow → RxFlow) : (s.modRx i f).charges = s.charges := rfl
@[simp] theorem State.modRx_encLost (s : State) (i : Nat) (f : RxFlow → RxFlow) : (s.modRx i f).encLost = s.encLost := rfl
@[simp] theorem State.modRx_braids (s : State) (i : Nat) (f : RxFlow → RxFlow) : (s.modRx i f).braids = s.braids := rfl
@[simp] theorem State.modRx_comp (s : State) (i : Nat) (f : RxFlow → RxFlow) : (s.modRx i f).comp = s.comp := rfl
@[simp] theorem State.modRx_progs (s : State) (i : Nat) (f : RxFlow → RxFlow) : (s.modRx i f).progs = s.progs := rfl
@[simp] theorem State.modRx_disp (s : State) (i : Nat) (f : RxFlow → RxFlow) : (s.modRx i f).disp = s.disp := rfl
@[simp] theorem State.modRx_egress (s : State) (i : Nat) (f : RxFlow → RxFlow) : (s.modRx i f).egress = s.egress := rfl
@[simp] theorem State.modRx_time (s : State) (i : Nat) (f : RxFlow → RxFlow) : (s.modRx i f).time = s.time := rfl
@[simp] theorem State.modRx_audio (s : State) (i : Nat) (f : RxFlow → RxFlow) : (s.modRx i f).audio = s.audio := rfl
@[simp] theorem State.modRx_twin (s : State) (i : Nat) (f : RxFlow → RxFlow) : (s.modRx i f).twin = s.twin := rfl
@[simp] theorem State.modRx_mem (s : State) (i : Nat) (f : RxFlow → RxFlow) : (s.modRx i f).mem = s.mem := rfl
@[simp] theorem State.modRx_cv (s : State) (i : Nat) (f : RxFlow → RxFlow) : (s.modRx i f).cv = s.cv := rfl
@[simp] theorem State.modRx_power (s : State) (i : Nat) (f : RxFlow → RxFlow) : (s.modRx i f).power = s.power := rfl
@[simp] theorem State.modRx_nv (s : State) (i : Nat) (f : RxFlow → RxFlow) : (s.modRx i f).nv = s.nv := rfl
@[simp] theorem State.modRx_upd (s : State) (i : Nat) (f : RxFlow → RxFlow) : (s.modRx i f).upd = s.upd := rfl
@[simp] theorem State.modRx_obs (s : State) (i : Nat) (f : RxFlow → RxFlow) : (s.modRx i f).obs = s.obs := rfl
@[simp] theorem State.modRx_out (s : State) (i : Nat) (f : RxFlow → RxFlow) : (s.modRx i f).out = s.out := rfl
@[simp] theorem State.modRx_free (s : State) (i : Nat) (f : RxFlow → RxFlow) : (s.modRx i f).free = s.free := rfl
@[simp] theorem State.modRx_pending (s : State) (i : Nat) (f : RxFlow → RxFlow) : (s.modRx i f).pending = s.pending := rfl

@[simp] theorem State.modBraid_hif (s : State) (i : Nat) (f : Braid → Braid) : (s.modBraid i f).hif = s.hif := rfl
@[simp] theorem State.modBraid_charges (s : State) (i : Nat) (f : Braid → Braid) : (s.modBraid i f).charges = s.charges := rfl
@[simp] theorem State.modBraid_encLost (s : State) (i : Nat) (f : Braid → Braid) : (s.modBraid i f).encLost = s.encLost := rfl
@[simp] theorem State.modBraid_rx (s : State) (i : Nat) (f : Braid → Braid) : (s.modBraid i f).rx = s.rx := rfl
@[simp] theorem State.modBraid_comp (s : State) (i : Nat) (f : Braid → Braid) : (s.modBraid i f).comp = s.comp := rfl
@[simp] theorem State.modBraid_progs (s : State) (i : Nat) (f : Braid → Braid) : (s.modBraid i f).progs = s.progs := rfl
@[simp] theorem State.modBraid_disp (s : State) (i : Nat) (f : Braid → Braid) : (s.modBraid i f).disp = s.disp := rfl
@[simp] theorem State.modBraid_egress (s : State) (i : Nat) (f : Braid → Braid) : (s.modBraid i f).egress = s.egress := rfl
@[simp] theorem State.modBraid_time (s : State) (i : Nat) (f : Braid → Braid) : (s.modBraid i f).time = s.time := rfl
@[simp] theorem State.modBraid_audio (s : State) (i : Nat) (f : Braid → Braid) : (s.modBraid i f).audio = s.audio := rfl
@[simp] theorem State.modBraid_twin (s : State) (i : Nat) (f : Braid → Braid) : (s.modBraid i f).twin = s.twin := rfl
@[simp] theorem State.modBraid_mem (s : State) (i : Nat) (f : Braid → Braid) : (s.modBraid i f).mem = s.mem := rfl
@[simp] theorem State.modBraid_cv (s : State) (i : Nat) (f : Braid → Braid) : (s.modBraid i f).cv = s.cv := rfl
@[simp] theorem State.modBraid_power (s : State) (i : Nat) (f : Braid → Braid) : (s.modBraid i f).power = s.power := rfl
@[simp] theorem State.modBraid_nv (s : State) (i : Nat) (f : Braid → Braid) : (s.modBraid i f).nv = s.nv := rfl
@[simp] theorem State.modBraid_upd (s : State) (i : Nat) (f : Braid → Braid) : (s.modBraid i f).upd = s.upd := rfl
@[simp] theorem State.modBraid_obs (s : State) (i : Nat) (f : Braid → Braid) : (s.modBraid i f).obs = s.obs := rfl
@[simp] theorem State.modBraid_out (s : State) (i : Nat) (f : Braid → Braid) : (s.modBraid i f).out = s.out := rfl
@[simp] theorem State.modBraid_free (s : State) (i : Nat) (f : Braid → Braid) : (s.modBraid i f).free = s.free := rfl
@[simp] theorem State.modBraid_pending (s : State) (i : Nat) (f : Braid → Braid) : (s.modBraid i f).pending = s.pending := rfl

@[simp] theorem State.modCanopy_hif (s : State) (i : Nat) (f : Canopy → Canopy) : (s.modCanopy i f).hif = s.hif := rfl
@[simp] theorem State.modCanopy_charges (s : State) (i : Nat) (f : Canopy → Canopy) : (s.modCanopy i f).charges = s.charges := rfl
@[simp] theorem State.modCanopy_encLost (s : State) (i : Nat) (f : Canopy → Canopy) : (s.modCanopy i f).encLost = s.encLost := rfl
@[simp] theorem State.modCanopy_rx (s : State) (i : Nat) (f : Canopy → Canopy) : (s.modCanopy i f).rx = s.rx := rfl
@[simp] theorem State.modCanopy_braids (s : State) (i : Nat) (f : Canopy → Canopy) : (s.modCanopy i f).braids = s.braids := rfl
@[simp] theorem State.modCanopy_progs (s : State) (i : Nat) (f : Canopy → Canopy) : (s.modCanopy i f).progs = s.progs := rfl
@[simp] theorem State.modCanopy_disp (s : State) (i : Nat) (f : Canopy → Canopy) : (s.modCanopy i f).disp = s.disp := rfl
@[simp] theorem State.modCanopy_egress (s : State) (i : Nat) (f : Canopy → Canopy) : (s.modCanopy i f).egress = s.egress := rfl
@[simp] theorem State.modCanopy_time (s : State) (i : Nat) (f : Canopy → Canopy) : (s.modCanopy i f).time = s.time := rfl
@[simp] theorem State.modCanopy_audio (s : State) (i : Nat) (f : Canopy → Canopy) : (s.modCanopy i f).audio = s.audio := rfl
@[simp] theorem State.modCanopy_twin (s : State) (i : Nat) (f : Canopy → Canopy) : (s.modCanopy i f).twin = s.twin := rfl
@[simp] theorem State.modCanopy_mem (s : State) (i : Nat) (f : Canopy → Canopy) : (s.modCanopy i f).mem = s.mem := rfl
@[simp] theorem State.modCanopy_cv (s : State) (i : Nat) (f : Canopy → Canopy) : (s.modCanopy i f).cv = s.cv := rfl
@[simp] theorem State.modCanopy_power (s : State) (i : Nat) (f : Canopy → Canopy) : (s.modCanopy i f).power = s.power := rfl
@[simp] theorem State.modCanopy_nv (s : State) (i : Nat) (f : Canopy → Canopy) : (s.modCanopy i f).nv = s.nv := rfl
@[simp] theorem State.modCanopy_upd (s : State) (i : Nat) (f : Canopy → Canopy) : (s.modCanopy i f).upd = s.upd := rfl
@[simp] theorem State.modCanopy_obs (s : State) (i : Nat) (f : Canopy → Canopy) : (s.modCanopy i f).obs = s.obs := rfl
@[simp] theorem State.modCanopy_out (s : State) (i : Nat) (f : Canopy → Canopy) : (s.modCanopy i f).out = s.out := rfl
@[simp] theorem State.modCanopy_free (s : State) (i : Nat) (f : Canopy → Canopy) : (s.modCanopy i f).free = s.free := rfl
@[simp] theorem State.modCanopy_pending (s : State) (i : Nat) (f : Canopy → Canopy) : (s.modCanopy i f).pending = s.pending := rfl

@[simp] theorem State.modLayer_hif (s : State) (i : Nat) (f : Layer → Layer) : (s.modLayer i f).hif = s.hif := rfl
@[simp] theorem State.modLayer_charges (s : State) (i : Nat) (f : Layer → Layer) : (s.modLayer i f).charges = s.charges := rfl
@[simp] theorem State.modLayer_encLost (s : State) (i : Nat) (f : Layer → Layer) : (s.modLayer i f).encLost = s.encLost := rfl
@[simp] theorem State.modLayer_rx (s : State) (i : Nat) (f : Layer → Layer) : (s.modLayer i f).rx = s.rx := rfl
@[simp] theorem State.modLayer_braids (s : State) (i : Nat) (f : Layer → Layer) : (s.modLayer i f).braids = s.braids := rfl
@[simp] theorem State.modLayer_progs (s : State) (i : Nat) (f : Layer → Layer) : (s.modLayer i f).progs = s.progs := rfl
@[simp] theorem State.modLayer_disp (s : State) (i : Nat) (f : Layer → Layer) : (s.modLayer i f).disp = s.disp := rfl
@[simp] theorem State.modLayer_egress (s : State) (i : Nat) (f : Layer → Layer) : (s.modLayer i f).egress = s.egress := rfl
@[simp] theorem State.modLayer_time (s : State) (i : Nat) (f : Layer → Layer) : (s.modLayer i f).time = s.time := rfl
@[simp] theorem State.modLayer_audio (s : State) (i : Nat) (f : Layer → Layer) : (s.modLayer i f).audio = s.audio := rfl
@[simp] theorem State.modLayer_twin (s : State) (i : Nat) (f : Layer → Layer) : (s.modLayer i f).twin = s.twin := rfl
@[simp] theorem State.modLayer_mem (s : State) (i : Nat) (f : Layer → Layer) : (s.modLayer i f).mem = s.mem := rfl
@[simp] theorem State.modLayer_cv (s : State) (i : Nat) (f : Layer → Layer) : (s.modLayer i f).cv = s.cv := rfl
@[simp] theorem State.modLayer_power (s : State) (i : Nat) (f : Layer → Layer) : (s.modLayer i f).power = s.power := rfl
@[simp] theorem State.modLayer_nv (s : State) (i : Nat) (f : Layer → Layer) : (s.modLayer i f).nv = s.nv := rfl
@[simp] theorem State.modLayer_upd (s : State) (i : Nat) (f : Layer → Layer) : (s.modLayer i f).upd = s.upd := rfl
@[simp] theorem State.modLayer_obs (s : State) (i : Nat) (f : Layer → Layer) : (s.modLayer i f).obs = s.obs := rfl
@[simp] theorem State.modLayer_out (s : State) (i : Nat) (f : Layer → Layer) : (s.modLayer i f).out = s.out := rfl
@[simp] theorem State.modLayer_free (s : State) (i : Nat) (f : Layer → Layer) : (s.modLayer i f).free = s.free := rfl
@[simp] theorem State.modLayer_pending (s : State) (i : Nat) (f : Layer → Layer) : (s.modLayer i f).pending = s.pending := rfl

@[simp] theorem State.modProg_hif (s : State) (i : Nat) (f : Program → Program) : (s.modProg i f).hif = s.hif := rfl
@[simp] theorem State.modProg_charges (s : State) (i : Nat) (f : Program → Program) : (s.modProg i f).charges = s.charges := rfl
@[simp] theorem State.modProg_encLost (s : State) (i : Nat) (f : Program → Program) : (s.modProg i f).encLost = s.encLost := rfl
@[simp] theorem State.modProg_rx (s : State) (i : Nat) (f : Program → Program) : (s.modProg i f).rx = s.rx := rfl
@[simp] theorem State.modProg_braids (s : State) (i : Nat) (f : Program → Program) : (s.modProg i f).braids = s.braids := rfl
@[simp] theorem State.modProg_comp (s : State) (i : Nat) (f : Program → Program) : (s.modProg i f).comp = s.comp := rfl
@[simp] theorem State.modProg_disp (s : State) (i : Nat) (f : Program → Program) : (s.modProg i f).disp = s.disp := rfl
@[simp] theorem State.modProg_egress (s : State) (i : Nat) (f : Program → Program) : (s.modProg i f).egress = s.egress := rfl
@[simp] theorem State.modProg_time (s : State) (i : Nat) (f : Program → Program) : (s.modProg i f).time = s.time := rfl
@[simp] theorem State.modProg_audio (s : State) (i : Nat) (f : Program → Program) : (s.modProg i f).audio = s.audio := rfl
@[simp] theorem State.modProg_twin (s : State) (i : Nat) (f : Program → Program) : (s.modProg i f).twin = s.twin := rfl
@[simp] theorem State.modProg_mem (s : State) (i : Nat) (f : Program → Program) : (s.modProg i f).mem = s.mem := rfl
@[simp] theorem State.modProg_cv (s : State) (i : Nat) (f : Program → Program) : (s.modProg i f).cv = s.cv := rfl
@[simp] theorem State.modProg_power (s : State) (i : Nat) (f : Program → Program) : (s.modProg i f).power = s.power := rfl
@[simp] theorem State.modProg_nv (s : State) (i : Nat) (f : Program → Program) : (s.modProg i f).nv = s.nv := rfl
@[simp] theorem State.modProg_upd (s : State) (i : Nat) (f : Program → Program) : (s.modProg i f).upd = s.upd := rfl
@[simp] theorem State.modProg_obs (s : State) (i : Nat) (f : Program → Program) : (s.modProg i f).obs = s.obs := rfl
@[simp] theorem State.modProg_out (s : State) (i : Nat) (f : Program → Program) : (s.modProg i f).out = s.out := rfl
@[simp] theorem State.modProg_free (s : State) (i : Nat) (f : Program → Program) : (s.modProg i f).free = s.free := rfl
@[simp] theorem State.modProg_pending (s : State) (i : Nat) (f : Program → Program) : (s.modProg i f).pending = s.pending := rfl

@[simp] theorem State.modTx_hif (s : State) (i : Nat) (f : TxFlow → TxFlow) : (s.modTx i f).hif = s.hif := rfl
@[simp] theorem State.modTx_charges (s : State) (i : Nat) (f : TxFlow → TxFlow) : (s.modTx i f).charges = s.charges := rfl
@[simp] theorem State.modTx_encLost (s : State) (i : Nat) (f : TxFlow → TxFlow) : (s.modTx i f).encLost = s.encLost := rfl
@[simp] theorem State.modTx_rx (s : State) (i : Nat) (f : TxFlow → TxFlow) : (s.modTx i f).rx = s.rx := rfl
@[simp] theorem State.modTx_braids (s : State) (i : Nat) (f : TxFlow → TxFlow) : (s.modTx i f).braids = s.braids := rfl
@[simp] theorem State.modTx_comp (s : State) (i : Nat) (f : TxFlow → TxFlow) : (s.modTx i f).comp = s.comp := rfl
@[simp] theorem State.modTx_progs (s : State) (i : Nat) (f : TxFlow → TxFlow) : (s.modTx i f).progs = s.progs := rfl
@[simp] theorem State.modTx_disp (s : State) (i : Nat) (f : TxFlow → TxFlow) : (s.modTx i f).disp = s.disp := rfl
@[simp] theorem State.modTx_time (s : State) (i : Nat) (f : TxFlow → TxFlow) : (s.modTx i f).time = s.time := rfl
@[simp] theorem State.modTx_audio (s : State) (i : Nat) (f : TxFlow → TxFlow) : (s.modTx i f).audio = s.audio := rfl
@[simp] theorem State.modTx_twin (s : State) (i : Nat) (f : TxFlow → TxFlow) : (s.modTx i f).twin = s.twin := rfl
@[simp] theorem State.modTx_mem (s : State) (i : Nat) (f : TxFlow → TxFlow) : (s.modTx i f).mem = s.mem := rfl
@[simp] theorem State.modTx_cv (s : State) (i : Nat) (f : TxFlow → TxFlow) : (s.modTx i f).cv = s.cv := rfl
@[simp] theorem State.modTx_power (s : State) (i : Nat) (f : TxFlow → TxFlow) : (s.modTx i f).power = s.power := rfl
@[simp] theorem State.modTx_nv (s : State) (i : Nat) (f : TxFlow → TxFlow) : (s.modTx i f).nv = s.nv := rfl
@[simp] theorem State.modTx_upd (s : State) (i : Nat) (f : TxFlow → TxFlow) : (s.modTx i f).upd = s.upd := rfl
@[simp] theorem State.modTx_obs (s : State) (i : Nat) (f : TxFlow → TxFlow) : (s.modTx i f).obs = s.obs := rfl
@[simp] theorem State.modTx_out (s : State) (i : Nat) (f : TxFlow → TxFlow) : (s.modTx i f).out = s.out := rfl
@[simp] theorem State.modTx_free (s : State) (i : Nat) (f : TxFlow → TxFlow) : (s.modTx i f).free = s.free := rfl
@[simp] theorem State.modTx_pending (s : State) (i : Nat) (f : TxFlow → TxFlow) : (s.modTx i f).pending = s.pending := rfl

@[simp] theorem State.modSub_hif (s : State) (p b : Nat) (f : SubPort → SubPort) : (s.modSub p b f).hif = s.hif := rfl
@[simp] theorem State.modSub_charges (s : State) (p b : Nat) (f : SubPort → SubPort) : (s.modSub p b f).charges = s.charges := rfl
@[simp] theorem State.modSub_encLost (s : State) (p b : Nat) (f : SubPort → SubPort) : (s.modSub p b f).encLost = s.encLost := rfl
@[simp] theorem State.modSub_rx (s : State) (p b : Nat) (f : SubPort → SubPort) : (s.modSub p b f).rx = s.rx := rfl
@[simp] theorem State.modSub_braids (s : State) (p b : Nat) (f : SubPort → SubPort) : (s.modSub p b f).braids = s.braids := rfl
@[simp] theorem State.modSub_comp (s : State) (p b : Nat) (f : SubPort → SubPort) : (s.modSub p b f).comp = s.comp := rfl
@[simp] theorem State.modSub_progs (s : State) (p b : Nat) (f : SubPort → SubPort) : (s.modSub p b f).progs = s.progs := rfl
@[simp] theorem State.modSub_disp (s : State) (p b : Nat) (f : SubPort → SubPort) : (s.modSub p b f).disp = s.disp := rfl
@[simp] theorem State.modSub_time (s : State) (p b : Nat) (f : SubPort → SubPort) : (s.modSub p b f).time = s.time := rfl
@[simp] theorem State.modSub_audio (s : State) (p b : Nat) (f : SubPort → SubPort) : (s.modSub p b f).audio = s.audio := rfl
@[simp] theorem State.modSub_twin (s : State) (p b : Nat) (f : SubPort → SubPort) : (s.modSub p b f).twin = s.twin := rfl
@[simp] theorem State.modSub_mem (s : State) (p b : Nat) (f : SubPort → SubPort) : (s.modSub p b f).mem = s.mem := rfl
@[simp] theorem State.modSub_cv (s : State) (p b : Nat) (f : SubPort → SubPort) : (s.modSub p b f).cv = s.cv := rfl
@[simp] theorem State.modSub_power (s : State) (p b : Nat) (f : SubPort → SubPort) : (s.modSub p b f).power = s.power := rfl
@[simp] theorem State.modSub_nv (s : State) (p b : Nat) (f : SubPort → SubPort) : (s.modSub p b f).nv = s.nv := rfl
@[simp] theorem State.modSub_upd (s : State) (p b : Nat) (f : SubPort → SubPort) : (s.modSub p b f).upd = s.upd := rfl
@[simp] theorem State.modSub_obs (s : State) (p b : Nat) (f : SubPort → SubPort) : (s.modSub p b f).obs = s.obs := rfl
@[simp] theorem State.modSub_out (s : State) (p b : Nat) (f : SubPort → SubPort) : (s.modSub p b f).out = s.out := rfl
@[simp] theorem State.modSub_free (s : State) (p b : Nat) (f : SubPort → SubPort) : (s.modSub p b f).free = s.free := rfl
@[simp] theorem State.modSub_pending (s : State) (p b : Nat) (f : SubPort → SubPort) : (s.modSub p b f).pending = s.pending := rfl

@[simp] theorem State.modTb_hif (s : State) (i : Nat) (f : TimeBase → TimeBase) : (s.modTb i f).hif = s.hif := rfl
@[simp] theorem State.modTb_charges (s : State) (i : Nat) (f : TimeBase → TimeBase) : (s.modTb i f).charges = s.charges := rfl
@[simp] theorem State.modTb_encLost (s : State) (i : Nat) (f : TimeBase → TimeBase) : (s.modTb i f).encLost = s.encLost := rfl
@[simp] theorem State.modTb_rx (s : State) (i : Nat) (f : TimeBase → TimeBase) : (s.modTb i f).rx = s.rx := rfl
@[simp] theorem State.modTb_braids (s : State) (i : Nat) (f : TimeBase → TimeBase) : (s.modTb i f).braids = s.braids := rfl
@[simp] theorem State.modTb_comp (s : State) (i : Nat) (f : TimeBase → TimeBase) : (s.modTb i f).comp = s.comp := rfl
@[simp] theorem State.modTb_progs (s : State) (i : Nat) (f : TimeBase → TimeBase) : (s.modTb i f).progs = s.progs := rfl
@[simp] theorem State.modTb_disp (s : State) (i : Nat) (f : TimeBase → TimeBase) : (s.modTb i f).disp = s.disp := rfl
@[simp] theorem State.modTb_egress (s : State) (i : Nat) (f : TimeBase → TimeBase) : (s.modTb i f).egress = s.egress := rfl
@[simp] theorem State.modTb_audio (s : State) (i : Nat) (f : TimeBase → TimeBase) : (s.modTb i f).audio = s.audio := rfl
@[simp] theorem State.modTb_twin (s : State) (i : Nat) (f : TimeBase → TimeBase) : (s.modTb i f).twin = s.twin := rfl
@[simp] theorem State.modTb_mem (s : State) (i : Nat) (f : TimeBase → TimeBase) : (s.modTb i f).mem = s.mem := rfl
@[simp] theorem State.modTb_cv (s : State) (i : Nat) (f : TimeBase → TimeBase) : (s.modTb i f).cv = s.cv := rfl
@[simp] theorem State.modTb_power (s : State) (i : Nat) (f : TimeBase → TimeBase) : (s.modTb i f).power = s.power := rfl
@[simp] theorem State.modTb_nv (s : State) (i : Nat) (f : TimeBase → TimeBase) : (s.modTb i f).nv = s.nv := rfl
@[simp] theorem State.modTb_upd (s : State) (i : Nat) (f : TimeBase → TimeBase) : (s.modTb i f).upd = s.upd := rfl
@[simp] theorem State.modTb_obs (s : State) (i : Nat) (f : TimeBase → TimeBase) : (s.modTb i f).obs = s.obs := rfl
@[simp] theorem State.modTb_out (s : State) (i : Nat) (f : TimeBase → TimeBase) : (s.modTb i f).out = s.out := rfl
@[simp] theorem State.modTb_free (s : State) (i : Nat) (f : TimeBase → TimeBase) : (s.modTb i f).free = s.free := rfl
@[simp] theorem State.modTb_pending (s : State) (i : Nat) (f : TimeBase → TimeBase) : (s.modTb i f).pending = s.pending := rfl

@[simp] theorem State.modChannel_hif (s : State) (i : Nat) (f : Channel → Channel) : (s.modChannel i f).hif = s.hif := rfl
@[simp] theorem State.modChannel_charges (s : State) (i : Nat) (f : Channel → Channel) : (s.modChannel i f).charges = s.charges := rfl
@[simp] theorem State.modChannel_encLost (s : State) (i : Nat) (f : Channel → Channel) : (s.modChannel i f).encLost = s.encLost := rfl
@[simp] theorem State.modChannel_rx (s : State) (i : Nat) (f : Channel → Channel) : (s.modChannel i f).rx = s.rx := rfl
@[simp] theorem State.modChannel_braids (s : State) (i : Nat) (f : Channel → Channel) : (s.modChannel i f).braids = s.braids := rfl
@[simp] theorem State.modChannel_comp (s : State) (i : Nat) (f : Channel → Channel) : (s.modChannel i f).comp = s.comp := rfl
@[simp] theorem State.modChannel_progs (s : State) (i : Nat) (f : Channel → Channel) : (s.modChannel i f).progs = s.progs := rfl
@[simp] theorem State.modChannel_disp (s : State) (i : Nat) (f : Channel → Channel) : (s.modChannel i f).disp = s.disp := rfl
@[simp] theorem State.modChannel_egress (s : State) (i : Nat) (f : Channel → Channel) : (s.modChannel i f).egress = s.egress := rfl
@[simp] theorem State.modChannel_time (s : State) (i : Nat) (f : Channel → Channel) : (s.modChannel i f).time = s.time := rfl
@[simp] theorem State.modChannel_audio (s : State) (i : Nat) (f : Channel → Channel) : (s.modChannel i f).audio = s.audio := rfl
@[simp] theorem State.modChannel_twin (s : State) (i : Nat) (f : Channel → Channel) : (s.modChannel i f).twin = s.twin := rfl
@[simp] theorem State.modChannel_cv (s : State) (i : Nat) (f : Channel → Channel) : (s.modChannel i f).cv = s.cv := rfl
@[simp] theorem State.modChannel_power (s : State) (i : Nat) (f : Channel → Channel) : (s.modChannel i f).power = s.power := rfl
@[simp] theorem State.modChannel_nv (s : State) (i : Nat) (f : Channel → Channel) : (s.modChannel i f).nv = s.nv := rfl
@[simp] theorem State.modChannel_upd (s : State) (i : Nat) (f : Channel → Channel) : (s.modChannel i f).upd = s.upd := rfl
@[simp] theorem State.modChannel_obs (s : State) (i : Nat) (f : Channel → Channel) : (s.modChannel i f).obs = s.obs := rfl
@[simp] theorem State.modChannel_out (s : State) (i : Nat) (f : Channel → Channel) : (s.modChannel i f).out = s.out := rfl
@[simp] theorem State.modChannel_free (s : State) (i : Nat) (f : Channel → Channel) : (s.modChannel i f).free = s.free := rfl
@[simp] theorem State.modChannel_pending (s : State) (i : Nat) (f : Channel → Channel) : (s.modChannel i f).pending = s.pending := rfl

@[simp] theorem State.modCv_hif (s : State) (i : Nat) (f : CvUnit → CvUnit) : (s.modCv i f).hif = s.hif := rfl
@[simp] theorem State.modCv_charges (s : State) (i : Nat) (f : CvUnit → CvUnit) : (s.modCv i f).charges = s.charges := rfl
@[simp] theorem State.modCv_encLost (s : State) (i : Nat) (f : CvUnit → CvUnit) : (s.modCv i f).encLost = s.encLost := rfl
@[simp] theorem State.modCv_rx (s : State) (i : Nat) (f : CvUnit → CvUnit) : (s.modCv i f).rx = s.rx := rfl
@[simp] theorem State.modCv_braids (s : State) (i : Nat) (f : CvUnit → CvUnit) : (s.modCv i f).braids = s.braids := rfl
@[simp] theorem State.modCv_comp (s : State) (i : Nat) (f : CvUnit → CvUnit) : (s.modCv i f).comp = s.comp := rfl
@[simp] theorem State.modCv_progs (s : State) (i : Nat) (f : CvUnit → CvUnit) : (s.modCv i f).progs = s.progs := rfl
@[simp] theorem State.modCv_disp (s : State) (i : Nat) (f : CvUnit → CvUnit) : (s.modCv i f).disp = s.disp := rfl
@[simp] theorem State.modCv_egress (s : State) (i : Nat) (f : CvUnit → CvUnit) : (s.modCv i f).egress = s.egress := rfl
@[simp] theorem State.modCv_time (s : State) (i : Nat) (f : CvUnit → CvUnit) : (s.modCv i f).time = s.time := rfl
@[simp] theorem State.modCv_audio (s : State) (i : Nat) (f : CvUnit → CvUnit) : (s.modCv i f).audio = s.audio := rfl
@[simp] theorem State.modCv_twin (s : State) (i : Nat) (f : CvUnit → CvUnit) : (s.modCv i f).twin = s.twin := rfl
@[simp] theorem State.modCv_mem (s : State) (i : Nat) (f : CvUnit → CvUnit) : (s.modCv i f).mem = s.mem := rfl
@[simp] theorem State.modCv_power (s : State) (i : Nat) (f : CvUnit → CvUnit) : (s.modCv i f).power = s.power := rfl
@[simp] theorem State.modCv_nv (s : State) (i : Nat) (f : CvUnit → CvUnit) : (s.modCv i f).nv = s.nv := rfl
@[simp] theorem State.modCv_upd (s : State) (i : Nat) (f : CvUnit → CvUnit) : (s.modCv i f).upd = s.upd := rfl
@[simp] theorem State.modCv_obs (s : State) (i : Nat) (f : CvUnit → CvUnit) : (s.modCv i f).obs = s.obs := rfl
@[simp] theorem State.modCv_out (s : State) (i : Nat) (f : CvUnit → CvUnit) : (s.modCv i f).out = s.out := rfl
@[simp] theorem State.modCv_free (s : State) (i : Nat) (f : CvUnit → CvUnit) : (s.modCv i f).free = s.free := rfl
@[simp] theorem State.modCv_pending (s : State) (i : Nat) (f : CvUnit → CvUnit) : (s.modCv i f).pending = s.pending := rfl

@[simp] theorem State.modIn_hif (s : State) (i : Nat) (f : AudioIn → AudioIn) : (s.modIn i f).hif = s.hif := rfl
@[simp] theorem State.modIn_charges (s : State) (i : Nat) (f : AudioIn → AudioIn) : (s.modIn i f).charges = s.charges := rfl
@[simp] theorem State.modIn_encLost (s : State) (i : Nat) (f : AudioIn → AudioIn) : (s.modIn i f).encLost = s.encLost := rfl
@[simp] theorem State.modIn_rx (s : State) (i : Nat) (f : AudioIn → AudioIn) : (s.modIn i f).rx = s.rx := rfl
@[simp] theorem State.modIn_braids (s : State) (i : Nat) (f : AudioIn → AudioIn) : (s.modIn i f).braids = s.braids := rfl
@[simp] theorem State.modIn_comp (s : State) (i : Nat) (f : AudioIn → AudioIn) : (s.modIn i f).comp = s.comp := rfl
@[simp] theorem State.modIn_progs (s : State) (i : Nat) (f : AudioIn → AudioIn) : (s.modIn i f).progs = s.progs := rfl
@[simp] theorem State.modIn_disp (s : State) (i : Nat) (f : AudioIn → AudioIn) : (s.modIn i f).disp = s.disp := rfl
@[simp] theorem State.modIn_egress (s : State) (i : Nat) (f : AudioIn → AudioIn) : (s.modIn i f).egress = s.egress := rfl
@[simp] theorem State.modIn_time (s : State) (i : Nat) (f : AudioIn → AudioIn) : (s.modIn i f).time = s.time := rfl
@[simp] theorem State.modIn_twin (s : State) (i : Nat) (f : AudioIn → AudioIn) : (s.modIn i f).twin = s.twin := rfl
@[simp] theorem State.modIn_mem (s : State) (i : Nat) (f : AudioIn → AudioIn) : (s.modIn i f).mem = s.mem := rfl
@[simp] theorem State.modIn_cv (s : State) (i : Nat) (f : AudioIn → AudioIn) : (s.modIn i f).cv = s.cv := rfl
@[simp] theorem State.modIn_power (s : State) (i : Nat) (f : AudioIn → AudioIn) : (s.modIn i f).power = s.power := rfl
@[simp] theorem State.modIn_nv (s : State) (i : Nat) (f : AudioIn → AudioIn) : (s.modIn i f).nv = s.nv := rfl
@[simp] theorem State.modIn_upd (s : State) (i : Nat) (f : AudioIn → AudioIn) : (s.modIn i f).upd = s.upd := rfl
@[simp] theorem State.modIn_obs (s : State) (i : Nat) (f : AudioIn → AudioIn) : (s.modIn i f).obs = s.obs := rfl
@[simp] theorem State.modIn_out (s : State) (i : Nat) (f : AudioIn → AudioIn) : (s.modIn i f).out = s.out := rfl
@[simp] theorem State.modIn_free (s : State) (i : Nat) (f : AudioIn → AudioIn) : (s.modIn i f).free = s.free := rfl
@[simp] theorem State.modIn_pending (s : State) (i : Nat) (f : AudioIn → AudioIn) : (s.modIn i f).pending = s.pending := rfl

@[simp] theorem State.modPort_hif (s : State) (i : Nat) (f : AudioPort → AudioPort) : (s.modPort i f).hif = s.hif := rfl
@[simp] theorem State.modPort_charges (s : State) (i : Nat) (f : AudioPort → AudioPort) : (s.modPort i f).charges = s.charges := rfl
@[simp] theorem State.modPort_encLost (s : State) (i : Nat) (f : AudioPort → AudioPort) : (s.modPort i f).encLost = s.encLost := rfl
@[simp] theorem State.modPort_rx (s : State) (i : Nat) (f : AudioPort → AudioPort) : (s.modPort i f).rx = s.rx := rfl
@[simp] theorem State.modPort_braids (s : State) (i : Nat) (f : AudioPort → AudioPort) : (s.modPort i f).braids = s.braids := rfl
@[simp] theorem State.modPort_comp (s : State) (i : Nat) (f : AudioPort → AudioPort) : (s.modPort i f).comp = s.comp := rfl
@[simp] theorem State.modPort_progs (s : State) (i : Nat) (f : AudioPort → AudioPort) : (s.modPort i f).progs = s.progs := rfl
@[simp] theorem State.modPort_disp (s : State) (i : Nat) (f : AudioPort → AudioPort) : (s.modPort i f).disp = s.disp := rfl
@[simp] theorem State.modPort_egress (s : State) (i : Nat) (f : AudioPort → AudioPort) : (s.modPort i f).egress = s.egress := rfl
@[simp] theorem State.modPort_time (s : State) (i : Nat) (f : AudioPort → AudioPort) : (s.modPort i f).time = s.time := rfl
@[simp] theorem State.modPort_twin (s : State) (i : Nat) (f : AudioPort → AudioPort) : (s.modPort i f).twin = s.twin := rfl
@[simp] theorem State.modPort_mem (s : State) (i : Nat) (f : AudioPort → AudioPort) : (s.modPort i f).mem = s.mem := rfl
@[simp] theorem State.modPort_cv (s : State) (i : Nat) (f : AudioPort → AudioPort) : (s.modPort i f).cv = s.cv := rfl
@[simp] theorem State.modPort_power (s : State) (i : Nat) (f : AudioPort → AudioPort) : (s.modPort i f).power = s.power := rfl
@[simp] theorem State.modPort_nv (s : State) (i : Nat) (f : AudioPort → AudioPort) : (s.modPort i f).nv = s.nv := rfl
@[simp] theorem State.modPort_upd (s : State) (i : Nat) (f : AudioPort → AudioPort) : (s.modPort i f).upd = s.upd := rfl
@[simp] theorem State.modPort_obs (s : State) (i : Nat) (f : AudioPort → AudioPort) : (s.modPort i f).obs = s.obs := rfl
@[simp] theorem State.modPort_out (s : State) (i : Nat) (f : AudioPort → AudioPort) : (s.modPort i f).out = s.out := rfl
@[simp] theorem State.modPort_free (s : State) (i : Nat) (f : AudioPort → AudioPort) : (s.modPort i f).free = s.free := rfl
@[simp] theorem State.modPort_pending (s : State) (i : Nat) (f : AudioPort → AudioPort) : (s.modPort i f).pending = s.pending := rfl

@[simp] theorem State.modRoute_hif (s : State) (i : Nat) (f : Route → Route) : (s.modRoute i f).hif = s.hif := rfl
@[simp] theorem State.modRoute_charges (s : State) (i : Nat) (f : Route → Route) : (s.modRoute i f).charges = s.charges := rfl
@[simp] theorem State.modRoute_encLost (s : State) (i : Nat) (f : Route → Route) : (s.modRoute i f).encLost = s.encLost := rfl
@[simp] theorem State.modRoute_rx (s : State) (i : Nat) (f : Route → Route) : (s.modRoute i f).rx = s.rx := rfl
@[simp] theorem State.modRoute_braids (s : State) (i : Nat) (f : Route → Route) : (s.modRoute i f).braids = s.braids := rfl
@[simp] theorem State.modRoute_comp (s : State) (i : Nat) (f : Route → Route) : (s.modRoute i f).comp = s.comp := rfl
@[simp] theorem State.modRoute_progs (s : State) (i : Nat) (f : Route → Route) : (s.modRoute i f).progs = s.progs := rfl
@[simp] theorem State.modRoute_disp (s : State) (i : Nat) (f : Route → Route) : (s.modRoute i f).disp = s.disp := rfl
@[simp] theorem State.modRoute_egress (s : State) (i : Nat) (f : Route → Route) : (s.modRoute i f).egress = s.egress := rfl
@[simp] theorem State.modRoute_time (s : State) (i : Nat) (f : Route → Route) : (s.modRoute i f).time = s.time := rfl
@[simp] theorem State.modRoute_twin (s : State) (i : Nat) (f : Route → Route) : (s.modRoute i f).twin = s.twin := rfl
@[simp] theorem State.modRoute_mem (s : State) (i : Nat) (f : Route → Route) : (s.modRoute i f).mem = s.mem := rfl
@[simp] theorem State.modRoute_cv (s : State) (i : Nat) (f : Route → Route) : (s.modRoute i f).cv = s.cv := rfl
@[simp] theorem State.modRoute_power (s : State) (i : Nat) (f : Route → Route) : (s.modRoute i f).power = s.power := rfl
@[simp] theorem State.modRoute_nv (s : State) (i : Nat) (f : Route → Route) : (s.modRoute i f).nv = s.nv := rfl
@[simp] theorem State.modRoute_upd (s : State) (i : Nat) (f : Route → Route) : (s.modRoute i f).upd = s.upd := rfl
@[simp] theorem State.modRoute_obs (s : State) (i : Nat) (f : Route → Route) : (s.modRoute i f).obs = s.obs := rfl
@[simp] theorem State.modRoute_out (s : State) (i : Nat) (f : Route → Route) : (s.modRoute i f).out = s.out := rfl
@[simp] theorem State.modRoute_free (s : State) (i : Nat) (f : Route → Route) : (s.modRoute i f).free = s.free := rfl
@[simp] theorem State.modRoute_pending (s : State) (i : Nat) (f : Route → Route) : (s.modRoute i f).pending = s.pending := rfl

@[simp] theorem State.modPmc_hif (s : State) (i : Nat) (f : Pmc → Pmc) : (s.modPmc i f).hif = s.hif := rfl
@[simp] theorem State.modPmc_charges (s : State) (i : Nat) (f : Pmc → Pmc) : (s.modPmc i f).charges = s.charges := rfl
@[simp] theorem State.modPmc_encLost (s : State) (i : Nat) (f : Pmc → Pmc) : (s.modPmc i f).encLost = s.encLost := rfl
@[simp] theorem State.modPmc_rx (s : State) (i : Nat) (f : Pmc → Pmc) : (s.modPmc i f).rx = s.rx := rfl
@[simp] theorem State.modPmc_braids (s : State) (i : Nat) (f : Pmc → Pmc) : (s.modPmc i f).braids = s.braids := rfl
@[simp] theorem State.modPmc_comp (s : State) (i : Nat) (f : Pmc → Pmc) : (s.modPmc i f).comp = s.comp := rfl
@[simp] theorem State.modPmc_progs (s : State) (i : Nat) (f : Pmc → Pmc) : (s.modPmc i f).progs = s.progs := rfl
@[simp] theorem State.modPmc_disp (s : State) (i : Nat) (f : Pmc → Pmc) : (s.modPmc i f).disp = s.disp := rfl
@[simp] theorem State.modPmc_egress (s : State) (i : Nat) (f : Pmc → Pmc) : (s.modPmc i f).egress = s.egress := rfl
@[simp] theorem State.modPmc_time (s : State) (i : Nat) (f : Pmc → Pmc) : (s.modPmc i f).time = s.time := rfl
@[simp] theorem State.modPmc_audio (s : State) (i : Nat) (f : Pmc → Pmc) : (s.modPmc i f).audio = s.audio := rfl
@[simp] theorem State.modPmc_twin (s : State) (i : Nat) (f : Pmc → Pmc) : (s.modPmc i f).twin = s.twin := rfl
@[simp] theorem State.modPmc_mem (s : State) (i : Nat) (f : Pmc → Pmc) : (s.modPmc i f).mem = s.mem := rfl
@[simp] theorem State.modPmc_cv (s : State) (i : Nat) (f : Pmc → Pmc) : (s.modPmc i f).cv = s.cv := rfl
@[simp] theorem State.modPmc_power (s : State) (i : Nat) (f : Pmc → Pmc) : (s.modPmc i f).power = s.power := rfl
@[simp] theorem State.modPmc_nv (s : State) (i : Nat) (f : Pmc → Pmc) : (s.modPmc i f).nv = s.nv := rfl
@[simp] theorem State.modPmc_upd (s : State) (i : Nat) (f : Pmc → Pmc) : (s.modPmc i f).upd = s.upd := rfl
@[simp] theorem State.modPmc_out (s : State) (i : Nat) (f : Pmc → Pmc) : (s.modPmc i f).out = s.out := rfl
@[simp] theorem State.modPmc_free (s : State) (i : Nat) (f : Pmc → Pmc) : (s.modPmc i f).free = s.free := rfl
@[simp] theorem State.modPmc_pending (s : State) (i : Nat) (f : Pmc → Pmc) : (s.modPmc i f).pending = s.pending := rfl

@[simp] theorem State.modUnit_hif (s : State) (i : Nat) (f : PUnit → PUnit) : (s.modUnit i f).hif = s.hif := rfl
@[simp] theorem State.modUnit_charges (s : State) (i : Nat) (f : PUnit → PUnit) : (s.modUnit i f).charges = s.charges := rfl
@[simp] theorem State.modUnit_encLost (s : State) (i : Nat) (f : PUnit → PUnit) : (s.modUnit i f).encLost = s.encLost := rfl
@[simp] theorem State.modUnit_rx (s : State) (i : Nat) (f : PUnit → PUnit) : (s.modUnit i f).rx = s.rx := rfl
@[simp] theorem State.modUnit_braids (s : State) (i : Nat) (f : PUnit → PUnit) : (s.modUnit i f).braids = s.braids := rfl
@[simp] theorem State.modUnit_comp (s : State) (i : Nat) (f : PUnit → PUnit) : (s.modUnit i f).comp = s.comp := rfl
@[simp] theorem State.modUnit_progs (s : State) (i : Nat) (f : PUnit → PUnit) : (s.modUnit i f).progs = s.progs := rfl
@[simp] theorem State.modUnit_egress (s : State) (i : Nat) (f : PUnit → PUnit) : (s.modUnit i f).egress = s.egress := rfl
@[simp] theorem State.modUnit_time (s : State) (i : Nat) (f : PUnit → PUnit) : (s.modUnit i f).time = s.time := rfl
@[simp] theorem State.modUnit_audio (s : State) (i : Nat) (f : PUnit → PUnit) : (s.modUnit i f).audio = s.audio := rfl
@[simp] theorem State.modUnit_twin (s : State) (i : Nat) (f : PUnit → PUnit) : (s.modUnit i f).twin = s.twin := rfl
@[simp] theorem State.modUnit_mem (s : State) (i : Nat) (f : PUnit → PUnit) : (s.modUnit i f).mem = s.mem := rfl
@[simp] theorem State.modUnit_cv (s : State) (i : Nat) (f : PUnit → PUnit) : (s.modUnit i f).cv = s.cv := rfl
@[simp] theorem State.modUnit_power (s : State) (i : Nat) (f : PUnit → PUnit) : (s.modUnit i f).power = s.power := rfl
@[simp] theorem State.modUnit_nv (s : State) (i : Nat) (f : PUnit → PUnit) : (s.modUnit i f).nv = s.nv := rfl
@[simp] theorem State.modUnit_upd (s : State) (i : Nat) (f : PUnit → PUnit) : (s.modUnit i f).upd = s.upd := rfl
@[simp] theorem State.modUnit_obs (s : State) (i : Nat) (f : PUnit → PUnit) : (s.modUnit i f).obs = s.obs := rfl
@[simp] theorem State.modUnit_out (s : State) (i : Nat) (f : PUnit → PUnit) : (s.modUnit i f).out = s.out := rfl
@[simp] theorem State.modUnit_free (s : State) (i : Nat) (f : PUnit → PUnit) : (s.modUnit i f).free = s.free := rfl
@[simp] theorem State.modUnit_pending (s : State) (i : Nat) (f : PUnit → PUnit) : (s.modUnit i f).pending = s.pending := rfl

@[simp] theorem State.emit_hif (s : State) (o : Output) : (s.emit o).hif = s.hif := rfl
@[simp] theorem State.emit_charges (s : State) (o : Output) : (s.emit o).charges = s.charges := rfl
@[simp] theorem State.emit_encLost (s : State) (o : Output) : (s.emit o).encLost = s.encLost := rfl
@[simp] theorem State.emit_rx (s : State) (o : Output) : (s.emit o).rx = s.rx := rfl
@[simp] theorem State.emit_braids (s : State) (o : Output) : (s.emit o).braids = s.braids := rfl
@[simp] theorem State.emit_comp (s : State) (o : Output) : (s.emit o).comp = s.comp := rfl
@[simp] theorem State.emit_progs (s : State) (o : Output) : (s.emit o).progs = s.progs := rfl
@[simp] theorem State.emit_disp (s : State) (o : Output) : (s.emit o).disp = s.disp := rfl
@[simp] theorem State.emit_egress (s : State) (o : Output) : (s.emit o).egress = s.egress := rfl
@[simp] theorem State.emit_time (s : State) (o : Output) : (s.emit o).time = s.time := rfl
@[simp] theorem State.emit_audio (s : State) (o : Output) : (s.emit o).audio = s.audio := rfl
@[simp] theorem State.emit_twin (s : State) (o : Output) : (s.emit o).twin = s.twin := rfl
@[simp] theorem State.emit_mem (s : State) (o : Output) : (s.emit o).mem = s.mem := rfl
@[simp] theorem State.emit_cv (s : State) (o : Output) : (s.emit o).cv = s.cv := rfl
@[simp] theorem State.emit_power (s : State) (o : Output) : (s.emit o).power = s.power := rfl
@[simp] theorem State.emit_nv (s : State) (o : Output) : (s.emit o).nv = s.nv := rfl
@[simp] theorem State.emit_upd (s : State) (o : Output) : (s.emit o).upd = s.upd := rfl
@[simp] theorem State.emit_obs (s : State) (o : Output) : (s.emit o).obs = s.obs := rfl
@[simp] theorem State.emit_free (s : State) (o : Output) : (s.emit o).free = s.free := rfl
@[simp] theorem State.emit_pending (s : State) (o : Output) : (s.emit o).pending = s.pending := rfl

@[simp] theorem State.modCmd_charges (s : State) (q seq : Nat) (f : Cmd → Cmd) : (s.modCmd q seq f).charges = s.charges := rfl
@[simp] theorem State.modCmd_encLost (s : State) (q seq : Nat) (f : Cmd → Cmd) : (s.modCmd q seq f).encLost = s.encLost := rfl
@[simp] theorem State.modCmd_rx (s : State) (q seq : Nat) (f : Cmd → Cmd) : (s.modCmd q seq f).rx = s.rx := rfl
@[simp] theorem State.modCmd_braids (s : State) (q seq : Nat) (f : Cmd → Cmd) : (s.modCmd q seq f).braids = s.braids := rfl
@[simp] theorem State.modCmd_comp (s : State) (q seq : Nat) (f : Cmd → Cmd) : (s.modCmd q seq f).comp = s.comp := rfl
@[simp] theorem State.modCmd_progs (s : State) (q seq : Nat) (f : Cmd → Cmd) : (s.modCmd q seq f).progs = s.progs := rfl
@[simp] theorem State.modCmd_disp (s : State) (q seq : Nat) (f : Cmd → Cmd) : (s.modCmd q seq f).disp = s.disp := rfl
@[simp] theorem State.modCmd_egress (s : State) (q seq : Nat) (f : Cmd → Cmd) : (s.modCmd q seq f).egress = s.egress := rfl
@[simp] theorem State.modCmd_time (s : State) (q seq : Nat) (f : Cmd → Cmd) : (s.modCmd q seq f).time = s.time := rfl
@[simp] theorem State.modCmd_audio (s : State) (q seq : Nat) (f : Cmd → Cmd) : (s.modCmd q seq f).audio = s.audio := rfl
@[simp] theorem State.modCmd_twin (s : State) (q seq : Nat) (f : Cmd → Cmd) : (s.modCmd q seq f).twin = s.twin := rfl
@[simp] theorem State.modCmd_mem (s : State) (q seq : Nat) (f : Cmd → Cmd) : (s.modCmd q seq f).mem = s.mem := rfl
@[simp] theorem State.modCmd_cv (s : State) (q seq : Nat) (f : Cmd → Cmd) : (s.modCmd q seq f).cv = s.cv := rfl
@[simp] theorem State.modCmd_power (s : State) (q seq : Nat) (f : Cmd → Cmd) : (s.modCmd q seq f).power = s.power := rfl
@[simp] theorem State.modCmd_nv (s : State) (q seq : Nat) (f : Cmd → Cmd) : (s.modCmd q seq f).nv = s.nv := rfl
@[simp] theorem State.modCmd_upd (s : State) (q seq : Nat) (f : Cmd → Cmd) : (s.modCmd q seq f).upd = s.upd := rfl
@[simp] theorem State.modCmd_obs (s : State) (q seq : Nat) (f : Cmd → Cmd) : (s.modCmd q seq f).obs = s.obs := rfl
@[simp] theorem State.modCmd_out (s : State) (q seq : Nat) (f : Cmd → Cmd) : (s.modCmd q seq f).out = s.out := rfl
@[simp] theorem State.modCmd_free (s : State) (q seq : Nat) (f : Cmd → Cmd) : (s.modCmd q seq f).free = s.free := rfl
@[simp] theorem State.modCmd_pending (s : State) (q seq : Nat) (f : Cmd → Cmd) : (s.modCmd q seq f).pending = s.pending := rfl

@[simp] theorem State.dropCmd_charges (s : State) (q seq : Nat) : (s.dropCmd q seq).charges = s.charges := rfl
@[simp] theorem State.dropCmd_encLost (s : State) (q seq : Nat) : (s.dropCmd q seq).encLost = s.encLost := rfl
@[simp] theorem State.dropCmd_rx (s : State) (q seq : Nat) : (s.dropCmd q seq).rx = s.rx := rfl
@[simp] theorem State.dropCmd_braids (s : State) (q seq : Nat) : (s.dropCmd q seq).braids = s.braids := rfl
@[simp] theorem State.dropCmd_comp (s : State) (q seq : Nat) : (s.dropCmd q seq).comp = s.comp := rfl
@[simp] theorem State.dropCmd_progs (s : State) (q seq : Nat) : (s.dropCmd q seq).progs = s.progs := rfl
@[simp] theorem State.dropCmd_disp (s : State) (q seq : Nat) : (s.dropCmd q seq).disp = s.disp := rfl
@[simp] theorem State.dropCmd_egress (s : State) (q seq : Nat) : (s.dropCmd q seq).egress = s.egress := rfl
@[simp] theorem State.dropCmd_time (s : State) (q seq : Nat) : (s.dropCmd q seq).time = s.time := rfl
@[simp] theorem State.dropCmd_audio (s : State) (q seq : Nat) : (s.dropCmd q seq).audio = s.audio := rfl
@[simp] theorem State.dropCmd_twin (s : State) (q seq : Nat) : (s.dropCmd q seq).twin = s.twin := rfl
@[simp] theorem State.dropCmd_mem (s : State) (q seq : Nat) : (s.dropCmd q seq).mem = s.mem := rfl
@[simp] theorem State.dropCmd_cv (s : State) (q seq : Nat) : (s.dropCmd q seq).cv = s.cv := rfl
@[simp] theorem State.dropCmd_power (s : State) (q seq : Nat) : (s.dropCmd q seq).power = s.power := rfl
@[simp] theorem State.dropCmd_nv (s : State) (q seq : Nat) : (s.dropCmd q seq).nv = s.nv := rfl
@[simp] theorem State.dropCmd_upd (s : State) (q seq : Nat) : (s.dropCmd q seq).upd = s.upd := rfl
@[simp] theorem State.dropCmd_obs (s : State) (q seq : Nat) : (s.dropCmd q seq).obs = s.obs := rfl
@[simp] theorem State.dropCmd_out (s : State) (q seq : Nat) : (s.dropCmd q seq).out = s.out := rfl
@[simp] theorem State.dropCmd_free (s : State) (q seq : Nat) : (s.dropCmd q seq).free = s.free := rfl
@[simp] theorem State.dropCmd_pending (s : State) (q seq : Nat) : (s.dropCmd q seq).pending = s.pending := rfl

@[simp] theorem State.eventLost_charges (s : State) : (s.eventLost).charges = s.charges := rfl
@[simp] theorem State.eventLost_encLost (s : State) : (s.eventLost).encLost = s.encLost := rfl
@[simp] theorem State.eventLost_rx (s : State) : (s.eventLost).rx = s.rx := rfl
@[simp] theorem State.eventLost_braids (s : State) : (s.eventLost).braids = s.braids := rfl
@[simp] theorem State.eventLost_comp (s : State) : (s.eventLost).comp = s.comp := rfl
@[simp] theorem State.eventLost_progs (s : State) : (s.eventLost).progs = s.progs := rfl
@[simp] theorem State.eventLost_disp (s : State) : (s.eventLost).disp = s.disp := rfl
@[simp] theorem State.eventLost_egress (s : State) : (s.eventLost).egress = s.egress := rfl
@[simp] theorem State.eventLost_time (s : State) : (s.eventLost).time = s.time := rfl
@[simp] theorem State.eventLost_audio (s : State) : (s.eventLost).audio = s.audio := rfl
@[simp] theorem State.eventLost_twin (s : State) : (s.eventLost).twin = s.twin := rfl
@[simp] theorem State.eventLost_mem (s : State) : (s.eventLost).mem = s.mem := rfl
@[simp] theorem State.eventLost_cv (s : State) : (s.eventLost).cv = s.cv := rfl
@[simp] theorem State.eventLost_power (s : State) : (s.eventLost).power = s.power := rfl
@[simp] theorem State.eventLost_nv (s : State) : (s.eventLost).nv = s.nv := rfl
@[simp] theorem State.eventLost_upd (s : State) : (s.eventLost).upd = s.upd := rfl
@[simp] theorem State.eventLost_obs (s : State) : (s.eventLost).obs = s.obs := rfl
@[simp] theorem State.eventLost_out (s : State) : (s.eventLost).out = s.out := rfl
@[simp] theorem State.eventLost_free (s : State) : (s.eventLost).free = s.free := rfl
@[simp] theorem State.eventLost_pending (s : State) : (s.eventLost).pending = s.pending := rfl

@[simp] theorem State.uncharge_hif (s : State) (p : Charge → Bool) : (s.uncharge p).hif = s.hif := rfl
@[simp] theorem State.uncharge_encLost (s : State) (p : Charge → Bool) : (s.uncharge p).encLost = s.encLost := rfl
@[simp] theorem State.uncharge_rx (s : State) (p : Charge → Bool) : (s.uncharge p).rx = s.rx := rfl
@[simp] theorem State.uncharge_braids (s : State) (p : Charge → Bool) : (s.uncharge p).braids = s.braids := rfl
@[simp] theorem State.uncharge_comp (s : State) (p : Charge → Bool) : (s.uncharge p).comp = s.comp := rfl
@[simp] theorem State.uncharge_progs (s : State) (p : Charge → Bool) : (s.uncharge p).progs = s.progs := rfl
@[simp] theorem State.uncharge_disp (s : State) (p : Charge → Bool) : (s.uncharge p).disp = s.disp := rfl
@[simp] theorem State.uncharge_egress (s : State) (p : Charge → Bool) : (s.uncharge p).egress = s.egress := rfl
@[simp] theorem State.uncharge_time (s : State) (p : Charge → Bool) : (s.uncharge p).time = s.time := rfl
@[simp] theorem State.uncharge_audio (s : State) (p : Charge → Bool) : (s.uncharge p).audio = s.audio := rfl
@[simp] theorem State.uncharge_twin (s : State) (p : Charge → Bool) : (s.uncharge p).twin = s.twin := rfl
@[simp] theorem State.uncharge_mem (s : State) (p : Charge → Bool) : (s.uncharge p).mem = s.mem := rfl
@[simp] theorem State.uncharge_cv (s : State) (p : Charge → Bool) : (s.uncharge p).cv = s.cv := rfl
@[simp] theorem State.uncharge_power (s : State) (p : Charge → Bool) : (s.uncharge p).power = s.power := rfl
@[simp] theorem State.uncharge_nv (s : State) (p : Charge → Bool) : (s.uncharge p).nv = s.nv := rfl
@[simp] theorem State.uncharge_upd (s : State) (p : Charge → Bool) : (s.uncharge p).upd = s.upd := rfl
@[simp] theorem State.uncharge_obs (s : State) (p : Charge → Bool) : (s.uncharge p).obs = s.obs := rfl
@[simp] theorem State.uncharge_out (s : State) (p : Charge → Bool) : (s.uncharge p).out = s.out := rfl
@[simp] theorem State.uncharge_free (s : State) (p : Charge → Bool) : (s.uncharge p).free = s.free := rfl
@[simp] theorem State.uncharge_pending (s : State) (p : Charge → Bool) : (s.uncharge p).pending = s.pending := rfl

@[simp] theorem State.unpermit_hif (s : State) (p : Permit → Bool) : (s.unpermit p).hif = s.hif := rfl
@[simp] theorem State.unpermit_charges (s : State) (p : Permit → Bool) : (s.unpermit p).charges = s.charges := rfl
@[simp] theorem State.unpermit_encLost (s : State) (p : Permit → Bool) : (s.unpermit p).encLost = s.encLost := rfl
@[simp] theorem State.unpermit_rx (s : State) (p : Permit → Bool) : (s.unpermit p).rx = s.rx := rfl
@[simp] theorem State.unpermit_braids (s : State) (p : Permit → Bool) : (s.unpermit p).braids = s.braids := rfl
@[simp] theorem State.unpermit_comp (s : State) (p : Permit → Bool) : (s.unpermit p).comp = s.comp := rfl
@[simp] theorem State.unpermit_progs (s : State) (p : Permit → Bool) : (s.unpermit p).progs = s.progs := rfl
@[simp] theorem State.unpermit_disp (s : State) (p : Permit → Bool) : (s.unpermit p).disp = s.disp := rfl
@[simp] theorem State.unpermit_egress (s : State) (p : Permit → Bool) : (s.unpermit p).egress = s.egress := rfl
@[simp] theorem State.unpermit_time (s : State) (p : Permit → Bool) : (s.unpermit p).time = s.time := rfl
@[simp] theorem State.unpermit_audio (s : State) (p : Permit → Bool) : (s.unpermit p).audio = s.audio := rfl
@[simp] theorem State.unpermit_twin (s : State) (p : Permit → Bool) : (s.unpermit p).twin = s.twin := rfl
@[simp] theorem State.unpermit_mem (s : State) (p : Permit → Bool) : (s.unpermit p).mem = s.mem := rfl
@[simp] theorem State.unpermit_cv (s : State) (p : Permit → Bool) : (s.unpermit p).cv = s.cv := rfl
@[simp] theorem State.unpermit_nv (s : State) (p : Permit → Bool) : (s.unpermit p).nv = s.nv := rfl
@[simp] theorem State.unpermit_upd (s : State) (p : Permit → Bool) : (s.unpermit p).upd = s.upd := rfl
@[simp] theorem State.unpermit_obs (s : State) (p : Permit → Bool) : (s.unpermit p).obs = s.obs := rfl
@[simp] theorem State.unpermit_out (s : State) (p : Permit → Bool) : (s.unpermit p).out = s.out := rfl
@[simp] theorem State.unpermit_free (s : State) (p : Permit → Bool) : (s.unpermit p).free = s.free := rfl
@[simp] theorem State.unpermit_pending (s : State) (p : Permit → Bool) : (s.unpermit p).pending = s.pending := rfl

@[simp] theorem State.countRefusal_hif (s : State) (n : Nat) : (s.countRefusal n).hif = s.hif := rfl
@[simp] theorem State.countRefusal_charges (s : State) (n : Nat) : (s.countRefusal n).charges = s.charges := rfl
@[simp] theorem State.countRefusal_encLost (s : State) (n : Nat) : (s.countRefusal n).encLost = s.encLost := rfl
@[simp] theorem State.countRefusal_rx (s : State) (n : Nat) : (s.countRefusal n).rx = s.rx := rfl
@[simp] theorem State.countRefusal_braids (s : State) (n : Nat) : (s.countRefusal n).braids = s.braids := rfl
@[simp] theorem State.countRefusal_comp (s : State) (n : Nat) : (s.countRefusal n).comp = s.comp := rfl
@[simp] theorem State.countRefusal_progs (s : State) (n : Nat) : (s.countRefusal n).progs = s.progs := rfl
@[simp] theorem State.countRefusal_disp (s : State) (n : Nat) : (s.countRefusal n).disp = s.disp := rfl
@[simp] theorem State.countRefusal_egress (s : State) (n : Nat) : (s.countRefusal n).egress = s.egress := rfl
@[simp] theorem State.countRefusal_time (s : State) (n : Nat) : (s.countRefusal n).time = s.time := rfl
@[simp] theorem State.countRefusal_audio (s : State) (n : Nat) : (s.countRefusal n).audio = s.audio := rfl
@[simp] theorem State.countRefusal_twin (s : State) (n : Nat) : (s.countRefusal n).twin = s.twin := rfl
@[simp] theorem State.countRefusal_mem (s : State) (n : Nat) : (s.countRefusal n).mem = s.mem := rfl
@[simp] theorem State.countRefusal_cv (s : State) (n : Nat) : (s.countRefusal n).cv = s.cv := rfl
@[simp] theorem State.countRefusal_nv (s : State) (n : Nat) : (s.countRefusal n).nv = s.nv := rfl
@[simp] theorem State.countRefusal_upd (s : State) (n : Nat) : (s.countRefusal n).upd = s.upd := rfl
@[simp] theorem State.countRefusal_obs (s : State) (n : Nat) : (s.countRefusal n).obs = s.obs := rfl
@[simp] theorem State.countRefusal_out (s : State) (n : Nat) : (s.countRefusal n).out = s.out := rfl
@[simp] theorem State.countRefusal_free (s : State) (n : Nat) : (s.countRefusal n).free = s.free := rfl
@[simp] theorem State.countRefusal_pending (s : State) (n : Nat) : (s.countRefusal n).pending = s.pending := rfl

@[simp] theorem State.grant_hif (s : State) (r : List Permit) : (s.grant r).hif = s.hif := rfl
@[simp] theorem State.grant_charges (s : State) (r : List Permit) : (s.grant r).charges = s.charges := rfl
@[simp] theorem State.grant_encLost (s : State) (r : List Permit) : (s.grant r).encLost = s.encLost := rfl
@[simp] theorem State.grant_rx (s : State) (r : List Permit) : (s.grant r).rx = s.rx := rfl
@[simp] theorem State.grant_braids (s : State) (r : List Permit) : (s.grant r).braids = s.braids := rfl
@[simp] theorem State.grant_comp (s : State) (r : List Permit) : (s.grant r).comp = s.comp := rfl
@[simp] theorem State.grant_progs (s : State) (r : List Permit) : (s.grant r).progs = s.progs := rfl
@[simp] theorem State.grant_disp (s : State) (r : List Permit) : (s.grant r).disp = s.disp := rfl
@[simp] theorem State.grant_egress (s : State) (r : List Permit) : (s.grant r).egress = s.egress := rfl
@[simp] theorem State.grant_time (s : State) (r : List Permit) : (s.grant r).time = s.time := rfl
@[simp] theorem State.grant_audio (s : State) (r : List Permit) : (s.grant r).audio = s.audio := rfl
@[simp] theorem State.grant_twin (s : State) (r : List Permit) : (s.grant r).twin = s.twin := rfl
@[simp] theorem State.grant_mem (s : State) (r : List Permit) : (s.grant r).mem = s.mem := rfl
@[simp] theorem State.grant_cv (s : State) (r : List Permit) : (s.grant r).cv = s.cv := rfl
@[simp] theorem State.grant_nv (s : State) (r : List Permit) : (s.grant r).nv = s.nv := rfl
@[simp] theorem State.grant_upd (s : State) (r : List Permit) : (s.grant r).upd = s.upd := rfl
@[simp] theorem State.grant_obs (s : State) (r : List Permit) : (s.grant r).obs = s.obs := rfl
@[simp] theorem State.grant_out (s : State) (r : List Permit) : (s.grant r).out = s.out := rfl
@[simp] theorem State.grant_free (s : State) (r : List Permit) : (s.grant r).free = s.free := rfl
@[simp] theorem State.grant_pending (s : State) (r : List Permit) : (s.grant r).pending = s.pending := rfl

/-! ### The banks read back -/

@[simp] theorem State.queue_modQueue (s : State) (i j : Nat) (f : CmdQueue → CmdQueue) :
    (s.modQueue i f).queue j = if j = i then f (s.queue i) else s.queue j := Tab.get_upd _ _ _ _ _
@[simp] theorem State.rxFlow_modRx (s : State) (i j : Nat) (f : RxFlow → RxFlow) :
    (s.modRx i f).rxFlow j = if j = i then f (s.rxFlow i) else s.rxFlow j := Tab.get_upd _ _ _ _ _
@[simp] theorem State.braid_modBraid (s : State) (i j : Nat) (f : Braid → Braid) :
    (s.modBraid i f).braid j = if j = i then f (s.braid i) else s.braid j := Tab.get_upd _ _ _ _ _
@[simp] theorem State.canopy_modCanopy (s : State) (i j : Nat) (f : Canopy → Canopy) :
    (s.modCanopy i f).canopy j = if j = i then f (s.canopy i) else s.canopy j := Tab.get_upd _ _ _ _ _
@[simp] theorem State.layer_modLayer (s : State) (i j : Nat) (f : Layer → Layer) :
    (s.modLayer i f).layer j = if j = i then f (s.layer i) else s.layer j := Tab.get_upd _ _ _ _ _
@[simp] theorem State.prog_modProg (s : State) (i j : Nat) (f : Program → Program) :
    (s.modProg i f).prog j = if j = i then f (s.prog i) else s.prog j := Tab.get_upd _ _ _ _ _
@[simp] theorem State.txFlow_modTx (s : State) (i j : Nat) (f : TxFlow → TxFlow) :
    (s.modTx i f).txFlow j = if j = i then f (s.txFlow i) else s.txFlow j := Tab.get_upd _ _ _ _ _
@[simp] theorem State.tb_modTb (s : State) (i j : Nat) (f : TimeBase → TimeBase) :
    (s.modTb i f).tb j = if j = i then f (s.tb i) else s.tb j := Tab.get_upd _ _ _ _ _
@[simp] theorem State.channel_modChannel (s : State) (i j : Nat) (f : Channel → Channel) :
    (s.modChannel i f).channel j = if j = i then f (s.channel i) else s.channel j := Tab.get_upd _ _ _ _ _
@[simp] theorem State.cvUnit_modCv (s : State) (i j : Nat) (f : CvUnit → CvUnit) :
    (s.modCv i f).cvUnit j = if j = i then f (s.cvUnit i) else s.cvUnit j := Tab.get_upd _ _ _ _ _
@[simp] theorem State.audioIn_modIn (s : State) (i j : Nat) (f : AudioIn → AudioIn) :
    (s.modIn i f).audioIn j = if j = i then f (s.audioIn i) else s.audioIn j := Tab.get_upd _ _ _ _ _
@[simp] theorem State.audioPort_modPort (s : State) (i j : Nat) (f : AudioPort → AudioPort) :
    (s.modPort i f).audioPort j = if j = i then f (s.audioPort i) else s.audioPort j := Tab.get_upd _ _ _ _ _
@[simp] theorem State.route_modRoute (s : State) (i j : Nat) (f : Route → Route) :
    (s.modRoute i f).route j = if j = i then f (s.route i) else s.route j := Tab.get_upd _ _ _ _ _
@[simp] theorem State.pmc_modPmc (s : State) (i j : Nat) (f : Pmc → Pmc) :
    (s.modPmc i f).pmc j = if j = i then f (s.pmc i) else s.pmc j := Tab.get_upd _ _ _ _ _
@[simp] theorem State.unit_modUnit (s : State) (i j : Nat) (f : PUnit → PUnit) :
    (s.modUnit i f).unit j = if j = i then f (s.unit i) else s.unit j := by
  unfold State.modUnit State.unit
  rw [Tab.get_set]

/-- The canopies are not the layers, and so on through the banks that share a field. -/
@[simp] theorem State.layer_modCanopy (s : State) (i j : Nat) (f : Canopy → Canopy) : (s.modCanopy i f).layer j = s.layer j := rfl
@[simp] theorem State.canopy_modLayer (s : State) (i j : Nat) (f : Layer → Layer) : (s.modLayer i f).canopy j = s.canopy j := rfl
@[simp] theorem State.subPort_modTx (s : State) (i p b : Nat) (f : TxFlow → TxFlow) : (s.modTx i f).subPort p b = s.subPort p b := rfl
@[simp] theorem State.txFlow_modSub (s : State) (i p b : Nat) (f : SubPort → SubPort) : (s.modSub p b f).txFlow i = s.txFlow i := rfl
@[simp] theorem State.audioPort_modIn (s : State) (i j : Nat) (f : AudioIn → AudioIn) : (s.modIn i f).audioPort j = s.audioPort j := rfl
@[simp] theorem State.route_modIn (s : State) (i j : Nat) (f : AudioIn → AudioIn) : (s.modIn i f).route j = s.route j := rfl
@[simp] theorem State.audioIn_modPort (s : State) (i j : Nat) (f : AudioPort → AudioPort) : (s.modPort i f).audioIn j = s.audioIn j := rfl
@[simp] theorem State.route_modPort (s : State) (i j : Nat) (f : AudioPort → AudioPort) : (s.modPort i f).route j = s.route j := rfl
@[simp] theorem State.audioIn_modRoute (s : State) (i j : Nat) (f : Route → Route) : (s.modRoute i f).audioIn j = s.audioIn j := rfl
@[simp] theorem State.audioPort_modRoute (s : State) (i j : Nat) (f : Route → Route) : (s.modRoute i f).audioPort j = s.audioPort j := rfl
@[simp] theorem State.queue_modCmd (s : State) (q seq i : Nat) (f : Cmd → Cmd) : (s.modCmd q seq f).queue i = s.queue i := rfl
@[simp] theorem State.queue_dropCmd (s : State) (q seq i : Nat) : (s.dropCmd q seq).queue i = s.queue i := rfl
@[simp] theorem State.cmds_modQueue (s : State) (q : Nat) (f : CmdQueue → CmdQueue) : (s.modQueue q f).hif.cmds = s.hif.cmds := rfl

end Sys2Proof.Machine
end

