-- ==== Sys2Proof/Laws/Ops.lean ====
section
/-!
SUPPORT. What the shared operations can do: an answer of a meaning, an event, a reply, the outcome of a command, a commit note,
the start of a command.
-/
set_option Elab.async false
namespace Sys2Proof.Machine

open Sys2Proof

/-! ### Answers -/

theorem need_eq {b : Bool} (s : State) (h : b = true) : need b s = .next s := by simp [need, h]
theorem need_next {b : Bool} {s t : State} : need b s = .next t ↔ b = true ∧ t = s := by
  unfold need
  split
  · next h => simp [h, eq_comm]
  · next h => simp [h]
theorem need_fault (s : State) : need false s = .fault .noSuchObject := rfl

/-! ### Only the host interface -/

/-- `t` is `s` but for the host interface and what the device has sent. -/
def State.HostOnly (s t : State) : Prop := ∃ h o, t = { s with hif := h, out := o }

theorem State.HostOnly.refl (s : State) : s.HostOnly s := ⟨s.hif, s.out, rfl⟩
theorem State.HostOnly.trans {s t u : State} (a : s.HostOnly t) (b : t.HostOnly u) : s.HostOnly u := by
  obtain ⟨h, o, rfl⟩ := a
  obtain ⟨h', o', rfl⟩ := b
  exact ⟨h', o', rfl⟩
theorem State.emit_hostOnly (s : State) (x : Output) : s.HostOnly (s.emit x) := ⟨s.hif, x :: s.out, rfl⟩
theorem State.modQueue_hostOnly (s : State) (q : Nat) (f : CmdQueue → CmdQueue) : s.HostOnly (s.modQueue q f) := ⟨_, s.out, rfl⟩
theorem State.raiseMsix_hostOnly (s : State) (v : Nat) : s.HostOnly (s.raiseMsix v) := by
  unfold State.raiseMsix
  split
  · exact State.emit_hostOnly _ _
  · exact ⟨_, s.out, rfl⟩
theorem State.eventLost_hostOnly (s : State) : s.HostOnly s.eventLost := ⟨_, s.out, rfl⟩
theorem State.eventDatagram_hostOnly (s : State) (e : EventRec) : s.HostOnly (s.eventDatagram e) := by
  unfold State.eventDatagram
  split
  · exact State.emit_hostOnly _ _
  · exact .refl s
theorem State.writeEvent_hostOnly (s : State) (e : EventRec) : s.HostOnly (s.writeEvent e) := by
  unfold State.writeEvent
  split
  · split
    · exact State.eventLost_hostOnly s
    · have h1 : s.HostOnly ((s.eventDatagram e).emit (.hostWrite (s.hif.evBase + 32 * s.hif.evTail) (eventBytes e s.hif.evPhase))) :=
        (State.eventDatagram_hostOnly s e).trans (State.emit_hostOnly _ _)
      dsimp only
      split
      · exact h1.trans (State.HostOnly.trans ⟨_, _, rfl⟩ (State.raiseMsix_hostOnly _ _))
      · exact h1.trans ⟨_, _, rfl⟩
  · exact State.eventDatagram_hostOnly s e
theorem State.raiseFor_hostOnly (s : State) (q code object d0 d1 : Nat) : s.HostOnly (s.raiseFor q code object d0 d1) := by
  unfold State.raiseFor
  split
  · exact .refl s
  · dsimp only
    split
    · split
      · exact ⟨_, s.out, rfl⟩
      · exact ⟨_, s.out, rfl⟩
    · exact State.HostOnly.trans ⟨_, s.out, rfl⟩ (State.writeEvent_hostOnly _ _)
/-- An event changes only the host interface. -/
theorem State.raise_hostOnly (s : State) (code object d0 d1 : Nat) : s.HostOnly (s.raise code object d0 d1) :=
  State.raiseFor_hostOnly _ _ _ _ _ _
theorem State.writeReply_hostOnly (s : State) (q : Nat) (dst : ReplyTo) (l : List Byte) : s.HostOnly (s.writeReply q dst l) := by
  unfold State.writeReply
  split
  · exact State.emit_hostOnly _ _
  · dsimp only
    have h1 := fun (x : Output) (f : CmdQueue → CmdQueue) =>
      (State.emit_hostOnly s x).trans (State.modQueue_hostOnly (s.emit x) q f)
    split
    · exact (h1 _ _).trans (State.raiseMsix_hostOnly _ _)
    · exact h1 _ _
theorem State.reply_hostOnly (s : State) (q : Nat) (dst : ReplyTo) (l : List Byte) : s.HostOnly (s.reply q dst l) := by
  unfold State.reply
  split
  · exact State.modQueue_hostOnly _ _ _
  · exact State.writeReply_hostOnly _ _ _ _
theorem State.applyRebind_hostOnly (s : State) (q : Nat) : s.HostOnly (s.applyRebind q) := by
  unfold State.applyRebind
  split
  · exact .refl s
  · exact State.modQueue_hostOnly _ _ _
theorem State.writeBuf_hostOnly (s : State) (c : Cmd) (a : Nat) (l : List Byte) : s.HostOnly (s.writeBuf c a l) := by
  unfold State.writeBuf
  split
  · exact .refl s
  · split
    · exact ⟨s.hif, _, rfl⟩
    · exact State.emit_hostOnly _ _

/-! ### The outcome of a command -/

/-- `t` is `s` but for the host interface, what the device has sent, and the marks of the flash journal. -/
def State.JournalOnly (s t : State) : Prop := ∃ h o l, t = { s with hif := h, out := o, nv := { s.nv with flash := l } }

theorem State.HostOnly.journal {s t : State} (a : s.HostOnly t) : s.JournalOnly t := by
  obtain ⟨h, o, rfl⟩ := a
  exact ⟨h, o, s.nv.flash, rfl⟩
theorem State.JournalOnly.trans {s t u : State} (a : s.JournalOnly t) (b : t.JournalOnly u) : s.JournalOnly u := by
  obtain ⟨h, o, l, rfl⟩ := a
  obtain ⟨h', o', l', rfl⟩ := b
  exact ⟨h', o', l', rfl⟩
/-- An outcome is journaled and answered by the host interface alone. -/
theorem State.answer_hostOnly (s : State) (q : Nat) (f : CmdQueue → CmdQueue) (silent : Prop) [Decidable silent] (dst : ReplyTo)
    (l : List Byte) : s.HostOnly (if silent then s.modQueue q f else ((s.modQueue q f).release q 1).reply q dst l) := by
  split
  · exact State.modQueue_hostOnly _ _ _
  · exact ((State.modQueue_hostOnly _ _ _).trans (State.modQueue_hostOnly _ _ _)).trans (State.reply_hostOnly _ _ _ _)
/-- A command leaves the taken ones; an aborted one leaves nothing to re-execute. -/
theorem State.dropped_journalOnly (s : State) (q seq : Nat) (aborted : Prop) [Decidable aborted] :
    s.JournalOnly (if aborted then { s.dropCmd q seq with
      nv := { (s.dropCmd q seq).nv with flash := flashDone (s.dropCmd q seq).nv.flash q seq } } else s.dropCmd q seq) := by
  split
  · exact ⟨_, s.out, _, rfl⟩
  · exact ⟨_, s.out, s.nv.flash, rfl⟩
/-- The outcome of a command changes the host interface, and marks its record in the flash journal. -/
theorem State.complete_journalOnly (s : State) (c : Cmd) (status detail : Nat) : s.JournalOnly (s.complete c status detail) := by
  unfold State.complete
  dsimp only
  split
  · exact ((State.dropped_journalOnly s c.q c.seq (status = 5)).trans (State.answer_hostOnly _ c.q _ _ _ _).journal).trans
      (State.applyRebind_hostOnly _ _).journal
  · exact (State.dropped_journalOnly s c.q c.seq (status = 5)).trans (State.answer_hostOnly _ c.q _ _ _ _).journal
theorem State.ok_journalOnly (s : State) (c : Cmd) (detail : Nat) : s.JournalOnly (s.ok c detail) := State.complete_journalOnly _ _ _ _
theorem State.completeId_journalOnly (s : State) (id : Nat × Nat) (status detail : Nat) : s.JournalOnly (s.completeId id status detail) := by
  unfold State.completeId
  split
  · exact (State.HostOnly.refl s).journal
  · exact State.complete_journalOnly _ _ _ _

@[simp] theorem State.complete_charges (s : State) (c : Cmd) (status detail : Nat) : (s.complete c status detail).charges = s.charges := by
  obtain ⟨_, _, _, e⟩ := State.complete_journalOnly s c status detail; rw [e]
@[simp] theorem State.complete_encLost (s : State) (c : Cmd) (status detail : Nat) : (s.complete c status detail).encLost = s.encLost := by
  obtain ⟨_, _, _, e⟩ := State.complete_journalOnly s c status detail; rw [e]
@[simp] theorem State.complete_rx (s : State) (c : Cmd) (status detail : Nat) : (s.complete c status detail).rx = s.rx := by
  obtain ⟨_, _, _, e⟩ := State.complete_journalOnly s c status detail; rw [e]
@[simp] theorem State.complete_braids (s : State) (c : Cmd) (status detail : Nat) : (s.complete c status detail).braids = s.braids := by
  obtain ⟨_, _, _, e⟩ := State.complete_journalOnly s c status detail; rw [e]
@[simp] theorem State.complete_comp (s : State) (c : Cmd) (status detail : Nat) : (s.complete c status detail).comp = s.comp := by
  obtain ⟨_, _, _, e⟩ := State.complete_journalOnly s c status detail; rw [e]
@[simp] theorem State.complete_progs (s : State) (c : Cmd) (status detail : Nat) : (s.complete c status detail).progs = s.progs := by
  obtain ⟨_, _, _, e⟩ := State.complete_journalOnly s c status detail; rw [e]
@[simp] theorem State.complete_disp (s : State) (c : Cmd) (status detail : Nat) : (s.complete c status detail).disp = s.disp := by
  obtain ⟨_, _, _, e⟩ := State.complete_journalOnly s c status detail; rw [e]
@[simp] theorem State.complete_egress (s : State) (c : Cmd) (status detail : Nat) : (s.complete c status detail).egress = s.egress := by
  obtain ⟨_, _, _, e⟩ := State.complete_journalOnly s c status detail; rw [e]
@[simp] theorem State.complete_time (s : State) (c : Cmd) (status detail : Nat) : (s.complete c status detail).time = s.time := by
  obtain ⟨_, _, _, e⟩ := State.complete_journalOnly s c status detail; rw [e]
@[simp] theorem State.complete_audio (s : State) (c : Cmd) (status detail : Nat) : (s.complete c status detail).audio = s.audio := by
  obtain ⟨_, _, _, e⟩ := State.complete_journalOnly s c status detail; rw [e]
@[simp] theorem State.complete_twin (s : State) (c : Cmd) (status detail : Nat) : (s.complete c status detail).twin = s.twin := by
  obtain ⟨_, _, _, e⟩ := State.complete_journalOnly s c status detail; rw [e]
@[simp] theorem State.complete_mem (s : State) (c : Cmd) (status detail : Nat) : (s.complete c status detail).mem = s.mem := by
  obtain ⟨_, _, _, e⟩ := State.complete_journalOnly s c status detail; rw [e]
@[simp] theorem State.complete_cv (s : State) (c : Cmd) (status detail : Nat) : (s.complete c status detail).cv = s.cv := by
  obtain ⟨_, _, _, e⟩ := State.complete_journalOnly s c status detail; rw [e]
@[simp] theorem State.complete_power (s : State) (c : Cmd) (status detail : Nat) : (s.complete c status detail).power = s.power := by
  obtain ⟨_, _, _, e⟩ := State.complete_journalOnly s c status detail; rw [e]
@[simp] theorem State.complete_upd (s : State) (c : Cmd) (status detail : Nat) : (s.complete c status detail).upd = s.upd := by
  obtain ⟨_, _, _, e⟩ := State.complete_journalOnly s c status detail; rw [e]
@[simp] theorem State.complete_obs (s : State) (c : Cmd) (status detail : Nat) : (s.complete c status detail).obs = s.obs := by
  obtain ⟨_, _, _, e⟩ := State.complete_journalOnly s c status detail; rw [e]
@[simp] theorem State.complete_free (s : State) (c : Cmd) (status detail : Nat) : (s.complete c status detail).free = s.free := by
  obtain ⟨_, _, _, e⟩ := State.complete_journalOnly s c status detail; rw [e]
@[simp] theorem State.complete_pending (s : State) (c : Cmd) (status detail : Nat) : (s.complete c status detail).pending = s.pending := by
  obtain ⟨_, _, _, e⟩ := State.complete_journalOnly s c status detail; rw [e]
@[simp] theorem State.ok_charges (s : State) (c : Cmd) (detail : Nat) : (s.ok c detail).charges = s.charges := by
  obtain ⟨_, _, _, e⟩ := State.ok_journalOnly s c detail; rw [e]
@[simp] theorem State.ok_encLost (s : State) (c : Cmd) (detail : Nat) : (s.ok c detail).encLost = s.encLost := by
  obtain ⟨_, _, _, e⟩ := State.ok_journalOnly s c detail; rw [e]
@[simp] theorem State.ok_rx (s : State) (c : Cmd) (detail : Nat) : (s.ok c detail).rx = s.rx := by
  obtain ⟨_, _, _, e⟩ := State.ok_journalOnly s c detail; rw [e]
@[simp] theorem State.ok_braids (s : State) (c : Cmd) (detail : Nat) : (s.ok c detail).braids = s.braids := by
  obtain ⟨_, _, _, e⟩ := State.ok_journalOnly s c detail; rw [e]
@[simp] theorem State.ok_comp (s : State) (c : Cmd) (detail : Nat) : (s.ok c detail).comp = s.comp := by
  obtain ⟨_, _, _, e⟩ := State.ok_journalOnly s c detail; rw [e]
@[simp] theorem State.ok_progs (s : State) (c : Cmd) (detail : Nat) : (s.ok c detail).progs = s.progs := by
  obtain ⟨_, _, _, e⟩ := State.ok_journalOnly s c detail; rw [e]
@[simp] theorem State.ok_disp (s : State) (c : Cmd) (detail : Nat) : (s.ok c detail).disp = s.disp := by
  obtain ⟨_, _, _, e⟩ := State.ok_journalOnly s c detail; rw [e]
@[simp] theorem State.ok_egress (s : State) (c : Cmd) (detail : Nat) : (s.ok c detail).egress = s.egress := by
  obtain ⟨_, _, _, e⟩ := State.ok_journalOnly s c detail; rw [e]
@[simp] theorem State.ok_time (s : State) (c : Cmd) (detail : Nat) : (s.ok c detail).time = s.time := by
  obtain ⟨_, _, _, e⟩ := State.ok_journalOnly s c detail; rw [e]
@[simp] theorem State.ok_audio (s : State) (c : Cmd) (detail : Nat) : (s.ok c detail).audio = s.audio := by
  obtain ⟨_, _, _, e⟩ := State.ok_journalOnly s c detail; rw [e]
@[simp] theorem State.ok_twin (s : State) (c : Cmd) (detail : Nat) : (s.ok c detail).twin = s.twin := by
  obtain ⟨_, _, _, e⟩ := State.ok_journalOnly s c detail; rw [e]
@[simp] theorem State.ok_mem (s : State) (c : Cmd) (detail : Nat) : (s.ok c detail).mem = s.mem := by
  obtain ⟨_, _, _, e⟩ := State.ok_journalOnly s c detail; rw [e]
@[simp] theorem State.ok_cv (s : State) (c : Cmd) (detail : Nat) : (s.ok c detail).cv = s.cv := by
  obtain ⟨_, _, _, e⟩ := State.ok_journalOnly s c detail; rw [e]
@[simp] theorem State.ok_power (s : State) (c : Cmd) (detail : Nat) : (s.ok c detail).power = s.power := by
  obtain ⟨_, _, _, e⟩ := State.ok_journalOnly s c detail; rw [e]
@[simp] theorem State.ok_upd (s : State) (c : Cmd) (detail : Nat) : (s.ok c detail).upd = s.upd := by
  obtain ⟨_, _, _, e⟩ := State.ok_journalOnly s c detail; rw [e]
@[simp] theorem State.ok_obs (s : State) (c : Cmd) (detail : Nat) : (s.ok c detail).obs = s.obs := by
  obtain ⟨_, _, _, e⟩ := State.ok_journalOnly s c detail; rw [e]
@[simp] theorem State.ok_free (s : State) (c : Cmd) (detail : Nat) : (s.ok c detail).free = s.free := by
  obtain ⟨_, _, _, e⟩ := State.ok_journalOnly s c detail; rw [e]
@[simp] theorem State.ok_pending (s : State) (c : Cmd) (detail : Nat) : (s.ok c detail).pending = s.pending := by
  obtain ⟨_, _, _, e⟩ := State.ok_journalOnly s c detail; rw [e]
@[simp] theorem State.completeId_charges (s : State) (id : Nat × Nat) (status detail : Nat) : (s.completeId id status detail).charges = s.charges := by
  obtain ⟨_, _, _, e⟩ := State.completeId_journalOnly s id status detail; rw [e]
@[simp] theorem State.completeId_encLost (s : State) (id : Nat × Nat) (status detail : Nat) : (s.completeId id status detail).encLost = s.encLost := by
  obtain ⟨_, _, _, e⟩ := State.completeId_journalOnly s id status detail; rw [e]
@[simp] theorem State.completeId_rx (s : State) (id : Nat × Nat) (status detail : Nat) : (s.completeId id status detail).rx = s.rx := by
  obtain ⟨_, _, _, e⟩ := State.completeId_journalOnly s id status detail; rw [e]
@[simp] theorem State.completeId_braids (s : State) (id : Nat × Nat) (status detail : Nat) : (s.completeId id status detail).braids = s.braids := by
  obtain ⟨_, _, _, e⟩ := State.completeId_journalOnly s id status detail; rw [e]
@[simp] theorem State.completeId_comp (s : State) (id : Nat × Nat) (status detail : Nat) : (s.completeId id status detail).comp = s.comp := by
  obtain ⟨_, _, _, e⟩ := State.completeId_journalOnly s id status detail; rw [e]
@[simp] theorem State.completeId_progs (s : State) (id : Nat × Nat) (status detail : Nat) : (s.completeId id status detail).progs = s.progs := by
  obtain ⟨_, _, _, e⟩ := State.completeId_journalOnly s id status detail; rw [e]
@[simp] theorem State.completeId_disp (s : State) (id : Nat × Nat) (status detail : Nat) : (s.completeId id status detail).disp = s.disp := by
  obtain ⟨_, _, _, e⟩ := State.completeId_journalOnly s id status detail; rw [e]
@[simp] theorem State.completeId_egress (s : State) (id : Nat × Nat) (status detail : Nat) : (s.completeId id status detail).egress = s.egress := by
  obtain ⟨_, _, _, e⟩ := State.completeId_journalOnly s id status detail; rw [e]
@[simp] theorem State.completeId_time (s : State) (id : Nat × Nat) (status detail : Nat) : (s.completeId id status detail).time = s.time := by
  obtain ⟨_, _, _, e⟩ := State.completeId_journalOnly s id status detail; rw [e]
@[simp] theorem State.completeId_audio (s : State) (id : Nat × Nat) (status detail : Nat) : (s.completeId id status detail).audio = s.audio := by
  obtain ⟨_, _, _, e⟩ := State.completeId_journalOnly s id status detail; rw [e]
@[simp] theorem State.completeId_twin (s : State) (id : Nat × Nat) (status detail : Nat) : (s.completeId id status detail).twin = s.twin := by
  obtain ⟨_, _, _, e⟩ := State.completeId_journalOnly s id status detail; rw [e]
@[simp] theorem State.completeId_mem (s : State) (id : Nat × Nat) (status detail : Nat) : (s.completeId id status detail).mem = s.mem := by
  obtain ⟨_, _, _, e⟩ := State.completeId_journalOnly s id status detail; rw [e]
@[simp] theorem State.completeId_cv (s : State) (id : Nat × Nat) (status detail : Nat) : (s.completeId id status detail).cv = s.cv := by
  obtain ⟨_, _, _, e⟩ := State.completeId_journalOnly s id status detail; rw [e]
@[simp] theorem State.completeId_power (s : State) (id : Nat × Nat) (status detail : Nat) : (s.completeId id status detail).power = s.power := by
  obtain ⟨_, _, _, e⟩ := State.completeId_journalOnly s id status detail; rw [e]
@[simp] theorem State.completeId_upd (s : State) (id : Nat × Nat) (status detail : Nat) : (s.completeId id status detail).upd = s.upd := by
  obtain ⟨_, _, _, e⟩ := State.completeId_journalOnly s id status detail; rw [e]
@[simp] theorem State.completeId_obs (s : State) (id : Nat × Nat) (status detail : Nat) : (s.completeId id status detail).obs = s.obs := by
  obtain ⟨_, _, _, e⟩ := State.completeId_journalOnly s id status detail; rw [e]
@[simp] theorem State.completeId_free (s : State) (id : Nat × Nat) (status detail : Nat) : (s.completeId id status detail).free = s.free := by
  obtain ⟨_, _, _, e⟩ := State.completeId_journalOnly s id status detail; rw [e]
@[simp] theorem State.completeId_pending (s : State) (id : Nat × Nat) (status detail : Nat) : (s.completeId id status detail).pending = s.pending := by
  obtain ⟨_, _, _, e⟩ := State.completeId_journalOnly s id status detail; rw [e]
@[simp] theorem State.raise_charges (s : State) (code object d0 d1 : Nat) : (s.raise code object d0 d1).charges = s.charges := by
  obtain ⟨_, _, e⟩ := State.raise_hostOnly s code object d0 d1; rw [e]
@[simp] theorem State.raise_encLost (s : State) (code object d0 d1 : Nat) : (s.raise code object d0 d1).encLost = s.encLost := by
  obtain ⟨_, _, e⟩ := State.raise_hostOnly s code object d0 d1; rw [e]
@[simp] theorem State.raise_rx (s : State) (code object d0 d1 : Nat) : (s.raise code object d0 d1).rx = s.rx := by
  obtain ⟨_, _, e⟩ := State.raise_hostOnly s code object d0 d1; rw [e]
@[simp] theorem State.raise_braids (s : State) (code object d0 d1 : Nat) : (s.raise code object d0 d1).braids = s.braids := by
  obtain ⟨_, _, e⟩ := State.raise_hostOnly s code object d0 d1; rw [e]
@[simp] theorem State.raise_comp (s : State) (code object d0 d1 : Nat) : (s.raise code object d0 d1).comp = s.comp := by
  obtain ⟨_, _, e⟩ := State.raise_hostOnly s code object d0 d1; rw [e]
@[simp] theorem State.raise_progs (s : State) (code object d0 d1 : Nat) : (s.raise code object d0 d1).progs = s.progs := by
  obtain ⟨_, _, e⟩ := State.raise_hostOnly s code object d0 d1; rw [e]
@[simp] theorem State.raise_disp (s : State) (code object d0 d1 : Nat) : (s.raise code object d0 d1).disp = s.disp := by
  obtain ⟨_, _, e⟩ := State.raise_hostOnly s code object d0 d1; rw [e]
@[simp] theorem State.raise_egress (s : State) (code object d0 d1 : Nat) : (s.raise code object d0 d1).egress = s.egress := by
  obtain ⟨_, _, e⟩ := State.raise_hostOnly s code object d0 d1; rw [e]
@[simp] theorem State.raise_time (s : State) (code object d0 d1 : Nat) : (s.raise code object d0 d1).time = s.time := by
  obtain ⟨_, _, e⟩ := State.raise_hostOnly s code object d0 d1; rw [e]
@[simp] theorem State.raise_audio (s : State) (code object d0 d1 : Nat) : (s.raise code object d0 d1).audio = s.audio := by
  obtain ⟨_, _, e⟩ := State.raise_hostOnly s code object d0 d1; rw [e]
@[simp] theorem State.raise_twin (s : State) (code object d0 d1 : Nat) : (s.raise code object d0 d1).twin = s.twin := by
  obtain ⟨_, _, e⟩ := State.raise_hostOnly s code object d0 d1; rw [e]
@[simp] theorem State.raise_mem (s : State) (code object d0 d1 : Nat) : (s.raise code object d0 d1).mem = s.mem := by
  obtain ⟨_, _, e⟩ := State.raise_hostOnly s code object d0 d1; rw [e]
@[simp] theorem State.raise_cv (s : State) (code object d0 d1 : Nat) : (s.raise code object d0 d1).cv = s.cv := by
  obtain ⟨_, _, e⟩ := State.raise_hostOnly s code object d0 d1; rw [e]
@[simp] theorem State.raise_power (s : State) (code object d0 d1 : Nat) : (s.raise code object d0 d1).power = s.power := by
  obtain ⟨_, _, e⟩ := State.raise_hostOnly s code object d0 d1; rw [e]
@[simp] theorem State.raise_upd (s : State) (code object d0 d1 : Nat) : (s.raise code object d0 d1).upd = s.upd := by
  obtain ⟨_, _, e⟩ := State.raise_hostOnly s code object d0 d1; rw [e]
@[simp] theorem State.raise_obs (s : State) (code object d0 d1 : Nat) : (s.raise code object d0 d1).obs = s.obs := by
  obtain ⟨_, _, e⟩ := State.raise_hostOnly s code object d0 d1; rw [e]
@[simp] theorem State.raise_free (s : State) (code object d0 d1 : Nat) : (s.raise code object d0 d1).free = s.free := by
  obtain ⟨_, _, e⟩ := State.raise_hostOnly s code object d0 d1; rw [e]
@[simp] theorem State.raise_pending (s : State) (code object d0 d1 : Nat) : (s.raise code object d0 d1).pending = s.pending := by
  obtain ⟨_, _, e⟩ := State.raise_hostOnly s code object d0 d1; rw [e]
@[simp] theorem State.raise_nv (s : State) (code object d0 d1 : Nat) : (s.raise code object d0 d1).nv = s.nv := by
  obtain ⟨_, _, e⟩ := State.raise_hostOnly s code object d0 d1; rw [e]
@[simp] theorem State.writeBuf_charges (s : State) (c : Cmd) (a : Nat) (l : List Byte) : (s.writeBuf c a l).charges = s.charges := by
  obtain ⟨_, _, e⟩ := State.writeBuf_hostOnly s c a l; rw [e]
@[simp] theorem State.writeBuf_encLost (s : State) (c : Cmd) (a : Nat) (l : List Byte) : (s.writeBuf c a l).encLost = s.encLost := by
  obtain ⟨_, _, e⟩ := State.writeBuf_hostOnly s c a l; rw [e]
@[simp] theorem State.writeBuf_rx (s : State) (c : Cmd) (a : Nat) (l : List Byte) : (s.writeBuf c a l).rx = s.rx := by
  obtain ⟨_, _, e⟩ := State.writeBuf_hostOnly s c a l; rw [e]
@[simp] theorem State.writeBuf_braids (s : State) (c : Cmd) (a : Nat) (l : List Byte) : (s.writeBuf c a l).braids = s.braids := by
  obtain ⟨_, _, e⟩ := State.writeBuf_hostOnly s c a l; rw [e]
@[simp] theorem State.writeBuf_comp (s : State) (c : Cmd) (a : Nat) (l : List Byte) : (s.writeBuf c a l).comp = s.comp := by
  obtain ⟨_, _, e⟩ := State.writeBuf_hostOnly s c a l; rw [e]
@[simp] theorem State.writeBuf_progs (s : State) (c : Cmd) (a : Nat) (l : List Byte) : (s.writeBuf c a l).progs = s.progs := by
  obtain ⟨_, _, e⟩ := State.writeBuf_hostOnly s c a l; rw [e]
@[simp] theorem State.writeBuf_disp (s : State) (c : Cmd) (a : Nat) (l : List Byte) : (s.writeBuf c a l).disp = s.disp := by
  obtain ⟨_, _, e⟩ := State.writeBuf_hostOnly s c a l; rw [e]
@[simp] theorem State.writeBuf_egress (s : State) (c : Cmd) (a : Nat) (l : List Byte) : (s.writeBuf c a l).egress = s.egress := by
  obtain ⟨_, _, e⟩ := State.writeBuf_hostOnly s c a l; rw [e]
@[simp] theorem State.writeBuf_time (s : State) (c : Cmd) (a : Nat) (l : List Byte) : (s.writeBuf c a l).time = s.time := by
  obtain ⟨_, _, e⟩ := State.writeBuf_hostOnly s c a l; rw [e]
@[simp] theorem State.writeBuf_audio (s : State) (c : Cmd) (a : Nat) (l : List Byte) : (s.writeBuf c a l).audio = s.audio := by
  obtain ⟨_, _, e⟩ := State.writeBuf_hostOnly s c a l; rw [e]
@[simp] theorem State.writeBuf_twin (s : State) (c : Cmd) (a : Nat) (l : List Byte) : (s.writeBuf c a l).twin = s.twin := by
  obtain ⟨_, _, e⟩ := State.writeBuf_hostOnly s c a l; rw [e]
@[simp] theorem State.writeBuf_mem (s : State) (c : Cmd) (a : Nat) (l : List Byte) : (s.writeBuf c a l).mem = s.mem := by
  obtain ⟨_, _, e⟩ := State.writeBuf_hostOnly s c a l; rw [e]
@[simp] theorem State.writeBuf_cv (s : State) (c : Cmd) (a : Nat) (l : List Byte) : (s.writeBuf c a l).cv = s.cv := by
  obtain ⟨_, _, e⟩ := State.writeBuf_hostOnly s c a l; rw [e]
@[simp] theorem State.writeBuf_power (s : State) (c : Cmd) (a : Nat) (l : List Byte) : (s.writeBuf c a l).power = s.power := by
  obtain ⟨_, _, e⟩ := State.writeBuf_hostOnly s c a l; rw [e]
@[simp] theorem State.writeBuf_upd (s : State) (c : Cmd) (a : Nat) (l : List Byte) : (s.writeBuf c a l).upd = s.upd := by
  obtain ⟨_, _, e⟩ := State.writeBuf_hostOnly s c a l; rw [e]
@[simp] theorem State.writeBuf_obs (s : State) (c : Cmd) (a : Nat) (l : List Byte) : (s.writeBuf c a l).obs = s.obs := by
  obtain ⟨_, _, e⟩ := State.writeBuf_hostOnly s c a l; rw [e]
@[simp] theorem State.writeBuf_free (s : State) (c : Cmd) (a : Nat) (l : List Byte) : (s.writeBuf c a l).free = s.free := by
  obtain ⟨_, _, e⟩ := State.writeBuf_hostOnly s c a l; rw [e]
@[simp] theorem State.writeBuf_pending (s : State) (c : Cmd) (a : Nat) (l : List Byte) : (s.writeBuf c a l).pending = s.pending := by
  obtain ⟨_, _, e⟩ := State.writeBuf_hostOnly s c a l; rw [e]
@[simp] theorem State.writeBuf_nv (s : State) (c : Cmd) (a : Nat) (l : List Byte) : (s.writeBuf c a l).nv = s.nv := by
  obtain ⟨_, _, e⟩ := State.writeBuf_hostOnly s c a l; rw [e]

/-! ### Counters and time that passes -/

/-- `t` is `s` but for its time bases, its performance counters, the host interface and what the device has sent. -/
def State.ClockOnly (s t : State) : Prop := ∃ x o h l, t = { s with time := x, obs := o, hif := h, out := l }

theorem State.ClockOnly.refl (s : State) : s.ClockOnly s := ⟨s.time, s.obs, s.hif, s.out, rfl⟩
theorem State.ClockOnly.trans {s t u : State} (a : s.ClockOnly t) (b : t.ClockOnly u) : s.ClockOnly u := by
  obtain ⟨x, o, h, l, rfl⟩ := a
  obtain ⟨x', o', h', l', rfl⟩ := b
  exact ⟨x', o', h', l', rfl⟩
theorem State.HostOnly.clock {s t : State} (a : s.HostOnly t) : s.ClockOnly t := by
  obtain ⟨h, o, rfl⟩ := a
  exact ⟨s.time, s.obs, h, o, rfl⟩
theorem State.modPmc_clockOnly (s : State) (n : Nat) (f : Pmc → Pmc) : s.ClockOnly (s.modPmc n f) := ⟨s.time, _, s.hif, s.out, rfl⟩
theorem State.pmcOverflow_clockOnly (s : State) (n : Nat) : s.ClockOnly (s.pmcOverflow n) := by
  unfold State.pmcOverflow
  split
  · exact .refl s
  · exact State.ClockOnly.trans ⟨s.time, _, s.hif, s.out, rfl⟩ (State.raise_hostOnly _ _ _ _ _).clock
theorem State.pmcAdd_clockOnly (s : State) (n inc : Nat) : s.ClockOnly (s.pmcAdd n inc) := by
  unfold State.pmcAdd
  have h1 := State.modPmc_clockOnly s n
  dsimp only
  split
  · exact h1 _
  · split
    · split
      · split
        · exact (h1 _).trans (State.modPmc_clockOnly _ _ _)
        · exact ((h1 _).trans (State.modPmc_clockOnly _ _ _)).trans (State.pmcOverflow_clockOnly _ _)
      · exact h1 _
    · exact (h1 _).trans (State.pmcOverflow_clockOnly _ _)
theorem State.foldl_clockOnly {α : Type} (f : State → α → State) (h : ∀ (s : State) a, s.ClockOnly (f s a)) (l : List α) (s : State) :
    s.ClockOnly (l.foldl f s) := by
  induction l generalizing s with
  | nil => exact .refl s
  | cons a l ih => exact (h s a).trans (ih _)
theorem State.happen_clockOnly (s : State) (ev : Nat) (objects : List Nat) (qual leg inc : Nat) :
    s.ClockOnly (s.happen ev objects qual leg inc) :=
  State.foldl_clockOnly _ (fun t e => by split; exact State.pmcAdd_clockOnly t _ _; exact .refl t) _ s
theorem State.busyCycles_clockOnly (s : State) (enc pix fab : Nat) : s.ClockOnly (s.busyCycles enc pix fab) :=
  State.foldl_clockOnly _ (fun t _ => State.happen_clockOnly t _ _ _ _ _) _ s
theorem State.fabCycles_clockOnly (s : State) (n : Nat) : s.ClockOnly (s.fabCycles n) := by
  unfold State.fabCycles
  dsimp only
  refine State.ClockOnly.trans (State.ClockOnly.trans ⟨s.time, _, s.hif, s.out, rfl⟩ (State.busyCycles_clockOnly _ _ _ _))
    (State.foldl_clockOnly _ (fun t e => ?_) _ _)
  split
  · exact State.pmcAdd_clockOnly t _ _
  · exact .refl t
theorem State.advance_clockOnly (s : State) (n : Nat) : s.ClockOnly (s.advance n) := by
  unfold State.advance
  split
  · exact State.ClockOnly.trans ⟨_, s.obs, s.hif, s.out, rfl⟩ (State.fabCycles_clockOnly _ n)
  · exact .refl s
theorem State.reach_clockOnly (s : State) (t : Nat) : s.ClockOnly (s.reach t) := by
  unfold State.reach
  dsimp only
  split
  · exact State.advance_clockOnly s _
  · exact .refl s
theorem State.reachOn_clockOnly (s : State) (n : Nat) (t : Int) : s.ClockOnly (s.reachOn n t) := by
  unfold State.reachOn
  dsimp only
  split
  · exact State.reach_clockOnly s _
  · split
    · exact State.advance_clockOnly s _
    · exact .refl s
theorem State.at32_clockOnly (s : State) (t : Nat) : s.ClockOnly (s.at32 t) := State.reach_clockOnly s _

@[simp] theorem State.happen_charges (s : State) (ev : Nat) (objects : List Nat) (qual leg inc : Nat) :
    (s.happen ev objects qual leg inc).charges = s.charges := by
  obtain ⟨_, _, _, _, h⟩ := s.happen_clockOnly ev objects qual leg inc
  rw [h]
@[simp] theorem State.happen_encLost (s : State) (ev : Nat) (objects : List Nat) (qual leg inc : Nat) :
    (s.happen ev objects qual leg inc).encLost = s.encLost := by
  obtain ⟨_, _, _, _, h⟩ := s.happen_clockOnly ev objects qual leg inc
  rw [h]
@[simp] theorem State.happen_rx (s : State) (ev : Nat) (objects : List Nat) (qual leg inc : Nat) :
    (s.happen ev objects qual leg inc).rx = s.rx := by
  obtain ⟨_, _, _, _, h⟩ := s.happen_clockOnly ev objects qual leg inc
  rw [h]
@[simp] theorem State.happen_braids (s : State) (ev : Nat) (objects : List Nat) (qual leg inc : Nat) :
    (s.happen ev objects qual leg inc).braids = s.braids := by
  obtain ⟨_, _, _, _, h⟩ := s.happen_clockOnly ev objects qual leg inc
  rw [h]
@[simp] theorem State.happen_comp (s : State) (ev : Nat) (objects : List Nat) (qual leg inc : Nat) :
    (s.happen ev objects qual leg inc).comp = s.comp := by
  obtain ⟨_, _, _, _, h⟩ := s.happen_clockOnly ev objects qual leg inc
  rw [h]
@[simp] theorem State.happen_progs (s : State) (ev : Nat) (objects : List Nat) (qual leg inc : Nat) :
    (s.happen ev objects qual leg inc).progs = s.progs := by
  obtain ⟨_, _, _, _, h⟩ := s.happen_clockOnly ev objects qual leg inc
  rw [h]
@[simp] theorem State.happen_disp (s : State) (ev : Nat) (objects : List Nat) (qual leg inc : Nat) :
    (s.happen ev objects qual leg inc).disp = s.disp := by
  obtain ⟨_, _, _, _, h⟩ := s.happen_clockOnly ev objects qual leg inc
  rw [h]
@[simp] theorem State.happen_egress (s : State) (ev : Nat) (objects : List Nat) (qual leg inc : Nat) :
    (s.happen ev objects qual leg inc).egress = s.egress := by
  obtain ⟨_, _, _, _, h⟩ := s.happen_clockOnly ev objects qual leg inc
  rw [h]
@[simp] theorem State.happen_audio (s : State) (ev : Nat) (objects : List Nat) (qual leg inc : Nat) :
    (s.happen ev objects qual leg inc).audio = s.audio := by
  obtain ⟨_, _, _, _, h⟩ := s.happen_clockOnly ev objects qual leg inc
  rw [h]
@[simp] theorem State.happen_twin (s : State) (ev : Nat) (objects : List Nat) (qual leg inc : Nat) :
    (s.happen ev objects qual leg inc).twin = s.twin := by
  obtain ⟨_, _, _, _, h⟩ := s.happen_clockOnly ev objects qual leg inc
  rw [h]
@[simp] theorem State.happen_mem (s : State) (ev : Nat) (objects : List Nat) (qual leg inc : Nat) :
    (s.happen ev objects qual leg inc).mem = s.mem := by
  obtain ⟨_, _, _, _, h⟩ := s.happen_clockOnly ev objects qual leg inc
  rw [h]
@[simp] theorem State.happen_cv (s : State) (ev : Nat) (objects : List Nat) (qual leg inc : Nat) :
    (s.happen ev objects qual leg inc).cv = s.cv := by
  obtain ⟨_, _, _, _, h⟩ := s.happen_clockOnly ev objects qual leg inc
  rw [h]
@[simp] theorem State.happen_power (s : State) (ev : Nat) (objects : List Nat) (qual leg inc : Nat) :
    (s.happen ev objects qual leg inc).power = s.power := by
  obtain ⟨_, _, _, _, h⟩ := s.happen_clockOnly ev objects qual leg inc
  rw [h]
@[simp] theorem State.happen_nv (s : State) (ev : Nat) (objects : List Nat) (qual leg inc : Nat) :
    (s.happen ev objects qual leg inc).nv = s.nv := by
  obtain ⟨_, _, _, _, h⟩ := s.happen_clockOnly ev objects qual leg inc
  rw [h]
@[simp] theorem State.happen_upd (s : State) (ev : Nat) (objects : List Nat) (qual leg inc : Nat) :
    (s.happen ev objects qual leg inc).upd = s.upd := by
  obtain ⟨_, _, _, _, h⟩ := s.happen_clockOnly ev objects qual leg inc
  rw [h]
@[simp] theorem State.happen_free (s : State) (ev : Nat) (objects : List Nat) (qual leg inc : Nat) :
    (s.happen ev objects qual leg inc).free = s.free := by
  obtain ⟨_, _, _, _, h⟩ := s.happen_clockOnly ev objects qual leg inc
  rw [h]
@[simp] theorem State.happen_pending (s : State) (ev : Nat) (objects : List Nat) (qual leg inc : Nat) :
    (s.happen ev objects qual leg inc).pending = s.pending := by
  obtain ⟨_, _, _, _, h⟩ := s.happen_clockOnly ev objects qual leg inc
  rw [h]

@[simp] theorem State.advance_charges (s : State) (n : Nat) : (s.advance n).charges = s.charges := by
  obtain ⟨_, _, _, _, h⟩ := s.advance_clockOnly n
  rw [h]
@[simp] theorem State.advance_encLost (s : State) (n : Nat) : (s.advance n).encLost = s.encLost := by
  obtain ⟨_, _, _, _, h⟩ := s.advance_clockOnly n
  rw [h]
@[simp] theorem State.advance_rx (s : State) (n : Nat) : (s.advance n).rx = s.rx := by
  obtain ⟨_, _, _, _, h⟩ := s.advance_clockOnly n
  rw [h]
@[simp] theorem State.advance_braids (s : State) (n : Nat) : (s.advance n).braids = s.braids := by
  obtain ⟨_, _, _, _, h⟩ := s.advance_clockOnly n
  rw [h]
@[simp] theorem State.advance_comp (s : State) (n : Nat) : (s.advance n).comp = s.comp := by
  obtain ⟨_, _, _, _, h⟩ := s.advance_clockOnly n
  rw [h]
@[simp] theorem State.advance_progs (s : State) (n : Nat) : (s.advance n).progs = s.progs := by
  obtain ⟨_, _, _, _, h⟩ := s.advance_clockOnly n
  rw [h]
@[simp] theorem State.advance_disp (s : State) (n : Nat) : (s.advance n).disp = s.disp := by
  obtain ⟨_, _, _, _, h⟩ := s.advance_clockOnly n
  rw [h]
@[simp] theorem State.advance_egress (s : State) (n : Nat) : (s.advance n).egress = s.egress := by
  obtain ⟨_, _, _, _, h⟩ := s.advance_clockOnly n
  rw [h]
@[simp] theorem State.advance_audio (s : State) (n : Nat) : (s.advance n).audio = s.audio := by
  obtain ⟨_, _, _, _, h⟩ := s.advance_clockOnly n
  rw [h]
@[simp] theorem State.advance_twin (s : State) (n : Nat) : (s.advance n).twin = s.twin := by
  obtain ⟨_, _, _, _, h⟩ := s.advance_clockOnly n
  rw [h]
@[simp] theorem State.advance_mem (s : State) (n : Nat) : (s.advance n).mem = s.mem := by
  obtain ⟨_, _, _, _, h⟩ := s.advance_clockOnly n
  rw [h]
@[simp] theorem State.advance_cv (s : State) (n : Nat) : (s.advance n).cv = s.cv := by
  obtain ⟨_, _, _, _, h⟩ := s.advance_clockOnly n
  rw [h]
@[simp] theorem State.advance_power (s : State) (n : Nat) : (s.advance n).power = s.power := by
  obtain ⟨_, _, _, _, h⟩ := s.advance_clockOnly n
  rw [h]
@[simp] theorem State.advance_nv (s : State) (n : Nat) : (s.advance n).nv = s.nv := by
  obtain ⟨_, _, _, _, h⟩ := s.advance_clockOnly n
  rw [h]
@[simp] theorem State.advance_upd (s : State) (n : Nat) : (s.advance n).upd = s.upd := by
  obtain ⟨_, _, _, _, h⟩ := s.advance_clockOnly n
  rw [h]
@[simp] theorem State.advance_free (s : State) (n : Nat) : (s.advance n).free = s.free := by
  obtain ⟨_, _, _, _, h⟩ := s.advance_clockOnly n
  rw [h]
@[simp] theorem State.advance_pending (s : State) (n : Nat) : (s.advance n).pending = s.pending := by
  obtain ⟨_, _, _, _, h⟩ := s.advance_clockOnly n
  rw [h]

@[simp] theorem State.reach_charges (s : State) (t : Nat) : (s.reach t).charges = s.charges := by
  obtain ⟨_, _, _, _, h⟩ := s.reach_clockOnly t
  rw [h]
@[simp] theorem State.reach_encLost (s : State) (t : Nat) : (s.reach t).encLost = s.encLost := by
  obtain ⟨_, _, _, _, h⟩ := s.reach_clockOnly t
  rw [h]
@[simp] theorem State.reach_rx (s : State) (t : Nat) : (s.reach t).rx = s.rx := by
  obtain ⟨_, _, _, _, h⟩ := s.reach_clockOnly t
  rw [h]
@[simp] theorem State.reach_braids (s : State) (t : Nat) : (s.reach t).braids = s.braids := by
  obtain ⟨_, _, _, _, h⟩ := s.reach_clockOnly t
  rw [h]
@[simp] theorem State.reach_comp (s : State) (t : Nat) : (s.reach t).comp = s.comp := by
  obtain ⟨_, _, _, _, h⟩ := s.reach_clockOnly t
  rw [h]
@[simp] theorem State.reach_progs (s : State) (t : Nat) : (s.reach t).progs = s.progs := by
  obtain ⟨_, _, _, _, h⟩ := s.reach_clockOnly t
  rw [h]
@[simp] theorem State.reach_disp (s : State) (t : Nat) : (s.reach t).disp = s.disp := by
  obtain ⟨_, _, _, _, h⟩ := s.reach_clockOnly t
  rw [h]
@[simp] theorem State.reach_egress (s : State) (t : Nat) : (s.reach t).egress = s.egress := by
  obtain ⟨_, _, _, _, h⟩ := s.reach_clockOnly t
  rw [h]
@[simp] theorem State.reach_audio (s : State) (t : Nat) : (s.reach t).audio = s.audio := by
  obtain ⟨_, _, _, _, h⟩ := s.reach_clockOnly t
  rw [h]
@[simp] theorem State.reach_twin (s : State) (t : Nat) : (s.reach t).twin = s.twin := by
  obtain ⟨_, _, _, _, h⟩ := s.reach_clockOnly t
  rw [h]
@[simp] theorem State.reach_mem (s : State) (t : Nat) : (s.reach t).mem = s.mem := by
  obtain ⟨_, _, _, _, h⟩ := s.reach_clockOnly t
  rw [h]
@[simp] theorem State.reach_cv (s : State) (t : Nat) : (s.reach t).cv = s.cv := by
  obtain ⟨_, _, _, _, h⟩ := s.reach_clockOnly t
  rw [h]
@[simp] theorem State.reach_power (s : State) (t : Nat) : (s.reach t).power = s.power := by
  obtain ⟨_, _, _, _, h⟩ := s.reach_clockOnly t
  rw [h]
@[simp] theorem State.reach_nv (s : State) (t : Nat) : (s.reach t).nv = s.nv := by
  obtain ⟨_, _, _, _, h⟩ := s.reach_clockOnly t
  rw [h]
@[simp] theorem State.reach_upd (s : State) (t : Nat) : (s.reach t).upd = s.upd := by
  obtain ⟨_, _, _, _, h⟩ := s.reach_clockOnly t
  rw [h]
@[simp] theorem State.reach_free (s : State) (t : Nat) : (s.reach t).free = s.free := by
  obtain ⟨_, _, _, _, h⟩ := s.reach_clockOnly t
  rw [h]
@[simp] theorem State.reach_pending (s : State) (t : Nat) : (s.reach t).pending = s.pending := by
  obtain ⟨_, _, _, _, h⟩ := s.reach_clockOnly t
  rw [h]

@[simp] theorem State.reachOn_charges (s : State) (n : Nat) (t : Int) : (s.reachOn n t).charges = s.charges := by
  obtain ⟨_, _, _, _, h⟩ := s.reachOn_clockOnly n t
  rw [h]
@[simp] theorem State.reachOn_encLost (s : State) (n : Nat) (t : Int) : (s.reachOn n t).encLost = s.encLost := by
  obtain ⟨_, _, _, _, h⟩ := s.reachOn_clockOnly n t
  rw [h]
@[simp] theorem State.reachOn_rx (s : State) (n : Nat) (t : Int) : (s.reachOn n t).rx = s.rx := by
  obtain ⟨_, _, _, _, h⟩ := s.reachOn_clockOnly n t
  rw [h]
@[simp] theorem State.reachOn_braids (s : State) (n : Nat) (t : Int) : (s.reachOn n t).braids = s.braids := by
  obtain ⟨_, _, _, _, h⟩ := s.reachOn_clockOnly n t
  rw [h]
@[simp] theorem State.reachOn_comp (s : State) (n : Nat) (t : Int) : (s.reachOn n t).comp = s.comp := by
  obtain ⟨_, _, _, _, h⟩ := s.reachOn_clockOnly n t
  rw [h]
@[simp] theorem State.reachOn_progs (s : State) (n : Nat) (t : Int) : (s.reachOn n t).progs = s.progs := by
  obtain ⟨_, _, _, _, h⟩ := s.reachOn_clockOnly n t
  rw [h]
@[simp] theorem State.reachOn_disp (s : State) (n : Nat) (t : Int) : (s.reachOn n t).disp = s.disp := by
  obtain ⟨_, _, _, _, h⟩ := s.reachOn_clockOnly n t
  rw [h]
@[simp] theorem State.reachOn_egress (s : State) (n : Nat) (t : Int) : (s.reachOn n t).egress = s.egress := by
  obtain ⟨_, _, _, _, h⟩ := s.reachOn_clockOnly n t
  rw [h]
@[simp] theorem State.reachOn_audio (s : State) (n : Nat) (t : Int) : (s.reachOn n t).audio = s.audio := by
  obtain ⟨_, _, _, _, h⟩ := s.reachOn_clockOnly n t
  rw [h]
@[simp] theorem State.reachOn_twin (s : State) (n : Nat) (t : Int) : (s.reachOn n t).twin = s.twin := by
  obtain ⟨_, _, _, _, h⟩ := s.reachOn_clockOnly n t
  rw [h]
@[simp] theorem State.reachOn_mem (s : State) (n : Nat) (t : Int) : (s.reachOn n t).mem = s.mem := by
  obtain ⟨_, _, _, _, h⟩ := s.reachOn_clockOnly n t
  rw [h]
@[simp] theorem State.reachOn_cv (s : State) (n : Nat) (t : Int) : (s.reachOn n t).cv = s.cv := by
  obtain ⟨_, _, _, _, h⟩ := s.reachOn_clockOnly n t
  rw [h]
@[simp] theorem State.reachOn_power (s : State) (n : Nat) (t : Int) : (s.reachOn n t).power = s.power := by
  obtain ⟨_, _, _, _, h⟩ := s.reachOn_clockOnly n t
  rw [h]
@[simp] theorem State.reachOn_nv (s : State) (n : Nat) (t : Int) : (s.reachOn n t).nv = s.nv := by
  obtain ⟨_, _, _, _, h⟩ := s.reachOn_clockOnly n t
  rw [h]
@[simp] theorem State.reachOn_upd (s : State) (n : Nat) (t : Int) : (s.reachOn n t).upd = s.upd := by
  obtain ⟨_, _, _, _, h⟩ := s.reachOn_clockOnly n t
  rw [h]
@[simp] theorem State.reachOn_free (s : State) (n : Nat) (t : Int) : (s.reachOn n t).free = s.free := by
  obtain ⟨_, _, _, _, h⟩ := s.reachOn_clockOnly n t
  rw [h]
@[simp] theorem State.reachOn_pending (s : State) (n : Nat) (t : Int) : (s.reachOn n t).pending = s.pending := by
  obtain ⟨_, _, _, _, h⟩ := s.reachOn_clockOnly n t
  rw [h]

@[simp] theorem State.at32_charges (s : State) (t : Nat) : (s.at32 t).charges = s.charges := by
  obtain ⟨_, _, _, _, h⟩ := s.at32_clockOnly t
  rw [h]
@[simp] theorem State.at32_encLost (s : State) (t : Nat) : (s.at32 t).encLost = s.encLost := by
  obtain ⟨_, _, _, _, h⟩ := s.at32_clockOnly t
  rw [h]
@[simp] theorem State.at32_rx (s : State) (t : Nat) : (s.at32 t).rx = s.rx := by
  obtain ⟨_, _, _, _, h⟩ := s.at32_clockOnly t
  rw [h]
@[simp] theorem State.at32_braids (s : State) (t : Nat) : (s.at32 t).braids = s.braids := by
  obtain ⟨_, _, _, _, h⟩ := s.at32_clockOnly t
  rw [h]
@[simp] theorem State.at32_comp (s : State) (t : Nat) : (s.at32 t).comp = s.comp := by
  obtain ⟨_, _, _, _, h⟩ := s.at32_clockOnly t
  rw [h]
@[simp] theorem State.at32_progs (s : State) (t : Nat) : (s.at32 t).progs = s.progs := by
  obtain ⟨_, _, _, _, h⟩ := s.at32_clockOnly t
  rw [h]
@[simp] theorem State.at32_disp (s : State) (t : Nat) : (s.at32 t).disp = s.disp := by
  obtain ⟨_, _, _, _, h⟩ := s.at32_clockOnly t
  rw [h]
@[simp] theorem State.at32_egress (s : State) (t : Nat) : (s.at32 t).egress = s.egress := by
  obtain ⟨_, _, _, _, h⟩ := s.at32_clockOnly t
  rw [h]
@[simp] theorem State.at32_audio (s : State) (t : Nat) : (s.at32 t).audio = s.audio := by
  obtain ⟨_, _, _, _, h⟩ := s.at32_clockOnly t
  rw [h]
@[simp] theorem State.at32_twin (s : State) (t : Nat) : (s.at32 t).twin = s.twin := by
  obtain ⟨_, _, _, _, h⟩ := s.at32_clockOnly t
  rw [h]
@[simp] theorem State.at32_mem (s : State) (t : Nat) : (s.at32 t).mem = s.mem := by
  obtain ⟨_, _, _, _, h⟩ := s.at32_clockOnly t
  rw [h]
@[simp] theorem State.at32_cv (s : State) (t : Nat) : (s.at32 t).cv = s.cv := by
  obtain ⟨_, _, _, _, h⟩ := s.at32_clockOnly t
  rw [h]
@[simp] theorem State.at32_power (s : State) (t : Nat) : (s.at32 t).power = s.power := by
  obtain ⟨_, _, _, _, h⟩ := s.at32_clockOnly t
  rw [h]
@[simp] theorem State.at32_nv (s : State) (t : Nat) : (s.at32 t).nv = s.nv := by
  obtain ⟨_, _, _, _, h⟩ := s.at32_clockOnly t
  rw [h]
@[simp] theorem State.at32_upd (s : State) (t : Nat) : (s.at32 t).upd = s.upd := by
  obtain ⟨_, _, _, _, h⟩ := s.at32_clockOnly t
  rw [h]
@[simp] theorem State.at32_free (s : State) (t : Nat) : (s.at32 t).free = s.free := by
  obtain ⟨_, _, _, _, h⟩ := s.at32_clockOnly t
  rw [h]
@[simp] theorem State.at32_pending (s : State) (t : Nat) : (s.at32 t).pending = s.pending := by
  obtain ⟨_, _, _, _, h⟩ := s.at32_clockOnly t
  rw [h]

end Sys2Proof.Machine
end

