-- ==== Sys2Proof/Laws/Engine.lean ====
section
/-!
SUPPORT. The command engine: what the row of an opcode answers for a command that starts, and for one that may not.
-/
set_option Elab.async false
namespace Sys2Proof.Machine

open Sys2Proof

/-! ### The start of a command -/

/-- `t` is `s` but for the braids, the twin, what the device has sent and the count of free values. -/
def State.TetherOnly (s t : State) : Prop := ∃ b w o f, t = { s with braids := b, twin := w, out := o, free := f }

theorem State.TetherOnly.refl (s : State) : s.TetherOnly s := ⟨s.braids, s.twin, s.out, s.free, rfl⟩
theorem State.TetherOnly.trans {s t u : State} (a : s.TetherOnly t) (b : t.TetherOnly u) : s.TetherOnly u := by
  obtain ⟨x, w, o, f, rfl⟩ := a
  obtain ⟨x', w', o', f', rfl⟩ := b
  exact ⟨x', w', o', f', rfl⟩
theorem State.TetherOnly.hif {s t : State} (a : s.TetherOnly t) : t.hif = s.hif := by
  obtain ⟨x, w, o, f, rfl⟩ := a; rfl
theorem State.foldl_tetherOnly {α : Type} (f : State → α → State) (h : ∀ (s : State) a, s.TetherOnly (f s a)) (l : List α) (s : State) :
    s.TetherOnly (l.foldl f s) := by
  induction l generalizing s with
  | nil => exact .refl s
  | cons a l ih => exact (h s a).trans (ih _)
theorem State.sendStrands_tetherOnly (s : State) (l : List (Nat × List Byte)) : s.TetherOnly (s.sendStrands l) :=
  State.foldl_tetherOnly _ (fun s _ => ⟨(s.modBraid 4 _).braids, s.twin, _, s.free, rfl⟩) l s
theorem State.sendRow_tetherOnly (s : State) (blocks : List (List Byte)) : s.TetherOnly (s.sendRow blocks) := by
  unfold State.sendRow
  exact State.TetherOnly.trans ⟨s.braids, _, s.out, s.free, rfl⟩ (State.sendStrands_tetherOnly _ _)
theorem State.idleTether_tetherOnly (s : State) : s.TetherOnly s.idleTether := by
  unfold State.idleTether
  split
  · exact ⟨_, _, s.out, _, rfl⟩
  · exact .refl s
theorem State.drainTether_tetherOnly (n : Nat) (s : State) : s.TetherOnly (State.drainTether n s) := by
  induction n generalizing s with
  | zero => exact .refl s
  | succ n ih =>
    unfold State.drainTether
    split
    · exact .refl s
    · exact State.TetherOnly.trans (State.TetherOnly.trans ⟨s.braids, _, s.out, s.free, rfl⟩ (State.sendRow_tetherOnly _ _)) (ih _)
theorem State.pathASend_tetherOnly (s : State) (type : Nat) (blocks : List (List Byte)) : s.TetherOnly (s.pathASend type blocks) := by
  unfold State.pathASend
  dsimp only
  have h1 := (State.drainTether_tetherOnly s.twin.txA.length s).trans (State.idleTether_tetherOnly _)
  generalize (State.drainTether s.twin.txA.length s).idleTether = s1 at h1 ⊢
  exact h1.trans (State.TetherOnly.trans ⟨s1.braids, _, s1.out, s1.free, rfl⟩ (State.drainTether_tetherOnly _ _))
theorem State.pathBSend_tetherOnly (s : State) (b : List Byte) : s.TetherOnly (s.pathBSend b) := ⟨s.braids, s.twin, _, s.free, rfl⟩
theorem State.tetherOn_tetherOnly (s : State) (path type : Nat) (payload : List Byte) : s.TetherOnly (s.tetherOn path type payload) := by
  unfold State.tetherOn
  dsimp only
  split
  · exact .refl s
  · split
    · exact State.TetherOnly.trans ⟨s.braids, _, s.out, s.free, rfl⟩ (State.pathASend_tetherOnly _ _ _)
    · exact State.TetherOnly.trans ⟨s.braids, _, s.out, s.free, rfl⟩
        (State.foldl_tetherOnly _ (fun s b => State.pathBSend_tetherOnly s b) _ _)
theorem State.tetherSend_tetherOnly (s : State) (type : Nat) (payload : List Byte) : s.TetherOnly (s.tetherSend type payload) :=
  State.tetherOn_tetherOnly _ _ _ _

/-- `t` is `s` but for the host interface, the braids, the twin, what the device has sent and the count of free values. -/
def State.StartOnly (s t : State) : Prop := ∃ h b w o f, t = { s with hif := h, braids := b, twin := w, out := o, free := f }

theorem State.StartOnly.refl (s : State) : s.StartOnly s := ⟨s.hif, s.braids, s.twin, s.out, s.free, rfl⟩
theorem State.StartOnly.trans {s t u : State} (a : s.StartOnly t) (b : t.StartOnly u) : s.StartOnly u := by
  obtain ⟨h, x, w, o, f, rfl⟩ := a
  obtain ⟨h', x', w', o', f', rfl⟩ := b
  exact ⟨h', x', w', o', f', rfl⟩
theorem State.TetherOnly.start {s t : State} (a : s.TetherOnly t) : s.StartOnly t := by
  obtain ⟨x, w, o, f, rfl⟩ := a
  exact ⟨s.hif, x, w, o, f, rfl⟩
theorem State.commitNote_startOnly (s : State) (c : Cmd) (kind value tb status detail : Nat) :
    s.StartOnly (s.commitNote c kind value tb status detail) := by
  unfold State.commitNote
  split
  · dsimp only
    split
    · exact (State.tetherOn_tetherOnly _ _ _ _).start.trans ⟨_, _, _, _, _, rfl⟩ |>
        State.StartOnly.trans ⟨s.hif, s.braids, _, s.out, s.free, rfl⟩
    · exact ⟨_, s.braids, _, s.out, s.free, rfl⟩
  · exact .refl s
/-- Of the host interface a COMMIT_NOTE changes the number of the note in its command, and no more. -/
theorem State.commitNote_hif (s : State) (c : Cmd) (kind value tb status detail : Nat) :
    (s.commitNote c kind value tb status detail).hif = s.hif ∨
      ∃ n, (s.commitNote c kind value tb status detail).hif = (s.modCmd c.q c.seq (fun d => { d with noted := some n })).hif := by
  unfold State.commitNote
  split
  · refine .inr ⟨s.twin.commitSeq + 1, ?_⟩
    dsimp only
    split
    · unfold State.modCmd
      rw [(State.tetherSend_tetherOnly _ _ _).hif]
    · rfl
  · exact .inl rfl
/-- The note of an outcome changes only the host interface, the tether's scramblers, the twin and what the device sends. -/
theorem State.noteOutcome_startOnly (s : State) (c : Cmd) (kind value : Nat) : s.StartOnly (s.noteOutcome c kind value) :=
  State.commitNote_startOnly _ _ _ _ _ _ _

@[simp] theorem State.begun_charges (s : State) (c : Cmd) : (s.begun c).charges = s.charges := rfl
@[simp] theorem State.begun_encLost (s : State) (c : Cmd) : (s.begun c).encLost = s.encLost := rfl
@[simp] theorem State.begun_rx (s : State) (c : Cmd) : (s.begun c).rx = s.rx := rfl
@[simp] theorem State.begun_braids (s : State) (c : Cmd) : (s.begun c).braids = s.braids := rfl
@[simp] theorem State.begun_comp (s : State) (c : Cmd) : (s.begun c).comp = s.comp := rfl
@[simp] theorem State.begun_progs (s : State) (c : Cmd) : (s.begun c).progs = s.progs := rfl
@[simp] theorem State.begun_disp (s : State) (c : Cmd) : (s.begun c).disp = s.disp := rfl
@[simp] theorem State.begun_egress (s : State) (c : Cmd) : (s.begun c).egress = s.egress := rfl
@[simp] theorem State.begun_time (s : State) (c : Cmd) : (s.begun c).time = s.time := rfl
@[simp] theorem State.begun_audio (s : State) (c : Cmd) : (s.begun c).audio = s.audio := rfl
@[simp] theorem State.begun_mem (s : State) (c : Cmd) : (s.begun c).mem = s.mem := rfl
@[simp] theorem State.begun_cv (s : State) (c : Cmd) : (s.begun c).cv = s.cv := rfl
@[simp] theorem State.begun_power (s : State) (c : Cmd) : (s.begun c).power = s.power := rfl
@[simp] theorem State.begun_nv (s : State) (c : Cmd) : (s.begun c).nv = s.nv := rfl
@[simp] theorem State.begun_upd (s : State) (c : Cmd) : (s.begun c).upd = s.upd := rfl
@[simp] theorem State.begun_obs (s : State) (c : Cmd) : (s.begun c).obs = s.obs := rfl
@[simp] theorem State.begun_twin (s : State) (c : Cmd) : (s.begun c).twin = s.twin := rfl
@[simp] theorem State.begun_out (s : State) (c : Cmd) : (s.begun c).out = s.out := rfl
@[simp] theorem State.begun_free (s : State) (c : Cmd) : (s.begun c).free = s.free := rfl
@[simp] theorem State.begun_pending (s : State) (c : Cmd) : (s.begun c).pending = s.pending := rfl

/-- The command engine starts a command that may start. -/
theorem runOp_starts {s : State} {c : Cmd} {code : Nat} (h : s.Starts c code) (eff : Cmd → State → State) :
    s.runOp code c.q c.seq eff = s.begin c eff := by
  obtain ⟨_, hf, ho, hs⟩ := h
  unfold State.runOp
  rw [hf]
  exact if_pos ⟨ho, hs⟩

/-- A command that starts now takes effect at once. -/
theorem begin_now {s : State} {c : Cmd} (hc : c.clearing = false) (he : c.effTime = 0) (ha : s.awaitsClearing c = none)
    (eff : Cmd → State → State) :
    s.begin c eff = (eff c.begun (s.begun c)).noteOutcome c.begun 0 0 := by
  unfold State.begin
  dsimp only
  rw [if_neg (by simp [hc]), if_neg (by simp [he])]
  generalize s.awaitsClearing c = a at ha
  subst ha
  rfl

/-- The answer of the row of an opcode, for a command that starts now. -/
theorem opOut_now {s : State} {c : Cmd} {code : Nat} (h : s.StartsNow c code) (eff : Cmd → State → State) :
    opOut c.q (s.runOp code c.q c.seq eff) = .next ((eff c.begun (s.begun c)).noteOutcome c.begun 0 0) := by
  rw [runOp_starts h.1, begin_now h.2.1 h.2.2.1 h.2.2.2]
  exact need_eq _ h.1.1

/-- The row of an opcode, for a command that starts now. -/
theorem runs_of_eff {row : Nat → Nat → Instr} {code : Nat} {eff : Cmd → State → State}
    (h : ∀ q seq s, exec (row q seq) s = opOut q (s.runOp code q seq eff)) : Runs row code eff :=
  fun s c hc => (h c.q c.seq s).trans (opOut_now hc eff)

/-- The row of an opcode, for a command that starts now and meets a condition under which its effect is another one's. -/
theorem runsIf_of_eff {row : Nat → Nat → Instr} {code : Nat} {eff eff' : Cmd → State → State} {p : Cmd → State → Prop}
    (h : ∀ q seq s, exec (row q seq) s = opOut q (s.runOp code q seq eff)) (he : ∀ c s, c.clearing = false → p c s → eff c s = eff' c s) :
    RunsIf row code p eff' :=
  fun s c hc hp => he c.begun _ hc.2.1 hp ▸ runs_of_eff h s c hc

/-- The row of an opcode, for a command that starts now, by an effect that is everywhere the same. -/
theorem runs_of_eff_eq {row : Nat → Nat → Instr} {code : Nat} {eff eff' : Cmd → State → State}
    (h : ∀ q seq s, exec (row q seq) s = opOut q (s.runOp code q seq eff)) (he : ∀ c s, c.clearing = false → eff c s = eff' c s) :
    Runs row code eff' :=
  fun s c hc => he c.begun _ hc.2.1 ▸ runs_of_eff h s c hc

/-- A command that takes effect at a clearing by its nature. -/
theorem begin_awaits {s : State} {c : Cmd} {k : Nat} (hc : c.clearing = false) (he : c.effTime = 0)
    (ha : s.awaitsClearing c = some k) (eff : Cmd → State → State) :
    s.begin c eff = (eff c.begun (s.begunAt c k)).noteOutcome c.begun 1 (s.nextClearing k c.replicated % two32) := by
  unfold State.begin
  dsimp only
  rw [if_neg (by simp [hc]), if_neg (by simp [he])]
  generalize s.awaitsClearing c = a at ha
  subst ha
  rfl

/-- The row of an opcode, for a command that waits for a clearing by its nature. -/
theorem runsAtClearing_of_eff {row : Nat → Nat → Instr} {code : Nat} {eff eff' : Cmd → State → State} {p : Cmd → State → Prop}
    (h : ∀ q seq s, exec (row q seq) s = opOut q (s.runOp code q seq eff)) (he : ∀ c s, p c s → eff c s = eff' c s) :
    RunsAtClearing row code p eff' := by
  intro s c k hs hc ht ha hp
  rw [h, runOp_starts hs, begin_awaits hc ht ha, he _ _ hp]
  exact need_eq _ hs.1

/-- No taken command of a SEQ: the row of an opcode leaves the state as it is. -/
theorem runOp_none {s : State} {q seq : Nat} (code : Nat) (eff : Cmd → State → State) (h : s.findCmd q seq = none) :
    s.runOp code q seq eff = s := by simp [State.runOp, h]

/-- A command that may not start: the row of its opcode leaves the state as it is. -/
theorem runOp_not {s : State} {q seq code : Nat} {c : Cmd} (eff : Cmd → State → State) (h : s.findCmd q seq = some c)
    (hn : ¬(c.opcode = code ∧ s.startable c = true)) : s.runOp code q seq eff = s := by
  simp [State.runOp, h, hn]

/-- The row of an opcode that times its own effect, for a command that starts. -/
theorem runSelfTimed_starts {s : State} {c : Cmd} {code : Nat} (h : s.Starts c code) (eff : Cmd → State → State) :
    s.runSelfTimed code c.q c.seq eff = eff c.begun (s.modCmd c.q c.seq Cmd.begun) := by
  obtain ⟨_, hf, ho, hs⟩ := h
  unfold State.runSelfTimed
  rw [hf]
  exact if_pos ⟨ho, hs⟩

end Sys2Proof.Machine
end

