-- ==== Sys2Proof/Laws/Kept.lean ====
section
/-!
SUPPORT. The part of the state that most operations leave alone, the commands that wait and the fuses, and the lemmas that carry its
preservation through conditionals, options and folds.
-/
set_option Elab.async false
namespace Sys2Proof.Machine

open Sys2Proof

/-- Fused values: the ordered part, the anti-rollback version, the revoked key slots, the returns (00 R8, 15 R606, R634). -/
structure Fuses where
  part : Nat
  antiRollback : Nat
  revoked : List Nat
  returns : Nat

def NonVol.fuses (n : NonVol) : Fuses := ⟨n.part, n.antiRollback, n.revoked, n.returns⟩

/-- What most operations leave alone: the commands that wait, the fuses, and the form in which the DRAM is written down. -/
structure Kept where
  pending : List Instr
  fuses : Fuses
  memWf : Bool

def State.kept (s : State) : Kept := ⟨s.pending, s.nv.fuses, s.mem.wf⟩

@[simp] theorem NonVol.fuses_mk (part) (grade) (stepping) (uid) (lifecycle) (nextLife) (returns) (antiRollback) (revoked) (keysProgrammed) (keyKill) (limit) (throttle) (vinUpdateMin) (fill) (splits) (ownerLock) (marker0) (marker1) (bankA) (bankB) (updAtLoss) (flash) (repairs) (retired) (eraseSettings) :
    NonVol.fuses (NonVol.mk part grade stepping uid lifecycle nextLife returns antiRollback revoked keysProgrammed keyKill limit throttle vinUpdateMin fill splits ownerLock marker0 marker1 bankA bankB updAtLoss flash repairs retired eraseSettings) = Fuses.mk part antiRollback revoked returns := rfl

@[simp] theorem Fuses.eta (n : NonVol) : Fuses.mk n.part n.antiRollback n.revoked n.returns = n.fuses := rfl

@[simp] theorem State.kept_mk (u0) (u1) (u2) (u3) (u4) (u5) (u6) (u7) (u8) (u9) (u10) (u11) (mem) (u13) (u14) (nv) (u16) (u17) (u18) (u19) (pending) :
    State.kept (State.mk u0 u1 u2 u3 u4 u5 u6 u7 u8 u9 u10 u11 mem u13 u14 nv u16 u17 u18 u19 pending) = Kept.mk pending nv.fuses mem.wf := rfl

@[simp] theorem Kept.eta (s : State) : Kept.mk s.pending s.nv.fuses s.mem.wf = s.kept := rfl

@[simp] theorem Mem.wf_mk (channels) (m1) (m2) (m3) (m4) (m5) (m6) (m7) (m8) (m9) (m10) (m11) (m12) (m13) (m14) (m15) (m16) (m17) (m18) (m19) (m20) (m21) (m22) (m23) (m24) (m25) (m26) (m27) (m28) (m29) (m30) (m31) (m32) (m33) (m34) (m35) (m36) (m37) (m38) (m39) (fill) (m41) (m42) (m43) (m44) :
    Mem.wf (Mem.mk channels m1 m2 m3 m4 m5 m6 m7 m8 m9 m10 m11 m12 m13 m14 m15 m16 m17 m18 m19 m20 m21 m22 m23 m24 m25 m26 m27 m28 m29 m30 m31 m32 m33 m34 m35 m36 m37 m38 m39 fill m41 m42 m43 m44) = wordsOk channels fill := rfl

@[simp] theorem Mem.wf_eta (m : Mem) : wordsOk m.channels m.fill = m.wf := rfl

/-- A channel of a well-formed table is well-formed. -/
theorem wordsOk_get {t : Tab Channel} {fill : Nat} (h : wordsOk t fill = true) (i : Nat) : wordsWf fill (Tab.get ({} : Channel) t i).words = true := by
  induction t with
  | nil => rfl
  | cons e t ih =>
    obtain ⟨k, b⟩ := e
    simp only [wordsOk, List.all_cons, Bool.and_eq_true] at h
    unfold Tab.get
    split
    · exact h.1
    · exact ih h.2

/-- A change of a channel that leaves its words alone keeps the form. -/
theorem wordsOk_upd (t : Tab Channel) (fill i : Nat) (f : Channel → Channel) (h : ∀ x, (f x).words = x.words) :
    wordsOk (t.upd {} i f) fill = wordsOk t fill := by
  have key (a : Channel) (t : Tab Channel) (ha : a.words = (Tab.get ({} : Channel) t i).words) : wordsOk (t.set i a) fill = wordsOk t fill := by
    induction t with
    | nil => simp [Tab.set, wordsOk, ha, Tab.get, wordsWf]
    | cons e t ih =>
      obtain ⟨k, b⟩ := e
      unfold Tab.set
      by_cases h1 : i = k
      · have hb : a.words = b.words := by simpa [Tab.get, h1] using ha
        simp [h1, wordsOk, hb]
      · by_cases h2 : i < k
        · simp only [h1, h2, if_true, if_false]
          rw [Bool.eq_iff_iff]
          refine ⟨fun hw => ?_, fun hw => ?_⟩
          · simp only [wordsOk, List.all_cons, Bool.and_eq_true] at hw ⊢
            exact hw.2
          · have := wordsOk_get hw i
            rw [← ha] at this
            simp only [wordsOk, List.all_cons, Bool.and_eq_true] at hw ⊢
            exact ⟨this, hw⟩
        · have hb : a.words = (Tab.get ({} : Channel) t i).words := by simpa [Tab.get, h1] using ha
          simp only [h1, h2, if_false]
          simp only [wordsOk, List.all_cons] at ih ⊢
          rw [ih hb]
  exact key _ _ (h _)

@[simp] theorem words_ite (c : Prop) [Decidable c] (a b : Channel) : (if c then a else b).words = if c then a.words else b.words := by
  split <;> rfl

@[simp] theorem wordsOk_map (t : Tab Channel) (fill : Nat) (f : Nat × Channel → Nat × Channel) (h : ∀ e, (f e).2.words = e.2.words) :
    wordsOk (t.map f) fill = wordsOk t fill := by
  simp only [wordsOk, List.all_map, Function.comp_def, h]

@[simp] theorem foldl_kept {α : Type} (f : State → α → State) (h : ∀ s a, (f s a).kept = s.kept) (l : List α) (s : State) :
    (l.foldl f s).kept = s.kept := by
  induction l generalizing s with
  | nil => rfl
  | cons a l ih => rw [List.foldl_cons, ih, h]

@[simp] theorem foldl_pair_kept {α β : Type} (f : β × State → α → β × State) (h : ∀ p a, (f p a).2.kept = p.2.kept) (l : List α) (p : β × State) :
    (l.foldl f p).2.kept = p.2.kept := by
  induction l generalizing p with
  | nil => rfl
  | cons a l ih => rw [List.foldl_cons, ih, h]

@[simp] theorem foldr_kept {α : Type} (f : α → State → State) (h : ∀ a s, (f a s).kept = s.kept) (l : List α) (s : State) :
    (l.foldr f s).kept = s.kept := by
  induction l with
  | nil => rfl
  | cons a l ih => rw [List.foldr_cons, h, ih]

@[simp] theorem kept_ite (c : Prop) [Decidable c] (a b : State) : (if c then a else b).kept = if c then a.kept else b.kept := by
  split <;> rfl

@[simp] theorem kept_elim {α : Type} (o : Option α) (a : State) (f : α → State) :
    (o.elim a f).kept = o.elim a.kept (fun x => (f x).kept) := by cases o <;> rfl

@[simp] theorem elim_same {α β : Type} (o : Option α) (b : β) : o.elim b (fun _ => b) = b := by cases o <;> rfl

@[simp] theorem fuses_ite (c : Prop) [Decidable c] (a b : NonVol) : (if c then a else b).fuses = if c then a.fuses else b.fuses := by
  split <;> rfl

@[simp] theorem setBank_fuses (n : NonVol) (i : Nat) (b : Bank) : (n.setBank i b).fuses = n.fuses := by unfold NonVol.setBank; split <;> rfl

@[simp] theorem writeMarker_fuses (n : NonVol) (i : Nat) : (n.writeMarker i).fuses = n.fuses := by
  unfold NonVol.writeMarker; dsimp only; repeat' (first | rfl | split)

@[simp] theorem applyErase_fuses (n : NonVol) : n.applyErase.fuses = n.fuses := by unfold NonVol.applyErase; split <;> rfl

@[simp] theorem settle_fuses (n : NonVol) (k : Nat) (c : Cmd) : (n.settle k c).fuses = n.fuses := by unfold NonVol.settle; split <;> rfl

@[simp] theorem leaveBehind_fuses (n : NonVol) : n.leaveBehind.fuses = n.fuses := by
  unfold NonVol.leaveBehind NonVol.setBank
  dsimp only
  split <;> rfl

@[simp] theorem loadSet_words (r : Nat) (x : Channel) : (Channel.loadSet r x).words = x.words := by
  unfold Channel.loadSet
  split <;> rfl

@[simp] theorem track_words (x : Channel) (e : EyeScan) : (x.track e).words = x.words := rfl

@[simp] theorem Mem.ectDecoded_wf (m : Mem) (d : Decoded) : (m.ectDecoded d).wf = m.wf := rfl

@[simp] theorem Mem.postDecision_wf (m : Mem) (n : ℕ) (b : Bool) : (m.postDecision n b).wf = m.wf := rfl

@[simp] theorem Mem.patrolNext_wf (m : Mem) (l c w : ℕ) : (m.patrolNext l c w).wf = m.wf := by unfold Mem.patrolNext; repeat' (first | rfl | split)

@[simp] theorem State.modChannel_kept (s : State) (i : ℕ) (f : Channel → Channel) (h : ∀ x, (f x).words = x.words) :
    (s.modChannel i f).kept = s.kept := by
  unfold State.modChannel
  rw [State.kept_mk, Mem.wf_mk, wordsOk_upd _ _ _ _ h, Mem.wf_eta, Kept.eta]

end Sys2Proof.Machine
end

