-- ==== Sys2Proof/Laws/KeptOps.lean ====
section
/-!
SUPPORT. The commands that wait and the fuses are left alone by the shared operations, admission, the command engine, flags and units.
-/
set_option Elab.async false
namespace Sys2Proof.Machine

open Sys2Proof

/-! ### Ops -/

@[simp] theorem State.modQueue_kept (s : State) (q : ℕ) (f : CmdQueue → CmdQueue) :
    (State.modQueue s q f).kept = s.kept := by unfold State.modQueue; simp
@[simp] theorem State.modRx_kept (s : State) (i : ℕ) (f : RxFlow → RxFlow) :
    (State.modRx s i f).kept = s.kept := by unfold State.modRx; simp
@[simp] theorem State.modBraid_kept (s : State) (i : ℕ) (f : Braid → Braid) :
    (State.modBraid s i f).kept = s.kept := by unfold State.modBraid; simp
@[simp] theorem State.modCanopy_kept (s : State) (i : ℕ) (f : Canopy → Canopy) :
    (State.modCanopy s i f).kept = s.kept := by unfold State.modCanopy; simp
@[simp] theorem State.modLayer_kept (s : State) (i : ℕ) (f : Layer → Layer) :
    (State.modLayer s i f).kept = s.kept := by unfold State.modLayer; simp
@[simp] theorem State.modProg_kept (s : State) (i : ℕ) (f : Program → Program) :
    (State.modProg s i f).kept = s.kept := by unfold State.modProg; simp
@[simp] theorem State.modTx_kept (s : State) (i : ℕ) (f : TxFlow → TxFlow) :
    (State.modTx s i f).kept = s.kept := by unfold State.modTx; simp
@[simp] theorem State.modSub_kept (s : State) (port : ℕ) (sub : ℕ) (f : SubPort → SubPort) :
    (State.modSub s port sub f).kept = s.kept := by unfold State.modSub; simp
@[simp] theorem State.modTb_kept (s : State) (n : ℕ) (f : TimeBase → TimeBase) :
    (State.modTb s n f).kept = s.kept := by unfold State.modTb; simp
@[simp] theorem State.modCv_kept (s : State) (i : ℕ) (f : CvUnit → CvUnit) :
    (State.modCv s i f).kept = s.kept := by unfold State.modCv; simp
@[simp] theorem State.modIn_kept (s : State) (i : ℕ) (f : AudioIn → AudioIn) :
    (State.modIn s i f).kept = s.kept := by unfold State.modIn; simp
@[simp] theorem State.modPort_kept (s : State) (i : ℕ) (f : AudioPort → AudioPort) :
    (State.modPort s i f).kept = s.kept := by unfold State.modPort; simp
@[simp] theorem State.modRoute_kept (s : State) (i : ℕ) (f : Route → Route) :
    (State.modRoute s i f).kept = s.kept := by unfold State.modRoute; simp
@[simp] theorem State.modPmc_kept (s : State) (i : ℕ) (f : Pmc → Pmc) :
    (State.modPmc s i f).kept = s.kept := by unfold State.modPmc; simp
@[simp] theorem State.modUnit_kept (s : State) (i : ℕ) (f : PUnit → PUnit) :
    (State.modUnit s i f).kept = s.kept := by unfold State.modUnit; simp
@[simp] theorem State.draw_kept (s : State) :
    (State.draw s).2.kept = s.kept := by unfold State.draw; simp
@[simp] theorem State.emit_kept (s : State) (o : Output) :
    (State.emit s o).kept = s.kept := by unfold State.emit; simp
@[simp] theorem State.raiseMsix_kept (s : State) (v : ℕ) :
    (State.raiseMsix s v).kept = s.kept := by unfold State.raiseMsix; simp
@[simp] theorem State.eventLost_kept (s : State) :
    (State.eventLost s).kept = s.kept := by unfold State.eventLost; simp
@[simp] theorem State.eventDatagram_kept (s : State) (e : EventRec) :
    (State.eventDatagram s e).kept = s.kept := by unfold State.eventDatagram; simp
@[simp] theorem State.writeEvent_kept (s : State) (e : EventRec) :
    (State.writeEvent s e).kept = s.kept := by unfold State.writeEvent; simp
@[simp] theorem State.raiseFor_kept (s : State) (q : ℕ) (code : ℕ) (object : ℕ) (d0 : ℕ) (d1 : ℕ) :
    (State.raiseFor s q code object d0 d1).kept = s.kept := by unfold State.raiseFor; simp
@[simp] theorem State.raise_kept (s : State) (code : ℕ) (object : ℕ) (d0 : ℕ) (d1 : ℕ) :
    (State.raise s code object d0 d1).kept = s.kept := by unfold State.raise; simp
@[simp] theorem State.writeReply_kept (s : State) (q : ℕ) (dst : ReplyTo) (bytes : List Byte) :
    (State.writeReply s q dst bytes).kept = s.kept := by unfold State.writeReply; simp
@[simp] theorem State.reply_kept (s : State) (q : ℕ) (dst : ReplyTo) (bytes : List Byte) :
    (State.reply s q dst bytes).kept = s.kept := by unfold State.reply; simp
@[simp] theorem State.release_kept (s : State) (q : ℕ) (n : ℕ) :
    (State.release s q n).kept = s.kept := by unfold State.release; simp
@[simp] theorem State.flushHeld_kept (s : State) (q : ℕ) :
    (State.flushHeld s q).kept = s.kept := by unfold State.flushHeld; simp
@[simp] theorem State.writeBuf_kept (s : State) (c : Cmd) (addr : ℕ) (data : List Byte) :
    (State.writeBuf s c addr data).kept = s.kept := by unfold State.writeBuf; simp
@[simp] theorem State.modCmd_kept (s : State) (q : ℕ) (seq : ℕ) (f : Cmd → Cmd) :
    (State.modCmd s q seq f).kept = s.kept := by unfold State.modCmd; simp
@[simp] theorem State.dropCmd_kept (s : State) (q : ℕ) (seq : ℕ) :
    (State.dropCmd s q seq).kept = s.kept := by unfold State.dropCmd; simp
@[simp] theorem State.applyRebind_kept (s : State) (q : ℕ) :
    (State.applyRebind s q).kept = s.kept := by unfold State.applyRebind; split <;> simp
@[simp] theorem State.writeAccept_kept (s : State) (c : Cmd) :
    (State.writeAccept s c).kept = s.kept := by
  unfold State.writeAccept; try dsimp only
  repeat' (first | with_reducible rfl | split | intro _ | with_reducible refine (foldl_kept _ ?_ _ _).trans ?_ | with_reducible refine (foldl_pair_kept _ ?_ _ _).trans ?_ | simp [*])
@[simp] theorem State.complete_kept (s : State) (c : Cmd) (status : ℕ) (detail : ℕ) :
    (State.complete s c status detail).kept = s.kept := by unfold State.complete; simp
@[simp] theorem State.ok_kept (s : State) (c : Cmd) (detail : optParam ℕ 0) :
    (State.ok s c detail).kept = s.kept := by unfold State.ok; simp
@[simp] theorem State.completeId_kept (s : State) (id : ℕ × ℕ) (status : ℕ) (detail : ℕ) :
    (State.completeId s id status detail).kept = s.kept := by unfold State.completeId; split <;> simp
@[simp] theorem State.completeOpt_kept (s : State) (id : Option (ℕ × ℕ)) (status : ℕ) (detail : ℕ) :
    (State.completeOpt s id status detail).kept = s.kept := by unfold State.completeOpt; split <;> simp
@[simp] theorem State.uncharge_kept (s : State) (p : Charge → Bool) :
    (State.uncharge s p).kept = s.kept := by unfold State.uncharge; simp
@[simp] theorem State.unpermit_kept (s : State) (p : Permit → Bool) :
    (State.unpermit s p).kept = s.kept := by unfold State.unpermit; simp
@[simp] theorem State.countRefusal_kept (s : State) (code : ℕ) :
    (State.countRefusal s code).kept = s.kept := by unfold State.countRefusal; simp
@[simp] theorem State.grant_kept (s : State) (req : List Permit) :
    (State.grant s req).kept = s.kept := by unfold State.grant; simp
@[simp] theorem State.pmcOverflow_kept (s : State) (n : ℕ) :
    (State.pmcOverflow s n).kept = s.kept := by unfold State.pmcOverflow; simp
@[simp] theorem State.pmcAdd_kept (s : State) (n : ℕ) (inc : ℕ) :
    (State.pmcAdd s n inc).kept = s.kept := by unfold State.pmcAdd; simp
@[simp] theorem State.happen_kept (s : State) (ev : ℕ) (objects : List ℕ) (qual : ℕ) (leg : ℕ) (inc : ℕ) :
    (State.happen s ev objects qual leg inc).kept = s.kept := by unfold State.happen; simp
@[simp] theorem State.chainFail_kept (s : State) (n : Nat) :
    (State.chainFail s n).kept = s.kept := by
  unfold State.chainFail; try dsimp only
  repeat' (first | with_reducible rfl | split | intro _ | with_reducible refine (foldl_kept _ ?_ _ _).trans ?_ | with_reducible refine (foldl_pair_kept _ ?_ _ _).trans ?_ | simp [*])
@[simp] theorem State.busyCycles_kept (s : State) (enc pix fab : Nat) :
    (State.busyCycles s enc pix fab).kept = s.kept := by
  unfold State.busyCycles; try dsimp only
  repeat' (first | with_reducible rfl | split | intro _ | with_reducible refine (foldl_kept _ ?_ _ _).trans ?_ | with_reducible refine (foldl_pair_kept _ ?_ _ _).trans ?_ | simp [*])
@[simp] theorem State.fabCycles_kept (s : State) (n : ℕ) :
    (State.fabCycles s n).kept = s.kept := by unfold State.fabCycles; simp
@[simp] theorem State.advance_kept (s : State) (n : ℕ) :
    (State.advance s n).kept = s.kept := by unfold State.advance; simp
@[simp] theorem State.reach_kept (s : State) (t : ℕ) :
    (State.reach s t).kept = s.kept := by unfold State.reach; simp
@[simp] theorem State.reachOn_kept (s : State) (n : ℕ) (t : Int) :
    (State.reachOn s n t).kept = s.kept := by unfold State.reachOn; simp
@[simp] theorem State.at32_kept (s : State) (t : ℕ) :
    (State.at32 s t).kept = s.kept := by unfold State.at32; simp

/-! ### Admission -/

@[simp] theorem State.charge_kept (s : State) (new : List Charge) :
    (State.charge s new).kept = s.kept := by unfold State.charge; simp
@[simp] theorem State.rechargeObject_kept (s : State) (owner res : Nat) (l : List Charge) :
    (State.rechargeObject s owner res l).kept = s.kept := by
  unfold State.rechargeObject; try dsimp only
  repeat' (first | with_reducible rfl | split | intro _ | with_reducible refine (foldl_kept _ ?_ _ _).trans ?_ | with_reducible refine (foldl_pair_kept _ ?_ _ _).trans ?_ | simp [*])
@[simp] theorem State.dropBlocks_kept (s : State) (k : ℕ) (n : ℕ) :
    (State.dropBlocks s k n).kept = s.kept := by unfold State.dropBlocks; simp
@[simp] theorem State.capacityReduced_kept (s : State) :
    (State.capacityReduced s).kept = s.kept := by unfold State.capacityReduced; simp

/-! ### Engine -/

theorem State.StartOnly.kept {s t : State} (h : s.StartOnly t) : t.kept = s.kept := by
  obtain ⟨_, _, _, _, _, rfl⟩ := h
  rfl
@[simp] theorem State.drainTether_kept (n : ℕ) (s : State) : (State.drainTether n s).kept = s.kept := (State.drainTether_tetherOnly n s).start.kept
@[simp] theorem State.sendStrands_kept (s : State) (l : List (ℕ × List Byte)) : (s.sendStrands l).kept = s.kept :=
  (State.sendStrands_tetherOnly _ _).start.kept
@[simp] theorem State.sendRow_kept (s : State) (blocks : List (List Byte)) : (s.sendRow blocks).kept = s.kept :=
  (State.sendRow_tetherOnly _ _).start.kept
@[simp] theorem State.idleTether_kept (s : State) : (s.idleTether).kept = s.kept :=
  (State.idleTether_tetherOnly _).start.kept
@[simp] theorem State.pathASend_kept (s : State) (type : ℕ) (blocks : List (List Byte)) : (s.pathASend type blocks).kept = s.kept :=
  (State.pathASend_tetherOnly _ _ _).start.kept
@[simp] theorem State.pathBSend_kept (s : State) (b : List Byte) : (s.pathBSend b).kept = s.kept :=
  (State.pathBSend_tetherOnly _ _).start.kept
@[simp] theorem State.tetherOn_kept (s : State) (path type : ℕ) (payload : List Byte) : (s.tetherOn path type payload).kept = s.kept :=
  (State.tetherOn_tetherOnly _ _ _ _).start.kept
@[simp] theorem State.tetherSend_kept (s : State) (type : ℕ) (payload : List Byte) :
    (State.tetherSend s type payload).kept = s.kept := by unfold State.tetherSend; simp
@[simp] theorem State.sendEpoch_kept (s : State) (kind : ℕ) (pos : ℕ) (apply : ℕ) (length : ℕ) (data : Tab Byte) :
    (State.sendEpoch s kind pos apply length data).kept = s.kept := by unfold State.sendEpoch; simp
@[simp] theorem State.dataEpoch_kept (s : State) (c : Cmd) (length : ℕ) (data : Tab Byte) :
    (State.dataEpoch s c length data).kept = s.kept := by unfold State.dataEpoch; simp
@[simp] theorem State.replicaFailed_kept (s : State) (c : Cmd) :
    (State.replicaFailed s c).kept = s.kept := by
  unfold State.replicaFailed; try dsimp only
  repeat' (first | with_reducible rfl | split | intro _ | with_reducible refine (foldl_kept _ ?_ _ _).trans ?_ | with_reducible refine (foldl_pair_kept _ ?_ _ _).trans ?_ | simp [*])
@[simp] theorem State.fail_kept (s : State) (c : Cmd) (status detail : Nat) :
    (State.fail s c status detail).kept = s.kept := by
  unfold State.fail; try dsimp only
  repeat' (first | with_reducible rfl | split | intro _ | with_reducible refine (foldl_kept _ ?_ _ _).trans ?_ | with_reducible refine (foldl_pair_kept _ ?_ _ _).trans ?_ | simp [*])
@[simp] theorem State.unlessNow_kept (s : State) (c : Cmd) (bad : Bool) (s' : State) (h : s'.kept = s.kept) :
    (State.unlessNow s c bad s').kept = s.kept := by unfold State.unlessNow; split <;> simp [h]
@[simp] theorem State.failOpt_kept (s : State) (id : Option (Nat × Nat)) (status detail : Nat) :
    (State.failOpt s id status detail).kept = s.kept := by
  unfold State.failOpt; try dsimp only
  repeat' (first | with_reducible rfl | split | intro _ | with_reducible refine (foldl_kept _ ?_ _ _).trans ?_ | with_reducible refine (foldl_pair_kept _ ?_ _ _).trans ?_ | simp [*])
@[simp] theorem State.commitNote_kept (s : State) (c : Cmd) (kind : ℕ) (value : ℕ) (tb : ℕ) (status : ℕ) (detail : ℕ) :
    (State.commitNote s c kind value tb status detail).kept = s.kept := by unfold State.commitNote; simp
@[simp] theorem State.noteOutcome_kept (s : State) (c : Cmd) (kind value : Nat) :
    (State.noteOutcome s c kind value).kept = s.kept := by
  unfold State.noteOutcome; try dsimp only
  repeat' (first | with_reducible rfl | split | intro _ | with_reducible refine (foldl_kept _ ?_ _ _).trans ?_ | with_reducible refine (foldl_pair_kept _ ?_ _ _).trans ?_ | simp [*])
@[simp] theorem State.begin_kept (s : State) (c : Cmd) (eff : Cmd → State → State) (heff : ∀ c s, (eff c s).kept = s.kept) :
    (State.begin s c eff).kept = s.kept := by
  unfold State.begin; try dsimp only
  repeat' (first | with_reducible rfl | split | intro _ | with_reducible refine (foldl_kept _ ?_ _ _).trans ?_ | with_reducible refine (foldl_pair_kept _ ?_ _ _).trans ?_ | simp [*])

@[simp] theorem State.runOp_kept (s : State) (code : ℕ) (q : ℕ) (seq : ℕ) (eff : Cmd → State → State) (heff : ∀ c s, (eff c s).kept = s.kept) :
    (State.runOp s code q seq eff).kept = s.kept := by
  unfold State.runOp; try dsimp only
  repeat' (first | with_reducible rfl | split | intro _ | with_reducible refine (foldl_kept _ ?_ _ _).trans ?_ | with_reducible refine (foldl_pair_kept _ ?_ _ _).trans ?_ | simp [*])

@[simp] theorem State.runSelfTimed_kept (s : State) (code : ℕ) (q : ℕ) (seq : ℕ) (eff : Cmd → State → State) (heff : ∀ c s, (eff c s).kept = s.kept) :
    (State.runSelfTimed s code q seq eff).kept = s.kept := by
  unfold State.runSelfTimed; try dsimp only
  repeat' (first | with_reducible rfl | split | intro _ | with_reducible refine (foldl_kept _ ?_ _ _).trans ?_ | with_reducible refine (foldl_pair_kept _ ?_ _ _).trans ?_ | simp [*])

/-! ### Flags -/

@[simp] theorem State.setAlert_kept (s : State) (alert : ℕ) (mask : ℕ) :
    (State.setAlert s alert mask).kept = s.kept := by unfold State.setAlert; simp
@[simp] theorem State.alertBit_kept (s : State) (n : ℕ) :
    (State.alertBit s n).kept = s.kept := by unfold State.alertBit; simp

/-! ### Units -/

@[simp] theorem State.bringIn_kept (s : State) (u : ℕ) (sp : ℕ) :
    (State.bringIn s u sp).kept = s.kept := by unfold State.bringIn; simp
@[simp] theorem State.retireUnit_kept (s : State) (u : ℕ) :
    (State.retireUnit s u).kept = s.kept := by unfold State.retireUnit; simp
@[simp] theorem State.traceIdle_kept (s : State) (decision kind unit retired : Nat) :
    (State.traceIdle s decision kind unit retired).kept = s.kept := by
  unfold State.traceIdle; try dsimp only
  repeat' (first | with_reducible rfl | split | intro _ | with_reducible refine (foldl_kept _ ?_ _ _).trans ?_ | with_reducible refine (foldl_pair_kept _ ?_ _ _).trans ?_ | simp [*])
@[simp] theorem State.traceSwap_kept (s : State) (u sp : Nat) :
    (State.traceSwap s u sp).kept = s.kept := by
  unfold State.traceSwap; try dsimp only
  repeat' (first | with_reducible rfl | split | intro _ | with_reducible refine (foldl_kept _ ?_ _ _).trans ?_ | with_reducible refine (foldl_pair_kept _ ?_ _ _).trans ?_ | simp [*])

end Sys2Proof.Machine
end

