-- ==== Sys2Proof/Laws/KeptSystem.lean ====
section
/-!
SUPPORT. The commands that wait and the fuses are left alone by the device commands, the pools and the update commands.
-/
set_option Elab.async false
namespace Sys2Proof.Machine

open Sys2Proof

/-! ### SystemOps -/

@[simp] theorem effNop_kept (c : Cmd) (s : State) :
    (effNop c s).kept = s.kept := by unfold effNop; simp
@[simp] theorem effHitch_kept (c : Cmd) (s : State) :
    (effHitch c s).kept = s.kept := by unfold effHitch; simp
@[simp] theorem effGetInfo_kept (c : Cmd) (s : State) :
    (effGetInfo c s).kept = s.kept := by unfold effGetInfo; simp
@[simp] theorem acceptResetUnit_kept (c : Cmd) (s : State) :
    (acceptResetUnit c s).kept = s.kept := by unfold acceptResetUnit; simp
@[simp] theorem effResetUnit_kept (c : Cmd) (s : State) :
    (effResetUnit c s).kept = s.kept := by unfold effResetUnit; repeat' (first | simp | split)
@[simp] theorem effSetLoopBounds_kept (c : Cmd) (s : State) :
    (effSetLoopBounds c s).kept = s.kept := by unfold effSetLoopBounds; simp
@[simp] theorem acceptDeviceConfig_kept (c : Cmd) (s : State) :
    (acceptDeviceConfig c s).kept = s.kept := by unfold acceptDeviceConfig; simp
@[simp] theorem effDeviceConfig_kept (c : Cmd) (s : State) :
    (effDeviceConfig c s).kept = s.kept := by unfold effDeviceConfig; simp
@[simp] theorem State.undoCmd_kept (s : State) (t : Cmd) :
    (State.undoCmd s t).kept = s.kept := by unfold State.undoCmd; split <;> simp
@[simp] theorem effQueueConfig_kept (c : Cmd) (s : State) :
    (effQueueConfig c s).kept = s.kept := by unfold effQueueConfig; simp
@[simp] theorem effJournalQuery_kept (c : Cmd) (s : State) :
    (effJournalQuery c s).kept = s.kept := by unfold effJournalQuery; simp

/-! ### Pool -/

@[simp] theorem State.reserve_kept (s : State) (r : Reservation) :
    (State.reserve s r).kept = s.kept := by unfold State.reserve; simp
@[simp] theorem State.freePages_kept (s : State) (owner : ℕ) (slot : ℕ) :
    (State.freePages s owner slot).kept = s.kept := by unfold State.freePages; simp
@[simp] theorem State.settlePages_kept (s : State) (q : ℕ) (seq : ℕ) :
    (State.settlePages s q seq).kept = s.kept := by unfold State.settlePages; simp
@[simp] theorem State.finish_kept (s : State) (c : Cmd) (detail : optParam ℕ 0) :
    (State.finish s c detail).kept = s.kept := by unfold State.finish; simp
@[simp] theorem State.fillEnded_kept (s : State) (id : Nat × Nat) :
    (State.fillEnded s id).kept = s.kept := by
  unfold State.fillEnded; try dsimp only
  repeat' (first | with_reducible rfl | split | intro _ | with_reducible refine (foldl_kept _ ?_ _ _).trans ?_ | with_reducible refine (foldl_pair_kept _ ?_ _ _).trans ?_ | simp [*])
@[simp] theorem State.reslot_kept (s : State) (owner : ℕ) (slot : ℕ) (a3 : ℕ) :
    (State.reslot s owner slot a3).kept = s.kept := by unfold State.reslot; simp
@[simp] theorem State.releaseSlot_kept (s : State) (owner : ℕ) (slot : ℕ) :
    (State.releaseSlot s owner slot).kept = s.kept := by unfold State.releaseSlot; simp
@[simp] theorem State.settleCharges_kept (s : State) (pos : ℕ) :
    (State.settleCharges s pos).kept = s.kept := by unfold State.settleCharges; simp
@[simp] theorem State.modEntry_kept (s : State) (i : Nat) (f : EccEntry → EccEntry) :
    (State.modEntry s i f).kept = s.kept := by
  unfold State.modEntry; try dsimp only
  repeat' (first | with_reducible rfl | split | intro _ | with_reducible refine (foldl_kept _ ?_ _ _).trans ?_ | with_reducible refine (foldl_pair_kept _ ?_ _ _).trans ?_ | simp [*])
@[simp] theorem State.enterWatch_kept (s : State) (i : Nat) :
    (State.enterWatch s i).kept = s.kept := by
  unfold State.enterWatch; try dsimp only
  repeat' (first | with_reducible rfl | split | intro _ | with_reducible refine (foldl_kept _ ?_ _ _).trans ?_ | with_reducible refine (foldl_pair_kept _ ?_ _ _).trans ?_ | simp [*])
@[simp] theorem State.takePhy_kept (s : State) (id : Nat) :
    (State.takePhy s id).kept = s.kept := by
  unfold State.takePhy; try dsimp only
  repeat' (first | with_reducible rfl | split | intro _ | with_reducible refine (foldl_kept _ ?_ _ _).trans ?_ | with_reducible refine (foldl_pair_kept _ ?_ _ _).trans ?_ | simp [*])
@[simp] theorem State.openRow_kept (s : State) (ch ca : Nat) :
    (State.openRow s ch ca).kept = s.kept := by
  unfold State.openRow; try dsimp only
  repeat' (first | with_reducible rfl | split | intro _ | with_reducible refine (foldl_kept _ ?_ _ _).trans ?_ | with_reducible refine (foldl_pair_kept _ ?_ _ _).trans ?_ | simp [*])
@[simp] theorem State.touchRow_kept (s : State) (ch ca : Nat) :
    (State.touchRow s ch ca).kept = s.kept := by
  unfold State.touchRow; try dsimp only
  repeat' (first | with_reducible rfl | split | intro _ | with_reducible refine (foldl_kept _ ?_ _ _).trans ?_ | with_reducible refine (foldl_pair_kept _ ?_ _ _).trans ?_ | simp [*])
@[simp] theorem State.watchPage_kept (s : State) (page : Nat × Nat) (off : Nat) :
    (State.watchPage s page off).kept = s.kept := by
  unfold State.watchPage; try dsimp only
  repeat' (first | with_reducible rfl | split | intro _ | with_reducible refine (foldl_kept _ ?_ _ _).trans ?_ | with_reducible refine (foldl_pair_kept _ ?_ _ _).trans ?_ | simp [*])

/-! ### UpdateOps -/

@[simp] theorem State.modDownload_kept (s : State) (f : Bank → Bank) :
    (State.modDownload s f).kept = s.kept := by unfold State.modDownload; simp
@[simp] theorem effUpdateBegin_kept (c : Cmd) (s : State) :
    (effUpdateBegin c s).kept = s.kept := by unfold effUpdateBegin; simp
@[simp] theorem acceptUpdateData_kept (c : Cmd) (s : State) :
    (acceptUpdateData c s).kept = s.kept := by unfold acceptUpdateData; simp
@[simp] theorem State.writeData_kept (s : State) (off : ℕ) (l : List Byte) :
    (State.writeData s off l).2.kept = s.kept := by unfold State.writeData; repeat' (first | simp | split)
@[simp] theorem State.endUpdateData_kept (s : State) (c : Cmd) :
    (State.endUpdateData s c).kept = s.kept := by unfold State.endUpdateData; simp
@[simp] theorem effUpdateData_kept (c : Cmd) (s : State) :
    (effUpdateData c s).kept = s.kept := by unfold effUpdateData; simp
@[simp] theorem State.beginWrite_kept (s : State) (c : Cmd) :
    (State.beginWrite s c).kept = s.kept := by unfold State.beginWrite; simp
@[simp] theorem startUpdateData_kept (data : List Byte) (c : Cmd) (s : State) :
    (startUpdateData data c s).kept = s.kept := by unfold startUpdateData; simp
@[simp] theorem effUpdateVerify_kept (c : Cmd) (s : State) :
    (effUpdateVerify c s).kept = s.kept := by
  unfold effUpdateVerify; try dsimp only
  refine State.unlessNow_kept _ _ _ _ ?_
  repeat' (first | with_reducible rfl | split | intro _ | with_reducible refine (foldl_kept _ ?_ _ _).trans ?_ | with_reducible refine (foldl_pair_kept _ ?_ _ _).trans ?_ | simp [*])
@[simp] theorem State.setPair_kept (s : State) (p : ℕ) (v : ℕ) :
    (State.setPair s p v).kept = s.kept := by unfold State.setPair; simp
@[simp] theorem State.discardDownload_kept (s : State) :
    (State.discardDownload s).kept = s.kept := by unfold State.discardDownload; simp
@[simp] theorem State.cancelUpdate_kept (s : State) (q : Nat) :
    (State.cancelUpdate s q).kept = s.kept := by
  unfold State.cancelUpdate; try dsimp only
  repeat' (first | with_reducible rfl | split | intro _ | with_reducible refine (foldl_kept _ ?_ _ _).trans ?_ | with_reducible refine (foldl_pair_kept _ ?_ _ _).trans ?_ | simp [*])
@[simp] theorem effUpdateSchedule_kept (c : Cmd) (s : State) :
    (effUpdateSchedule c s).kept = s.kept := by
  unfold effUpdateSchedule; try dsimp only
  refine State.unlessNow_kept _ _ _ _ ?_
  repeat' (first | with_reducible rfl | split | intro _ | with_reducible refine (foldl_kept _ ?_ _ _).trans ?_ | with_reducible refine (foldl_pair_kept _ ?_ _ _).trans ?_ | simp [*])
@[simp] theorem State.decideFallback_kept (s : State) (cause : ℕ) :
    (State.decideFallback s cause).kept = s.kept := by unfold State.decideFallback; simp
@[simp] theorem effUpdateCancel_kept (c : Cmd) (s : State) :
    (effUpdateCancel c s).kept = s.kept := by
  unfold effUpdateCancel; try dsimp only
  repeat' (first | with_reducible rfl | split | intro _ | with_reducible refine (foldl_kept _ ?_ _ _).trans ?_ | with_reducible refine (foldl_pair_kept _ ?_ _ _).trans ?_ | simp [*])
@[simp] theorem effOwnerLock_kept (c : Cmd) (s : State) :
    (effOwnerLock c s).kept = s.kept := by unfold effOwnerLock; simp

end Sys2Proof.Machine
end

