-- ==== Sys2Proof/Laws/KeptIngest.lean ====
section
/-!
SUPPORT. The commands that wait and the fuses are left alone by ingest and composition.
-/
set_option Elab.async false
namespace Sys2Proof.Machine

open Sys2Proof

/-! ### IngestOps -/

@[simp] theorem acceptFlowRxOpen_kept (c : Cmd) (s : State) :
    (acceptFlowRxOpen c s).kept = s.kept := by unfold acceptFlowRxOpen; simp
@[simp] theorem effFlowRxOpen_kept (c : Cmd) (s : State) :
    (effFlowRxOpen c s).kept = s.kept := by unfold effFlowRxOpen; simp
@[simp] theorem effFlowRxClose_kept (c : Cmd) (s : State) :
    (effFlowRxClose c s).kept = s.kept := by unfold effFlowRxClose; simp
@[simp] theorem acceptBraidConfig_kept (c : Cmd) (s : State) :
    (acceptBraidConfig c s).kept = s.kept := by unfold acceptBraidConfig; simp
@[simp] theorem effBraidConfig_kept (c : Cmd) (s : State) :
    (effBraidConfig c s).kept = s.kept := by unfold effBraidConfig; simp
@[simp] theorem effBraidLoopback_kept (c : Cmd) (s : State) :
    (effBraidLoopback c s).kept = s.kept := by unfold effBraidLoopback; simp
@[simp] theorem rejectBraidRestrand_kept (c : Cmd) (s : State) :
    (rejectBraidRestrand c s).kept = s.kept := by unfold rejectBraidRestrand; simp
@[simp] theorem effBraidRestrand_kept (c : Cmd) (s : State) :
    (effBraidRestrand c s).kept = s.kept := by unfold effBraidRestrand; simp
@[simp] theorem effSourceBind_kept (c : Cmd) (s : State) :
    (effSourceBind c s).kept = s.kept := by unfold effSourceBind; simp
@[simp] theorem effPolicerSet_kept (c : Cmd) (s : State) :
    (effPolicerSet c s).kept = s.kept := by unfold effPolicerSet; simp

/-! ### IngestEvents -/

@[simp] theorem State.layersAfter_kept (s : State) (flow : ℕ) (st : ℕ) :
    (State.layersAfter s flow st).kept = s.kept := by unfold State.layersAfter; simp
@[simp] theorem State.declareEvent_kept (s : State) (flow : ℕ) (st : ℕ) (g : ℕ) (before : ℕ) (late : ℕ) (cause : ℕ) :
    (State.declareEvent s flow st g before late cause).kept = s.kept := by unfold State.declareEvent; split <;> simp
@[simp] theorem State.frameDeadlinePassed_kept (s : State) (flow : Nat) :
    (State.frameDeadlinePassed s flow).kept = s.kept := by
  unfold State.frameDeadlinePassed; try dsimp only
  repeat' (first | with_reducible rfl | split | intro _ | with_reducible refine (foldl_kept _ ?_ _ _).trans ?_ | with_reducible refine (foldl_pair_kept _ ?_ _ _).trans ?_ | simp [*])
@[simp] theorem State.tryLock_kept (s : State) (i : Nat) :
    (State.tryLock s i).kept = s.kept := by
  unfold State.tryLock; try dsimp only
  repeat' (first | with_reducible rfl | split | intro _ | with_reducible refine (foldl_kept _ ?_ _ _).trans ?_ | with_reducible refine (foldl_pair_kept _ ?_ _ _).trans ?_ | simp [*])
@[simp] theorem State.braidFault_kept (s : State) (i : Nat) :
    (State.braidFault s i).kept = s.kept := by
  unfold State.braidFault; try dsimp only
  repeat' (first | with_reducible rfl | split | intro _ | with_reducible refine (foldl_kept _ ?_ _ _).trans ?_ | with_reducible refine (foldl_pair_kept _ ?_ _ _).trans ?_ | simp [*])
@[simp] theorem State.judgeStrands_kept (s : State) (i : Nat) :
    (State.judgeStrands s i).kept = s.kept := by
  unfold State.judgeStrands; try dsimp only
  repeat' (first | with_reducible rfl | split | intro _ | with_reducible refine (foldl_kept _ ?_ _ _).trans ?_ | with_reducible refine (foldl_pair_kept _ ?_ _ _).trans ?_ | simp [*])
@[simp] theorem State.countBlock_kept (s : State) (braid : Nat) (bytes : List Byte) (x : RxCount) :
    (State.countBlock s braid bytes x).kept = s.kept := by
  unfold State.countBlock; try dsimp only
  repeat' (first | with_reducible rfl | split | intro _ | with_reducible refine (foldl_kept _ ?_ _ _).trans ?_ | with_reducible refine (foldl_pair_kept _ ?_ _ _).trans ?_ | simp [*])
@[simp] theorem State.frameStart_kept (s : State) (braid i : Nat) (bytes : List Byte) :
    (State.frameStart s braid i bytes).kept = s.kept := by
  unfold State.frameStart; try dsimp only
  repeat' (first | with_reducible rfl | split | intro _ | with_reducible refine (foldl_kept _ ?_ _ _).trans ?_ | with_reducible refine (foldl_pair_kept _ ?_ _ _).trans ?_ | simp [*])
@[simp] theorem State.noteRow_kept (s0 : State) (braid : ℕ) (blocks : List RxBlock) :
    (State.noteRow s0 braid blocks).kept = s0.kept := by
  unfold State.noteRow; dsimp only
  rw [State.modBraid_kept]
  split <;> (try rw [State.happen_kept]) <;> exact foldl_kept _ (fun s i => by simp) _ _
@[simp] theorem State.returnRow_kept (braid : ℕ) (ks : List ℕ) (rs : List RxBlock) (s : State) :
    (State.returnRow s braid ks rs).kept = s.kept := by
  induction ks generalizing s rs with
  | nil => rfl
  | cons k ks ih =>
    cases rs with
    | nil => rfl
    | cons r rs =>
      unfold State.returnRow
      split
      · exact ih _ _
      · dsimp only; rw [ih]; simp

/-! ### PixelPath -/

@[simp] theorem State.modFrame_kept (s : State) (k : ℕ) (num : ℕ) (f : CanFrame → CanFrame) :
    (State.modFrame s k num f).kept = s.kept := by unfold State.modFrame; simp
@[simp] theorem State.composeSection_kept (s : State) (k : ℕ) (num : ℕ) (r : ℕ) (sec : ℕ) :
    (State.composeSection s k num r sec).kept = s.kept := by unfold State.composeSection; split <;> simp
@[simp] theorem State.finishSection_kept (s : State) (k : ℕ) (num : ℕ) (r : ℕ) (sec : ℕ) :
    (State.finishSection s k num r sec).kept = s.kept := by unfold State.finishSection; split <;> simp
@[simp] theorem State.frameComposed_kept (s : State) (k : ℕ) (num : ℕ) :
    (State.frameComposed s k num).kept = s.kept := by unfold State.frameComposed; split <;> simp
@[simp] theorem State.refreshReaders_kept (s : State) (flow : ℕ) :
    (State.refreshReaders s flow).kept = s.kept := by unfold State.refreshReaders; simp
@[simp] theorem State.refreshCanopy_kept (s : State) (k : ℕ) :
    (State.refreshCanopy s k).kept = s.kept := by unfold State.refreshCanopy; simp

/-! ### ComposeOps -/

@[simp] theorem State.recharge_kept (s : State) (k : ℕ) :
    (State.recharge s k).kept = s.kept := by unfold State.recharge; simp
@[simp] theorem State.endUploads_kept (s : State) (i : ℕ) :
    (State.endUploads s i).kept = s.kept := by unfold State.endUploads; simp
@[simp] theorem State.kickUpload_kept (s : State) (i : ℕ) :
    (State.kickUpload s i).kept = s.kept := by unfold State.kickUpload; repeat' (first | simp | split)
@[simp] theorem State.leaveFallback_kept (s : State) (i : ℕ) (g : ℕ) :
    (State.leaveFallback s i g).kept = s.kept := by unfold State.leaveFallback; simp
@[simp] theorem State.publishLayer_kept (s : State) (i : Nat) (cfg : LayerCfg) (pair : Option GfxBuf) (slot : Nat) (upload : Bool) (g : Nat) :
    (State.publishLayer s i cfg pair slot upload g).kept = s.kept := by
  unfold State.publishLayer; try dsimp only
  repeat' (first | with_reducible rfl | split | intro _ | with_reducible refine (foldl_kept _ ?_ _ _).trans ?_ | with_reducible refine (foldl_pair_kept _ ?_ _ _).trans ?_ | simp [*])
@[simp] theorem State.publishLook_kept (s : State) (k : ℕ) (l : CanopyLook) :
    (State.publishLook s k l).kept = s.kept := by unfold State.publishLook; simp
@[simp] theorem State.swapRegions_kept (s : State) (k : Nat) (r : Tab LampRegion) :
    (State.swapRegions s k r).kept = s.kept := by
  unfold State.swapRegions; try dsimp only
  repeat' (first | with_reducible rfl | split | intro _ | with_reducible refine (foldl_kept _ ?_ _ _).trans ?_ | with_reducible refine (foldl_pair_kept _ ?_ _ _).trans ?_ | simp [*])
@[simp] theorem State.takeCopy_kept (s : State) (k : ℕ) :
    (State.takeCopy s k).2.kept = s.kept := by unfold State.takeCopy; simp
@[simp] theorem State.applyCopy_kept (s : State) (c : CommitCopy) (g : Nat) :
    (State.applyCopy s c g).kept = s.kept := by
  unfold State.applyCopy; try dsimp only
  repeat' (first | with_reducible rfl | split | intro _ | with_reducible refine (foldl_kept _ ?_ _ _).trans ?_ | with_reducible refine (foldl_pair_kept _ ?_ _ _).trans ?_ | simp [*])
@[simp] theorem State.moveSources_kept (s : State) (k : ℕ) :
    (State.moveSources s k).kept = s.kept := by unfold State.moveSources; simp
@[simp] theorem State.setGeom_kept (s : State) (k : ℕ) (g : CanopyGeom) :
    (State.setGeom s k g).kept = s.kept := by unfold State.setGeom; simp
@[simp] theorem State.aimGrid_kept (s : State) (k : ℕ) :
    (State.aimGrid s k).kept = s.kept := by unfold State.aimGrid; simp
@[simp] theorem State.startCanopy_kept (s : State) (k : ℕ) :
    (State.startCanopy s k).kept = s.kept := by unfold State.startCanopy; simp
@[simp] theorem effCanopyConfig_kept (c : Cmd) (s : State) :
    (effCanopyConfig c s).kept = s.kept := by unfold effCanopyConfig; simp
@[simp] theorem acceptLayerSet_kept (c : Cmd) (s : State) :
    (acceptLayerSet c s).kept = s.kept := by unfold acceptLayerSet; simp
@[simp] theorem State.dropPair_kept (s : State) (c : Cmd) :
    (State.dropPair s c).kept = s.kept := by
  unfold State.dropPair; try dsimp only
  repeat' (first | with_reducible rfl | split | intro _ | with_reducible refine (foldl_kept _ ?_ _ _).trans ?_ | with_reducible refine (foldl_pair_kept _ ?_ _ _).trans ?_ | simp [*])
@[simp] theorem State.takePair_kept (s : State) (c : Cmd) (n : LayerCfg) :
    (State.takePair s c n).kept = s.kept := by
  unfold State.takePair; try dsimp only
  repeat' (first | with_reducible rfl | split | intro _ | with_reducible refine (foldl_kept _ ?_ _ _).trans ?_ | with_reducible refine (foldl_pair_kept _ ?_ _ _).trans ?_ | simp [*])
@[simp] theorem effLayerSet_kept (c : Cmd) (s : State) :
    (effLayerSet c s).kept = s.kept := by
  unfold effLayerSet; try dsimp only
  repeat' (first | with_reducible rfl | split | intro _ | with_reducible refine (foldl_kept _ ?_ _ _).trans ?_ | with_reducible refine (foldl_pair_kept _ ?_ _ _).trans ?_ | simp [*])
@[simp] theorem startLayerUpload_kept (c : Cmd) (s : State) :
    (startLayerUpload c s).kept = s.kept := by unfold startLayerUpload; simp
@[simp] theorem effLayerUpload_kept (c : Cmd) (s : State) :
    (effLayerUpload c s).kept = s.kept := by unfold effLayerUpload; simp
@[simp] theorem State.armClearing_kept (s : State) (c : Cmd) (k : ℕ) :
    (State.armClearing s c k).kept = s.kept := by unfold State.armClearing; simp
@[simp] theorem State.uploadArrived_kept (s : State) (layer : Nat) (data : List Byte) :
    (State.uploadArrived s layer data).kept = s.kept := by
  unfold State.uploadArrived; try dsimp only
  repeat' (first | with_reducible rfl | split | intro _ | with_reducible refine (foldl_kept _ ?_ _ _).trans ?_ | with_reducible refine (foldl_pair_kept _ ?_ _ _).trans ?_ | simp [*])
@[simp] theorem State.armCommit_kept (s : State) (c : Cmd) :
    (State.armCommit s c).kept = s.kept := by unfold State.armCommit; simp
@[simp] theorem effCommit_kept (c : Cmd) (s : State) :
    (effCommit c s).kept = s.kept := by unfold effCommit; simp
@[simp] theorem State.reserveBlocks_kept (s : State) (c : Cmd) (a2 : ℕ) (a3 : List Reservation) :
    (State.reserveBlocks s c a2 a3).2.kept = s.kept := by
  induction a2 generalizing s a3 with
  | zero => rfl
  | succ n ih => unfold State.reserveBlocks; simp [ih]

@[simp] theorem acceptLampTableLoad_kept (c : Cmd) (s : State) :
    (acceptLampTableLoad c s).kept = s.kept := by unfold acceptLampTableLoad; simp
@[simp] theorem State.kickLoad_kept (s : State) (k : ℕ) :
    (State.kickLoad s k).kept = s.kept := by unfold State.kickLoad; split <;> simp
@[simp] theorem startLampTableLoad_kept (c : Cmd) (s : State) :
    (startLampTableLoad c s).kept = s.kept := by unfold startLampTableLoad; simp
@[simp] theorem State.stageRegions_kept (s : State) (k : Nat) (r : Tab LampRegion) :
    (State.stageRegions s k r).kept = s.kept := by
  unfold State.stageRegions; try dsimp only
  repeat' (first | with_reducible rfl | split | intro _ | with_reducible refine (foldl_kept _ ?_ _ _).trans ?_ | with_reducible refine (foldl_pair_kept _ ?_ _ _).trans ?_ | simp [*])
@[simp] theorem effLampTableLoad_kept (c : Cmd) (s : State) :
    (effLampTableLoad c s).kept = s.kept := by
  unfold effLampTableLoad; try dsimp only
  repeat' (first | with_reducible rfl | split | intro _ | with_reducible refine (foldl_kept _ ?_ _ _).trans ?_ | with_reducible refine (foldl_pair_kept _ ?_ _ _).trans ?_ | simp [*])
@[simp] theorem effWallTiling_kept (c : Cmd) (s : State) :
    (effWallTiling c s).kept = s.kept := by unfold effWallTiling; simp
@[simp] theorem effScalerCoefs_kept (c : Cmd) (s : State) :
    (effScalerCoefs c s).kept = s.kept := by unfold effScalerCoefs; simp
@[simp] theorem effSourceStatus_kept (c : Cmd) (s : State) :
    (effSourceStatus c s).kept = s.kept := by unfold effSourceStatus; simp

end Sys2Proof.Machine
end

