-- ==== Sys2Proof/Laws/KeptPrograms.lean ====
section
/-!
SUPPORT. The commands that wait and the fuses are left alone by programs, rate control, the gate, packetizers and the graph.
-/
set_option Elab.async false
namespace Sys2Proof.Machine

open Sys2Proof

/-! ### ProgramOps -/

@[simp] theorem State.awaitClearing_kept (s : State) (c : Cmd) (k : ℕ) :
    (State.awaitClearing s c k).kept = s.kept := by unfold State.awaitClearing; simp
@[simp] theorem effProgramConfig_kept (c : Cmd) (s : State) :
    (effProgramConfig c s).kept = s.kept := by unfold effProgramConfig; simp
@[simp] theorem State.programPages_kept (s : State) (c : Cmd) :
    (State.programPages s c).2.kept = s.kept := by unfold State.programPages; simp
@[simp] theorem acceptProgramStart_kept (c : Cmd) (s : State) :
    (acceptProgramStart c s).kept = s.kept := by unfold acceptProgramStart; simp
@[simp] theorem State.beginProgram_kept (s : State) (p : ℕ) (at_ : ℕ) :
    (State.beginProgram s p at_).kept = s.kept := by unfold State.beginProgram; simp
@[simp] theorem effProgramStart_kept (c : Cmd) (s : State) :
    (effProgramStart c s).kept = s.kept := by unfold effProgramStart; simp
@[simp] theorem effProgramStop_kept (c : Cmd) (s : State) :
    (effProgramStop c s).kept = s.kept := by unfold effProgramStop; simp
@[simp] theorem effForceRefresh_kept (c : Cmd) (s : State) :
    (effForceRefresh c s).kept = s.kept := by unfold effForceRefresh; simp
@[simp] theorem effSubpicMap_kept (c : Cmd) (s : State) :
    (effSubpicMap c s).kept = s.kept := by unfold effSubpicMap; simp
@[simp] theorem effRateConfig_kept (c : Cmd) (s : State) :
    (effRateConfig c s).kept = s.kept := by unfold effRateConfig; simp
@[simp] theorem effRateBounds_kept (c : Cmd) (s : State) :
    (effRateBounds c s).kept = s.kept := by unfold effRateBounds; simp
@[simp] theorem effRateStatus_kept (c : Cmd) (s : State) :
    (effRateStatus c s).kept = s.kept := by unfold effRateStatus; split <;> simp
@[simp] theorem effLaunchPolicy_kept (c : Cmd) (s : State) :
    (effLaunchPolicy c s).kept = s.kept := by unfold effLaunchPolicy; simp

/-! ### RateControl -/

@[simp] theorem State.modPic_kept (s : State) (p : ℕ) (f : ℕ) (g : Picture → Picture) :
    (State.modPic s p f g).kept = s.kept := by unfold State.modPic; simp
@[simp] theorem State.modStream_kept (s : State) (p : ℕ) (n : ℕ) (g : RateStream → RateStream) :
    (State.modStream s p n g).kept = s.kept := by unfold State.modStream; simp
@[simp] theorem State.refreshStarted_kept (s : State) (p : ℕ) (y : Picture) (kind : ℕ) :
    (State.refreshStarted s p y kind).kept = s.kept := by unfold State.refreshStarted; simp
@[simp] theorem State.frameBudget_kept (s : State) (p : ℕ) (f : ℕ) :
    (State.frameBudget s p f).kept = s.kept := by unfold State.frameBudget; repeat' (first | simp | split)
@[simp] theorem State.enterRow_kept (s : State) (p : ℕ) (y : Picture) (x : StreamGeo) (r : ℕ) (v : ℕ × ℕ × Bool) (limits : List ℕ) :
    (State.enterRow s p y x r v limits).kept = s.kept := by unfold State.enterRow; simp
@[simp] theorem State.decideRow_kept (s : State) (p : ℕ) (row : ℕ) (y : Picture) :
    (State.decideRow s p row y).kept = s.kept := by
  unfold State.decideRow; try dsimp only
  repeat' (first | with_reducible rfl | split | intro _ | with_reducible refine (foldl_kept _ ?_ _ _).trans ?_ | with_reducible refine (foldl_pair_kept _ ?_ _ _).trans ?_ | simp [*])

@[simp] theorem State.advanceSeq_kept (s : State) (p : ℕ) (stream : ℕ) (d : ℤ) :
    (State.advanceSeq s p stream d).kept = s.kept := by unfold State.advanceSeq; simp
@[simp] theorem State.decideByRecord_kept (s : State) (p : ℕ) (row : ℕ) (y : Picture) (rec : List Byte) :
    (State.decideByRecord s p row y rec).kept = s.kept := by
  unfold State.decideByRecord; try dsimp only
  repeat' (first | with_reducible rfl | split | intro _ | with_reducible refine (foldl_kept _ ?_ _ _).trans ?_ | with_reducible refine (foldl_pair_kept _ ?_ _ _).trans ?_ | simp [*])

@[simp] theorem State.rowDecision_kept (s : State) (p : ℕ) (f : ℕ) (row : ℕ) :
    (State.rowDecision s p f row).kept = s.kept := by unfold State.rowDecision; repeat' (first | simp | split)
@[simp] theorem State.sendRecords_kept (s : State) (p n row : Nat) :
    (State.sendRecords s p n row).kept = s.kept := by
  unfold State.sendRecords; try dsimp only
  repeat' (first | with_reducible rfl | split | intro _ | with_reducible refine (foldl_kept _ ?_ _ _).trans ?_ | with_reducible refine (foldl_pair_kept _ ?_ _ _).trans ?_ | simp [*])

/-! ### Gate -/

@[simp] theorem State.twinCount_kept (s : State) (i : ℕ) :
    (State.twinCount s i).kept = s.kept := by unfold State.twinCount; simp
@[simp] theorem State.setGate_kept (s : State) (p : ℕ) (f : ℕ) (row : ℕ) (v : ℕ) :
    (State.setGate s p f row v).kept = s.kept := by unfold State.setGate; simp
@[simp] theorem State.askTwinRefresh_kept (s : State) (p : Nat) :
    (State.askTwinRefresh s p).kept = s.kept := by
  unfold State.askTwinRefresh; try dsimp only
  repeat' (first | with_reducible rfl | split | intro _ | with_reducible refine (foldl_kept _ ?_ _ _).trans ?_ | with_reducible refine (foldl_pair_kept _ ?_ _ _).trans ?_ | simp [*])
@[simp] theorem State.muteHere_kept (s : State) (p : ℕ) (n : ℕ) (row : ℕ) (cause : ℕ) :
    (State.muteHere s p n row cause).kept = s.kept := by unfold State.muteHere; simp
@[simp] theorem State.mutePeer_kept (s : State) (p n row cause : Nat) :
    (State.mutePeer s p n row cause).kept = s.kept := by
  unfold State.mutePeer; try dsimp only
  repeat' (first | with_reducible rfl | split | intro _ | with_reducible refine (foldl_kept _ ?_ _ _).trans ?_ | with_reducible refine (foldl_pair_kept _ ?_ _ _).trans ?_ | simp [*])
@[simp] theorem State.launchAlone_kept (s : State) (p : ℕ) (y : Picture) (row : ℕ) :
    (State.launchAlone s p y row).kept = s.kept := by unfold State.launchAlone; simp
@[simp] theorem State.disagreed_kept (s : State) (p : Nat) (y : Picture) (row : Nat) (peerFault : Bool) :
    (State.disagreed s p y row peerFault).kept = s.kept := by
  unfold State.disagreed; try dsimp only
  repeat' (first | with_reducible rfl | split | intro _ | with_reducible refine (foldl_kept _ ?_ _ _).trans ?_ | with_reducible refine (foldl_pair_kept _ ?_ _ _).trans ?_ | simp [*])
@[simp] theorem State.decideGate_kept (s : State) (p : ℕ) (f : ℕ) (row : ℕ) (ended : Bool) :
    (State.decideGate s p f row ended).kept = s.kept := by unfold State.decideGate; repeat' (first | simp | split)
@[simp] theorem State.wholeAgrees_kept (s : State) (p : ℕ) (n : ℕ) :
    (State.wholeAgrees s p n).kept = s.kept := by unfold State.wholeAgrees; simp
@[simp] theorem State.compareRow_kept (s : State) (p : ℕ) (n : ℕ) (row : ℕ) :
    (State.compareRow s p n row).kept = s.kept := by unfold State.compareRow; repeat' (first | simp | split)
@[simp] theorem State.formRowCrc_kept (s : State) (p : ℕ) (f : ℕ) (row : ℕ) :
    (State.formRowCrc s p f row).kept = s.kept := by unfold State.formRowCrc; split <;> simp
@[simp] theorem State.holdRowCrc_kept (s : State) (p n row crc ready : Nat) (fault : Bool) :
    (State.holdRowCrc s p n row crc ready fault).kept = s.kept := by
  unfold State.holdRowCrc; try dsimp only
  repeat' (first | with_reducible rfl | split | intro _ | with_reducible refine (foldl_kept _ ?_ _ _).trans ?_ | with_reducible refine (foldl_pair_kept _ ?_ _ _).trans ?_ | simp [*])
@[simp] theorem State.learnMuted_kept (s : State) (p n row flags : Nat) :
    (State.learnMuted s p n row flags).kept = s.kept := by
  unfold State.learnMuted; try dsimp only
  repeat' (first | with_reducible rfl | split | intro _ | with_reducible refine (foldl_kept _ ?_ _ _).trans ?_ | with_reducible refine (foldl_pair_kept _ ?_ _ _).trans ?_ | simp [*])
@[simp] theorem State.takeRowCrc_kept (s0 : State) (p n row crc ready flags : Nat) :
    (State.takeRowCrc s0 p n row crc ready flags).kept = s0.kept := by
  unfold State.takeRowCrc; try dsimp only
  repeat' (first | with_reducible rfl | split | intro _ | with_reducible refine (foldl_kept _ ?_ _ _).trans ?_ | with_reducible refine (foldl_pair_kept _ ?_ _ _).trans ?_ | simp [*])
@[simp] theorem State.hearRowCrc_kept (s : State) (payload : List Byte) :
    (State.hearRowCrc s payload).kept = s.kept := by
  unfold State.hearRowCrc; try dsimp only
  repeat' (first | with_reducible rfl | split | intro _ | with_reducible refine (foldl_kept _ ?_ _ _).trans ?_ | with_reducible refine (foldl_pair_kept _ ?_ _ _).trans ?_ | simp [*])
/-! ### Packetizer -/

@[simp] theorem State.packRow_kept (s : State) (p f row n : Nat) :
    (State.packRow s p f row n).kept = s.kept := by
  unfold State.packRow; try dsimp only
  repeat' (first | with_reducible rfl | split | intro _ | with_reducible refine (foldl_kept _ ?_ _ _).trans ?_ | with_reducible refine (foldl_pair_kept _ ?_ _ _).trans ?_ | simp [*])
@[simp] theorem State.pictureComplete_kept (s : State) (p : ℕ) (f : ℕ) :
    (State.pictureComplete s p f).kept = s.kept := by
  unfold State.pictureComplete; try dsimp only
  repeat' (first | with_reducible rfl | split | intro _ | with_reducible refine (foldl_kept _ ?_ _ _).trans ?_ | with_reducible refine (foldl_pair_kept _ ?_ _ _).trans ?_ | simp [*])

@[simp] theorem State.rowFinished_kept (s : State) (p : ℕ) (f : ℕ) (row : ℕ) :
    (State.rowFinished s p f row).kept = s.kept := by unfold State.rowFinished; repeat' (first | simp | split)

/-! ### Graph -/

@[simp] theorem State.modOp_kept (s : State) (k : OpKey) (f : Op → Op) :
    (State.modOp s k f).kept = s.kept := by unfold State.modOp; simp
@[simp] theorem State.dropOp_kept (s : State) (k : OpKey) :
    (State.dropOp s k).kept = s.kept := by unfold State.dropOp; simp

/-! ### Grove -/
@[simp] theorem State.modRef_kept (s : State) (p n : Nat) (g : RefPic → RefPic) :
    (State.modRef s p n g).kept = s.kept := by
  unfold State.modRef; try dsimp only
  repeat' (first | with_reducible rfl | split | intro _ | with_reducible refine (foldl_kept _ ?_ _ _).trans ?_ | with_reducible refine (foldl_pair_kept _ ?_ _ _).trans ?_ | simp [*])
@[simp] theorem State.loseRef_kept (s : State) (p poc picture cause : Nat) :
    (State.loseRef s p poc picture cause).kept = s.kept := by
  unfold State.loseRef; try dsimp only
  repeat' (first | with_reducible rfl | split | intro _ | with_reducible refine (foldl_kept _ ?_ _ _).trans ?_ | with_reducible refine (foldl_pair_kept _ ?_ _ _).trans ?_ | simp [*])
@[simp] theorem State.keepCtu_kept (s : State) (k : OpKey) (y : Picture) (addr digest : Nat) (code : CtuCode) :
    (State.keepCtu s k y addr digest code).kept = s.kept := by
  unfold State.keepCtu; try dsimp only
  repeat' (first | with_reducible rfl | split | intro _ | with_reducible refine (foldl_kept _ ?_ _ _).trans ?_ | with_reducible refine (foldl_pair_kept _ ?_ _ _).trans ?_ | simp [*])

end Sys2Proof.Machine
end

