-- ==== Sys2Proof/Laws/KeptDispatch.lean ====
section
/-!
SUPPORT. The commands that wait and the fuses are left alone by taps, the dispatcher, egress and the time bases.
-/
set_option Elab.async false
namespace Sys2Proof.Machine

open Sys2Proof

/-! ### CvTaps -/

@[simp] theorem State.cvResult_kept (s : State) (u : ℕ) (value : ℕ) (length : ℕ) (segments : ℕ) (count : ℕ) :
    (State.cvResult s u value length segments count).kept = s.kept := by unfold State.cvResult; simp
@[simp] theorem State.cvDeliver_kept (s : State) (u n : Nat) (segments : List (List Byte)) :
    (State.cvDeliver s u n segments).kept = s.kept := by
  unfold State.cvDeliver; try dsimp only
  repeat' (first | with_reducible rfl | split | intro _ | with_reducible refine (foldl_kept _ ?_ _ _).trans ?_ | with_reducible refine (foldl_pair_kept _ ?_ _ _).trans ?_ | simp [*])
@[simp] theorem State.canopyTap_kept (s : State) (k num : Nat) :
    (State.canopyTap s k num).kept = s.kept := by
  unfold State.canopyTap; try dsimp only
  repeat' (first | with_reducible rfl | split | intro _ | with_reducible refine (foldl_kept _ ?_ _ _).trans ?_ | with_reducible refine (foldl_pair_kept _ ?_ _ _).trans ?_ | simp [*])
@[simp] theorem State.liveContext_kept (s : State) (u : Nat) :
    (State.liveContext s u).2.kept = s.kept := by
  unfold State.liveContext; try dsimp only
  repeat' (first | with_reducible rfl | split | intro _ | with_reducible refine (foldl_kept _ ?_ _ _).trans ?_ | with_reducible refine (foldl_pair_kept _ ?_ _ _).trans ?_ | simp [*])
@[simp] theorem State.auTaps_kept (s : State) (p : ℕ) (f : ℕ) :
    (State.auTaps s p f).kept = s.kept := by
  unfold State.auTaps; try dsimp only
  repeat' (first | with_reducible rfl | split | intro _ | with_reducible refine (foldl_kept _ ?_ _ _).trans ?_ | with_reducible refine (foldl_pair_kept _ ?_ _ _).trans ?_ | simp [*])

/-! ### Dispatcher -/

@[simp] theorem State.trace_kept (s : State) (decision : ℕ) (k : OpKey) (kind : ℕ) (unit : ℕ) (retired : ℕ) :
    (State.trace s decision k kind unit retired).kept = s.kept := by unfold State.trace; simp
@[simp] theorem State.traceUnit_kept (s : State) (decision : ℕ) (k : OpKey) (u : ℕ) :
    (State.traceUnit s decision k u).kept = s.kept := by unfold State.traceUnit; simp
@[simp] theorem State.deliver_kept (s : State) (k : OpKey) (u : ℕ) :
    (State.deliver s k u).kept = s.kept := by unfold State.deliver; simp
@[simp] theorem State.placed_kept (s : State) (p : ℕ) (clamped : Bool) :
    (State.placed s p clamped).kept = s.kept := by unfold State.placed; simp
@[simp] theorem State.launchStream_kept (s : State) (p : ℕ) (n : ℕ) (row : ℕ) (y : Picture) :
    (State.launchStream s p n row y).kept = s.kept := by unfold State.launchStream; simp
@[simp] theorem State.endProgram_kept (s : State) (p : ℕ) :
    (State.endProgram s p).kept = s.kept := by unfold State.endProgram; simp
@[simp] theorem State.closeDone_kept (s : State) (f : ℕ) :
    (State.closeDone s f).kept = s.kept := by unfold State.closeDone; repeat' (first | simp | split)
@[simp] theorem State.closeFlows_kept (s : State) (p : ℕ) :
    (State.closeFlows s p).kept = s.kept := by unfold State.closeFlows; simp
@[simp] theorem State.launchRow_kept (s : State) (p f row : Nat) :
    (State.launchRow s p f row).kept = s.kept := by
  unfold State.launchRow; try dsimp only
  repeat' (first | with_reducible rfl | split | intro _ | with_reducible refine (foldl_kept _ ?_ _ _).trans ?_ | with_reducible refine (foldl_pair_kept _ ?_ _ _).trans ?_ | simp [*])
@[simp] theorem State.dispatchOp_kept (s : State) (k : OpKey) :
    (State.dispatchOp s k).kept = s.kept := by
  unfold State.dispatchOp; try dsimp only
  repeat' (first | with_reducible rfl | split | intro _ | with_reducible refine (foldl_kept _ ?_ _ _).trans ?_ | with_reducible refine (foldl_pair_kept _ ?_ _ _).trans ?_ | simp [*])
@[simp] theorem State.freeUnit_kept (s : State) (u : ℕ) :
    (State.freeUnit s u).kept = s.kept := by unfold State.freeUnit; simp
@[simp] theorem State.savePack_kept (s : State) (k : OpKey) (fault : Bool) :
    (State.savePack s k fault).kept = s.kept := by
  unfold State.savePack; try dsimp only
  repeat' (first | with_reducible rfl | split | intro _ | with_reducible refine (foldl_kept _ ?_ _ _).trans ?_ | with_reducible refine (foldl_pair_kept _ ?_ _ _).trans ?_ | simp [*])
@[simp] theorem State.returnOp_kept (s : State) (k : OpKey) (raised : Bool) :
    (State.returnOp s k raised).kept = s.kept := by unfold State.returnOp; simp
@[simp] theorem State.moveToSpare_kept (s : State) (u : Nat) (k : Option OpKey) :
    (State.moveToSpare s u k).kept = s.kept := by
  unfold State.moveToSpare; try dsimp only
  repeat' (first | with_reducible rfl | split | intro _ | with_reducible refine (foldl_kept _ ?_ _ _).trans ?_ | with_reducible refine (foldl_pair_kept _ ?_ _ _).trans ?_ | simp [*])
@[simp] theorem State.preemptOp_kept (s : State) (k : OpKey) :
    (State.preemptOp s k).kept = s.kept := by unfold State.preemptOp; repeat' (first | simp | split)
@[simp] theorem State.promoteOp_kept (s : State) (k : OpKey) :
    (State.promoteOp s k).kept = s.kept := by unfold State.promoteOp; repeat' (first | simp | split)
@[simp] theorem State.loseUnit_kept (s : State) (u : ℕ) :
    (State.loseUnit s u).kept = s.kept := by unfold State.loseUnit; simp
@[simp] theorem State.unitFault_kept (s : State) (u : ℕ) (cause : ℕ) :
    (State.unitFault s u cause).kept = s.kept := by unfold State.unitFault; repeat' (first | simp | split)
@[simp] theorem State.codeCtu_kept (s : State) (k : OpKey) (o0 : Op) (u : Nat) (y : Picture) (c : CanFrame) :
    (State.codeCtu s k o0 u y c).kept = s.kept := by
  unfold State.codeCtu; try dsimp only
  repeat' (first | with_reducible rfl | split | intro _ | with_reducible refine (foldl_kept _ ?_ _ _).trans ?_ | with_reducible refine (foldl_pair_kept _ ?_ _ _).trans ?_ | simp [*])
@[simp] theorem State.segmentCoded_kept (s : State) (k : OpKey) (o : Op) :
    (State.segmentCoded s k o).kept = s.kept := by
  unfold State.segmentCoded; try dsimp only
  repeat' (first | with_reducible rfl | split | intro _ | with_reducible refine (foldl_kept _ ?_ _ _).trans ?_ | with_reducible refine (foldl_pair_kept _ ?_ _ _).trans ?_ | simp [*])
@[simp] theorem State.refreshDone_kept (s : State) (p : ℕ) (f : ℕ) :
    (State.refreshDone s p f).kept = s.kept := by unfold State.refreshDone; repeat' (first | simp | split)
@[simp] theorem State.finalTaps_kept (s1 : State) (s0 : State) (k : OpKey) :
    (State.finalTaps s1 s0 k).kept = s1.kept := by unfold State.finalTaps; simp
@[simp] theorem State.operationDone_kept (s : State) (k : OpKey) (o : Op) :
    (State.operationDone s k o).kept = s.kept := by
  unfold State.operationDone; try dsimp only
  repeat' (first | with_reducible rfl | split | intro _ | with_reducible refine (foldl_kept _ ?_ _ _).trans ?_ | with_reducible refine (foldl_pair_kept _ ?_ _ _).trans ?_ | simp [*])
@[simp] theorem State.reconWritten_kept (s : State) (k : OpKey) :
    (State.reconWritten s k).kept = s.kept := by
  unfold State.reconWritten; try dsimp only
  repeat' (first | with_reducible rfl | split | intro _ | with_reducible refine (foldl_kept _ ?_ _ _).trans ?_ | with_reducible refine (foldl_pair_kept _ ?_ _ _).trans ?_ | simp [*])

/-! ### EgressOps -/

@[simp] theorem acceptFlowTxOpen_kept (c : Cmd) (s : State) :
    (acceptFlowTxOpen c s).kept = s.kept := by unfold acceptFlowTxOpen; simp
@[simp] theorem effFlowTxOpen_kept (c : Cmd) (s : State) :
    (effFlowTxOpen c s).kept = s.kept := by unfold effFlowTxOpen; simp
@[simp] theorem effFlowTxClose_kept (c : Cmd) (s : State) :
    (effFlowTxClose c s).kept = s.kept := by unfold effFlowTxClose; simp
@[simp] theorem acceptShaperSet_kept (c : Cmd) (s : State) :
    (acceptShaperSet c s).kept = s.kept := by unfold acceptShaperSet; simp
@[simp] theorem effShaperSet_kept (c : Cmd) (s : State) :
    (effShaperSet c s).kept = s.kept := by unfold effShaperSet; simp
@[simp] theorem effSchedClassSet_kept (c : Cmd) (s : State) :
    (effSchedClassSet c s).kept = s.kept := by unfold effSchedClassSet; simp

/-! ### EgressEvents -/

@[simp] theorem State.countLeg_kept (s : State) (f : ℕ) (leg : ℕ) (i : ℕ) (n : ℕ) :
    (State.countLeg s f leg i n).kept = s.kept := by unfold State.countLeg; simp
@[simp] theorem State.modLeg_kept (s : State) (f : ℕ) (leg : ℕ) (g : TxLeg → TxLeg) :
    (State.modLeg s f leg g).kept = s.kept := by unfold State.modLeg; simp
@[simp] theorem State.modTrains_kept (s : State) (g : Train → Train) :
    (State.modTrains s g).kept = s.kept := by unfold State.modTrains; simp
@[simp] theorem State.frameLate_kept (s : State) (t : Train) (late : ℕ) :
    (State.frameLate s t late).kept = s.kept := by unfold State.frameLate; simp
@[simp] theorem State.judgeTrains_kept (s : State) :
    (State.judgeTrains s).kept = s.kept := by
  unfold State.judgeTrains; try dsimp only
  repeat' (first | with_reducible rfl | split | intro _ | with_reducible refine (foldl_kept _ ?_ _ _).trans ?_ | with_reducible refine (foldl_pair_kept _ ?_ _ _).trans ?_ | simp [*])

@[simp] theorem State.legEnds_kept (s : State) (f : ℕ) (leg : ℕ) (p : TxPkt) (x : Option ℤ) :
    (State.legEnds s f leg p x).kept = s.kept := by unfold State.legEnds; simp
@[simp] theorem State.freePacket_kept (s : State) (p : TxPkt) :
    (State.freePacket s p).kept = s.kept := by
  unfold State.freePacket; try dsimp only
  repeat' (first | with_reducible rfl | split | intro _ | with_reducible refine (foldl_kept _ ?_ _ _).trans ?_ | with_reducible refine (foldl_pair_kept _ ?_ _ _).trans ?_ | simp [*])
@[simp] theorem State.packetGone_kept (s : State) (f leg : Nat) (p : TxPkt) (x : Option Int) :
    (State.packetGone s f leg p x).kept = s.kept := by
  unfold State.packetGone; try dsimp only
  repeat' (first | with_reducible rfl | split | intro _ | with_reducible refine (foldl_kept _ ?_ _ _).trans ?_ | with_reducible refine (foldl_pair_kept _ ?_ _ _).trans ?_ | simp [*])
@[simp] theorem State.releaseHead_kept (s : State) (f leg : Nat) (l : TxLeg) (p : TxPkt) (rest : List TxPkt) (cost at_ : Nat) :
    (State.releaseHead s f leg l p rest cost at_).kept = s.kept := by
  unfold State.releaseHead; try dsimp only
  repeat' (first | with_reducible rfl | split | intro _ | with_reducible refine (foldl_kept _ ?_ _ _).trans ?_ | with_reducible refine (foldl_pair_kept _ ?_ _ _).trans ?_ | simp [*])
@[simp] theorem State.startShaped_kept (s : State) (f : ℕ) (leg : ℕ) (p : TxPkt) :
    (State.startShaped s f leg p).kept = s.kept := by unfold State.startShaped; split <;> simp
@[simp] theorem State.startBe_kept (s : State) (port : ℕ) (sub : ℕ) (q : ℕ) (b : BePkt) :
    (State.startBe s port sub q b).kept = s.kept := by unfold State.startBe; repeat' (first | simp | split)
@[simp] theorem State.holdBe_kept (s : State) (b : BePkt) :
    (State.holdBe s b).kept = s.kept := by
  unfold State.holdBe; try dsimp only
  repeat' (first | with_reducible rfl | split | intro _ | with_reducible refine (foldl_kept _ ?_ _ _).trans ?_ | with_reducible refine (foldl_pair_kept _ ?_ _ _).trans ?_ | simp [*])
@[simp] theorem State.arbitrate_kept (s : State) (port : ℕ) (sub : ℕ) :
    (State.arbitrate s port sub).kept = s.kept := by unfold State.arbitrate; repeat' (first | simp | split)
@[simp] theorem State.firmwareSends_kept (s : State) (port sub : Nat) :
    (State.firmwareSends s port sub).kept = s.kept := by
  unfold State.firmwareSends; try dsimp only
  repeat' (first | with_reducible rfl | split | intro _ | with_reducible refine (foldl_kept _ ?_ _ _).trans ?_ | with_reducible refine (foldl_pair_kept _ ?_ _ _).trans ?_ | simp [*])
@[simp] theorem State.packetEnd_kept (s : State) (port sub : Nat) (internalOk : Bool) :
    (State.packetEnd s port sub internalOk).kept = s.kept := by
  unfold State.packetEnd; try dsimp only
  repeat' (first | with_reducible rfl | split | intro _ | with_reducible refine (foldl_kept _ ?_ _ _).trans ?_ | with_reducible refine (foldl_pair_kept _ ?_ _ _).trans ?_ | simp [*])
/-! ### TimeOps -/

@[simp] theorem State.setTbStateFor_kept (s : State) (q n st : Nat) :
    (State.setTbStateFor s q n st).kept = s.kept := by
  unfold State.setTbStateFor; try dsimp only
  repeat' (first | with_reducible rfl | split | intro _ | with_reducible refine (foldl_kept _ ?_ _ _).trans ?_ | with_reducible refine (foldl_pair_kept _ ?_ _ _).trans ?_ | simp [*])
@[simp] theorem State.setTbState_kept (s : State) (n : ℕ) (st : ℕ) :
    (State.setTbState s n st).kept = s.kept := by unfold State.setTbState; simp
@[simp] theorem State.settlePps_kept (s : State) :
    (State.settlePps s).kept = s.kept := by
  unfold State.settlePps; try dsimp only
  repeat' (first | with_reducible rfl | split | intro _ | with_reducible refine (foldl_kept _ ?_ _ _).trans ?_ | with_reducible refine (foldl_pair_kept _ ?_ _ _).trans ?_ | simp [*])
@[simp] theorem effTimebaseConfig_kept (c : Cmd) (s : State) :
    (effTimebaseConfig c s).kept = s.kept := by
  unfold effTimebaseConfig; try dsimp only
  repeat' (first | with_reducible rfl | split | intro _ | with_reducible refine (foldl_kept _ ?_ _ _).trans ?_ | with_reducible refine (foldl_pair_kept _ ?_ _ _).trans ?_ | simp [*])
@[simp] theorem effTimebaseAdjust_kept (c : Cmd) (s : State) :
    (effTimebaseAdjust c s).kept = s.kept := by
  unfold effTimebaseAdjust; try dsimp only
  repeat' (first | with_reducible rfl | split | intro _ | with_reducible refine (foldl_kept _ ?_ _ _).trans ?_ | with_reducible refine (foldl_pair_kept _ ?_ _ _).trans ?_ | simp [*])
@[simp] theorem State.captured_kept (s : State) (n : ℕ) :
    (State.captured s n).kept = s.kept := by unfold State.captured; repeat' (first | simp | split)
@[simp] theorem effCaptureArm_kept (c : Cmd) (s : State) :
    (effCaptureArm c s).kept = s.kept := by unfold effCaptureArm; repeat' (first | simp | split)
@[simp] theorem State.holdover_kept (s : State) (n : ℕ) :
    (State.holdover s n).kept = s.kept := by unfold State.holdover; simp
@[simp] theorem State.delayRequest_kept (s : State) (port : Nat) :
    (State.delayRequest s port).kept = s.kept := by
  unfold State.delayRequest; try dsimp only
  repeat' (first | with_reducible rfl | split | intro _ | with_reducible refine (foldl_kept _ ?_ _ _).trans ?_ | with_reducible refine (foldl_pair_kept _ ?_ _ _).trans ?_ | simp [*])
@[simp] theorem State.ptpSync_kept (s : State) (n : ℕ) (x : Sync) :
    (State.ptpSync s n x).kept = s.kept := by unfold State.ptpSync; simp
@[simp] theorem State.ppsEdge_kept (s : State) (n : ℕ) :
    (State.ppsEdge s n).kept = s.kept := by unfold State.ppsEdge; repeat' (first | simp | split)

end Sys2Proof.Machine
end

