-- ==== Sys2Proof/Laws/KeptMem.lean ====
section
/-!
SUPPORT. The commands that wait and the fuses are left alone by the stacked DRAM, verification units and audio.
-/
set_option Elab.async false
namespace Sys2Proof.Machine

open Sys2Proof

/-! ### MemOps -/

@[simp] theorem effMemPolicy_kept (c : Cmd) (s : State) :
    (effMemPolicy c s).kept = s.kept := by unfold effMemPolicy; simp
@[simp] theorem acceptMemRetrain_kept (c : Cmd) (s : State) :
    (acceptMemRetrain c s).kept = s.kept := by unfold acceptMemRetrain; simp
@[simp] theorem effMemRetrain_kept (c : Cmd) (s : State) :
    (effMemRetrain c s).kept = s.kept := by unfold effMemRetrain; simp
@[simp] theorem acceptMemFreq_kept (c : Cmd) (s : State) :
    (acceptMemFreq c s).kept = s.kept := by unfold acceptMemFreq; simp
@[simp] theorem effMemFreq_kept (c : Cmd) (s : State) :
    (effMemFreq c s).kept = s.kept := by unfold effMemFreq; simp
@[simp] theorem effEccMode_kept (c : Cmd) (s : State) :
    (effEccMode c s).kept = s.kept := by unfold effEccMode; simp
@[simp] theorem effScrubConfig_kept (c : Cmd) (s : State) :
    (effScrubConfig c s).kept = s.kept := by unfold effScrubConfig; simp
@[simp] theorem effEccLogRead_kept (c : Cmd) (s : State) :
    (effEccLogRead c s).kept = s.kept := by unfold effEccLogRead; simp
@[simp] theorem State.startEct_kept (s : State) (t : EctTest) :
    (State.startEct s t).kept = s.kept := by unfold State.startEct; simp
@[simp] theorem effEccTest_kept (c : Cmd) (s : State) :
    (effEccTest c s).kept = s.kept := by unfold effEccTest; simp
@[simp] theorem State.writeEctCtrl_kept (s : State) (v : Nat) :
    (State.writeEctCtrl s v).kept = s.kept := by
  unfold State.writeEctCtrl; try dsimp only
  repeat' (first | with_reducible rfl | split | intro _ | with_reducible refine (foldl_kept _ ?_ _ _).trans ?_ | with_reducible refine (foldl_pair_kept _ ?_ _ _).trans ?_ | simp [*])

/-! ### MemEvents -/

@[simp] theorem State.issueRefresh_kept (s : State) (ch : ℕ) (group : ℕ) (n : ℕ) :
    (State.issueRefresh s ch group n).kept = s.kept := by unfold State.issueRefresh; simp
@[simp] theorem State.doubleDebts_kept (s : State) (stack : ℕ) :
    (State.doubleDebts s stack).kept = s.kept := by
  unfold State.doubleDebts; try dsimp only
  repeat' (first | with_reducible rfl | split | intro _ | with_reducible refine (foldl_kept _ ?_ _ _).trans ?_ | with_reducible refine (foldl_pair_kept _ ?_ _ _).trans ?_ | simp [*])

@[simp] theorem State.autoRetrain_kept (s : State) (ch : ℕ) :
    (State.autoRetrain s ch).kept = s.kept := by unfold State.autoRetrain; repeat' (first | simp | split)
@[simp] theorem State.loseGraphic_kept (s : State) (i : ℕ) (g : ℕ) :
    (State.loseGraphic s i g).kept = s.kept := by unfold State.loseGraphic; simp
@[simp] theorem State.modLamp_kept (s : State) (f : Nat → LampRegion → LampRegion) :
    (State.modLamp s f).kept = s.kept := by
  unfold State.modLamp; try dsimp only
  repeat' (first | with_reducible rfl | split | intro _ | with_reducible refine (foldl_kept _ ?_ _ _).trans ?_ | with_reducible refine (foldl_pair_kept _ ?_ _ _).trans ?_ | simp [*])
@[simp] theorem State.loseRefsOn_kept (s : State) (p : Nat) :
    (State.loseRefsOn s p).kept = s.kept := by
  unfold State.loseRefsOn; try dsimp only
  repeat' (first | with_reducible rfl | split | intro _ | with_reducible refine (foldl_kept _ ?_ _ _).trans ?_ | with_reducible refine (foldl_pair_kept _ ?_ _ _).trans ?_ | simp [*])
@[simp] theorem State.loseContent_kept (s : State) (c : ℕ) :
    (State.loseContent s c).kept = s.kept := by unfold State.loseContent; simp
@[simp] theorem State.startCopy_kept (s : State) (ch : ℕ) :
    (State.startCopy s ch).kept = s.kept := by
  unfold State.startCopy; try dsimp only
  repeat' (first | with_reducible rfl | split | intro _ | with_reducible refine (foldl_kept _ ?_ _ _).trans ?_ | with_reducible refine (foldl_pair_kept _ ?_ _ _).trans ?_ | simp [*])

@[simp] theorem State.serviceFault_kept (s : State) (ch : Nat) :
    (State.serviceFault s ch).kept = s.kept := by
  unfold State.serviceFault; try dsimp only
  repeat' (first | with_reducible rfl | split | intro _ | with_reducible refine (foldl_kept _ ?_ _ _).trans ?_ | with_reducible refine (foldl_pair_kept _ ?_ _ _).trans ?_ | simp [*])
@[simp] theorem State.logError_kept (s : State) (ch : ℕ) (ca : ℕ) (d : Decoded) :
    (State.logError s ch ca d).2.kept = s.kept := by unfold State.logError; repeat' (first | simp | split)
@[simp] theorem State.watchRead_kept (s : State) (ch : ℕ) (ca : ℕ) (bad : Bool) (scrub : Bool) :
    (State.watchRead s ch ca bad scrub).kept = s.kept := by unfold State.watchRead; split <;> simp
@[simp] theorem State.countLanes_kept (s : State) (ch : ℕ) (lanes : List ℕ) :
    (State.countLanes s ch lanes).kept = s.kept := by unfold State.countLanes; simp
@[simp] theorem State.loseWord_kept (s : State) (flow id b : Nat) :
    (State.loseWord s flow id b).kept = s.kept := by
  unfold State.loseWord; try dsimp only
  repeat' (first | with_reducible rfl | split | intro _ | with_reducible refine (foldl_kept _ ?_ _ _).trans ?_ | with_reducible refine (foldl_pair_kept _ ?_ _ _).trans ?_ | simp [*])
@[simp] theorem State.encodeBad_kept (s : State) (k : OpKey) (unwritten : Bool) :
    (State.encodeBad s k unwritten).kept = s.kept := by unfold State.encodeBad; repeat' (first | simp | split)
@[simp] theorem State.composeBad_kept (s : State) (k : OpKey) (owner : Nat) :
    (State.composeBad s k owner).kept = s.kept := by
  unfold State.composeBad; try dsimp only
  repeat' (first | with_reducible rfl | split | intro _ | with_reducible refine (foldl_kept _ ?_ _ _).trans ?_ | with_reducible refine (foldl_pair_kept _ ?_ _ _).trans ?_ | simp [*])
@[simp] theorem State.packBad_kept (s : State) (k : OpKey) :
    (State.packBad s k).kept = s.kept := by unfold State.packBad; split <;> simp
@[simp] theorem State.finishBad_kept (s : State) (page : Nat × Nat) (off : Nat) :
    (State.finishBad s page off).kept = s.kept := by
  unfold State.finishBad; try dsimp only
  repeat' (first | with_reducible rfl | split | intro _ | with_reducible refine (foldl_kept _ ?_ _ _).trans ?_ | with_reducible refine (foldl_pair_kept _ ?_ _ _).trans ?_ | simp [*])
@[simp] theorem State.readerBad_kept (s : State) (k : OpKey) (page : Option (Nat × Nat)) (off : Nat) (unwritten : Bool) :
    (State.readerBad s k page off unwritten).kept = s.kept := by
  unfold State.readerBad; try dsimp only
  repeat' (first | with_reducible rfl | split | intro _ | with_reducible refine (foldl_kept _ ?_ _ _).trans ?_ | with_reducible refine (foldl_pair_kept _ ?_ _ _).trans ?_ | simp [*])
@[simp] theorem State.fillSram_kept (s : State) (k : OpKey) (raw : Nat) (d : Decoded) :
    (State.fillSram s k raw d).kept = s.kept := by
  unfold State.fillSram; try dsimp only
  repeat' (first | with_reducible rfl | split | intro _ | with_reducible refine (foldl_kept _ ?_ _ _).trans ?_ | with_reducible refine (foldl_pair_kept _ ?_ _ _).trans ?_ | simp [*])
@[simp] theorem State.tapWord_kept (s : State) (u : ℕ) (d : Decoded) :
    (State.tapWord s u d).kept = s.kept := by unfold State.tapWord; simp
@[simp] theorem State.countUnwritten_kept (s : State) (d : Decoded) :
    (State.countUnwritten s d).kept = s.kept := by
  unfold State.countUnwritten; try dsimp only
  repeat' (first | with_reducible rfl | split | intro _ | with_reducible refine (foldl_kept _ ?_ _ _).trans ?_ | with_reducible refine (foldl_pair_kept _ ?_ _ _).trans ?_ | simp [*])
@[simp] theorem State.scrubRef_kept (s : State) (page : Option (Nat × Nat)) (unwritten : Bool) :
    (State.scrubRef s page unwritten).kept = s.kept := by
  unfold State.scrubRef; try dsimp only
  repeat' (first | with_reducible rfl | split | intro _ | with_reducible refine (foldl_kept _ ?_ _ _).trans ?_ | with_reducible refine (foldl_pair_kept _ ?_ _ _).trans ?_ | simp [*])

/-! ### CvOps -/

@[simp] theorem State.tapRest_kept (u n : Nat) (s : State) : (State.tapRest u n s).kept = s.kept := by
  induction n generalizing s with
  | zero => rfl
  | succ n ih => exact (ih _).trans (State.tapWord_kept ..)
@[simp] theorem State.endDramTap_kept (s : State) (u : Nat) :
    (State.endDramTap s u).kept = s.kept := by
  unfold State.endDramTap; try dsimp only
  repeat' (first | with_reducible rfl | split | intro _ | with_reducible refine (foldl_kept _ ?_ _ _).trans ?_ | with_reducible refine (foldl_pair_kept _ ?_ _ _).trans ?_ | simp [*])
@[simp] theorem effCvConfig_kept (c : Cmd) (s : State) :
    (effCvConfig c s).kept = s.kept := by
  unfold effCvConfig; try dsimp only
  repeat' (first | with_reducible rfl | split | intro _ | with_reducible refine (foldl_kept _ ?_ _ _).trans ?_ | with_reducible refine (foldl_pair_kept _ ?_ _ _).trans ?_ | simp [*])
@[simp] theorem effCvContext_kept (c : Cmd) (s : State) :
    (effCvContext c s).kept = s.kept := by unfold effCvContext; simp

/-! ### AudioOps -/

@[simp] theorem State.muteRoute_kept (s : State) (key : ℕ) (cause : ℕ) (delivers : Bool) :
    (State.muteRoute s key cause delivers).kept = s.kept := by unfold State.muteRoute; simp
@[simp] theorem State.raiseRoute_kept (s : State) (key : ℕ) :
    (State.raiseRoute s key).kept = s.kept := by unfold State.raiseRoute; simp
@[simp] theorem State.judgeData_kept (s : State) (key : Nat) :
    (State.judgeData s key).kept = s.kept := by
  unfold State.judgeData; try dsimp only
  repeat' (first | with_reducible rfl | split | intro _ | with_reducible refine (foldl_kept _ ?_ _ _).trans ?_ | with_reducible refine (foldl_pair_kept _ ?_ _ _).trans ?_ | simp [*])
@[simp] theorem State.judgePair_kept (s : State) (key : Nat) :
    (State.judgePair s key).kept = s.kept := by
  unfold State.judgePair; try dsimp only
  repeat' (first | with_reducible rfl | split | intro _ | with_reducible refine (foldl_kept _ ?_ _ _).trans ?_ | with_reducible refine (foldl_pair_kept _ ?_ _ _).trans ?_ | simp [*])
@[simp] theorem State.judgeRoutes_kept (s : State) (l : List (Nat × Route)) :
    (State.judgeRoutes s l).kept = s.kept := by
  unfold State.judgeRoutes; try dsimp only
  repeat' (first | with_reducible rfl | split | intro _ | with_reducible refine (foldl_kept _ ?_ _ _).trans ?_ | with_reducible refine (foldl_pair_kept _ ?_ _ _).trans ?_ | simp [*])
@[simp] theorem State.slipRoutes_kept (s : State) (object : Nat) (repeats : Bool) :
    (State.slipRoutes s object repeats).kept = s.kept := by
  unfold State.slipRoutes; try dsimp only
  repeat' (first | with_reducible rfl | split | intro _ | with_reducible refine (foldl_kept _ ?_ _ _).trans ?_ | with_reducible refine (foldl_pair_kept _ ?_ _ _).trans ?_ | simp [*])
@[simp] theorem State.feed_kept (s : State) (src : AudioSrc) (x : Int) (tag : Nat) :
    (State.feed s src x tag).kept = s.kept := by
  unfold State.feed; try dsimp only
  repeat' (first | with_reducible rfl | split | intro _ | with_reducible refine (foldl_kept _ ?_ _ _).trans ?_ | with_reducible refine (foldl_pair_kept _ ?_ _ _).trans ?_ | simp [*])
@[simp] theorem State.configInput_kept (s : State) (i : ℕ) (on : Bool) (rate : ℕ) :
    (State.configInput s i on rate).kept = s.kept := by unfold State.configInput; simp
@[simp] theorem State.configPort_kept (s : State) (c : Cmd) :
    (State.configPort s c).kept = s.kept := by unfold State.configPort; simp
@[simp] theorem effAudioPortConfig_kept (c : Cmd) (s : State) :
    (effAudioPortConfig c s).kept = s.kept := by unfold effAudioPortConfig; simp
@[simp] theorem effAudioRoute_kept (c : Cmd) (s : State) :
    (effAudioRoute c s).kept = s.kept := by unfold effAudioRoute; simp
@[simp] theorem effAudioStatus_kept (c : Cmd) (s : State) :
    (effAudioStatus c s).kept = s.kept := by unfold effAudioStatus; simp

/-! ### AudioEvents -/

@[simp] theorem State.audioFinding_kept (s : State) (n : ℕ) (kind : ℕ) :
    (State.audioFinding s n kind).kept = s.kept := by unfold State.audioFinding; simp
@[simp] theorem State.goodSubframe_kept (s : State) (n ch : Nat) (sample : Int) :
    (State.goodSubframe s n ch sample).kept = s.kept := by
  unfold State.goodSubframe; try dsimp only
  repeat' (first | with_reducible rfl | split | intro _ | with_reducible refine (foldl_kept _ ?_ _ _).trans ?_ | with_reducible refine (foldl_pair_kept _ ?_ _ _).trans ?_ | simp [*])
@[simp] theorem State.badSubframe_kept (s : State) (n ch : Nat) :
    (State.badSubframe s n ch).kept = s.kept := by
  unfold State.badSubframe; try dsimp only
  repeat' (first | with_reducible rfl | split | intro _ | with_reducible refine (foldl_kept _ ?_ _ _).trans ?_ | with_reducible refine (foldl_pair_kept _ ?_ _ _).trans ?_ | simp [*])
@[simp] theorem State.reportFinding_kept (s : State) (n : ℕ) (new : ℕ) :
    (State.reportFinding s n new).kept = s.kept := by unfold State.reportFinding; split <;> simp
@[simp] theorem State.audioStable_kept (s : State) (n : ℕ) :
    (State.audioStable s n).kept = s.kept := by unfold State.audioStable; simp
@[simp] theorem State.outputSettled_kept (s : State) (object : ℕ) :
    (State.outputSettled s object).kept = s.kept := by unfold State.outputSettled; simp
@[simp] theorem State.drawSample_kept (s : State) (key k : Nat) :
    (State.drawSample s key k).2.kept = s.kept := by
  unfold State.drawSample; try dsimp only
  repeat' (first | with_reducible rfl | split | intro _ | with_reducible refine (foldl_kept _ ?_ _ _).trans ?_ | with_reducible refine (foldl_pair_kept _ ?_ _ _).trans ?_ | simp [*])
@[simp] theorem State.audioBytes_kept (s : State) (flow k n : Nat) :
    (State.audioBytes s flow k n).2.kept = s.kept := by
  unfold State.audioBytes; try dsimp only
  repeat' (first | with_reducible rfl | split | intro _ | with_reducible refine (foldl_kept _ ?_ _ _).trans ?_ | with_reducible refine (foldl_pair_kept _ ?_ _ _).trans ?_ | simp [*])

end Sys2Proof.Machine
end

