-- ==== Sys2Proof/Laws/KeptPower.lean ====
section
/-!
SUPPORT. The commands that wait and the fuses are left alone by the twin, the update engine, power and observation.
-/
set_option Elab.async false
namespace Sys2Proof.Machine

open Sys2Proof

/-! ### TwinOps -/

@[simp] theorem State.kickAfter_kept (s : State) (t : Cmd) :
    (State.kickAfter s t).kept = s.kept := by
  unfold State.kickAfter; try dsimp only
  repeat' (first | with_reducible rfl | split | intro _ | with_reducible refine (foldl_kept _ ?_ _ _).trans ?_ | with_reducible refine (foldl_pair_kept _ ?_ _ _).trans ?_ | simp [*])
@[simp] theorem State.endAborted_kept (s : State) (t : Cmd) :
    (State.endAborted s t).kept = s.kept := by
  unfold State.endAborted; try dsimp only
  repeat' (first | with_reducible rfl | split | intro _ | with_reducible refine (foldl_kept _ ?_ _ _).trans ?_ | with_reducible refine (foldl_pair_kept _ ?_ _ _).trans ?_ | simp [*])
@[simp] theorem State.abortCmd_kept (s : State) (t : Cmd) :
    (State.abortCmd s t).kept = s.kept := by unfold State.abortCmd; simp
@[simp] theorem State.tryAccept_kept (s : State) (q : ℕ) (seq : ℕ) :
    (State.tryAccept s q seq).kept = s.kept := by unfold State.tryAccept; split <;> simp
@[simp] theorem State.tryAccepts_kept (s : State) :
    (State.tryAccepts s).kept = s.kept := by unfold State.tryAccepts; simp
@[simp] theorem effAbort_kept (c : Cmd) (s : State) :
    (effAbort c s).kept = s.kept := by unfold effAbort; repeat' (first | simp | split)
@[simp] theorem State.muteAll_kept (s : State) :
    (State.muteAll s).kept = s.kept := by unfold State.muteAll; simp
@[simp] theorem State.unmuteAll_kept (s : State) :
    (State.unmuteAll s).kept = s.kept := by unfold State.unmuteAll; simp
@[simp] theorem effTwinConfig_kept (c : Cmd) (s : State) :
    (effTwinConfig c s).kept = s.kept := by unfold effTwinConfig; simp
@[simp] theorem State.sendRole_kept (s : State) (term : ℕ) (kind : ℕ) :
    (State.sendRole s term kind).kept = s.kept := by unfold State.sendRole; simp
@[simp] theorem State.trySwap_kept (s : State) :
    (State.trySwap s).kept = s.kept := by unfold State.trySwap; split <;> simp
@[simp] theorem effTwinStatus_kept (c : Cmd) (s : State) :
    (effTwinStatus c s).kept = s.kept := by unfold effTwinStatus; simp
@[simp] theorem effSplice_kept (c : Cmd) (s : State) :
    (effSplice c s).kept = s.kept := by unfold effSplice; simp

/-! ### UpdateEvents -/

@[simp] theorem State.rerun_kept (s : State) :
    (State.rerun s).kept = s.kept := by unfold State.rerun; simp
@[simp] theorem State.beginStaging_kept (s : State) :
    (State.beginStaging s).kept = s.kept := by unfold State.beginStaging; repeat' (first | simp | split)
@[simp] theorem State.pairBack_kept (s : State) :
    (State.pairBack s).kept = s.kept := by unfold State.pairBack; split <;> simp
@[simp] theorem State.swapPairs_kept (s : State) :
    (State.swapPairs s).kept = s.kept := by unfold State.swapPairs; split <;> simp
@[simp] theorem State.writeRecCtrl_kept (s : State) (v : Nat) :
    (State.writeRecCtrl s v).kept = s.kept := by
  unfold State.writeRecCtrl; try dsimp only
  repeat' (first | with_reducible rfl | split | intro _ | with_reducible refine (foldl_kept _ ?_ _ _).trans ?_ | with_reducible refine (foldl_pair_kept _ ?_ _ _).trans ?_ | simp [*])

/-! ### PowerOps -/

@[simp] theorem State.thermPin_kept (s : State) (low : Bool) (was : Bool) :
    (State.thermPin s low was).kept = s.kept := by unfold State.thermPin; simp
@[simp] theorem State.flushAll_kept (s : State) :
    (State.flushAll s).kept = s.kept := by unfold State.flushAll; simp
@[simp] theorem State.freezePair_kept (s : State) (p : ℕ) (cause : ℕ) :
    (State.freezePair s p cause).kept = s.kept := by unfold State.freezePair; simp
@[simp] theorem State.restartDispatcher_kept (s : State) :
    (State.restartDispatcher s).kept = s.kept := by unfold State.restartDispatcher; simp
@[simp] theorem acceptPowerBudget_kept (c : Cmd) (s : State) :
    (acceptPowerBudget c s).kept = s.kept := by unfold acceptPowerBudget; simp
@[simp] theorem effPowerBudget_kept (c : Cmd) (s : State) :
    (effPowerBudget c s).kept = s.kept := by unfold effPowerBudget; simp
@[simp] theorem effPermitStatus_kept (c : Cmd) (s : State) :
    (effPermitStatus c s).kept = s.kept := by unfold effPermitStatus; simp
@[simp] theorem effAvsBounds_kept (c : Cmd) (s : State) :
    (effAvsBounds c s).kept = s.kept := by unfold effAvsBounds; simp
@[simp] theorem effClockStatus_kept (c : Cmd) (s : State) :
    (effClockStatus c s).kept = s.kept := by unfold effClockStatus; simp
@[simp] theorem State.recalibrate_kept (s : State) (lane : ℕ) :
    (State.recalibrate s lane).kept = s.kept := by unfold State.recalibrate; repeat' (first | simp | split)
@[simp] theorem State.compact_kept (s : State) :
    (State.compact s).kept = s.kept := by unfold State.compact; split <;> simp

/-! ### PowerEvents -/

@[simp] theorem State.avsMove_kept (s : State) (rail : ℕ) (want : ℤ) :
    (State.avsMove s rail want).kept = s.kept := by unfold State.avsMove; simp
@[simp] theorem State.mapRetired_kept (s : State) (ch : ℕ) :
    (State.mapRetired s ch).kept = s.kept := by unfold State.mapRetired; repeat' (first | simp | split)

@[simp] theorem State.measure_kept (s : State) :
    (State.measure s).kept = s.kept := by
  unfold State.measure; try dsimp only
  repeat' (first | with_reducible rfl | split | intro _ | with_reducible refine (foldl_kept _ ?_ _ _).trans ?_ | with_reducible refine (foldl_pair_kept _ ?_ _ _).trans ?_ | simp [*])
@[simp] theorem State.restSpare_kept (s : State) (ch : Nat) :
    (State.restSpare s ch).kept = s.kept := by
  unfold State.restSpare; try dsimp only
  repeat' (first | with_reducible rfl | split | intro _ | with_reducible refine (foldl_kept _ ?_ _ _).trans ?_ | with_reducible refine (foldl_pair_kept _ ?_ _ _).trans ?_ | simp [*])
@[simp] theorem State.writePwrAlert_kept (s : State) (v : Nat) :
    (State.writePwrAlert s v).kept = s.kept := by
  unfold State.writePwrAlert; try dsimp only
  repeat' (first | with_reducible rfl | split | intro _ | with_reducible refine (foldl_kept _ ?_ _ _).trans ?_ | with_reducible refine (foldl_pair_kept _ ?_ _ _).trans ?_ | simp [*])

/-! ### ObserveOps -/

@[simp] theorem effPmcConfig_kept (c : Cmd) (s : State) :
    (effPmcConfig c s).kept = s.kept := by unfold effPmcConfig; simp
@[simp] theorem effSampleConfig_kept (c : Cmd) (s : State) :
    (effSampleConfig c s).kept = s.kept := by unfold effSampleConfig; simp
@[simp] theorem effTraceConfig_kept (c : Cmd) (s : State) :
    (effTraceConfig c s).kept = s.kept := by unfold effTraceConfig; simp
@[simp] theorem effEventMask_kept (c : Cmd) (s : State) :
    (effEventMask c s).kept = s.kept := by unfold effEventMask; simp
@[simp] theorem State.pmcCtrl_kept (s : State) (value : ℕ) :
    (State.pmcCtrl s value).kept = s.kept := by unfold State.pmcCtrl; simp
@[simp] theorem State.writePmcOvf_kept (s : State) (m v : Nat) :
    (State.writePmcOvf s m v).kept = s.kept := by
  unfold State.writePmcOvf; try dsimp only
  repeat' (first | with_reducible rfl | split | intro _ | with_reducible refine (foldl_kept _ ?_ _ _).trans ?_ | with_reducible refine (foldl_pair_kept _ ?_ _ _).trans ?_ | simp [*])
@[simp] theorem State.writeTrcCtrl_kept (s : State) (v : Nat) :
    (State.writeTrcCtrl s v).kept = s.kept := by
  unfold State.writeTrcCtrl; try dsimp only
  repeat' (first | with_reducible rfl | split | intro _ | with_reducible refine (foldl_kept _ ?_ _ _).trans ?_ | with_reducible refine (foldl_pair_kept _ ?_ _ _).trans ?_ | simp [*])
@[simp] theorem State.writeCapInfo_kept (s : State) (tb v : Nat) :
    (State.writeCapInfo s tb v).kept = s.kept := by
  unfold State.writeCapInfo; try dsimp only
  repeat' (first | with_reducible rfl | split | intro _ | with_reducible refine (foldl_kept _ ?_ _ _).trans ?_ | with_reducible refine (foldl_pair_kept _ ?_ _ _).trans ?_ | simp [*])
@[simp] theorem State.writeC21_kept (s : State) (m v : Nat) :
    (State.writeC21 s m v).kept = s.kept := by
  unfold State.writeC21; try dsimp only
  repeat' (first | with_reducible rfl | split | intro _ | with_reducible refine (foldl_kept _ ?_ _ _).trans ?_ | with_reducible refine (foldl_pair_kept _ ?_ _ _).trans ?_ | simp [*])

end Sys2Proof.Machine
end

