-- ==== Sys2Proof/Laws/KeptTwin.lean ====
section
/-!
SUPPORT. The commands that wait and the fuses are left alone by the journal, clearings, command packets and tether messages.
-/
set_option Elab.async false
namespace Sys2Proof.Machine

open Sys2Proof

/-! ### Apply -/

@[simp] theorem State.onAccept_kept (c : Cmd) (s : State) :
    (State.onAccept c s).kept = s.kept := by unfold State.onAccept; split <;> simp

/-! ### Journal -/

@[simp] theorem State.take_kept (s : State) (q : ℕ) (h : Header) (e : JEntry) :
    (State.take s q h e).kept = s.kept := by unfold State.take; simp

/-! ### TwinApply -/

@[simp] theorem State.ackJournal_kept (s : State) (pos : ℕ) :
    (State.ackJournal s pos).kept = s.kept := by unfold State.ackJournal; simp
@[simp] theorem State.journalCommand_kept (s : State) (pos : ℕ) (packet : List Byte) :
    (State.journalCommand s pos packet).kept = s.kept := by unfold State.journalCommand; simp
@[simp] theorem State.journalReject_kept (s : State) (c : Cmd) (status : ℕ) (detail : ℕ) :
    (State.journalReject s c status detail).kept = s.kept := by unfold State.journalReject; simp
@[simp] theorem State.openHostData_kept (s : State) (c : Cmd) :
    (State.openHostData s c).2.kept = s.kept := by unfold State.openHostData; split <;> simp
@[simp] theorem State.noteStands_kept (s : State) (c : Cmd) (status detail : Nat) :
    (State.noteStands s c status detail).kept = s.kept := by
  unfold State.noteStands; try dsimp only
  repeat' (first | with_reducible rfl | split | intro _ | with_reducible refine (foldl_kept _ ?_ _ _).trans ?_ | with_reducible refine (foldl_pair_kept _ ?_ _ _).trans ?_ | simp [*])
@[simp] theorem State.judgeReplica_kept (s : State) (c : Cmd) (n : Note) :
    (State.judgeReplica s c n).kept = s.kept := by
  unfold State.judgeReplica; try dsimp only
  repeat' (first | with_reducible rfl | split | intro _ | with_reducible refine (foldl_kept _ ?_ _ _).trans ?_ | with_reducible refine (foldl_pair_kept _ ?_ _ _).trans ?_ | simp [*])
@[simp] theorem State.takeJoin_kept (s : State) (j : JoinContent) (t : Nat) :
    (State.takeJoin s j t).kept = s.kept := by
  unfold State.takeJoin; try dsimp only
  repeat' (first | with_reducible rfl | split | intro _ | with_reducible refine (foldl_kept _ ?_ _ _).trans ?_ | with_reducible refine (foldl_pair_kept _ ?_ _ _).trans ?_ | simp [*])
@[simp] theorem State.joinLead_kept (s : State) :
    (State.joinLead s).kept = s.kept := by
  unfold State.joinLead; try dsimp only
  repeat' (first | with_reducible rfl | split | intro _ | with_reducible refine (foldl_kept _ ?_ _ _).trans ?_ | with_reducible refine (foldl_pair_kept _ ?_ _ _).trans ?_ | simp [*])
@[simp] theorem State.endIncomplete_kept (s : State) (l : List EpochBuf) :
    (State.endIncomplete s l).kept = s.kept := by
  unfold State.endIncomplete; try dsimp only
  repeat' (first | with_reducible rfl | split | intro _ | with_reducible refine (foldl_kept _ ?_ _ _).trans ?_ | with_reducible refine (foldl_pair_kept _ ?_ _ _).trans ?_ | simp [*])
@[simp] theorem State.reserveReplies_kept (s : State) :
    (State.reserveReplies s).kept = s.kept := by
  unfold State.reserveReplies; try dsimp only
  repeat' (first | with_reducible rfl | split | intro _ | with_reducible refine (foldl_kept _ ?_ _ _).trans ?_ | with_reducible refine (foldl_pair_kept _ ?_ _ _).trans ?_ | simp [*])
@[simp] theorem State.takeLead_kept (s : State) (term : ℕ) (last : ℕ) (lost : Bool) :
    (State.takeLead s term last lost).kept = s.kept := by unfold State.takeLead; simp
@[simp] theorem State.leadNow_kept (s : State) (receiving : List EpochBuf) (lost : Bool) :
    (State.leadNow s receiving lost).kept = s.kept := by
  unfold State.leadNow; try dsimp only
  repeat' (first | with_reducible rfl | split | intro _ | with_reducible refine (foldl_kept _ ?_ _ _).trans ?_ | with_reducible refine (foldl_pair_kept _ ?_ _ _).trans ?_ | simp [*])
/-! ### Clearing -/

@[simp] theorem State.applyCommit_kept (s : State) (id : ℕ × ℕ) (g : ℕ) :
    (State.applyCommit s id g).kept = s.kept := by unfold State.applyCommit; simp
@[simp] theorem State.applyCommits_kept (s : State) (k : ℕ) (g : ℕ) :
    (State.applyCommits s k g).kept = s.kept := by unfold State.applyCommits; simp
@[simp] theorem State.completeGeometry_kept (s : State) (k : ℕ) :
    (State.completeGeometry s k).kept = s.kept := by unfold State.completeGeometry; simp
@[simp] theorem State.turnFallback_kept (s : State) (i : ℕ) (g : ℕ) :
    (State.turnFallback s i g).kept = s.kept := by unfold State.turnFallback; simp
@[simp] theorem State.beginFrame_kept (s : State) (k : ℕ) (g : ℕ) :
    (State.beginFrame s k g).kept = s.kept := by unfold State.beginFrame; simp
@[simp] theorem State.beginPicture_kept (s : State) (p : ℕ) (num : ℕ) (g : ℕ) (newSlot : Bool) :
    (State.beginPicture s p num g newSlot).kept = s.kept := by unfold State.beginPicture; simp
@[simp] theorem State.nextFrame_kept (s1 : State) (k : ℕ) (g : ℕ) (frame : ℕ) :
    (State.nextFrame s1 k g frame).kept = s1.kept := by unfold State.nextFrame; simp

/-! ### Check -/

@[simp] theorem State.onReject_kept (s : State) (c : Cmd) (v : ℕ × ℕ) :
    (State.onReject s c v).kept = s.kept := by unfold State.onReject; simp

/-! ### Packet -/

@[simp] theorem State.answer_kept (s : State) (q : ℕ) (h : Header) (dst : ReplyTo) (r : Reply) :
    (State.answer s q h dst r).kept = s.kept := by unfold State.answer; simp
@[simp] theorem State.duplicate_kept (s : State) (q : ℕ) (h : Header) (dst : ReplyTo) (e : JEntry) :
    (State.duplicate s q h dst e).kept = s.kept := by unfold State.duplicate; split <;> simp
@[simp] theorem State.sendCommand_kept (s : State) (pos : ℕ) (packet : List Byte) :
    (State.sendCommand s pos packet).kept = s.kept := by unfold State.sendCommand; simp
@[simp] theorem State.replicateReject_kept (s : State) (c : Cmd) (v : ℕ × ℕ) :
    (State.replicateReject s c v).kept = s.kept := by unfold State.replicateReject; simp
@[simp] theorem State.rejectTaken_kept (s : State) (c : Cmd) (h : Header) (v : ℕ × ℕ) :
    (State.rejectTaken s c h v).kept = s.kept := by unfold State.rejectTaken; simp
@[simp] theorem State.acceptTaken_kept (s : State) (c0 : Cmd) (h : Header) :
    (State.acceptTaken s c0 h).kept = s.kept := by
  unfold State.acceptTaken; try dsimp only
  repeat' (first | with_reducible rfl | split | intro _ | with_reducible refine (foldl_kept _ ?_ _ _).trans ?_ | with_reducible refine (foldl_pair_kept _ ?_ _ _).trans ?_ | simp [*])
@[simp] theorem State.receive_kept (s : State) (q : ℕ) (b : List Byte) (dst : ReplyTo) (host : List Byte) :
    (State.receive s q b dst host).kept = s.kept := by unfold State.receive; repeat' (first | simp | split)
@[simp] theorem State.consume_kept (s : State) (q : ℕ) (n : ℕ) :
    (State.consume s q n).kept = s.kept := by unfold State.consume; simp
@[simp] theorem State.fetchRing_kept (s : State) (q : ℕ) (slots : List Byte) (host : List Byte) :
    (State.fetchRing s q slots host).kept = s.kept := by unfold State.fetchRing; simp
@[simp] theorem State.fetchWaiting_kept (s : State) (q : ℕ) :
    (State.fetchWaiting s q).kept = s.kept := by unfold State.fetchWaiting; split <;> simp
@[simp] theorem State.discardOn_kept (s : State) (q : ℕ) :
    (State.discardOn s q).kept = s.kept := by unfold State.discardOn; simp
@[simp] theorem State.commandDatagram_kept (s : State) (d : Datagram) :
    (State.commandDatagram s d).kept = s.kept := by
  unfold State.commandDatagram; try dsimp only
  repeat' (first | with_reducible rfl | split | intro _ | with_reducible refine (foldl_kept _ ?_ _ _).trans ?_ | with_reducible refine (foldl_pair_kept _ ?_ _ _).trans ?_ | simp [*])
@[simp] theorem State.writeSqTail_kept (s : State) (q : ℕ) (v : ℕ) :
    (State.writeSqTail s q v).kept = s.kept := by unfold State.writeSqTail; simp
@[simp] theorem State.writeRqHead_kept (s : State) (q : ℕ) (v : ℕ) :
    (State.writeRqHead s q v).kept = s.kept := by unfold State.writeRqHead; simp
@[simp] theorem State.writeEvHead_kept (s : State) (v : ℕ) :
    (State.writeEvHead s v).kept = s.kept := by unfold State.writeEvHead; simp
@[simp] theorem State.writeCtrl_kept (s : State) (q : ℕ) (value : ℕ) :
    (State.writeCtrl s q value).kept = s.kept := by unfold State.writeCtrl; simp
@[simp] theorem State.writeSize_kept (s : State) (reg : SizeReg) (v : ℕ) :
    (State.writeSize s reg v).kept = s.kept := by unfold State.writeSize; split <;> simp
@[simp] theorem State.writeQueueReg_kept (s : State) (q : ℕ) (off : ℕ) (v : ℕ) :
    (State.writeQueueReg s q off v).kept = s.kept := by unfold State.writeQueueReg; split <;> simp
@[simp] theorem State.writeMsix_kept (s : State) (i : ℕ) (v : ℕ) :
    (State.writeMsix s i v).kept = s.kept := by unfold State.writeMsix; simp
@[simp] theorem State.writeTrcRd_kept (s : State) (v : ℕ) :
    (State.writeTrcRd s v).kept = s.kept := by unfold State.writeTrcRd; simp
@[simp] theorem State.writeSmpRd_kept (s : State) (v : ℕ) :
    (State.writeSmpRd s v).kept = s.kept := by unfold State.writeSmpRd; simp
@[simp] theorem State.writeRecovery_kept (s : State) (off v : Nat) :
    (State.writeRecovery s off v).kept = s.kept := by
  unfold State.writeRecovery; try dsimp only
  repeat' (first | with_reducible rfl | split | intro _ | with_reducible refine (foldl_kept _ ?_ _ _).trans ?_ | with_reducible refine (foldl_pair_kept _ ?_ _ _).trans ?_ | simp [*])
@[simp] theorem State.writeOwnRow_kept (s : State) (off v : Nat) :
    (State.writeOwnRow s off v).kept = s.kept := by
  unfold State.writeOwnRow; try dsimp only
  repeat' (first | with_reducible rfl | split | intro _ | with_reducible refine (foldl_kept _ ?_ _ _).trans ?_ | with_reducible refine (foldl_pair_kept _ ?_ _ _).trans ?_ | simp [*])
@[simp] theorem State.writeReg_kept (s : State) (off v : Nat) :
    (State.writeReg s off v).kept = s.kept := by
  unfold State.writeReg; try dsimp only
  repeat' (first | with_reducible rfl | split | intro _ | with_reducible refine (foldl_kept _ ?_ _ _).trans ?_ | with_reducible refine (foldl_pair_kept _ ?_ _ _).trans ?_ | simp [*])
/-! ### TwinEvents -/

@[simp] theorem State.setPath_kept (s : State) (p : ℕ) (x : TPath) :
    (State.setPath s p x).kept = s.kept := by unfold State.setPath; simp
@[simp] theorem State.learnPeer_kept (s : State) :
    (State.learnPeer s).kept = s.kept := by
  unfold State.learnPeer; try dsimp only
  repeat' (first | with_reducible rfl | split | intro _ | with_reducible refine (foldl_kept _ ?_ _ _).trans ?_ | with_reducible refine (foldl_pair_kept _ ?_ _ _).trans ?_ | simp [*])
@[simp] theorem State.beat_kept (s : State) (p : ℕ) :
    (State.beat s p).kept = s.kept := by unfold State.beat; simp
@[simp] theorem State.findSplit_kept (s : State) (peerRole : ℕ) (peerTerm : ℕ) :
    (State.findSplit s peerRole peerTerm).kept = s.kept := by unfold State.findSplit; simp
@[simp] theorem State.hearHeartbeat_kept (s0 : State) (path : Nat) (payload : List Byte) :
    (State.hearHeartbeat s0 path payload).kept = s0.kept := by
  unfold State.hearHeartbeat; try dsimp only
  repeat' (first | with_reducible rfl | split | intro _ | with_reducible refine (foldl_kept _ ?_ _ _).trans ?_ | with_reducible refine (foldl_pair_kept _ ?_ _ _).trans ?_ | simp [*])
@[simp] theorem State.hearJournalAck_kept (s : State) (payload : List Byte) :
    (State.hearJournalAck s payload).kept = s.kept := by
  unfold State.hearJournalAck; try dsimp only
  repeat' (first | with_reducible rfl | split | intro _ | with_reducible refine (foldl_kept _ ?_ _ _).trans ?_ | with_reducible refine (foldl_pair_kept _ ?_ _ _).trans ?_ | simp [*])
@[simp] theorem State.hearEpochData_kept (s : State) (payload : List Byte) :
    (State.hearEpochData s payload).kept = s.kept := by
  unfold State.hearEpochData; try dsimp only
  repeat' (first | with_reducible rfl | split | intro _ | with_reducible refine (foldl_kept _ ?_ _ _).trans ?_ | with_reducible refine (foldl_pair_kept _ ?_ _ _).trans ?_ | simp [*])
@[simp] theorem State.ackEpoch_kept (s : State) (n : ℕ) (code : ℕ) :
    (State.ackEpoch s n code).kept = s.kept := by unfold State.ackEpoch; simp
@[simp] theorem State.epochVerified_kept (s : State) (b : EpochBuf) :
    (State.epochVerified s b).kept = s.kept := by unfold State.epochVerified; simp
@[simp] theorem State.resendEpoch_kept (s : State) (b : EpochBuf) :
    (State.resendEpoch s b).kept = s.kept := by unfold State.resendEpoch; simp
@[simp] theorem State.dropUnjournaled_kept (s : State) :
    (State.dropUnjournaled s).kept = s.kept := by unfold State.dropUnjournaled; simp
@[simp] theorem State.becomeFollower_kept (s : State) (term : ℕ) :
    (State.becomeFollower s term).kept = s.kept := by unfold State.becomeFollower; simp
@[simp] theorem State.hearRowRecord_kept (s : State) (payload : List Byte) :
    (State.hearRowRecord s payload).kept = s.kept := by
  unfold State.hearRowRecord; try dsimp only
  repeat' (first | with_reducible rfl | split | intro _ | with_reducible refine (foldl_kept _ ?_ _ _).trans ?_ | with_reducible refine (foldl_pair_kept _ ?_ _ _).trans ?_ | simp [*])

end Sys2Proof.Machine
end

