-- ==== Sys2Proof/Laws/Onward.lean ====
section
/-!
SUPPORT. The operations that may burn a fuse: at most burned, never reversed, and the commands that wait left alone (00 R8, 15 R606, R620, R634).
-/
set_option Elab.async false
namespace Sys2Proof.Machine

open Sys2Proof

/-- The commands that wait are the same, fuses have at most been burned, and the DRAM is still written down in its one form. -/
def State.Onward (s t : State) : Prop :=
  t.pending = s.pending ∧ t.nv.part = s.nv.part ∧ s.nv.antiRollback ≤ t.nv.antiRollback ∧ s.nv.revoked ⊆ t.nv.revoked ∧
    s.nv.returns ≤ t.nv.returns ∧ (s.mem.wf = true → t.mem.wf = true)

theorem State.Onward.of_kept {s t : State} (h : t.kept = s.kept) : s.Onward t := by
  have h1 : t.pending = s.pending := congrArg Kept.pending h
  have h2 : t.nv.fuses = s.nv.fuses := congrArg Kept.fuses h
  exact ⟨h1, congrArg Fuses.part h2, (congrArg Fuses.antiRollback h2).ge, fun a ha => by
    have h3 : t.nv.revoked = s.nv.revoked := congrArg Fuses.revoked h2
    rw [h3]; exact ha, (congrArg Fuses.returns h2).ge, fun hw => (congrArg Kept.memWf h).trans hw⟩

theorem State.Onward.refl (s : State) : s.Onward s := .of_kept rfl

theorem State.Onward.trans {s t u : State} (h : s.Onward t) (k : t.Onward u) : s.Onward u :=
  ⟨k.1.trans h.1, k.2.1.trans h.2.1, h.2.2.1.trans k.2.2.1, fun _ ha => k.2.2.2.1 (h.2.2.2.1 ha), h.2.2.2.2.1.trans k.2.2.2.2.1, fun hw => k.2.2.2.2.2 (h.2.2.2.2.2 hw)⟩

theorem State.Onward.foldl {α : Type} (f : State → α → State) (h : ∀ (s : State) (a : α), s.Onward (f s a)) (l : List α) (s : State) :
    s.Onward (l.foldl f s) := by
  induction l generalizing s with
  | nil => exact .refl s
  | cons a l ih => exact (h s a).trans (ih _)

open State (Onward)

/-- What is kept after it is onward too. -/
theorem State.Onward.after {s t u : State} (h : s.Onward t) (k : u.kept = t.kept) : s.Onward u := h.trans (.of_kept k)

/-- What was kept before it is onward too. -/
theorem State.Onward.before {s t u : State} (h : t.Onward u) (k : t.kept = s.kept) : s.Onward u := (Onward.of_kept k).trans h

theorem State.Onward.ite {c : Prop} [Decidable c] {s a b : State} (ha : s.Onward a) (hb : s.Onward b) : s.Onward (if c then a else b) := by
  split
  · exact ha
  · exact hb
/-! ### The words of the DRAM -/
theorem Mem.wf_modChannel (s : State) (i : ℕ) (f : Channel → Channel)
    (h : wordsWf s.mem.fill (s.channel i).words = true → wordsWf s.mem.fill (f (s.channel i)).words = true) (hw : s.mem.wf = true) :
    (s.modChannel i f).mem.wf = true := by
  have hc := h (wordsOk_get hw i)
  refine List.all_eq_true.mpr (fun e he => ?_)
  rcases Tab.mem_set he with rfl | he
  · exact hc
  · exact List.all_eq_true.mp hw e he

/-- A change of a channel that keeps the form of its words. -/
theorem State.modChannel_onward (s : State) (i : ℕ) (f : Channel → Channel)
    (h : wordsWf s.mem.fill (s.channel i).words = true → wordsWf s.mem.fill (f (s.channel i)).words = true) :
    s.Onward (s.modChannel i f) :=
  ⟨rfl, rfl, le_rfl, fun _ ha => ha, le_rfl, Mem.wf_modChannel s i f h⟩

theorem wordsWf_iff {fill : ℕ} {t : Tab ℕ} : wordsWf fill t = true ↔ Tab.Rising t ∧ ∀ e ∈ t, e.2 ≠ eccEncode fill 0 := by
  simp [wordsWf, Tab.Rising]

theorem wordsWf_filter {fill : ℕ} {t : Tab ℕ} (h : wordsWf fill t = true) (p : ℕ × ℕ → Bool) : wordsWf fill (t.filter p) = true := by
  rw [wordsWf_iff] at h ⊢
  exact ⟨Tab.rising_filter h.1 p, fun e he => h.2 e (List.mem_of_mem_filter he)⟩

theorem wordsWf_set {fill w : ℕ} {t : Tab ℕ} (h : wordsWf fill t = true) (i : ℕ) (hw : w ≠ eccEncode fill 0) : wordsWf fill (t.set i w) = true := by
  rw [wordsWf_iff] at h ⊢
  refine ⟨Tab.rising_set h.1 i w, fun e he => ?_⟩
  rcases Tab.mem_set he with rfl | he
  · exact hw
  · exact h.2 e he

/-- A word written. -/
theorem State.putWord_onward (s : State) (ch ca w : ℕ) : s.Onward (s.putWord ch ca w) := by
  refine State.modChannel_onward s ch _ (fun h => ?_)
  dsimp only
  split
  · exact wordsWf_filter h _
  · next hw => exact wordsWf_set h _ hw

/-- A burst written is a word written. -/
theorem State.writeWord_onward (s : State) (ch ca w : ℕ) : s.Onward (s.writeWord ch ca w) :=
  (State.putWord_onward s ch ca w).after (by unfold State.writeWord; simp)

/-- A written word is no unwritten word: W differs. -/
theorem eccEncode_written_ne (a b : ℕ) : eccEncode a 1 ≠ eccEncode b 0 := by
  unfold eccEncode
  generalize checkField a 1 = x
  generalize checkField b 0 = y
  omega

/-- A page replaced by words in their form keeps the form of its channel. -/
theorem wordsWf_putPage {fill slot : ℕ} {l t : Tab ℕ} (h : wordsWf fill t = true) (hl : wordsWf fill l = true) (hb : ∀ e ∈ l, e.1 < 8192) :
    wordsWf fill (putPage slot l t) = true := by
  rw [wordsWf_iff] at h hl ⊢
  unfold putPage
  refine ⟨List.pairwise_append.mpr ⟨h.1.filter _, List.pairwise_append.mpr
    ⟨List.Pairwise.map _ (fun a b hab => Nat.add_lt_add_left hab _) hl.1, h.1.filter _, ?_⟩, ?_⟩, fun e he => ?_⟩
  · intro a ha b hb'
    obtain ⟨x, hx, rfl⟩ := List.mem_map.mp ha
    have := of_decide_eq_true (List.mem_filter.mp hb').2
    have := hb x hx
    dsimp only
    omega
  · intro a ha b hb'
    have := of_decide_eq_true (List.mem_filter.mp ha).2
    rcases List.mem_append.mp hb' with hb' | hb'
    · obtain ⟨x, hx, rfl⟩ := List.mem_map.mp hb'
      dsimp only
      omega
    · have := of_decide_eq_true (List.mem_filter.mp hb').2
      omega
  · rcases List.mem_append.mp he with he | he
    · exact h.2 e (List.mem_of_mem_filter he)
    · rcases List.mem_append.mp he with he | he
      · obtain ⟨x, hx, rfl⟩ := List.mem_map.mp he
        exact hl.2 x hx
      · exact h.2 e (List.mem_of_mem_filter he)

/-- The words that a copy of a page takes are in their form. -/
theorem wordsWf_pageWords {fill : ℕ} {t : Tab ℕ} (slot : ℕ) (h : wordsWf fill t = true) :
    wordsWf fill (pageWords fill slot t) = true ∧ ∀ e ∈ pageWords fill slot t, e.1 < 8192 := by
  rw [wordsWf_iff] at h ⊢
  unfold pageWords
  refine ⟨⟨?_, fun e he => by simpa using (List.mem_filter.mp he).2⟩, fun e he => ?_⟩
  · refine List.Pairwise.filter _ (List.pairwise_map.mpr ?_)
    refine List.Pairwise.imp_of_mem ?_ ((h.1.filter _).filter _)
    intro a b ha hb hab
    have ha' := of_decide_eq_true (List.mem_filter.mp (List.mem_of_mem_filter ha)).2
    have hb' := of_decide_eq_true (List.mem_filter.mp (List.mem_of_mem_filter hb)).2
    dsimp only
    omega
  · obtain ⟨x, _, rfl⟩ := List.mem_map.mp (List.mem_of_mem_filter he)
    exact Nat.mod_lt _ (by decide)

/-- A page replaced where it stands, by words in their form. -/
theorem State.setPage_onward (s : State) (page : ℕ × ℕ) (l : Tab ℕ)
    (hl : s.mem.wf = true → wordsWf s.mem.fill l = true ∧ ∀ e ∈ l, e.1 < 8192) : s.Onward (s.setPage page l) := by
  unfold State.setPage
  dsimp only
  split
  · exact .refl s
  · next ch _ =>
    exact ⟨rfl, rfl, le_rfl, fun _ ha => ha, le_rfl, fun hw => Mem.wf_modChannel s ch _ (fun h => wordsWf_putPage h (hl hw).1 (hl hw).2) hw⟩

theorem State.fillPage_onward (s : State) (gfx : Bool) (e : ℕ × ℕ) : s.Onward (s.fillPage gfx e) := by
  unfold State.fillPage
  refine State.setPage_onward s e _ (fun _ => ?_)
  split
  · rw [wordsWf_iff]
    refine ⟨⟨List.Pairwise.map _ (fun a b hab => hab) List.pairwise_lt_range, fun e he => ?_⟩, fun e he => ?_⟩
    · obtain ⟨i, -, rfl⟩ := List.mem_map.mp he
      exact eccEncode_written_ne _ _
    · obtain ⟨i, hi, rfl⟩ := List.mem_map.mp he
      exact List.mem_range.mp hi
  · exact ⟨rfl, fun e he => absurd he List.not_mem_nil⟩

/-- A page takes the content of its other copy. -/
theorem State.renewPage_onward (s : State) (page : ℕ × ℕ) : s.Onward (s.renewPage page) := by
  unfold State.renewPage
  refine State.setPage_onward s page _ (fun hw => ?_)
  split
  · next e _ =>
    cases s.physical e.1 with
    | none => exact ⟨rfl, fun e he => absurd he List.not_mem_nil⟩
    | some ch => exact wordsWf_pageWords e.2 (wordsOk_get hw ch)
  · exact ⟨rfl, fun e he => absurd he List.not_mem_nil⟩

theorem State.writeCopy_onward (s : State) (page : ℕ × ℕ) (off w : ℕ) : s.Onward (s.writeCopy page off w) := by
  unfold State.writeCopy
  dsimp only
  split
  · exact State.writeWord_onward _ _ _ _
  · exact .of_kept (by simp)

theorem State.writePage_onward (s : State) (page : ℕ × ℕ) (off w : ℕ) : s.Onward (s.writePage page off w) := by
  unfold State.writePage
  split
  · exact (State.writeCopy_onward _ _ _ _).trans (State.writeCopy_onward _ _ _ _)
  · exact State.writeCopy_onward _ _ _ _

/-- What an owner writes keeps the form of the DRAM. -/
theorem State.ownWrite_onward (s : State) (page : ℕ × ℕ) (off w : ℕ) : s.Onward (s.ownWrite page off w) := by
  unfold State.ownWrite
  dsimp only
  have h := (State.writePage_onward s page off w).after (State.watchPage_kept _ page off)
  split
  · exact h.after (State.watchPage_kept _ _ _)
  · exact h

theorem State.ownerPuts_onward (s : State) (owner n : ℕ) (enc : ℕ → ℕ) : s.Onward (s.ownerPuts owner n enc) := by
  unfold State.ownerPuts
  dsimp only
  split
  · exact .refl s
  · exact (Onward.foldl _ (fun s _ => State.ownWrite_onward _ _ _ _) _ _).before (State.draw_kept s)

theorem State.ownerWrites_onward (s : State) (owner : ℕ) : s.Onward (s.ownerWrites owner) := State.ownerPuts_onward _ _ _ _

theorem State.ownerPoisons_onward (s : State) (owner : ℕ) : s.Onward (s.ownerPoisons owner) := State.ownerPuts_onward _ _ _ _

theorem State.writeRegion_onward (s : State) (r : ℕ) (x : LampRegion) : s.Onward (s.writeRegion r x) := by
  unfold State.writeRegion
  exact Onward.foldl _ (fun s _ => Onward.foldl _ (fun s _ => State.ownWrite_onward _ _ _ _) _ s) _ s

theorem State.lampArrived_onward (s : State) (canopy : ℕ) (entries : List (ℕ × ℕ)) : s.Onward (s.lampArrived canopy entries) := by
  unfold State.lampArrived
  split
  · exact .refl s
  · next c _ =>
    dsimp only
    generalize c.lampRegions _ entries = regions
    have h0 : s.Onward (regions.foldl (fun s e => s.writeRegion e.1 e.2) s) := Onward.foldl _ (fun s _ => State.writeRegion_onward _ _ _) _ _
    generalize regions.foldl (fun (s : State) e => s.writeRegion e.1 e.2) s = s0 at h0 ⊢
    refine h0.after ((State.kickLoad_kept _ _).trans ?_)
    repeat' (first | with_reducible rfl | split | intro _ | with_reducible refine (foldl_kept _ ?_ _ _).trans ?_ | with_reducible refine (foldl_pair_kept _ ?_ _ _).trans ?_ | simp [*])

/-! ### Commands that go on here, and the devices that part -/

theorem State.dataVerified_onward (s : State) (b : EpochBuf) : s.Onward (s.dataVerified b) := by
  unfold State.dataVerified
  split
  · exact .refl s
  · exact .ite (.of_kept (by simp)) (.ite (State.lampArrived_onward _ _ _) (.ite (.of_kept (by simp)) (.refl s)))

theorem State.abandonEpochs_onward (s : State) : s.Onward s.abandonEpochs := by
  unfold State.abandonEpochs
  exact (Onward.foldl _ (fun s b => State.dataVerified_onward s b) _ _).before rfl

theorem State.leadAlone_onward (s : State) : s.Onward s.leadAlone := by
  unfold State.leadAlone
  dsimp only
  refine (Onward.trans (.of_kept ?_) (State.abandonEpochs_onward _)).after (State.tryAccepts_kept _)
  repeat' (first | with_reducible rfl | split | intro _ | with_reducible refine (foldl_kept _ ?_ _ _).trans ?_ | with_reducible refine (foldl_pair_kept _ ?_ _ _).trans ?_ | simp [*])

theorem State.leave_onward (s : State) : s.Onward s.leave := by
  unfold State.leave
  dsimp only
  refine .ite (.of_kept (by simp)) ((Onward.trans (.of_kept ?_) (State.abandonEpochs_onward _)).after (State.tryAccepts_kept _))
  repeat' (first | with_reducible rfl | split | intro _ | with_reducible refine (foldl_kept _ ?_ _ _).trans ?_ | with_reducible refine (foldl_pair_kept _ ?_ _ _).trans ?_ | simp [*])

theorem State.formFailed_onward (s : State) (cause : ℕ) : s.Onward (s.formFailed cause) := by
  unfold State.formFailed
  exact (Onward.trans (.of_kept (by simp)) (State.abandonEpochs_onward _)).after (State.tryAccepts_kept _)

theorem State.epochFailed_onward (s : State) (n code : ℕ) : s.Onward (s.epochFailed n code) := by
  unfold State.epochFailed
  dsimp only
  refine .ite (.of_kept (by simp)) (.ite (.of_kept (by simp)) ((State.formFailed_onward _ _).before (by simp)))

theorem effTwinRole_onward (c : Cmd) (s : State) : s.Onward (effTwinRole c s) := by
  unfold effTwinRole
  dsimp only
  split
  · exact .of_kept (by simp)
  · exact .of_kept (by simp)
  · exact (State.leave_onward s).after (by simp)

theorem State.fallBack_onward (s : State) (cause : ℕ) : s.Onward (s.fallBack cause) := by
  unfold State.fallBack
  dsimp only
  refine .ite ((State.leave_onward _).before ?_) (.of_kept ?_) <;> repeat' (first | with_reducible rfl | split | intro _ | with_reducible refine (foldl_kept _ ?_ _ _).trans ?_ | with_reducible refine (foldl_pair_kept _ ?_ _ _).trans ?_ | simp [*])

theorem State.startWarm_onward (s : State) (cause : Option ℕ) : s.Onward (s.startWarm cause) := by
  unfold State.startWarm
  dsimp only
  refine .ite (.refl s) ?_
  have h (x : State) (p0 p1 : ℕ) (k : s.Onward x) : s.Onward { x with power := { x.power with pair0 := p0, pair1 := p1 } } := k.after rfl
  refine h _ _ _ (.ite (.of_kept ?_) (.ite ((State.fallBack_onward _ _).before rfl) (.of_kept rfl)))
  repeat' (first | with_reducible rfl | split | intro _ | with_reducible refine (foldl_kept _ ?_ _ _).trans ?_ | with_reducible refine (foldl_pair_kept _ ?_ _ _).trans ?_ | simp [*])

theorem effWarmReset_onward (c : Cmd) (s : State) : s.Onward (effWarmReset c s) := by
  unfold effWarmReset
  exact (State.startWarm_onward _ _).before (by simp)

/-! ### Fuses, and the effects of commands -/

theorem NonVol.burn_revoked (n : NonVol) (i : Nat) (r : Option Nat) : n.revoked ⊆ (n.burn i r).revoked := fun a ha => by
  simp [NonVol.burn, List.mem_dedup, ha]

theorem State.tryConfirm_onward (s : State) (q : ℕ) : s.Onward (s.tryConfirm q) := by
  unfold State.tryConfirm
  dsimp only
  split
  · refine Onward.trans (t := { s with nv := (s.nv.writeMarker s.upd.fwBank).burn s.upd.fwSecVersion s.upd.stagedRevoke }) ?_ (.of_kept ?_)
    · have h : (s.nv.writeMarker s.upd.fwBank).fuses = s.nv.fuses := writeMarker_fuses _ _
      refine ⟨rfl, congrArg Fuses.part h, ?_, ?_, (congrArg Fuses.returns h).ge, fun hw => hw⟩
      · exact (congrArg Fuses.antiRollback h).ge.trans (le_max_left _ _)
      · have hr : (s.nv.writeMarker s.upd.fwBank).revoked = s.nv.revoked := congrArg Fuses.revoked h
        rw [← hr]; exact NonVol.burn_revoked _ _ _
    · repeat' (first | with_reducible rfl | split | intro _ | with_reducible refine (foldl_kept _ ?_ _ _).trans ?_ | with_reducible refine (foldl_pair_kept _ ?_ _ _).trans ?_ | simp [*])
  · exact .refl s

theorem State.unlessNow_onward {s t : State} (c : Cmd) (bad : Bool) (h : s.Onward t) : s.Onward (s.unlessNow c bad t) := by
  unfold State.unlessNow
  exact .ite (.of_kept (by simp)) h

theorem effUpdateConfirm_onward (c : Cmd) (s : State) : s.Onward (effUpdateConfirm c s) :=
  State.unlessNow_onward _ _ ((State.tryConfirm_onward _ _).before (by simp))

theorem effLifecycleAdvance_onward (c : Cmd) (s : State) : s.Onward (effLifecycleAdvance c s) := by
  refine State.unlessNow_onward _ _ (Onward.trans ?_ (.of_kept (State.ok_kept ..)))
  exact ⟨rfl, rfl, le_rfl, fun _ h => h, le_rfl, fun hw => hw⟩

theorem effReturnAuthorise_onward (c : Cmd) (s : State) : s.Onward (effReturnAuthorise c s) := by
  refine State.unlessNow_onward _ _ (Onward.trans ?_ (.of_kept (State.ok_kept ..)))
  refine ⟨rfl, rfl, le_rfl, fun _ h => h, ?_, fun hw => hw⟩
  dsimp only
  split <;> simp

theorem State.applyOp_onward (c : Cmd) (s : State) : s.Onward (s.applyOp c) := by
  unfold State.applyOp
  split <;> first | exact .refl s | exact .of_kept (by simp) | exact effUpdateConfirm_onward _ _ | exact effTwinRole_onward _ _ | exact effWarmReset_onward _ _ | exact effLifecycleAdvance_onward _ _ | exact effReturnAuthorise_onward _ _

theorem State.applyUpdateData_onward (s : State) (c : Cmd) : s.Onward (s.applyUpdateData c) := by
  unfold State.applyUpdateData
  split
  · exact State.applyOp_onward _ _
  · split
    · exact .of_kept (by simp)
    · exact Onward.trans (.of_kept (by simp)) (State.applyOp_onward _ _)

theorem State.applyData_onward (s : State) (c : Cmd) : s.Onward (s.applyData c) := by
  unfold State.applyData
  split
  · exact .of_kept (by simp)
  · dsimp only
    generalize hs : (s.modCmd c.q c.seq (fun d => { d with phase := .started })) = s1
    have h1 : s1.kept = s.kept := by subst hs; simp
    have h2 (v : List EpochBuf) : State.kept { s1 with twin := { s1.twin with verified := v } } = s.kept := h1
    exact .ite (((State.ownerWrites_onward _ _).before ((State.kickUpload_kept _ _).trans (h2 _))).after (State.uploadArrived_kept _ _ _))
      ((State.lampArrived_onward _ _ _).before ((State.kickLoad_kept _ _).trans (h2 _)))

theorem State.applyWaiting_onward (s : State) (k g : Nat) (all : Bool) : s.Onward (s.applyWaiting k g all) := by
  unfold State.applyWaiting
  refine Onward.foldl _ (fun s c => ?_) _ _
  split
  · exact .refl _
  · split
    · exact State.applyOp_onward _ _
    · exact .refl _

theorem State.regrid_onward (s : State) (k g : Nat) : s.Onward (s.regrid k g) := by
  unfold State.regrid
  dsimp only
  split
  · exact Onward.trans (.of_kept (by simp)) (State.applyWaiting_onward _ _ _ _)
  · exact .of_kept (by simp)

theorem State.clear_onward (s : State) (k g : Nat) : s.Onward (s.clear k g) := by
  unfold State.clear
  dsimp only
  split
  · exact State.regrid_onward _ _ _
  · have h : s.Onward ((s.applyCommits k g).applyWaiting k g false) := Onward.trans (.of_kept (by simp)) (State.applyWaiting_onward _ _ _ _)
    split
    · exact h.trans (State.regrid_onward _ _ _)
    · exact h.trans (.of_kept (by simp))

theorem State.applyStarted_onward (s : State) (c : Cmd) (n : Note) : s.Onward (s.applyStarted c n) := by
  unfold State.applyStarted
  repeat' (first | exact State.applyOp_onward _ _ | exact State.applyUpdateData_onward _ _ | exact State.applyData_onward _ _ | split | exact .of_kept (by simp))

theorem State.applyGood_onward (s : State) (c0 : Cmd) (n : Note) : s.Onward (s.applyGood c0 n) := by
  unfold State.applyGood
  dsimp only
  split
  · refine Onward.trans (Onward.trans (.of_kept ?_) (State.applyStarted_onward _ _ _)) (.of_kept (State.modCmd_kept ..))
    simp
  · refine Onward.trans (.of_kept ?_) (State.applyStarted_onward _ _ _)
    simp

theorem State.applyNote_onward (s : State) (pos : Nat) (n : Note) : s.Onward (s.applyNote pos n) := by
  unfold State.applyNote
  split
  · exact .refl _
  · exact .ite (.ite (.of_kept (by simp)) ((State.applyGood_onward _ _ _).after (State.judgeReplica_kept ..)))
      (.ite (.of_kept (by simp)) (.ite (.of_kept (by simp)) (.ite (.of_kept (by simp)) (.of_kept (by simp)))))

theorem State.applyNotes_onward (n : Nat) (s : State) : s.Onward (s.applyNotes n) := by
  induction n generalizing s with
  | zero => exact .refl _
  | succ n ih =>
    unfold State.applyNotes
    split
    · exact .refl _
    · exact Onward.trans (.of_kept (by simp)) ((State.applyNote_onward _ _ _).trans (ih _))

theorem State.drainNotes_onward (s : State) : s.Onward s.drainNotes := State.applyNotes_onward _ _

theorem State.joinFollower_onward (s : State) (b : EpochBuf) : s.Onward (s.joinFollower b) := by
  unfold State.joinFollower
  dsimp only
  refine Onward.trans (.of_kept ?_) (State.applyNotes_onward _ _)
  repeat' (first | with_reducible rfl | split | intro _ | with_reducible refine (foldl_kept _ ?_ _ _).trans ?_ | with_reducible refine (foldl_pair_kept _ ?_ _ _).trans ?_ | simp [*])

theorem State.applyJoin_onward (s : State) : s.Onward s.applyJoin := by
  unfold State.applyJoin
  refine .ite (.of_kept (State.joinLead_kept s)) ?_
  split
  · exact .refl s
  · exact State.joinFollower_onward _ _

theorem State.becomeLead_onward (s : State) (term : Nat) (lost : Bool) : s.Onward (s.becomeLead term lost) := by
  have h (n : Nat) (l : List (Nat × Note)) : s.Onward (l.foldl (fun s e => s.applyNote e.1 e.2) (s.takeLead term n lost)) :=
    (Onward.of_kept (State.takeLead_kept s term n lost)).trans
      (Onward.foldl (fun (s : State) (e : Nat × Note) => s.applyNote e.1 e.2) (fun s e => State.applyNote_onward s e.1 e.2) _ _)
  exact (h _ _).trans (.of_kept (State.leadNow_kept ..))

theorem State.peerGone_onward (s : State) : s.Onward s.peerGone := by
  unfold State.peerGone
  dsimp only
  split
  · exact ((State.formFailed_onward _ _).before (by simp)).after (State.unmuteAll_kept _)
  · exact .ite (((State.formFailed_onward _ _).before (by simp)).after (State.unmuteAll_kept _)) ((State.leadAlone_onward _).before (by simp))
  · exact Onward.trans (.of_kept (by simp)) (State.becomeLead_onward _ _ _)
  · exact .of_kept (by simp)

theorem State.replayRec_onward (s : State) (r : FlashRec) : s.Onward (s.replayRec r) := by
  unfold State.replayRec
  dsimp only
  split
  · exact .of_kept (by simp)
  · exact Onward.trans (.of_kept (by simp)) (State.applyOp_onward _ _)

theorem State.replay_onward (l : List FlashRec) (s : State) : s.Onward (s.replay l) := by
  induction l generalizing s with
  | nil => exact .refl _
  | cons r l ih =>
    unfold State.replay
    split
    · exact .refl _
    · exact (State.replayRec_onward _ _).trans (ih _)

theorem State.settleUpdate_onward (s : State) : s.Onward s.settleUpdate := by
  unfold State.settleUpdate
  dsimp only
  have h : s.Onward { s with nv := { (if s.upd.fwBank = s.nv.activeBank then s.nv.burn s.upd.fwSecVersion (s.nv.bank s.nv.activeBank).revokeBelow else s.nv) with updAtLoss := 0 } } := by
    split
    · exact ⟨rfl, rfl, le_max_left _ _, NonVol.burn_revoked s.nv s.upd.fwSecVersion _, le_rfl, fun hw => hw⟩
    · exact .of_kept (by simp)
  refine h.trans (.of_kept ?_)
  repeat' (first | with_reducible rfl | split | intro _ | with_reducible refine (foldl_kept _ ?_ _ _).trans ?_ | with_reducible refine (foldl_pair_kept _ ?_ _ _).trans ?_ | simp [*])

theorem State.mergeWrite_onward (s : State) (ch ca : ℕ) (page : Option (ℕ × ℕ)) (mask data : ℕ) (d : Decoded) :
    s.Onward (s.mergeWrite ch ca page mask data d) := by
  unfold State.mergeWrite
  dsimp only
  split
  · exact State.writePage_onward _ _ _ _
  · exact State.writeWord_onward _ _ _ _

theorem State.movePage_onward (base count : ℕ) (s : State) (page : ℕ × ℕ) : s.Onward (State.movePage base count s page) := by
  unfold State.movePage
  dsimp only
  exact .ite ((State.renewPage_onward _ _).before rfl) (.refl s)

theorem State.movePages_onward (s : State) (c : ℕ) : s.Onward (s.movePages c) := by
  unfold State.movePages
  exact (Onward.foldl _ (State.movePage_onward _ _) _ s).trans (Onward.foldl _ (State.movePage_onward _ _) _ _)

theorem State.retireChannel_onward (s : State) (ch cause : ℕ) : s.Onward (s.retireChannel ch cause) := by
  unfold State.retireChannel
  split
  · exact .refl s
  · dsimp only
    have h : s.Onward ((s.serviceFault ch).modChannel ch (fun x => { x with
        retired := true, was := s.logicalOf ch, words := [], debt := [], openRows := [], caFails := [], ueReads := [], ceLanes := [] })) :=
      (State.modChannel_onward (s.serviceFault ch) ch _ (fun _ => rfl)).before (by simp)
    split
    · exact h.after (by simp [-State.modChannel_pending, -State.modChannel_nv])
    · split
      · exact h.after (by simp [-State.modChannel_pending, -State.modChannel_nv])
      · exact Onward.trans (h.after (by simp [-State.modChannel_pending, -State.modChannel_nv])) (State.movePages_onward _ _)

theorem State.trainFail_onward (s : State) (e : ℕ × ℕ) : s.Onward (s.trainFail e) :=
  (State.retireChannel_onward _ _ _).before (by simp)

theorem State.correctable_onward (s : State) (ch ca : ℕ) (d : Decoded) (scrub : Bool) : s.Onward (s.correctable ch ca d scrub) := by
  unfold State.correctable
  dsimp only
  generalize hp : (if s.eccModeAt ch ca = 0 then _ else _ : Bool × State) = p
  have h3 : s.Onward p.2 := by
    subst hp
    split
    · exact .of_kept (by simp)
    · exact .of_kept (by simp)
  generalize (scrub || s.eccModeAt ch ca == 1 || s.eccModeAt ch ca == 2 && !p.1) = back
  have h4 : s.Onward (if back = true then p.2.writeWord ch ca d.word else p.2) :=
    .ite (h3.trans (State.writeWord_onward _ _ _ _)) h3
  have h5 := State.Onward.ite (c := p.1 = true) h4 (h4.after (State.countLanes_kept _ ch d.bits))
  split
  · exact .ite (h5.after (by simp)) h5
  · exact h5

theorem State.fromMirror_onward (s : State) (page : ℕ × ℕ) (off : ℕ) (copy : Option ℕ) : s.Onward (s.fromMirror page off copy) := by
  unfold State.fromMirror
  split
  · exact State.writeCopy_onward _ _ _ _
  · exact .refl s

theorem State.uncorrectable_onward (s : State) (ch ca : ℕ) (d : Decoded) (copy : Option ℕ) (scrub : Bool) :
    s.Onward (s.uncorrectable ch ca d copy scrub) := by
  unfold State.uncorrectable
  dsimp only
  have key (s3 : State) (hk : s3.kept = s.kept) (page : ℕ × ℕ) (l : List (ℕ × ℕ)) (p : Prop) [Decidable p] :
      s.Onward (if p then ((s3.fromMirror page (ca % 65536) copy).modChannel ch (fun x => { x with ueReads := l })).retireChannel ch 2
        else (s3.fromMirror page (ca % 65536) copy).modChannel ch (fun x => { x with ueReads := l })) := by
    have h4 : s.Onward (s3.fromMirror page (ca % 65536) copy) := (State.fromMirror_onward _ _ _ _).before hk
    exact .ite ((h4.after (by simp)).trans (State.retireChannel_onward _ _ _)) (h4.after (by simp))
  exact key _ (by simp) _ _ _

/-- A word that reaches its reader: at most a write of its own follows. -/
theorem State.serveWord_onward (s : State) (ch ca : ℕ) (page : Option (ℕ × ℕ)) (reader : OpName) (word : ℕ) :
    s.Onward (s.serveWord ch ca page reader word) := by
  unfold State.serveWord
  dsimp only
  refine .ite (.of_kept (by simp)) (.ite ((State.mergeWrite_onward _ _ _ _ _ _ _).before (by simp)) ?_)
  split
  · exact .ite (.of_kept (by simp)) (.of_kept (by simp))
  · exact .of_kept (by simp)

theorem State.lateRead_onward (s : State) (ch ca : ℕ) (reader : OpName) : s.Onward (s.lateRead ch ca reader) := by
  unfold State.lateRead
  split
  · exact .refl s
  · exact (State.fromMirror_onward _ _ _ _).trans (State.serveWord_onward _ _ _ _ _ _)

/-- A cold start lists no word. -/
theorem State.coldStart_onward (s : State) (cause held : ℕ) : s.Onward (s.coldStart cause held) := by
  have hf : (s.coldStart cause held).nv.fuses = s.nv.fuses := leaveBehind_fuses s.nv
  refine ⟨rfl, congrArg Fuses.part hf, (congrArg Fuses.antiRollback hf).ge, fun a ha => ?_, (congrArg Fuses.returns hf).ge, fun _ => ?_⟩
  · have hr : (s.coldStart cause held).nv.revoked = s.nv.revoked := congrArg Fuses.revoked hf
    rw [hr]
    exact ha
  · change wordsOk s.keptChannels 0 = true
    simp [wordsOk, State.keptChannels, wordsWf]

theorem State.pairFault_onward (s : State) (cause : ℕ) : s.Onward (s.pairFault cause) := by
  unfold State.pairFault
  split
  · exact .refl s
  · exact .ite ((State.startWarm_onward _ _).before (by simp)) (.ite (by dsimp only; exact .ite (.of_kept (by simp)) (.of_kept (by simp))) (State.coldStart_onward _ _ _))

end Sys2Proof.Machine
end

