-- ==== Sys2Proof/Laws/OnwardExec.lean ====
section
/-!
SUPPORT. The meanings that burn no fuse.
-/
set_option Elab.async false
namespace Sys2Proof.Machine

open Sys2Proof State

theorem need_onward {b : Bool} {s u t : State} (h : need b u = .next t) (k : s.Onward u) : s.Onward t := by
  unfold need at h
  split at h
  · cases h; exact k
  · cases h
theorem execNop_onward (q : ℕ) (seq : ℕ) (s : State) {u' : State} (h : execNop q seq s = .next u') : s.Onward u' :=
  need_onward h (.of_kept (by simp))
theorem execHitch_onward (q : ℕ) (seq : ℕ) (s : State) {u' : State} (h : execHitch q seq s = .next u') : s.Onward u' :=
  need_onward h (.of_kept (by simp))
theorem execGetInfo_onward (q : ℕ) (seq : ℕ) (s : State) {u' : State} (h : execGetInfo q seq s = .next u') : s.Onward u' :=
  need_onward h (.of_kept (by simp))
theorem execResetUnit_onward (q : ℕ) (seq : ℕ) (s : State) {u' : State} (h : execResetUnit q seq s = .next u') : s.Onward u' :=
  need_onward h (.of_kept (by simp))
theorem execSetLoopBounds_onward (q : ℕ) (seq : ℕ) (s : State) {u' : State} (h : execSetLoopBounds q seq s = .next u') : s.Onward u' :=
  need_onward h (.of_kept (by simp))
theorem execDeviceConfig_onward (q : ℕ) (seq : ℕ) (s : State) {u' : State} (h : execDeviceConfig q seq s = .next u') : s.Onward u' :=
  need_onward h (.of_kept (by simp))
theorem execAbort_onward (q : ℕ) (seq : ℕ) (s : State) {u' : State} (h : execAbort q seq s = .next u') : s.Onward u' :=
  need_onward h (.of_kept (by simp))
theorem execQueueConfig_onward (q : ℕ) (seq : ℕ) (s : State) {u' : State} (h : execQueueConfig q seq s = .next u') : s.Onward u' :=
  need_onward h (.of_kept (by simp))
theorem execJournalQuery_onward (q : ℕ) (seq : ℕ) (s : State) {u' : State} (h : execJournalQuery q seq s = .next u') : s.Onward u' :=
  need_onward h (.of_kept (by simp))
theorem execUpdateBegin_onward (q : ℕ) (seq : ℕ) (s : State) {u' : State} (h : execUpdateBegin q seq s = .next u') : s.Onward u' :=
  need_onward h (.of_kept (by simp))
theorem execUpdateData_onward (q : ℕ) (seq : ℕ) (hostData : List Byte) (s : State) {u' : State} (h : execUpdateData q seq hostData s = .next u') : s.Onward u' :=
  need_onward h (.of_kept (by simp))
theorem execUpdateVerify_onward (q : ℕ) (seq : ℕ) (s : State) {u' : State} (h : execUpdateVerify q seq s = .next u') : s.Onward u' :=
  need_onward h (.of_kept (by simp))
theorem execUpdateSchedule_onward (q : ℕ) (seq : ℕ) (s : State) {u' : State} (h : execUpdateSchedule q seq s = .next u') : s.Onward u' :=
  need_onward h (.of_kept (by simp))
theorem execUpdateCancel_onward (q : ℕ) (seq : ℕ) (s : State) {u' : State} (h : execUpdateCancel q seq s = .next u') : s.Onward u' :=
  need_onward h (.of_kept (by simp))
theorem execOwnerLock_onward (q : ℕ) (seq : ℕ) (s : State) {u' : State} (h : execOwnerLock q seq s = .next u') : s.Onward u' :=
  need_onward h (.of_kept (by simp))
theorem execFlowRxOpen_onward (q : ℕ) (seq : ℕ) (s : State) {u' : State} (h : execFlowRxOpen q seq s = .next u') : s.Onward u' :=
  need_onward h (.of_kept (by simp))
theorem execFlowRxClose_onward (q : ℕ) (seq : ℕ) (s : State) {u' : State} (h : execFlowRxClose q seq s = .next u') : s.Onward u' :=
  need_onward h (.of_kept (by simp))
theorem execBraidConfig_onward (q : ℕ) (seq : ℕ) (s : State) {u' : State} (h : execBraidConfig q seq s = .next u') : s.Onward u' :=
  need_onward h (.of_kept (by simp))
theorem execBraidLoopback_onward (q : ℕ) (seq : ℕ) (s : State) {u' : State} (h : execBraidLoopback q seq s = .next u') : s.Onward u' :=
  need_onward h (.of_kept (by simp))
theorem execBraidRestrand_onward (q : ℕ) (seq : ℕ) (s : State) {u' : State} (h : execBraidRestrand q seq s = .next u') : s.Onward u' :=
  need_onward h (.of_kept (by simp))
theorem execSourceBind_onward (q : ℕ) (seq : ℕ) (s : State) {u' : State} (h : execSourceBind q seq s = .next u') : s.Onward u' :=
  need_onward h (.of_kept (by simp))
theorem execPolicerSet_onward (q : ℕ) (seq : ℕ) (s : State) {u' : State} (h : execPolicerSet q seq s = .next u') : s.Onward u' :=
  need_onward h (.of_kept (by simp))
theorem execPacketArrival_onward (t : ℕ) (p : RxPkt) (s : State) {u' : State} (h : execPacketArrival t p s = .next u') : s.Onward u' := by
  refine need_onward h ?_
  dsimp only
  refine .ite (.of_kept (by simp)) (.ite (.of_kept (by simp)) (.ite (.of_kept (by simp)) ?_))
  split
  · exact .of_kept (by simp)
  · next i leg _ =>
    have h2 (f : RxFlow → RxFlow) (o : ℕ) : s.Onward ((((s.at32 t).happen 513 [] (4 * p.port + p.sub) 0 1).modRx i f).ownerWrites o) :=
      (State.ownerWrites_onward _ _).before (by simp)
    exact .ite (.ite ((h2 _ _).after (State.raise_kept ..)) (h2 _ _))
      (Onward.after (.ite ((h2 _ _).after (State.raise_kept ..)) (h2 _ _)) (State.chainFail_kept ..))
theorem execLegDown_onward (flow : ℕ) (leg : ℕ) (s : State) {u' : State} (h : execLegDown flow leg s = .next u') : s.Onward u' :=
  need_onward h (.of_kept (by repeat' (first | simp | split)))
theorem execLineDeadline_onward (flow : ℕ) (s : State) {u' : State} (h : execLineDeadline flow s = .next u') : s.Onward u' :=
  need_onward h (.of_kept (by repeat' (first | simp | split)))
/-- Blocks of a braid may be stored. -/
theorem State.takeBlock_onward (s : State) (braid : ℕ) (bytes : List Byte) : s.Onward (s.takeBlock braid bytes) := by
  unfold State.takeBlock
  split
  · exact .refl s
  · refine .ite (.of_kept (State.frameStart_kept ..)) (.ite ?_ (.refl s))
    split
    · exact .refl s
    · exact .of_kept (State.modRx_kept ..)
    · exact .of_kept (State.modRx_kept ..)
    · exact (State.ownerWrites_onward _ _).before (State.modRx_kept ..)

theorem State.takeRow_onward (s : State) (braid : ℕ) (blocks : List RxBlock) (b : Braid) : s.Onward (s.takeRow braid blocks b) := by
  unfold State.takeRow
  dsimp only
  generalize b.lostOf braid blocks = lost
  generalize b.rebuiltOf braid blocks = rebuilt
  generalize b.canRebuild braid blocks = can
  have h4 : s.Onward ((List.range (dataStrands braid)).foldl (fun s i =>
      if (!lost.contains i) = true then s.takeBlock braid (rowBlock blocks i).bytes
      else if can = true then (s.takeBlock braid rebuilt).countBlock braid rebuilt .rebuilt
      else s.countBlock braid (rowBlock blocks i).bytes .lost) s) :=
    Onward.foldl _ (fun s i => .ite (State.takeBlock_onward ..) (.ite ((State.takeBlock_onward ..).after (State.countBlock_kept ..))
      (.of_kept (State.countBlock_kept ..)))) _ _
  generalize List.foldl _ s _ = s4 at h4 ⊢
  refine h4.after ((State.judgeStrands_kept _ _).trans ?_)
  repeat' (first | with_reducible rfl | split | simp)

theorem State.blockRow_onward (s : State) (braid : ℕ) (blocks : List YBlock) : s.Onward (s.blockRow braid blocks) := by
  unfold State.blockRow
  dsimp only
  refine .ite (.refl s) (.ite (.of_kept ((State.tryLock_kept ..).trans ((State.noteRow_kept ..).trans ?_)))
    ((State.takeRow_onward ..).before ((State.noteRow_kept ..).trans ?_))) <;> (split <;> simp)
theorem execAlignmentMarker_onward (braid : ℕ) (strand : ℕ) (header : ℕ) (payload : ℕ) (skew : ℕ) (s : State) {u' : State} (h : execAlignmentMarker braid strand header payload skew s = .next u') : s.Onward u' :=
  need_onward h (.of_kept (by dsimp only; split <;> simp))
theorem execClockStrandLost_onward (braid : ℕ) (s : State) {u' : State} (h : execClockStrandLost braid s = .next u') : s.Onward u' :=
  need_onward h (.of_kept (by simp))
theorem execBraidLockFail_onward (braid : ℕ) (s : State) {u' : State} (h : execBraidLockFail braid s = .next u') : s.Onward u' :=
  need_onward h (.of_kept (by simp))
theorem execRestoreTimeout_onward (braid : ℕ) (s : State) {u' : State} (h : execRestoreTimeout braid s = .next u') : s.Onward u' :=
  need_onward h (.of_kept (by split <;> simp))
theorem execLoopbackEnd_onward (braid : ℕ) (errors : List ℕ) (s : State) {u' : State} (h : execLoopbackEnd braid errors s = .next u') : s.Onward u' :=
  need_onward h (.of_kept (by repeat' (first | simp | split)))
theorem execCodeWordLock_onward (braid : ℕ) (strand : ℕ) (locked : Bool) (s : State) {u' : State} (h : execCodeWordLock braid strand locked s = .next u') : s.Onward u' :=
  need_onward h (.of_kept (by simp))
theorem execFrameDeadline_onward (flow : ℕ) (s : State) {u' : State} (h : execFrameDeadline flow s = .next u') : s.Onward u' :=
  need_onward h (.of_kept (by simp))
theorem execCanopyConfig_onward (q : ℕ) (seq : ℕ) (s : State) {u' : State} (h : execCanopyConfig q seq s = .next u') : s.Onward u' :=
  need_onward h (.of_kept (by simp))
theorem execLayerSet_onward (q : ℕ) (seq : ℕ) (s : State) {u' : State} (h : execLayerSet q seq s = .next u') : s.Onward u' :=
  need_onward h (.of_kept (by simp))
theorem execLayerUpload_onward (q : ℕ) (seq : ℕ) (s : State) {u' : State} (h : execLayerUpload q seq s = .next u') : s.Onward u' :=
  need_onward h (.of_kept (by simp))
theorem execUploadComplete_onward (layer : ℕ) (data : List Byte) (s : State) {u' : State} (h : execUploadComplete layer data s = .next u') : s.Onward u' := by
  refine need_onward h ?_
  split
  · exact .refl s
  · exact .ite ((State.ownerWrites_onward _ _).after (State.dataEpoch_kept ..)) ((State.ownerWrites_onward _ _).after (State.uploadArrived_kept ..))
theorem execCommit_onward (q : ℕ) (seq : ℕ) (s : State) {u' : State} (h : execCommit q seq s = .next u') : s.Onward u' :=
  need_onward h (.of_kept (by simp))
theorem execCommitArm_onward (q : ℕ) (seq : ℕ) (s : State) {u' : State} (h : execCommitArm q seq s = .next u') : s.Onward u' :=
  need_onward h (.of_kept (by split <;> simp))
theorem execLampTableLoad_onward (q : ℕ) (seq : ℕ) (s : State) {u' : State} (h : execLampTableLoad q seq s = .next u') : s.Onward u' :=
  need_onward h (.of_kept (by simp))
theorem execLampLoadComplete_onward (canopy : ℕ) (entries : List (ℕ × ℕ)) (s : State) {u' : State} (h : execLampLoadComplete canopy entries s = .next u') : s.Onward u' :=
  need_onward h (by
    split
    · exact .refl s
    · exact .ite (.of_kept (by simp)) (State.lampArrived_onward _ _ _))
theorem execWallTiling_onward (q : ℕ) (seq : ℕ) (s : State) {u' : State} (h : execWallTiling q seq s = .next u') : s.Onward u' :=
  need_onward h (.of_kept (by simp))
theorem execScalerCoefs_onward (q : ℕ) (seq : ℕ) (s : State) {u' : State} (h : execScalerCoefs q seq s = .next u') : s.Onward u' :=
  need_onward h (.of_kept (by simp))
theorem execSourceStatus_onward (q : ℕ) (seq : ℕ) (s : State) {u' : State} (h : execSourceStatus q seq s = .next u') : s.Onward u' :=
  need_onward h (.of_kept (by simp))
theorem execProgramConfig_onward (q : ℕ) (seq : ℕ) (s : State) {u' : State} (h : execProgramConfig q seq s = .next u') : s.Onward u' :=
  need_onward h (.of_kept (by simp))
theorem execProgramStart_onward (q : ℕ) (seq : ℕ) (s : State) {u' : State} (h : execProgramStart q seq s = .next u') : s.Onward u' :=
  need_onward h (.of_kept (by simp))
theorem execProgramStop_onward (q : ℕ) (seq : ℕ) (s : State) {u' : State} (h : execProgramStop q seq s = .next u') : s.Onward u' :=
  need_onward h (.of_kept (by simp))
theorem execForceRefresh_onward (q : ℕ) (seq : ℕ) (s : State) {u' : State} (h : execForceRefresh q seq s = .next u') : s.Onward u' :=
  need_onward h (.of_kept (by simp))
theorem execSubpicMap_onward (q : ℕ) (seq : ℕ) (s : State) {u' : State} (h : execSubpicMap q seq s = .next u') : s.Onward u' :=
  need_onward h (.of_kept (by simp))
theorem execRateConfig_onward (q : ℕ) (seq : ℕ) (s : State) {u' : State} (h : execRateConfig q seq s = .next u') : s.Onward u' :=
  need_onward h (.of_kept (by simp))
theorem execRateBounds_onward (q : ℕ) (seq : ℕ) (s : State) {u' : State} (h : execRateBounds q seq s = .next u') : s.Onward u' :=
  need_onward h (.of_kept (by simp))
theorem execRateStatus_onward (q : ℕ) (seq : ℕ) (s : State) {u' : State} (h : execRateStatus q seq s = .next u') : s.Onward u' :=
  need_onward h (.of_kept (by simp))
theorem execLaunchPolicy_onward (q : ℕ) (seq : ℕ) (s : State) {u' : State} (h : execLaunchPolicy q seq s = .next u') : s.Onward u' :=
  need_onward h (.of_kept (by simp))
theorem execFrameBudget_onward (prog : ℕ) (pic : ℕ) (s : State) {u' : State} (h : execFrameBudget prog pic s = .next u') : s.Onward u' :=
  need_onward h (.of_kept (by simp))
theorem execRowDecision_onward (prog : ℕ) (pic : ℕ) (row : ℕ) (s : State) {u' : State} (h : execRowDecision prog pic row s = .next u') : s.Onward u' :=
  need_onward h (.of_kept (by simp))
theorem execRowCrc_onward (payload : List Byte) (s : State) {u' : State} (h : execRowCrc payload s = .next u') : s.Onward u' :=
  need_onward h (.of_kept (by simp))
theorem execGateAllowanceEnd_onward (prog : ℕ) (pic : ℕ) (row : ℕ) (s : State) {u' : State} (h : execGateAllowanceEnd prog pic row s = .next u') : s.Onward u' :=
  need_onward h (.of_kept (by repeat' (first | simp | split)))
theorem execDispatch_onward (op : OpName) (s : State) {u' : State} (h : execDispatch op s = .next u') : s.Onward u' :=
  need_onward h (.of_kept (by split <;> simp))
theorem execPreempt_onward (op : OpName) (s : State) {u' : State} (h : execPreempt op s = .next u') : s.Onward u' :=
  need_onward h (.of_kept (by split <;> simp))
theorem execPromote_onward (op : OpName) (s : State) {u' : State} (h : execPromote op s = .next u') : s.Onward u' :=
  need_onward h (.of_kept (by split <;> simp))
theorem execAckTimeout_onward (unit : ℕ) (s : State) {u' : State} (h : execAckTimeout unit s = .next u') : s.Onward u' :=
  need_onward h (.of_kept (by simp))
theorem execProgressReport_onward (unit : ℕ) (s : State) {u' : State} (h : execProgressReport unit s = .next u') : s.Onward u' :=
  need_onward h (.of_kept (by simp))
theorem execProgressWatchdog_onward (unit : ℕ) (s : State) {u' : State} (h : execProgressWatchdog unit s = .next u') : s.Onward u' :=
  need_onward h (.of_kept (by simp))
theorem execUnitInternalError_onward (unit : ℕ) (s : State) {u' : State} (h : execUnitInternalError unit s = .next u') : s.Onward u' :=
  need_onward h (.ite (.refl s) (by
    dsimp only
    split
    · exact (State.ownerPoisons_onward s _).after ((State.unitFault_kept ..).trans (State.chainFail_kept ..))
    · exact .of_kept (by simp)))
theorem execUnitSelfTestDone_onward (unit : ℕ) (passed : Bool) (s : State) {u' : State} (h : execUnitSelfTestDone unit passed s = .next u') : s.Onward u' :=
  need_onward h (.of_kept (by simp))
theorem execCtuComplete_onward (unit : ℕ) (s : State) {u' : State} (h : execCtuComplete unit s = .next u') : s.Onward u' :=
  need_onward h (.of_kept (by repeat' (first | simp | split)))
theorem State.takeCompletion_onward (s : State) (u : ℕ) : s.Onward (s.takeCompletion u) := by
  unfold State.takeCompletion
  split
  · exact .refl s
  · next k _ =>
    split
    · exact .of_kept (State.freeUnit_kept ..)
    · next o _ =>
      dsimp only
      refine .ite (.refl s) ?_
      have hk (p : Prop) [Decidable p] :
          (if p then ((s.traceUnit 4 k u).traceUnit 10 k u).happen 0x0105 [progId k.prog] 0 0 1 else s.traceUnit 4 k u).kept = s.kept := by
        split
        · exact (State.happen_kept ..).trans ((State.traceUnit_kept ..).trans (State.traceUnit_kept ..))
        · exact State.traceUnit_kept ..
      replace hk := hk (s.deadline k < s.now)
      generalize (if s.deadline k < s.now then ((s.traceUnit 4 k u).traceUnit 10 k u).happen 0x0105 [progId k.prog] 0 0 1
        else s.traceUnit 4 k u) = s1 at hk ⊢
      have h3 : s.Onward ((((s1.freeUnit u).operationDone k o).ownerWrites (progId k.prog)).reconWritten k) :=
        ((State.ownerWrites_onward _ _).before ((State.operationDone_kept ..).trans ((State.freeUnit_kept ..).trans hk))).after
          (State.reconWritten_kept ..)
      have key (x : State) (hx : s.Onward x) : s.Onward (if (x.unit u).cmd.isSome = true then x.moveToSpare u none else x) :=
        .ite (hx.after (State.moveToSpare_kept x u none)) hx
      exact key _ h3
theorem execOperationComplete_onward (unit : ℕ) (s : State) {u' : State} (h : execOperationComplete unit s = .next u') : s.Onward u' :=
  need_onward h (.ite (.of_kept (by split <;> simp)) (State.takeCompletion_onward ..))
theorem execDispatcherLockstepMismatch_onward (s : State) {u' : State} (h : execDispatcherLockstepMismatch s = .next u') : s.Onward u' :=
  need_onward h (.of_kept (by simp))
theorem execDispatcherRestartEnd_onward (s : State) {u' : State} (h : execDispatcherRestartEnd s = .next u') : s.Onward u' :=
  need_onward h (.ite ((Onward.foldl (fun s u => s.takeCompletion u) State.takeCompletion_onward _ _).before (by simp)) (.refl s))
theorem execLaunchTime_onward (prog : ℕ) (pic : ℕ) (s : State) {u' : State} (h : execLaunchTime prog pic s = .next u') : s.Onward u' :=
  need_onward h (.of_kept (by split <;> simp))
theorem execFlowTxOpen_onward (q : ℕ) (seq : ℕ) (s : State) {u' : State} (h : execFlowTxOpen q seq s = .next u') : s.Onward u' :=
  need_onward h (.of_kept (by simp))
theorem execFlowTxClose_onward (q : ℕ) (seq : ℕ) (s : State) {u' : State} (h : execFlowTxClose q seq s = .next u') : s.Onward u' :=
  need_onward h (.of_kept (by simp))
theorem execShaperSet_onward (q : ℕ) (seq : ℕ) (s : State) {u' : State} (h : execShaperSet q seq s = .next u') : s.Onward u' :=
  need_onward h (.of_kept (by simp))
theorem execSchedClassSet_onward (q : ℕ) (seq : ℕ) (s : State) {u' : State} (h : execSchedClassSet q seq s = .next u') : s.Onward u' :=
  need_onward h (.of_kept (by simp))
theorem execShaperEligible_onward (flow : ℕ) (leg : ℕ) (t : ℕ) (s : State) {u' : State} (h : execShaperEligible flow leg t s = .next u') : s.Onward u' :=
  need_onward h (.of_kept (by repeat' (first | simp | split)))
theorem execWireIdle_onward (port : ℕ) (sub : ℕ) (t : ℕ) (s : State) {u' : State} (h : execWireIdle port sub t s = .next u') : s.Onward u' :=
  need_onward h (.of_kept (by simp))
theorem execPacketEnd_onward (port : ℕ) (sub : ℕ) (internalOk : Bool) (s : State) {u' : State} (h : execPacketEnd port sub internalOk s = .next u') : s.Onward u' :=
  need_onward h (.of_kept (by simp))
theorem execBeTimeout_onward (port : ℕ) (sub : ℕ) (queue : ℕ) (s : State) {u' : State} (h : execBeTimeout port sub queue s = .next u') : s.Onward u' :=
  need_onward h (.of_kept (by repeat' (first | simp | split)))
theorem execLinkDown_onward (port : ℕ) (sub : ℕ) (s : State) {u' : State} (h : execLinkDown port sub s = .next u') : s.Onward u' :=
  need_onward h (.of_kept (by simp))
theorem execLinkUp_onward (port : ℕ) (sub : ℕ) (s : State) {u' : State} (h : execLinkUp port sub s = .next u') : s.Onward u' :=
  need_onward h (.of_kept (by simp))
theorem execTimebaseConfig_onward (q : ℕ) (seq : ℕ) (s : State) {u' : State} (h : execTimebaseConfig q seq s = .next u') : s.Onward u' :=
  need_onward h (.of_kept (by simp))
theorem execTimebaseAdjust_onward (q : ℕ) (seq : ℕ) (s : State) {u' : State} (h : execTimebaseAdjust q seq s = .next u') : s.Onward u' :=
  need_onward h (.of_kept (by simp))
theorem execSlewComplete_onward (tb : ℕ) (s : State) {u' : State} (h : execSlewComplete tb s = .next u') : s.Onward u' :=
  need_onward h (.of_kept (by split <;> simp))
theorem execCaptureArm_onward (q : ℕ) (seq : ℕ) (s : State) {u' : State} (h : execCaptureArm q seq s = .next u') : s.Onward u' :=
  need_onward h (.of_kept (by simp))
theorem execCaptureEvent_onward (tb : ℕ) (source : ℕ) (flow : ℕ) (s : State) {u' : State} (h : execCaptureEvent tb source flow s = .next u') : s.Onward u' :=
  need_onward h (.of_kept (by split <;> simp))
theorem execTimeBaseWrap_onward (tb : ℕ) (s : State) {u' : State} (h : execTimeBaseWrap tb s = .next u') : s.Onward u' :=
  need_onward h (.of_kept (by simp))
theorem execPtpSync_onward (tb : ℕ) (x : Sync) (s : State) {u' : State} (h : execPtpSync tb x s = .next u') : s.Onward u' :=
  need_onward h (.of_kept (by simp))
theorem execPtpAnnounce_onward (tb : ℕ) (x : Announce) (s : State) {u' : State} (h : execPtpAnnounce tb x s = .next u') : s.Onward u' :=
  need_onward h (.of_kept (by simp))
theorem execSyncTimeout_onward (tb : ℕ) (s : State) {u' : State} (h : execSyncTimeout tb s = .next u') : s.Onward u' :=
  need_onward h (.of_kept (by simp))
theorem execPpsInEdge_onward (t : ℕ) (s : State) {u' : State} (h : execPpsInEdge t s = .next u') : s.Onward u' :=
  need_onward h (.of_kept (by simp))
theorem execPpsEdgeTimeout_onward (tb : ℕ) (s : State) {u' : State} (h : execPpsEdgeTimeout tb s = .next u') : s.Onward u' :=
  need_onward h (.of_kept (by simp))
theorem execPpsOutRise_onward (tb : ℕ) (s : State) {u' : State} (h : execPpsOutRise tb s = .next u') : s.Onward u' :=
  need_onward h (.of_kept (by simp))
theorem execPpsOutFall_onward (tb : ℕ) (s : State) {u' : State} (h : execPpsOutFall tb s = .next u') : s.Onward u' :=
  need_onward h (.of_kept (by simp))
theorem execMemPolicy_onward (q : ℕ) (seq : ℕ) (s : State) {u' : State} (h : execMemPolicy q seq s = .next u') : s.Onward u' :=
  need_onward h (.of_kept (by simp))
theorem execMemRetrain_onward (q : ℕ) (seq : ℕ) (s : State) {u' : State} (h : execMemRetrain q seq s = .next u') : s.Onward u' :=
  need_onward h (.of_kept (by simp))
theorem execMemFreq_onward (q : ℕ) (seq : ℕ) (s : State) {u' : State} (h : execMemFreq q seq s = .next u') : s.Onward u' :=
  need_onward h (.of_kept (by simp))
theorem execEccMode_onward (q : ℕ) (seq : ℕ) (s : State) {u' : State} (h : execEccMode q seq s = .next u') : s.Onward u' :=
  need_onward h (.of_kept (by simp))
theorem execScrubConfig_onward (q : ℕ) (seq : ℕ) (s : State) {u' : State} (h : execScrubConfig q seq s = .next u') : s.Onward u' :=
  need_onward h (.of_kept (by simp))
theorem execEccLogRead_onward (q : ℕ) (seq : ℕ) (s : State) {u' : State} (h : execEccLogRead q seq s = .next u') : s.Onward u' :=
  need_onward h (.of_kept (by simp))
theorem execEccTest_onward (q : ℕ) (seq : ℕ) (s : State) {u' : State} (h : execEccTest q seq s = .next u') : s.Onward u' :=
  need_onward h (.of_kept (by simp))
theorem execEctGo_onward (value : ℕ) (s : State) {u' : State} (h : execEctGo value s = .next u') : s.Onward u' :=
  need_onward h (.of_kept (by simp))
theorem execEccTestDone_onward (s : State) {u' : State} (h : execEccTestDone s = .next u') : s.Onward u' :=
  need_onward h (.of_kept (by split <;> simp [-State.modChannel_pending, -State.modChannel_nv]))
theorem execRefreshDue_onward (stack : ℕ) (channel : ℕ) (group : ℕ) (idle : Bool) (s : State) {u' : State} (h : execRefreshDue stack channel group idle s = .next u') : s.Onward u' :=
  need_onward h (.of_kept (by simp [-State.modChannel_pending, -State.modChannel_nv]))
theorem execDramTempReading_onward (stack : ℕ) (temp : ℤ) (s : State) {u' : State} (h : execDramTempReading stack temp s = .next u') : s.Onward u' :=
  need_onward h (.of_kept (by simp))
theorem execEyeTracking_onward (channel : ℕ) (eye : EyeScan) (s : State) {u' : State} (h : execEyeTracking channel eye s = .next u') : s.Onward u' :=
  need_onward h (.ite (.of_kept (by
    have hk : (s.modChannel channel (fun x => x.track eye)).kept = s.kept := State.modChannel_kept _ _ _ (fun _ => rfl)
    dsimp only
    split
    · exact (State.autoRetrain_kept ..).trans hk
    · exact hk)) (.refl s))
theorem execMemRateSwitch_onward (stack : ℕ) (s : State) {u' : State} (h : execMemRateSwitch stack s = .next u') : s.Onward u' :=
  need_onward h (.of_kept (by split <;> simp))
theorem execMirrorCopyComplete_onward (channel : ℕ) (s : State) {u' : State} (h : execMirrorCopyComplete channel s = .next u') : s.Onward u' :=
  need_onward h (.ite ((Onward.foldl State.renewPage State.renewPage_onward _ s).after (State.unpermit_kept ..)) (.refl s))
theorem execPageIdleExpiry_onward (channel : ℕ) (bank : ℕ) (s : State) {u' : State} (h : execPageIdleExpiry channel bank s = .next u') : s.Onward u' :=
  need_onward h (.of_kept (by split <;> simp))
theorem execCvConfig_onward (q : ℕ) (seq : ℕ) (s : State) {u' : State} (h : execCvConfig q seq s = .next u') : s.Onward u' :=
  need_onward h (.of_kept (by simp))
theorem execCvDramTapEnd_onward (unit : ℕ) (s : State) {u' : State} (h : execCvDramTapEnd unit s = .next u') : s.Onward u' :=
  need_onward h (.of_kept (by simp))
theorem execCvContext_onward (q : ℕ) (seq : ℕ) (s : State) {u' : State} (h : execCvContext q seq s = .next u') : s.Onward u' :=
  need_onward h (.of_kept (by simp))
theorem execAudioPortConfig_onward (q : ℕ) (seq : ℕ) (s : State) {u' : State} (h : execAudioPortConfig q seq s = .next u') : s.Onward u' :=
  need_onward h (.of_kept (by simp))
theorem execAudioRoute_onward (q : ℕ) (seq : ℕ) (s : State) {u' : State} (h : execAudioRoute q seq s = .next u') : s.Onward u' :=
  need_onward h (.of_kept (by simp))
theorem execAudioStatus_onward (q : ℕ) (seq : ℕ) (s : State) {u' : State} (h : execAudioStatus q seq s = .next u') : s.Onward u' :=
  need_onward h (.of_kept (by simp))
theorem execSubframe_onward (input : ℕ) (channel : ℕ) (t : ℕ) (sample : ℤ) (error : Bool) (s : State) {u' : State} (h : execSubframe input channel t sample error s = .next u') : s.Onward u' :=
  need_onward h (.of_kept (by simp))
theorem execPreambleTimeout_onward (input : ℕ) (s : State) {u' : State} (h : execPreambleTimeout input s = .next u') : s.Onward u' :=
  need_onward h (.of_kept (by repeat' (first | simp | split)))
theorem execChannelStatusBlock_onward (input : ℕ) (channel : ℕ) (bytes : List Byte) (user : List Byte) (s : State) {u' : State} (h : execChannelStatusBlock input channel bytes user s = .next u') : s.Onward u' :=
  need_onward h (.of_kept (by simp))
theorem execMeasurementWindowEnd_onward (input : ℕ) (mclkHz : ℕ) (s : State) {u' : State} (h : execMeasurementWindowEnd input mclkHz s = .next u') : s.Onward u' :=
  need_onward h (.of_kept (by
    rw [kept_ite]; split
    · rfl
    · generalize (if input = 8 then mclkHz else _) = hz
      simp))
theorem execRampEnd_onward (dest : ℕ) (s : State) {u' : State} (h : execRampEnd dest s = .next u') : s.Onward u' :=
  need_onward h (.of_kept (by repeat' (first | simp [-State.audioIn_modRoute] | split)))
theorem execAes3StartBlock_onward (output : ℕ) (s : State) {u' : State} (h : execAes3StartBlock output s = .next u') : s.Onward u' :=
  need_onward h (.of_kept (by simp))
theorem execAes3StopBlockEnd_onward (output : ℕ) (s : State) {u' : State} (h : execAes3StopBlockEnd output s = .next u') : s.Onward u' :=
  need_onward h (.of_kept (by simp))
theorem execPdmWarmUpEnd_onward (pair : ℕ) (s : State) {u' : State} (h : execPdmWarmUpEnd pair s = .next u') : s.Onward u' :=
  need_onward h (.of_kept (by simp))
theorem execAudioSlip_onward (object : ℕ) (fill : ℕ) (s : State) {u' : State} (h : execAudioSlip object fill s = .next u') : s.Onward u' :=
  need_onward h (.of_kept (by simp))
theorem execAudioClockAsync_onward (ppb : ℤ) (s : State) {u' : State} (h : execAudioClockAsync ppb s = .next u') : s.Onward u' :=
  need_onward h (.of_kept (by simp))
theorem execAudioPlayInstant_onward (flow : ℕ) (k : ℕ) (s : State) {u' : State} (h : execAudioPlayInstant flow k s = .next u') : s.Onward u' :=
  need_onward h (.of_kept (by simp))
theorem execAudioPacketFormed_onward (flow : ℕ) (s : State) {u' : State} (h : execAudioPacketFormed flow s = .next u') : s.Onward u' :=
  need_onward h (.of_kept (by simp))
theorem execTwinConfig_onward (q : ℕ) (seq : ℕ) (s : State) {u' : State} (h : execTwinConfig q seq s = .next u') : s.Onward u' :=
  need_onward h (.of_kept (by simp))
theorem execTwinStatus_onward (q : ℕ) (seq : ℕ) (s : State) {u' : State} (h : execTwinStatus q seq s = .next u') : s.Onward u' :=
  need_onward h (.of_kept (by simp))
theorem execSplice_onward (q : ℕ) (seq : ℕ) (s : State) {u' : State} (h : execSplice q seq s = .next u') : s.Onward u' :=
  need_onward h (.of_kept (by simp))
theorem execVerificationResult_onward (readBackOk : Bool) (s : State) {u' : State} (h : execVerificationResult readBackOk s = .next u') : s.Onward u' :=
  need_onward h (.of_kept (by simp))
theorem execStagingComplete_onward (s : State) {u' : State} (h : execStagingComplete s = .next u') : s.Onward u' :=
  need_onward h (.of_kept (by simp))
theorem execActivation_onward (s : State) {u' : State} (h : execActivation s = .next u') : s.Onward u' :=
  need_onward h (.ite (.refl s) (by
    dsimp only
    exact .ite (.of_kept (by simp)) ((State.leave_onward _).before (by simp))))
theorem execConfirmWindowExpiry_onward (s : State) {u' : State} (h : execConfirmWindowExpiry s = .next u') : s.Onward u' :=
  need_onward h (.of_kept (by simp))
theorem execFallbackInstant_onward (s : State) {u' : State} (h : execFallbackInstant s = .next u') : s.Onward u' :=
  need_onward h (by
    split
    · exact .refl s
    · exact ((State.fallBack_onward _ _).before (State.reach_kept ..)).after (State.completeOpt_kept ..))
theorem execOldPairRestartDone_onward (s : State) {u' : State} (h : execOldPairRestartDone s = .next u') : s.Onward u' :=
  need_onward h (.of_kept (by simp))
theorem execStandbyPairRestored_onward (s : State) {u' : State} (h : execStandbyPairRestored s = .next u') : s.Onward u' :=
  need_onward h (.of_kept (by split <;> simp))
theorem execFlashWriteEnd_onward (readBackOk : Bool) (s : State) {u' : State} (h : execFlashWriteEnd readBackOk s = .next u') : s.Onward u' :=
  need_onward h (.of_kept (by repeat' (first | simp | split)))
theorem execRecGo_onward (value : ℕ) (s : State) {u' : State} (h : execRecGo value s = .next u') : s.Onward u' :=
  need_onward h (.of_kept (by simp))
theorem execWarmNAssert_onward (s : State) {u' : State} (h : execWarmNAssert s = .next u') : s.Onward u' :=
  need_onward h (State.startWarm_onward _ _)
theorem execWarmResetEnd_onward (s : State) {u' : State} (h : execWarmResetEnd s = .next u') : s.Onward u' :=
  need_onward h (.of_kept (by simp))
theorem execPairSelfTestDone_onward (passed : Bool) (s : State) {u' : State} (h : execPairSelfTestDone passed s = .next u') : s.Onward u' :=
  need_onward h (.of_kept (by split <;> simp))
theorem execSramParityError_onward (unit : ℕ) (second : Bool) (s : State) {u' : State} (h : execSramParityError unit second s = .next u') : s.Onward u' :=
  need_onward h (.of_kept (by simp))
theorem execPowerBudget_onward (q : ℕ) (seq : ℕ) (s : State) {u' : State} (h : execPowerBudget q seq s = .next u') : s.Onward u' :=
  need_onward h (.of_kept (by simp))
theorem execPermitStatus_onward (q : ℕ) (seq : ℕ) (s : State) {u' : State} (h : execPermitStatus q seq s = .next u') : s.Onward u' :=
  need_onward h (.of_kept (by simp))
theorem execAvsBounds_onward (q : ℕ) (seq : ℕ) (s : State) {u' : State} (h : execAvsBounds q seq s = .next u') : s.Onward u' :=
  need_onward h (.of_kept (by simp))
theorem execClockStatus_onward (q : ℕ) (seq : ℕ) (s : State) {u' : State} (h : execClockStatus q seq s = .next u') : s.Onward u' :=
  need_onward h (.of_kept (by simp))
theorem execLaneRecalibration_onward (lane : ℕ) (s : State) {u' : State} (h : execLaneRecalibration lane s = .next u') : s.Onward u' :=
  need_onward h (.of_kept (by simp))
theorem execLaneRecalibrationEnd_onward (lane : ℕ) (s : State) {u' : State} (h : execLaneRecalibrationEnd lane s = .next u') : s.Onward u' :=
  need_onward h (.of_kept (by simp))
theorem execJournalCompaction_onward (s : State) {u' : State} (h : execJournalCompaction s = .next u') : s.Onward u' :=
  need_onward h (.of_kept (by simp))
theorem execPermitRetry_onward (code : ℕ) (holder : ℕ) (s : State) {u' : State} (h : execPermitRetry code holder s = .next u') : s.Onward u' :=
  need_onward h (.of_kept (by split <;> simp))
theorem execPowerOnRelease_onward (vin : ℕ) (s : State) {u' : State} (h : execPowerOnRelease vin s = .next u') : s.Onward u' :=
  need_onward h (.of_kept (by simp))
theorem execVinLow_onward (vin : ℕ) (s : State) {u' : State} (h : execVinLow vin s = .next u') : s.Onward u' :=
  need_onward h (.of_kept (by simp))
theorem execVinNormal_onward (vin : ℕ) (s : State) {u' : State} (h : execVinNormal vin s = .next u') : s.Onward u' :=
  need_onward h (.of_kept (by simp))
theorem execVinHigh_onward (vin : ℕ) (s : State) {u' : State} (h : execVinHigh vin s = .next u') : s.Onward u' :=
  need_onward h (.of_kept (by simp))
theorem execVinHighClear_onward (vin : ℕ) (s : State) {u' : State} (h : execVinHighClear vin s = .next u') : s.Onward u' :=
  need_onward h (.of_kept (by simp))
theorem execResetNRise_onward (s : State) {u' : State} (h : execResetNRise s = .next u') : s.Onward u' :=
  need_onward h (.of_kept (by simp))
theorem execPcieReset_onward (cause : ℕ) (s : State) {u' : State} (h : execPcieReset cause s = .next u') : s.Onward u' :=
  need_onward h (.of_kept (by simp))
theorem execPerstNRise_onward (s : State) {u' : State} (h : execPerstNRise s = .next u') : s.Onward u' :=
  need_onward h (.of_kept (by simp))
theorem execPcieLinkUp_onward (s : State) {u' : State} (h : execPcieLinkUp s = .next u') : s.Onward u' :=
  need_onward h (.of_kept (by simp))
theorem execBusMasterEnable_onward (s : State) {u' : State} (h : execBusMasterEnable s = .next u') : s.Onward u' :=
  need_onward h (.of_kept (by simp))
theorem execTrstNAssert_onward (s : State) {u' : State} (h : execTrstNAssert s = .next u') : s.Onward u' :=
  need_onward h (.of_kept (by simp))
theorem execJtagInstruction_onward (code : ℕ) (s : State) {u' : State} (h : execJtagInstruction code s = .next u') : s.Onward u' :=
  need_onward h (.of_kept (by simp))
theorem execRefclkLost_onward (s : State) {u' : State} (h : execRefclkLost s = .next u') : s.Onward u' :=
  need_onward h (.of_kept (by simp))
theorem execRefclkRestored_onward (s : State) {u' : State} (h : execRefclkRestored s = .next u') : s.Onward u' :=
  need_onward h (.of_kept (by simp))
theorem execJunctionReading_onward (temp : ℤ) (s : State) {u' : State} (h : execJunctionReading temp s = .next u') : s.Onward u' :=
  need_onward h (.of_kept (by simp))
theorem execThrottleEngageStep_onward (iin : ℕ) (s : State) {u' : State} (h : execThrottleEngageStep iin s = .next u') : s.Onward u' :=
  need_onward h (.of_kept (by simp))
theorem execThrottleReleaseStep_onward (iin : ℕ) (s : State) {u' : State} (h : execThrottleReleaseStep iin s = .next u') : s.Onward u' :=
  need_onward h (.of_kept (by simp))
theorem execAvsMonitor_onward (rail : ℕ) (short : Bool) (s : State) {u' : State} (h : execAvsMonitor rail short s = .next u') : s.Onward u' :=
  need_onward h (.of_kept (by simp))
theorem execAvsLowerStep_onward (rail : ℕ) (spare : Bool) (s : State) {u' : State} (h : execAvsLowerStep rail spare s = .next u') : s.Onward u' :=
  need_onward h (.of_kept (by simp))
theorem execFusesRead_onward (s : State) {u' : State} (h : execFusesRead s = .next u') : s.Onward u' :=
  need_onward h (.of_kept (by simp))
theorem execInitialFillDone_onward (s : State) {u' : State} (h : execInitialFillDone s = .next u') : s.Onward u' :=
  need_onward h (.of_kept (by simp))
theorem execImageSetLoaded_onward (bank : ℕ) (s : State) {u' : State} (h : execImageSetLoaded bank s = .next u') : s.Onward u' :=
  need_onward h (.of_kept (by simp))
theorem execBootFail_onward (s : State) {u' : State} (h : execBootFail s = .next u') : s.Onward u' :=
  need_onward h (.of_kept (by simp))
theorem execSmbusReadWord_onward (code : ℕ) (pecOk : Bool) (s : State) {u' : State} (h : execSmbusReadWord code pecOk s = .next u') : s.Onward u' :=
  need_onward h (.of_kept (by simp))
theorem execSmbusWriteWord_onward (code : ℕ) (value : ℕ) (pecOk : Bool) (s : State) {u' : State} (h : execSmbusWriteWord code value pecOk s = .next u') : s.Onward u' :=
  need_onward h (.of_kept (by simp))
theorem execPwrAlertClear_onward (value : ℕ) (s : State) {u' : State} (h : execPwrAlertClear value s = .next u') : s.Onward u' :=
  need_onward h (.of_kept (by simp))
theorem execPmcConfig_onward (q : ℕ) (seq : ℕ) (s : State) {u' : State} (h : execPmcConfig q seq s = .next u') : s.Onward u' :=
  need_onward h (.of_kept (by simp))
theorem execSampleConfig_onward (q : ℕ) (seq : ℕ) (s : State) {u' : State} (h : execSampleConfig q seq s = .next u') : s.Onward u' :=
  need_onward h (.of_kept (by simp))
theorem execTraceConfig_onward (q : ℕ) (seq : ℕ) (s : State) {u' : State} (h : execTraceConfig q seq s = .next u') : s.Onward u' :=
  need_onward h (.of_kept (by simp))
theorem execEventMask_onward (q : ℕ) (seq : ℕ) (s : State) {u' : State} (h : execEventMask q seq s = .next u') : s.Onward u' :=
  need_onward h (.of_kept (by simp))
theorem execPmcSnap_onward (value : ℕ) (s : State) {u' : State} (h : execPmcSnap value s = .next u') : s.Onward u' :=
  need_onward h (.of_kept (by simp))
theorem execPmcClearAll_onward (value : ℕ) (s : State) {u' : State} (h : execPmcClearAll value s = .next u') : s.Onward u' :=
  need_onward h (.of_kept (by simp))
theorem execSnapCopyReadable_onward (s : State) {u' : State} (h : execSnapCopyReadable s = .next u') : s.Onward u' :=
  need_onward h (.of_kept (by simp))
theorem execPmcLoRead_onward (n : ℕ) (s : State) {u' : State} (h : execPmcLoRead n s = .next u') : s.Onward u' :=
  need_onward h (.of_kept (by simp))
theorem execPmcWrap_onward (n : ℕ) (increment : ℕ) (s : State) {u' : State} (h : execPmcWrap n increment s = .next u') : s.Onward u' :=
  need_onward h (.of_kept (by simp))
theorem execPmcOvfClear_onward (m : ℕ) (value : ℕ) (s : State) {u' : State} (h : execPmcOvfClear m value s = .next u') : s.Onward u' :=
  need_onward h (.of_kept (by simp))
theorem execSampleDue_onward (pair : ℕ) (addr : ℕ) (insn : ℕ) (latency : ℕ) (mode : ℕ) (previousRetired : Bool) (s : State) {u' : State} (h : execSampleDue pair addr insn latency mode previousRetired s = .next u') : s.Onward u' :=
  need_onward h (.of_kept (by split <;> simp))
theorem execSmpData0Read_onward (parityOk : Bool) (s : State) {u' : State} (h : execSmpData0Read parityOk s = .next u') : s.Onward u' :=
  need_onward h (.of_kept (by simp))
theorem execSmpData5Read_onward (s : State) {u' : State} (h : execSmpData5Read s = .next u') : s.Onward u' :=
  need_onward h (.of_kept (by simp))
theorem execSmpLostRead_onward (s : State) {u' : State} (h : execSmpLostRead s = .next u') : s.Onward u' :=
  need_onward h (.of_kept (by simp))
theorem execTrcData0Read_onward (s : State) {u' : State} (h : execTrcData0Read s = .next u') : s.Onward u' :=
  need_onward h (.of_kept (by simp))
theorem execTrcData3Read_onward (s : State) {u' : State} (h : execTrcData3Read s = .next u') : s.Onward u' :=
  need_onward h (.of_kept (by simp))
theorem execTrcCtrlWrite_onward (value : ℕ) (s : State) {u' : State} (h : execTrcCtrlWrite value s = .next u') : s.Onward u' :=
  need_onward h (.of_kept (by simp))
theorem execTrcLostRead_onward (s : State) {u' : State} (h : execTrcLostRead s = .next u') : s.Onward u' :=
  need_onward h (.of_kept (by simp))
theorem execTbxTbnNsRead_onward (tb : ℕ) (s : State) {u' : State} (h : execTbxTbnNsRead tb s = .next u') : s.Onward u' :=
  need_onward h (.of_kept (by simp))
theorem execCapInfoClear_onward (tb : ℕ) (value : ℕ) (s : State) {u' : State} (h : execCapInfoClear tb value s = .next u') : s.Onward u' :=
  need_onward h (.of_kept (by simp))
theorem execTbxLateMaxRead_onward (prog : ℕ) (s : State) {u' : State} (h : execTbxLateMaxRead prog s = .next u') : s.Onward u' :=
  need_onward h (.of_kept (by simp))
theorem execC21ViolClear_onward (m : ℕ) (value : ℕ) (s : State) {u' : State} (h : execC21ViolClear m value s = .next u') : s.Onward u' :=
  need_onward h (.of_kept (by simp))
theorem execHifCqnDiscardsRead_onward (q : ℕ) (s : State) {u' : State} (h : execHifCqnDiscardsRead q s = .next u') : s.Onward u' :=
  need_onward h (.of_kept (by simp))
theorem execHifEvLostRead_onward (s : State) {u' : State} (h : execHifEvLostRead s = .next u') : s.Onward u' :=
  need_onward h (.of_kept (by simp))
theorem execAudInErrRead_onward (input : ℕ) (s : State) {u' : State} (h : execAudInErrRead input s = .next u') : s.Onward u' :=
  need_onward h (.of_kept (by simp))
theorem execAudSlipsRead_onward (s : State) {u' : State} (h : execAudSlipsRead s = .next u') : s.Onward u' :=
  need_onward h (.of_kept (by simp))
theorem execAudMissingRead_onward (s : State) {u' : State} (h : execAudMissingRead s = .next u') : s.Onward u' :=
  need_onward h (.of_kept (by simp))
theorem execEqualizerDecision_onward (lane : ℕ) (ctle : ℤ) (vga : ℤ) (dfe : ℤ) (s : State) {u' : State} (h : execEqualizerDecision lane ctle vga dfe s = .next u') : s.Onward u' :=
  need_onward h (.of_kept (by simp))
theorem execFetchPacket_onward (q : ℕ) (slots : List Byte) (hostData : List Byte) (s : State) {u' : State} (h : execFetchPacket q slots hostData s = .next u') : s.Onward u' :=
  need_onward h (.of_kept (by simp))
theorem execFlashJournalWritten_onward (q : ℕ) (seq : ℕ) (s : State) {u' : State} (h : execFlashJournalWritten q seq s = .next u') : s.Onward u' :=
  need_onward h (.of_kept (by split <;> simp))
theorem execHostReadTimeout_onward (q : ℕ) (seq : ℕ) (s : State) {u' : State} (h : execHostReadTimeout q seq s = .next u') : s.Onward u' :=
  need_onward h (.of_kept (by split <;> simp))
theorem execSqTailDoorbell_onward (q : ℕ) (value : ℕ) (s : State) {u' : State} (h : execSqTailDoorbell q value s = .next u') : s.Onward u' :=
  need_onward h (.of_kept (by simp))
theorem execRqHeadWrite_onward (q : ℕ) (value : ℕ) (s : State) {u' : State} (h : execRqHeadWrite q value s = .next u') : s.Onward u' :=
  need_onward h (.of_kept (by simp))
theorem execEvHeadWrite_onward (value : ℕ) (s : State) {u' : State} (h : execEvHeadWrite value s = .next u') : s.Onward u' :=
  need_onward h (.of_kept (by simp))
theorem execResync_onward (q : ℕ) (value : ℕ) (s : State) {u' : State} (h : execResync q value s = .next u') : s.Onward u' :=
  need_onward h (.of_kept (by simp))
theorem execResyncStateEnter_onward (q : ℕ) (s : State) {u' : State} (h : execResyncStateEnter q s = .next u') : s.Onward u' :=
  need_onward h (.of_kept (by simp))
theorem execRingSizeWrite_onward (reg : SizeReg) (value : ℕ) (s : State) {u' : State} (h : execRingSizeWrite reg value s = .next u') : s.Onward u' :=
  need_onward h (.of_kept (by simp))
theorem execRegisterWrite_onward (off : ℕ) (width : ℕ) (value : ℕ) (s : State) {u' : State} (h : execRegisterWrite off width value s = .next u') : s.Onward u' :=
  need_onward h (.of_kept (by simp))
theorem execHeartbeatDue_onward (path : ℕ) (s : State) {u' : State} (h : execHeartbeatDue path s = .next u') : s.Onward u' :=
  need_onward h (.of_kept (by simp))
theorem execHeartbeat_onward (path : ℕ) (t : ℕ) (payload : List Byte) (s : State) {u' : State} (h : execHeartbeat path t payload s = .next u') : s.Onward u' :=
  need_onward h (.of_kept (by simp))
theorem execJournalAck_onward (payload : List Byte) (s : State) {u' : State} (h : execJournalAck payload s = .next u') : s.Onward u' :=
  need_onward h (.of_kept (by simp))
theorem execJournalAckTimeout_onward (pos : ℕ) (s : State) {u' : State} (h : execJournalAckTimeout pos s = .next u') : s.Onward u' :=
  need_onward h (.of_kept (by split <;> simp))
theorem execJoinEpochSend_onward (s : State) {u' : State} (h : execJoinEpochSend s = .next u') : s.Onward u' :=
  need_onward h (.of_kept (by simp))
theorem execEpochData_onward (payload : List Byte) (s : State) {u' : State} (h : execEpochData payload s = .next u') : s.Onward u' :=
  need_onward h (.of_kept (by simp))
theorem execTakeDoneTimeout_onward (s : State) {u' : State} (h : execTakeDoneTimeout s = .next u') : s.Onward u' :=
  need_onward h (.of_kept (by split <;> simp))
theorem execRowRecord_onward (payload : List Byte) (s : State) {u' : State} (h : execRowRecord payload s = .next u') : s.Onward u' :=
  need_onward h (.of_kept (by simp))

end Sys2Proof.Machine
end

