-- ==== Sys2Proof/Laws/OnwardStep.lean ====
section
/-!
SUPPORT. The meanings that may burn a fuse, and every command: the commands that wait are left to the step, and fuses are at most burned.
-/
set_option Elab.async false
namespace Sys2Proof.Machine

open Sys2Proof State

theorem State.begin_onward {eff : Cmd → State → State} (he : ∀ (c : Cmd) (s : State), s.Onward (eff c s)) (s : State) (c : Cmd) :
    s.Onward (s.begin c eff) := by
  unfold State.begin
  dsimp only
  split
  · split
    · exact .of_kept (by simp)
    · exact ((he _ _).before (by simp)).after (State.noteOutcome_kept ..)
  · split
    · exact .of_kept (by simp)
    · split
      · exact ((he _ _).before (by simp)).after (State.noteOutcome_kept ..)
      · exact ((he _ _).before (by simp)).after (State.noteOutcome_kept ..)

theorem State.runOp_onward {eff : Cmd → State → State} (he : ∀ (c : Cmd) (s : State), s.Onward (eff c s)) (s : State) (code q seq : Nat) :
    s.Onward (s.runOp code q seq eff) := by
  unfold State.runOp
  split
  · exact .refl _
  · split
    · exact State.begin_onward he _ _
    · exact .refl _

theorem execUpdateConfirm_onward (q : ℕ) (seq : ℕ) (s : State) {t : State} (h : execUpdateConfirm q seq s = .next t) : s.Onward t :=
  need_onward h (State.runOp_onward effUpdateConfirm_onward _ _ _ _)

theorem execTwinRole_onward (q : ℕ) (seq : ℕ) (s : State) {t : State} (h : execTwinRole q seq s = .next t) : s.Onward t :=
  need_onward h (State.runOp_onward effTwinRole_onward _ _ _ _)

theorem execWarmReset_onward (q : ℕ) (seq : ℕ) (s : State) {t : State} (h : execWarmReset q seq s = .next t) : s.Onward t :=
  need_onward h (State.runOp_onward effWarmReset_onward _ _ _ _)

theorem execLifecycleAdvance_onward (q : ℕ) (seq : ℕ) (s : State) {t : State} (h : execLifecycleAdvance q seq s = .next t) : s.Onward t :=
  need_onward h (State.runOp_onward effLifecycleAdvance_onward _ _ _ _)

theorem execReturnAuthorise_onward (q : ℕ) (seq : ℕ) (s : State) {t : State} (h : execReturnAuthorise q seq s = .next t) : s.Onward t :=
  need_onward h (State.runOp_onward effReturnAuthorise_onward _ _ _ _)

theorem execSelfTestResult_onward (failed : List ℕ) (s : State) {t : State} (h : execSelfTestResult failed s = .next t) : s.Onward t :=
  need_onward h (by
    split
    · exact .refl _
    · dsimp only
      have hk : s.Onward (failed.dedup.foldl (fun s u => if (s.unit u).state = 2 then s else s.unitFault u 0) s) :=
        Onward.foldl _ (fun s u => by split <;> exact .of_kept (by simp)) _ _
      split
      · exact hk.trans (.of_kept (by simp))
      · exact (hk.trans (.of_kept (by simp))).trans (State.tryConfirm_onward _ _))

theorem execStartChecksComplete_onward (s : State) {t : State} (h : execStartChecksComplete s = .next t) : s.Onward t :=
  need_onward h (by
    split
    · exact Onward.trans (.of_kept (by simp)) (State.tryConfirm_onward _ _)
    · exact .refl _)

theorem execClearing_onward (canopy : ℕ) (s : State) {t : State} (h : execClearing canopy s = .next t) : s.Onward t :=
  need_onward h (by
    dsimp only
    split
    · split
      · exact .of_kept (by simp)
      · split
        · split
          · exact Onward.trans (.of_kept (by simp)) (State.applyJoin_onward _)
          · exact (Onward.trans (.of_kept (by simp)) (State.applyJoin_onward _)).trans (State.clear_onward _ _ _)
        · exact Onward.trans (.of_kept (by simp)) (State.clear_onward _ _ _)
    · split
      · exact .refl _
      · split
        · exact .refl _
        · split
          · exact Onward.trans (.of_kept (by simp)) (State.applyJoin_onward _)
          · exact .of_kept (by simp))

theorem execEffectTimeReached_onward (q : ℕ) (seq : ℕ) (s : State) {t : State} (h : execEffectTimeReached q seq s = .next t) : s.Onward t :=
  need_onward h (by
    split
    · exact .refl _
    · next c _ =>
      dsimp only
      split
      · exact .refl _
      · have hk : s.Onward (if s.fired c = true then s else s.reachOn c.effTb c.fireAt) := .ite (.refl s) (.of_kept (State.reachOn_kept ..))
        generalize (if s.fired c = true then s else s.reachOn c.effTb c.fireAt) = u at hk ⊢
        exact .ite ((hk.after (State.modCmd_kept ..)).trans (State.applyOp_onward _ _)) hk)

theorem execReady_onward (s : State) {t : State} (h : execReady s = .next t) : s.Onward t :=
  need_onward h (by
    split
    · exact .refl _
    · dsimp only
      have hk := State.replay_onward (s.nv.flash.drop s.power.replayed) s
      split
      · exact hk
      · exact (hk.trans (.of_kept (by simp))).trans (State.settleUpdate_onward _))

theorem execPathLost_onward (path : ℕ) (s : State) {t : State} (h : execPathLost path s = .next t) : s.Onward t :=
  need_onward h (by
    dsimp only
    split
    · refine Onward.ite (.of_kept (by simp)) (Onward.ite (.of_kept (by simp)) ((State.peerGone_onward _).before (by simp)))
    · exact .refl _)

/-! ### Messages of the tether -/

theorem State.hearCommand_onward (s : State) (payload : List Byte) : s.Onward (s.hearCommand payload) := by
  unfold State.hearCommand
  exact .ite (.refl s) (.ite ((State.drainNotes_onward _).before (State.journalCommand_kept ..)) (.ite (.of_kept rfl) (.refl s)))

theorem State.hearCommitNote_onward (s : State) (payload : List Byte) : s.Onward (s.hearCommitNote payload) := by
  unfold State.hearCommitNote
  dsimp only
  exact .ite (.refl s) (.ite (.refl s) (.ite ((State.drainNotes_onward _).before rfl) (.of_kept rfl)))

theorem State.hearEpochEnd_onward (s : State) (payload : List Byte) : s.Onward (s.hearEpochEnd payload) := by
  unfold State.hearEpochEnd
  dsimp only
  exact .ite (.refl s) (.ite (State.epochFailed_onward _ _ _) (.ite ((State.epochFailed_onward _ _ _).before (State.chainFail_kept ..))
    (.of_kept (State.epochVerified_kept ..))))

theorem State.hearEpochAck_onward (s : State) (payload : List Byte) : s.Onward (s.hearEpochAck payload) := by
  unfold State.hearEpochAck
  refine .ite (.refl s) ?_
  dsimp only
  split
  · exact .refl s
  · refine .ite (.ite (.of_kept rfl) ((State.dataVerified_onward _ _).before rfl)) (.ite (.of_kept (by simp)) (.ite ?_ ?_))
    · exact (State.dataVerified_onward _ _).before (State.twinCount_kept ..) |>.trans (State.leadAlone_onward _) |>.before rfl
    · exact ((State.formFailed_onward _ _).before (State.twinCount_kept ..)).before rfl

theorem State.hearRole_onward (s : State) (payload : List Byte) : s.Onward (s.hearRole payload) := by
  unfold State.hearRole
  refine .ite (.refl s) ?_
  dsimp only
  split
  · exact (State.becomeLead_onward s (pktU payload 0 4) false).after (by simp)
  · exact .of_kept (by simp)
  · exact .of_kept (by simp)
  · exact ((State.becomeLead_onward { s with twin := { s.twin with exchange := none } } (pktU payload 0 4) false).before rfl).after (by simp)
  · exact (State.becomeLead_onward s (s.twin.term + 1) true).after (by simp)
  · exact .ite (.refl s) (State.leadAlone_onward s)
  · exact .refl _

/-- A whole message of the tether. -/
theorem State.hear_onward (s : State) (path type : ℕ) (m : List Byte) : s.Onward (s.hear path type m) := by
  unfold State.hear
  split
  · exact .of_kept (State.hearHeartbeat_kept ..)
  · exact .of_kept (State.hearRowCrc_kept ..)
  · exact State.hearCommand_onward s m
  · exact .of_kept (State.hearJournalAck_kept ..)
  · exact State.hearCommitNote_onward s m
  · exact .of_kept (State.hearEpochData_kept ..)
  · exact State.hearEpochEnd_onward s m
  · exact State.hearEpochAck_onward s m
  · exact State.hearRole_onward s m
  · exact .of_kept (State.hearRowRecord_kept ..)
  · exact .refl s

theorem State.takeFragment_onward (s : State) (path : ℕ) (f : Fragment) : s.Onward (s.takeFragment path f) := by
  unfold State.takeFragment
  dsimp only
  refine .ite (.refl s) ?_
  split
  · exact .ite ((State.hear_onward _ _ _ _).before rfl) (.of_kept rfl)
  · exact .of_kept rfl

/-- A block or datagram of the tether. -/
theorem State.takeTether_onward (s : State) (path : ℕ) (b : List Byte) : s.Onward (s.takeTether path b) := by
  unfold State.takeTether
  split
  · exact State.takeFragment_onward _ _ _
  · exact .refl s

theorem execYelucBlockRow_onward (t : ℕ) (braid : ℕ) (blocks : List YBlock) (s : State) {u : State} (h : execYelucBlockRow t braid blocks s = .next u) : s.Onward u :=
  need_onward h (by
    dsimp only
    have h1 : s.Onward ((s.at32 t).blockRow braid blocks) := (State.blockRow_onward _ _ _).before (State.at32_kept ..)
    exact .ite (h1.trans (Onward.foldl _ (fun s m => State.takeTether_onward s 0 m) _ _)) h1)

theorem execCommandDatagram_onward (d : Datagram) (s : State) {t : State} (h : execCommandDatagram d s = .next t) : s.Onward t :=
  need_onward h (.ite (State.takeTether_onward s 1 _) (.of_kept (State.commandDatagram_kept ..)))

theorem execEpochEnd_onward (payload : List Byte) (s : State) {t : State} (h : execEpochEnd payload s = .next t) : s.Onward t :=
  need_onward h (State.hearEpochEnd_onward _ _)

theorem execEpochAck_onward (payload : List Byte) (s : State) {t : State} (h : execEpochAck payload s = .next t) : s.Onward t :=
  need_onward h (State.hearEpochAck_onward _ _)

theorem execCommand_onward (payload : List Byte) (s : State) {t : State} (h : execCommand payload s = .next t) : s.Onward t :=
  need_onward h (State.hearCommand_onward _ _)

theorem execCommitNote_onward (payload : List Byte) (s : State) {t : State} (h : execCommitNote payload s = .next t) : s.Onward t :=
  need_onward h (State.hearCommitNote_onward _ _)

theorem execRole_onward (payload : List Byte) (s : State) {t : State} (h : execRole payload s = .next t) : s.Onward t :=
  need_onward h (State.hearRole_onward _ _)

theorem execFillComplete_onward (owner slot : ℕ) (s : State) {t : State} (h : execFillComplete owner slot s = .next t) : s.Onward t :=
  need_onward h (by
    dsimp only
    generalize s.mem.reservations.filter _ = rs
    have h1 : s.Onward ((rs.flatMap (fun r => r.pages ++ r.mirror)).foldl (fun s e => s.fillPage (owner / 16777216 = 4) e) s) :=
      Onward.foldl _ (fun _ _ => State.fillPage_onward _ _ _) _ _
    generalize (rs.flatMap (fun r => r.pages ++ r.mirror)).foldl (fun s e => State.fillPage s _ e) s = s1 at h1 ⊢
    exact Onward.trans (h1.after rfl) (Onward.foldl _ (fun s id => .of_kept (State.fillEnded_kept s id)) _ _))

theorem execCaParityError_onward (t channel : ℕ) (s : State) {u : State} (h : execCaParityError t channel s = .next u) : s.Onward u :=
  need_onward h (by
    dsimp only
    exact .ite (.of_kept (by simp)) (.ite ((State.retireChannel_onward _ _ _).before (by simp)) (.of_kept (by simp))))

theorem execRetrainSlice_onward (channel : ℕ) (found : Option EyeScan) (s : State) {t : State} (h : execRetrainSlice channel found s = .next t) : s.Onward t :=
  need_onward h (by
    split
    · refine .ite (State.retireChannel_onward _ _ _) ?_
      dsimp only
      split
      · exact .ite (.of_kept (by simp [apply_ite Channel.words])) (.of_kept (by simp [apply_ite Channel.words]))
      · exact .of_kept (by simp [apply_ite Channel.words])
    · exact .refl _)

theorem execKeepLogWriteBack_onward (index : ℕ) (s : State) {t : State} (h : execKeepLogWriteBack index s = .next t) : s.Onward t :=
  need_onward h (by
    split
    · exact .refl _
    · dsimp only
      refine .ite ?_ (.refl _)
      split
      · next e _ _ ca _ => exact (State.writeWord_onward s e.channel ca (eccDecode (s.storedWord e.channel ca)).word).after (by simp)
      · exact .of_kept (by simp))

theorem execScrubRead_onward (raw : Option ℕ) (s : State) {t : State} (h : execScrubRead raw s = .next t) : s.Onward t :=
  need_onward h (by
    split
    · exact .refl _
    · next ch w _ =>
      dsimp only
      generalize hp : (if (eccDecode _).kind = 3 then _ else _ : State) = s2
      have h2 : s.Onward s2 := by
        subst hp
        exact .ite ((State.uncorrectable_onward _ _ _ _ _ _).before (State.touchRow_kept ..))
          (.ite (.of_kept ((State.watchRead_kept ..).trans (State.touchRow_kept ..)))
            ((State.correctable_onward _ _ _ _ _).before (State.touchRow_kept ..)))
      have h3 (d : Decoded) : s.Onward (s2.countUnwritten d) := h2.after (State.countUnwritten_kept s2 d)
      have last (x : State) (hx : s.Onward x) : s.Onward { x with mem := x.mem.patrolNext (s.patrolled.getLastD 0) ch w } := hx.after (by simp)
      exact last _ (.ite ((h3 _).after (State.scrubRef_kept ..)) (h3 _)))

theorem execDramReadReturn_onward (t channel ca : ℕ) (raw : Option ℕ) (reader : OpName) (s : State) {u : State} (h : execDramReadReturn t channel ca raw reader s = .next u) : s.Onward u :=
  need_onward h (by
    dsimp only
    have h0 : s.Onward (s.at32 t) := .of_kept (State.at32_kept ..)
    generalize s.at32 t = s0 at h0 ⊢
    refine h0.trans (.ite (State.lateRead_onward _ _ _ _) ?_)
    have h1 : s0.Onward (s0.touchRow channel ca) := .of_kept (State.touchRow_kept ..)
    generalize s0.touchRow channel ca = s1 at h1 ⊢
    refine h1.trans (.ite ((State.uncorrectable_onward _ _ _ _ _ _).trans (State.serveWord_onward _ _ _ _ _ _))
      (.ite (.ite ?_ ?_) ((State.correctable_onward _ _ _ _ _).trans (State.serveWord_onward _ _ _ _ _ _))))
    · exact ((State.fromMirror_onward _ _ _ _).before (State.watchRead_kept ..)).trans (State.serveWord_onward _ _ _ _ _ _)
    · exact (State.serveWord_onward _ _ _ _ _ _).before (State.watchRead_kept ..))

theorem execRowRepair_onward (index : ℕ) (s : State) {t : State} (h : execRowRepair index s = .next t) : s.Onward t :=
  need_onward h (by
    split
    · exact .refl _
    · next e _ =>
      refine .ite (.refl _) ?_
      dsimp only
      refine .ite (.of_kept (by simp)) ?_
      have key (g : Channel → List (ℕ × ℕ)) :
          s.Onward (s.modChannel e.channel (fun x => { x with repairs := g x, words := s.correctedRow e.channel e.location x.words })) :=
        State.modChannel_onward s _ _ (fun hw => by
          rw [wordsWf_iff] at hw ⊢
          exact ⟨Tab.rising_filter (Tab.rising_map hw.1 _ (fun a => by split <;> rfl)) _, fun a ha => by simpa using (List.mem_filter.mp ha).2⟩)
      have h1 := key (fun x => x.repairs ++ [(bits e.location 16 13, bits e.location 31 17)])
      generalize s.modChannel e.channel (fun x => { x with
        repairs := x.repairs ++ [(bits e.location 16 13, bits e.location 31 17)], words := s.correctedRow e.channel e.location x.words }) = s1 at h1 ⊢
      exact h1.after (by simp))

theorem execMcPairFault_onward (cause : ℕ) (s : State) {t : State} (h : execMcPairFault cause s = .next t) : s.Onward t :=
  need_onward h (.ite (.refl _) (State.pairFault_onward _ _))

theorem execSramEccError_onward (sram unit errors : ℕ) (s : State) {t : State} (h : execSramEccError sram unit errors s = .next t) : s.Onward t :=
  need_onward h (by
    refine .ite (.refl _) ?_
    dsimp only
    have h0 : (if 10 ≤ Config.sramHandOff sram ∧ Config.sramHandOff sram ≤ 12 then s.chainFail (Config.sramHandOff sram) else s).kept = s.kept := by
      split
      · exact State.chainFail_kept ..
      · rfl
    generalize (if 10 ≤ Config.sramHandOff sram ∧ Config.sramHandOff sram ≤ 12 then s.chainFail (Config.sramHandOff sram) else s) = s0 at h0 ⊢
    have h1 : ((s0.raise 0x0808 deviceId sram 0xFFFFFFFF).alertBit 4).kept = s.kept := by simp [h0]
    generalize (s0.raise 0x0808 deviceId sram 0xFFFFFFFF).alertBit 4 = s1 at h1 ⊢
    refine .ite (.of_kept (by simp [h1])) (.ite (.ite ((State.pairFault_onward _ _).before h1) (.of_kept (by simp [h1]))) (.of_kept (by simp [h1]))))

theorem execBrownOut_onward (s : State) {t : State} (h : execBrownOut s = .next t) : s.Onward t := need_onward h (State.coldStart_onward _ _ _)

theorem execOvervoltage_onward (s : State) {t : State} (h : execOvervoltage s = .next t) : s.Onward t := need_onward h (State.coldStart_onward _ _ _)

theorem execCurrentTrip_onward (s : State) {t : State} (h : execCurrentTrip s = .next t) : s.Onward t := need_onward h (State.coldStart_onward _ _ _)

theorem execResetNAssert_onward (s : State) {t : State} (h : execResetNAssert s = .next t) : s.Onward t :=
  need_onward h ((State.coldStart_onward _ _ _).before (by simp))

theorem execThermalTrip_onward (s : State) {t : State} (h : execThermalTrip s = .next t) : s.Onward t :=
  need_onward h (.ite (State.coldStart_onward s 4 3) (.refl _))

theorem execRecoveryResult_onward (container : List Byte) (s : State) {t : State} (h : execRecoveryResult container s = .next t) : s.Onward t :=
  need_onward h (.ite (.refl _) (by
    dsimp only
    exact .ite ((State.coldStart_onward _ _ _).before (by simp)) (.of_kept (by simp))))

theorem execRootPllLock_onward (s : State) {t : State} (h : execRootPllLock s = .next t) : s.Onward t :=
  need_onward h (.ite (.refl _) (by
    dsimp only
    refine State.Onward.after (t := { s with
      nv := s.nv.applyErase, mem := { s.mem with
        fill := s.nv.applyErase.fill.getD 0, channels := s.mem.channels.map (fun e => (e.1, { e.2 with words := [] })) } }) ?_ (by simp)
    have hf := applyErase_fuses s.nv
    refine ⟨rfl, congrArg Fuses.part hf, (congrArg Fuses.antiRollback hf).ge, fun a ha => ?_, (congrArg Fuses.returns hf).ge, fun _ => ?_⟩
    · have hr : s.nv.applyErase.revoked = s.nv.revoked := congrArg Fuses.revoked hf
      change a ∈ s.nv.applyErase.revoked
      rw [hr]; exact ha
    · simp [Mem.wf, wordsOk, wordsWf]))

theorem execDramTrainingDone_onward (results : List (ℕ × ℕ × EyeScan)) (s : State) {t : State} (h : execDramTrainingDone results s = .next t) : s.Onward t :=
  need_onward h (.ite (.refl _) (by
    dsimp only
    generalize hs1 : List.foldl (fun (s : State) (ch : ℕ) => s.mapRetired ch) s _ = s1
    have h1 : s.Onward s1 := by subst hs1; exact .of_kept (by simp)
    have h2 := h1.trans (Onward.foldl State.trainFail State.trainFail_onward (s1.untrained results) s1)
    generalize List.foldl State.trainFail s1 (s1.untrained results) = s2 at h2 ⊢
    have h3 := h2.after (u := (s2.trainable.foldl (fun s ch => s.modChannel ch (fun x =>
        Channel.loadSet (s.mem.rates.getD (ch / 32) 0) { x with
          sets := (List.range 3).map (setFrom results ch), trainedTemp := s.mem.temps.getD (ch / 32) 0 })) s2).unpermit
            (fun p => (p.code = 2 && 2 ≤ p.holder) || p.code = 3)) (by simp)
    exact h3.after rfl))

theorem exec_onward (i : Instr) {s t : State} (h : exec i s = .next t) : s.Onward t := by
  cases i with
  | sqTailDoorbell q value => exact execSqTailDoorbell_onward _ _ _ h
  | fetchPacket q slots hostData => exact execFetchPacket_onward _ _ _ _ h
  | rqHeadWrite q value => exact execRqHeadWrite_onward _ _ _ h
  | resync q value => exact execResync_onward _ _ _ h
  | resyncStateEnter q => exact execResyncStateEnter_onward _ _ h
  | ringSizeWrite reg value => exact execRingSizeWrite_onward _ _ _ h
  | evHeadWrite value => exact execEvHeadWrite_onward _ _ h
  | registerWrite off width value => exact execRegisterWrite_onward _ _ _ _ h
  | commandDatagram d => exact execCommandDatagram_onward _ _ h
  | flashJournalWritten q seq => exact execFlashJournalWritten_onward _ _ _ h
  | journalCompaction => exact execJournalCompaction_onward _ h
  | hostReadTimeout q seq => exact execHostReadTimeout_onward _ _ _ h
  | nop q seq => exact execNop_onward _ _ _ h
  | getInfo q seq => exact execGetInfo_onward _ _ _ h
  | resetUnit q seq => exact execResetUnit_onward _ _ _ h
  | warmReset q seq => exact execWarmReset_onward _ _ _ h
  | setLoopBounds q seq => exact execSetLoopBounds_onward _ _ _ h
  | deviceConfig q seq => exact execDeviceConfig_onward _ _ _ h
  | abort q seq => exact execAbort_onward _ _ _ h
  | hitch q seq => exact execHitch_onward _ _ _ h
  | queueConfig q seq => exact execQueueConfig_onward _ _ _ h
  | journalQuery q seq => exact execJournalQuery_onward _ _ _ h
  | flowRxOpen q seq => exact execFlowRxOpen_onward _ _ _ h
  | flowRxClose q seq => exact execFlowRxClose_onward _ _ _ h
  | braidConfig q seq => exact execBraidConfig_onward _ _ _ h
  | braidLoopback q seq => exact execBraidLoopback_onward _ _ _ h
  | braidRestrand q seq => exact execBraidRestrand_onward _ _ _ h
  | sourceBind q seq => exact execSourceBind_onward _ _ _ h
  | sourceStatus q seq => exact execSourceStatus_onward _ _ _ h
  | policerSet q seq => exact execPolicerSet_onward _ _ _ h
  | canopyConfig q seq => exact execCanopyConfig_onward _ _ _ h
  | layerSet q seq => exact execLayerSet_onward _ _ _ h
  | layerUpload q seq => exact execLayerUpload_onward _ _ _ h
  | uploadComplete layer data => exact execUploadComplete_onward _ _ _ h
  | commit q seq => exact execCommit_onward _ _ _ h
  | commitArm q seq => exact execCommitArm_onward _ _ _ h
  | lampTableLoad q seq => exact execLampTableLoad_onward _ _ _ h
  | lampLoadComplete canopy entries => exact execLampLoadComplete_onward _ _ _ h
  | wallTiling q seq => exact execWallTiling_onward _ _ _ h
  | scalerCoefs q seq => exact execScalerCoefs_onward _ _ _ h
  | programConfig q seq => exact execProgramConfig_onward _ _ _ h
  | programStart q seq => exact execProgramStart_onward _ _ _ h
  | programStop q seq => exact execProgramStop_onward _ _ _ h
  | forceRefresh q seq => exact execForceRefresh_onward _ _ _ h
  | subpicMap q seq => exact execSubpicMap_onward _ _ _ h
  | rateConfig q seq => exact execRateConfig_onward _ _ _ h
  | rateBounds q seq => exact execRateBounds_onward _ _ _ h
  | rateStatus q seq => exact execRateStatus_onward _ _ _ h
  | flowTxOpen q seq => exact execFlowTxOpen_onward _ _ _ h
  | flowTxClose q seq => exact execFlowTxClose_onward _ _ _ h
  | shaperSet q seq => exact execShaperSet_onward _ _ _ h
  | schedClassSet q seq => exact execSchedClassSet_onward _ _ _ h
  | timebaseConfig q seq => exact execTimebaseConfig_onward _ _ _ h
  | timebaseAdjust q seq => exact execTimebaseAdjust_onward _ _ _ h
  | launchPolicy q seq => exact execLaunchPolicy_onward _ _ _ h
  | captureArm q seq => exact execCaptureArm_onward _ _ _ h
  | twinConfig q seq => exact execTwinConfig_onward _ _ _ h
  | twinRole q seq => exact execTwinRole_onward _ _ _ h
  | twinStatus q seq => exact execTwinStatus_onward _ _ _ h
  | splice q seq => exact execSplice_onward _ _ _ h
  | memPolicy q seq => exact execMemPolicy_onward _ _ _ h
  | memRetrain q seq => exact execMemRetrain_onward _ _ _ h
  | memFreq q seq => exact execMemFreq_onward _ _ _ h
  | eccMode q seq => exact execEccMode_onward _ _ _ h
  | eccLogRead q seq => exact execEccLogRead_onward _ _ _ h
  | scrubConfig q seq => exact execScrubConfig_onward _ _ _ h
  | eccTest q seq => exact execEccTest_onward _ _ _ h
  | cvConfig q seq => exact execCvConfig_onward _ _ _ h
  | cvContext q seq => exact execCvContext_onward _ _ _ h
  | audioPortConfig q seq => exact execAudioPortConfig_onward _ _ _ h
  | audioRoute q seq => exact execAudioRoute_onward _ _ _ h
  | audioStatus q seq => exact execAudioStatus_onward _ _ _ h
  | powerBudget q seq => exact execPowerBudget_onward _ _ _ h
  | permitStatus q seq => exact execPermitStatus_onward _ _ _ h
  | avsBounds q seq => exact execAvsBounds_onward _ _ _ h
  | clockStatus q seq => exact execClockStatus_onward _ _ _ h
  | updateBegin q seq => exact execUpdateBegin_onward _ _ _ h
  | updateData q seq hostData => exact execUpdateData_onward _ _ _ _ h
  | updateVerify q seq => exact execUpdateVerify_onward _ _ _ h
  | verificationResult readBackOk => exact execVerificationResult_onward _ _ h
  | stagingComplete => exact execStagingComplete_onward _ h
  | updateSchedule q seq => exact execUpdateSchedule_onward _ _ _ h
  | updateConfirm q seq => exact execUpdateConfirm_onward _ _ _ h
  | updateCancel q seq => exact execUpdateCancel_onward _ _ _ h
  | ownerLock q seq => exact execOwnerLock_onward _ _ _ h
  | lifecycleAdvance q seq => exact execLifecycleAdvance_onward _ _ _ h
  | returnAuthorise q seq => exact execReturnAuthorise_onward _ _ _ h
  | pmcConfig q seq => exact execPmcConfig_onward _ _ _ h
  | sampleConfig q seq => exact execSampleConfig_onward _ _ _ h
  | traceConfig q seq => exact execTraceConfig_onward _ _ _ h
  | eventMask q seq => exact execEventMask_onward _ _ _ h
  | clearing canopy => exact execClearing_onward _ _ h
  | effectTimeReached q seq => exact execEffectTimeReached_onward _ _ _ h
  | timeBaseWrap tb => exact execTimeBaseWrap_onward _ _ h
  | ptpSync tb x => exact execPtpSync_onward _ _ _ h
  | ptpAnnounce tb x => exact execPtpAnnounce_onward _ _ _ h
  | syncTimeout tb => exact execSyncTimeout_onward _ _ h
  | ppsInEdge t => exact execPpsInEdge_onward _ _ h
  | ppsEdgeTimeout tb => exact execPpsEdgeTimeout_onward _ _ h
  | ppsOutRise tb => exact execPpsOutRise_onward _ _ h
  | ppsOutFall tb => exact execPpsOutFall_onward _ _ h
  | slewComplete tb => exact execSlewComplete_onward _ _ h
  | captureEvent tb source flow => exact execCaptureEvent_onward _ _ _ _ h
  | packetArrival t p => exact execPacketArrival_onward _ _ _ h
  | legDown flow leg => exact execLegDown_onward _ _ _ h
  | lineDeadline flow => exact execLineDeadline_onward _ _ h
  | frameDeadline flow => exact execFrameDeadline_onward _ _ h
  | yelucBlockRow t braid blocks => exact execYelucBlockRow_onward _ _ _ _ h
  | alignmentMarker braid strand header payload skew => exact execAlignmentMarker_onward _ _ _ _ _ _ h
  | clockStrandLost braid => exact execClockStrandLost_onward _ _ h
  | braidLockFail braid => exact execBraidLockFail_onward _ _ h
  | restoreTimeout braid => exact execRestoreTimeout_onward _ _ h
  | loopbackEnd braid errors => exact execLoopbackEnd_onward _ _ _ h
  | dispatch op => exact execDispatch_onward _ _ h
  | preempt op => exact execPreempt_onward _ _ h
  | promote op => exact execPromote_onward _ _ h
  | ackTimeout unit => exact execAckTimeout_onward _ _ h
  | progressReport unit => exact execProgressReport_onward _ _ h
  | progressWatchdog unit => exact execProgressWatchdog_onward _ _ h
  | unitInternalError unit => exact execUnitInternalError_onward _ _ h
  | unitSelfTestDone unit passed => exact execUnitSelfTestDone_onward _ _ _ h
  | dispatcherLockstepMismatch => exact execDispatcherLockstepMismatch_onward _ h
  | dispatcherRestartEnd => exact execDispatcherRestartEnd_onward _ h
  | ctuComplete unit => exact execCtuComplete_onward _ _ h
  | operationComplete unit => exact execOperationComplete_onward _ _ h
  | cvDramTapEnd unit => exact execCvDramTapEnd_onward _ _ h
  | frameBudget prog pic => exact execFrameBudget_onward _ _ _ h
  | rowDecision prog pic row => exact execRowDecision_onward _ _ _ _ h
  | launchTime prog pic => exact execLaunchTime_onward _ _ _ h
  | shaperEligible flow leg t => exact execShaperEligible_onward _ _ _ _ h
  | wireIdle port sub t => exact execWireIdle_onward _ _ _ _ h
  | packetEnd port sub internalOk => exact execPacketEnd_onward _ _ _ _ h
  | beTimeout port sub queue => exact execBeTimeout_onward _ _ _ _ h
  | linkDown port sub => exact execLinkDown_onward _ _ _ h
  | linkUp port sub => exact execLinkUp_onward _ _ _ h
  | heartbeatDue path => exact execHeartbeatDue_onward _ _ h
  | heartbeat path t payload => exact execHeartbeat_onward _ _ _ _ h
  | pathLost path => exact execPathLost_onward _ _ h
  | rowCrc payload => exact execRowCrc_onward _ _ h
  | gateAllowanceEnd prog pic row => exact execGateAllowanceEnd_onward _ _ _ _ h
  | command payload => exact execCommand_onward _ _ h
  | journalAck payload => exact execJournalAck_onward _ _ h
  | journalAckTimeout pos => exact execJournalAckTimeout_onward _ _ h
  | commitNote payload => exact execCommitNote_onward _ _ h
  | joinEpochSend => exact execJoinEpochSend_onward _ h
  | epochData payload => exact execEpochData_onward _ _ h
  | epochEnd payload => exact execEpochEnd_onward _ _ h
  | epochAck payload => exact execEpochAck_onward _ _ h
  | role payload => exact execRole_onward _ _ h
  | takeDoneTimeout => exact execTakeDoneTimeout_onward _ h
  | rowRecord payload => exact execRowRecord_onward _ _ h
  | refreshDue stack channel group idle => exact execRefreshDue_onward _ _ _ _ _ h
  | dramTempReading stack temp => exact execDramTempReading_onward _ _ _ h
  | eyeTracking channel margin => exact execEyeTracking_onward _ _ _ h
  | retrainSlice channel found => exact execRetrainSlice_onward _ _ _ h
  | permitRetry code holder => exact execPermitRetry_onward _ _ _ h
  | caParityError t channel => exact execCaParityError_onward _ _ _ h
  | dramReadReturn t channel ca raw reader => exact execDramReadReturn_onward _ _ _ _ _ _ h
  | scrubRead raw => exact execScrubRead_onward _ _ h
  | keepLogWriteBack index => exact execKeepLogWriteBack_onward _ _ h
  | rowRepair index => exact execRowRepair_onward _ _ h
  | fillComplete owner slot => exact execFillComplete_onward _ _ _ h
  | mirrorCopyComplete channel => exact execMirrorCopyComplete_onward _ _ h
  | memRateSwitch stack => exact execMemRateSwitch_onward _ _ h
  | sramParityError unit second => exact execSramParityError_onward _ _ _ h
  | sramEccError sram unit errors => exact execSramEccError_onward _ _ _ _ h
  | ectGo value => exact execEctGo_onward _ _ h
  | eccTestDone => exact execEccTestDone_onward _ h
  | subframe input channel t sample error => exact execSubframe_onward _ _ _ _ _ _ h
  | channelStatusBlock input channel bytes user => exact execChannelStatusBlock_onward _ _ _ _ _ h
  | preambleTimeout input => exact execPreambleTimeout_onward _ _ h
  | measurementWindowEnd input mclkHz => exact execMeasurementWindowEnd_onward _ _ _ h
  | rampEnd dest => exact execRampEnd_onward _ _ h
  | aes3StartBlock output => exact execAes3StartBlock_onward _ _ h
  | pdmWarmUpEnd pair => exact execPdmWarmUpEnd_onward _ _ h
  | audioSlip object fill => exact execAudioSlip_onward _ _ _ h
  | audioClockAsync ppb => exact execAudioClockAsync_onward _ _ h
  | audioPlayInstant flow k => exact execAudioPlayInstant_onward _ _ _ h
  | audioPacketFormed flow => exact execAudioPacketFormed_onward _ _ h
  | powerOnRelease vin => exact execPowerOnRelease_onward _ _ h
  | vinLow vin => exact execVinLow_onward _ _ h
  | vinNormal vin => exact execVinNormal_onward _ _ h
  | brownOut => exact execBrownOut_onward _ h
  | vinHigh vin => exact execVinHigh_onward _ _ h
  | vinHighClear vin => exact execVinHighClear_onward _ _ h
  | overvoltage => exact execOvervoltage_onward _ h
  | resetNAssert => exact execResetNAssert_onward _ h
  | resetNRise => exact execResetNRise_onward _ h
  | warmNAssert => exact execWarmNAssert_onward _ h
  | warmResetEnd => exact execWarmResetEnd_onward _ h
  | pcieReset cause => exact execPcieReset_onward _ _ h
  | pcieLinkUp => exact execPcieLinkUp_onward _ h
  | trstNAssert => exact execTrstNAssert_onward _ h
  | jtagInstruction code => exact execJtagInstruction_onward _ _ h
  | refclkLost => exact execRefclkLost_onward _ h
  | refclkRestored => exact execRefclkRestored_onward _ h
  | junctionReading temp => exact execJunctionReading_onward _ _ h
  | throttleEngageStep iin => exact execThrottleEngageStep_onward _ _ h
  | throttleReleaseStep iin => exact execThrottleReleaseStep_onward _ _ h
  | thermalTrip => exact execThermalTrip_onward _ h
  | currentTrip => exact execCurrentTrip_onward _ h
  | avsMonitor rail short => exact execAvsMonitor_onward _ _ _ h
  | avsLowerStep rail spare => exact execAvsLowerStep_onward _ _ _ h
  | mcPairFault cause => exact execMcPairFault_onward _ _ h
  | pairSelfTestDone passed => exact execPairSelfTestDone_onward _ _ h
  | rootPllLock => exact execRootPllLock_onward _ h
  | dramTrainingDone failed => exact execDramTrainingDone_onward _ _ h
  | initialFillDone => exact execInitialFillDone_onward _ h
  | imageSetLoaded bank => exact execImageSetLoaded_onward _ _ h
  | ready => exact execReady_onward _ h
  | bootFail => exact execBootFail_onward _ h
  | smbusReadWord code pecOk => exact execSmbusReadWord_onward _ _ _ h
  | smbusWriteWord code value pecOk => exact execSmbusWriteWord_onward _ _ _ _ h
  | activation => exact execActivation_onward _ h
  | selfTestResult failed => exact execSelfTestResult_onward _ _ h
  | confirmWindowExpiry => exact execConfirmWindowExpiry_onward _ h
  | fallbackInstant => exact execFallbackInstant_onward _ h
  | oldPairRestartDone => exact execOldPairRestartDone_onward _ h
  | recGo value => exact execRecGo_onward _ _ h
  | recoveryResult container => exact execRecoveryResult_onward _ _ h
  | pmcSnap value => exact execPmcSnap_onward _ _ h
  | pmcClearAll value => exact execPmcClearAll_onward _ _ h
  | pmcLoRead n => exact execPmcLoRead_onward _ _ h
  | pmcWrap n increment => exact execPmcWrap_onward _ _ _ h
  | pmcOvfClear m value => exact execPmcOvfClear_onward _ _ _ h
  | sampleDue pair addr insn latency mode previousRetired => exact execSampleDue_onward _ _ _ _ _ _ _ h
  | smpData0Read parityOk => exact execSmpData0Read_onward _ _ h
  | smpData5Read => exact execSmpData5Read_onward _ h
  | smpLostRead => exact execSmpLostRead_onward _ h
  | trcData0Read => exact execTrcData0Read_onward _ h
  | trcData3Read => exact execTrcData3Read_onward _ h
  | trcCtrlWrite value => exact execTrcCtrlWrite_onward _ _ h
  | trcLostRead => exact execTrcLostRead_onward _ h
  | tbxTbnNsRead tb => exact execTbxTbnNsRead_onward _ _ h
  | capInfoClear tb value => exact execCapInfoClear_onward _ _ _ h
  | tbxLateMaxRead prog => exact execTbxLateMaxRead_onward _ _ h
  | c21ViolClear m value => exact execC21ViolClear_onward _ _ _ h
  | pwrAlertClear value => exact execPwrAlertClear_onward _ _ h
  | hifCqnDiscardsRead q => exact execHifCqnDiscardsRead_onward _ _ h
  | hifEvLostRead => exact execHifEvLostRead_onward _ h
  | audInErrRead input => exact execAudInErrRead_onward _ _ h
  | audSlipsRead => exact execAudSlipsRead_onward _ h
  | audMissingRead => exact execAudMissingRead_onward _ h
  | fusesRead => exact execFusesRead_onward _ h
  | perstNRise => exact execPerstNRise_onward _ h
  | busMasterEnable => exact execBusMasterEnable_onward _ h
  | codeWordLock braid strand locked => exact execCodeWordLock_onward _ _ _ _ h
  | flashWriteEnd readBackOk => exact execFlashWriteEnd_onward _ _ h
  | laneRecalibration lane => exact execLaneRecalibration_onward _ _ h
  | laneRecalibrationEnd lane => exact execLaneRecalibrationEnd_onward _ _ h
  | equalizerDecision lane ctle vga dfe => exact execEqualizerDecision_onward _ _ _ _ _ h
  | pageIdleExpiry channel bank => exact execPageIdleExpiry_onward _ _ _ h
  | snapCopyReadable => exact execSnapCopyReadable_onward _ h
  | startChecksComplete => exact execStartChecksComplete_onward _ h
  | standbyPairRestored => exact execStandbyPairRestored_onward _ h
  | aes3StopBlockEnd output => exact execAes3StopBlockEnd_onward _ _ h

end Sys2Proof.Machine
end

