-- ==== Sys2Proof/Laws/Operands.lean ====
section
/-!
SUPPORT. The verdicts of check 9: when none is found, and when the lowest offending offset is.
-/
set_option Elab.async false
namespace Sys2Proof.Machine

open Sys2Proof

/-- Nothing offends: there is no lowest offending offset. -/
theorem lowestBad_none {l : List (Nat × Bool)} : lowestBad l = none ↔ ∀ e ∈ l, e.2 = false := by
  induction l with
  | nil => simp [lowestBad]
  | cons a l ih =>
    obtain ⟨o, b⟩ := a
    cases b
    · simp [lowestBad, ih]
    · simp only [lowestBad]
      split <;> simp_all

/-- No field offends. -/
theorem badRange_none {l : List (Nat × Bool)} : badRange l = none ↔ ∀ e ∈ l, e.2 = false := by
  simp [badRange, lowestBad_none]

/-- A field offends: ERR_RANGE with some offset. -/
theorem badRange_some {l : List (Nat × Bool)} {e : Nat × Bool} (h : e ∈ l) (hb : e.2 = true) : ∃ d, badRange l = some (0x0201, d) := by
  unfold badRange
  cases hl : lowestBad l with
  | none => simp [lowestBad_none.1 hl e h] at hb
  | some o => exact ⟨o, rfl⟩

/-- The first verdict is none when every verdict is. -/
theorem firstOf_none {l : List Verdict} : firstOf l = none ↔ ∀ v ∈ l, v = none := by
  induction l with
  | nil => simp [firstOf]
  | cons v l ih => cases v <;> simp [firstOf, ih]

end Sys2Proof.Machine
end

