-- ==== Sys2Proof/Laws/Packet.lean ====
section
/-!
SUPPORT. Register writes: which block an address lies in, and which values a ring-size register takes.
-/
set_option Elab.async false
namespace Sys2Proof.Machine

open Sys2Proof

/-- A write in the block of a queue is a write of one of that queue's registers. -/
theorem writeReg_queue (s : State) {q o : Nat} (v : Nat) (hq : q < 16) (ho : o < 64) :
    s.writeReg (0x1000 + 64 * q + o) v = s.writeQueueReg q o v := by
  obtain ⟨x, hx⟩ : ∃ x, x = 0x1000 + 64 * q + o := ⟨_, rfl⟩
  rw [← hx]
  unfold State.writeReg
  rw [if_pos (by omega), show (x - 0x1000) / 64 = q by omega, show x % 64 = o by omega]

/-- A ring-size register takes a power of two between its least value and 65,536. -/
theorem sizeOk_iff {lo v : Nat} : sizeOk lo v = true ↔ lo ≤ v % 131072 ∧ ∃ k ≤ 16, v % 131072 = 2 ^ k := by
  unfold sizeOk
  simp only [Bool.and_eq_true, decide_eq_true_eq, List.any_eq_true, List.mem_range, beq_iff_eq]
  constructor
  · rintro ⟨⟨a, -⟩, k, hk, e⟩
    exact ⟨a, k, by omega, e⟩
  · rintro ⟨a, k, hk, e⟩
    refine ⟨⟨a, ?_⟩, k, by omega, e⟩
    rw [e]
    exact Nat.pow_le_pow_right (by decide) hk

end Sys2Proof.Machine
end

