-- ==== Sys2Proof/Tests/Slice0.lean ====
section
/-!
SUPPORT. Tests: refused operands, worked examples of the spec, and for the statements a state and a command that meet their hypotheses.
-/
set_option Elab.async false
namespace Sys2Proof.Tests

open Sys2Proof Sys2Proof.Machine

/-! ### Helpers -/

/-- An accepted command on CQ0 with SEQ 7. -/
def cmd (code object : Nat) (params : List Byte) : Cmd :=
  { q := 0, seq := 7, opcode := code, object := object, params := params, phase := .accepted }
/-- A state in which the command has been taken. -/
def having (s : State) (c : Cmd) : State := { s with hif := { s.hif with cmds := c :: s.hif.cmds } }
/-- The state at reset with a command of CQ0 taken. -/
def taking (c : Cmd) : State := having State.reset c
/-- An accepted command, one past its commit point, and an ABORT, with SEQ 9. -/
def target : Cmd := { cmd 0x0303 0x04000000 [] with seq := 9 }
def past : Cmd := { cmd 0x0303 0x04000000 [] with seq := 9, phase := .committed }
def another : Cmd := { cmd 0x0010 0x0D000000 [] with seq := 9 }
/-- The command starts now, read off. -/
def startsB (s : State) (c : Cmd) (code : Nat) : Bool :=
  isQueue c.q && decide (s.findCmd c.q c.seq = some c) && c.opcode == code && s.startable c && !c.clearing && c.effTime == 0
/-- Some state and command meet the hypotheses of a clause about an opcode. -/
def Meets (code : Nat) (p : Cmd → State → Prop) : Prop :=
  ∃ (s : State) (c : Cmd), s.StartsNow c code ∧ p c.begun (s.begun c)
theorem meets_of {code : Nat} {p : Cmd → State → Prop} (s : State) (c : Cmd)
    (h : startsB (having s c) c code && decide ((having s c).awaitsClearing c = none) = true) (hp : p c.begun ((having s c).begun c)) :
    Meets code p := by
  simp only [startsB, Bool.and_eq_true, decide_eq_true_eq, beq_iff_eq, Bool.not_eq_true'] at h
  exact ⟨having s c, c, ⟨⟨h.1.1.1.1.1.1, h.1.1.1.1.1.2, h.1.1.1.1.2, h.1.1.1.2⟩, h.1.1.2, h.1.2, h.2⟩, hp⟩

/-- The state at reset from READY on. -/
def on : State := { State.reset with power := { State.reset.power with ready := true, pllLocked := true, vin := 3300 } }
/-- A command packet of opcode 1 for a queue, without parameters. -/
def nopPacket (q : Byte) : List Byte :=
  let b := [1, 0, q, 0] ++ List.replicate 4 0 ++ [36, 0] ++ List.replicate 22 0
  b ++ leBytes 4 (crc32c b)
/-- CQ0 with `n` slots written. -/
def ring (n : Nat) : State :=
  let s := on.modQueue 0 (fun k => { k with enable := true, sqTail := n })
  { s with hif := { s.hif with linkUp := true, busMaster := true } }
/-- A datagram for the port of CQ14. -/
def datagram (payload : List Byte) : Datagram := { addr := [10, 0, 0, 1], port := 5000, dport := 23017, fragment := false, payload := payload }
/-- Time base `n` at reset, changed. -/
def base (n : Nat) (f : TimeBase → TimeBase) : State := on.modTb n f
/-- Flow `i` at reset, changed. -/
def rxAt (i : Nat) (f : RxFlow → RxFlow) : State := on.modRx i f
/-- Canopy `i` at reset, changed. -/
def canopyAt (i : Nat) (f : Canopy → Canopy) : State := on.modCanopy i f
/-- Program `i` at reset, changed. -/
def progAt (i : Nat) (f : Program → Program) : State := on.modProg i f
/-- A DURABLE command that its journal has not yet taken. -/
def kept : Cmd := { cmd 1 0 [] with flags := 2, phase := .accepting }
/-- A started LAYER_UPLOAD. -/
def upload : Cmd := { cmd 0x0303 0x04000000 [] with phase := .started }
/-- A started LAMP_TABLE_LOAD of canopy 15. -/
def load : Cmd := { cmd 0x0305 0x0200000F [] with phase := .started }
/-- A started COMMIT of canopy 0. -/
def armer : Cmd := { cmd 0x0304 0x02000000 [] with phase := .started }
/-- A lead in a formed twin. -/
def leading (s : State) : State := { s with twin := { s.twin with role := 2 } }
/-- A reservation of a graphics layer's pages, not yet filled. -/
def held : Reservation := { owner := 0x04000020, slot := 0, pages := [] }
/-- A started NOP with the EFFECT_TIME 100 on TB0. -/
def timed : Cmd := { cmd 1 0 [] with phase := .started, effTime := 100, pend := 100, fireAt := 100 }
/-- An armed capture of flow 5's packets. -/
def shot : Capture := { continuous := false, source := 0x40, flow := 5, q := 0, seq := 7, bufAddr := 0, bufLen := 0 }
/-- A good packet of port 3, sub-port 3. -/
def packet : RxPkt :=
  { port := 3, sub := 3, fcsOk := true, pause := false, ipVer := 4, dst := [], src := [], dport := 0, len := 0, version := 2, pt := 0, ssrc := 0,
    seq := 0, stamp := 0, srds := [], audio := [], internalOk := true }
/-- Braid `i` at reset, changed. -/
def braidAt (i : Nat) (f : Braid → Braid) : State := on.modBraid i f
/-- Egress flow `i` at reset, changed. -/
def txAt (i : Nat) (f : TxFlow → TxFlow) : State := on.modTx i f
/-- A unit at reset, changed. -/
def unitAt (u : Nat) (f : Machine.PUnit → Machine.PUnit) : State := on.modUnit u f
/-- A BRAID_LOOPBACK that names a buffer. -/
def loopback : Cmd := { cmd 0x0204 0 (List.replicate 28 0 ++ [80, 0, 0, 0]) with phase := .committed }
/-- A frame of one band of one section. -/
def oneBand : CanFrame :=
  { num := 0, g := 0, geom := { width := 512, height := 64 }, look := {}, layers := [], lamp := [], slot := 0, band := 128 }
/-- Canopy 0 has a frame of which nothing is composed yet. -/
def composing : State := canopyAt 0 (fun c => { c with geom := oneBand.geom, frames := [oneBand] })
/-- Its first operation, as a command names it and as the dispatcher does. -/
def first : OpName := { kind := 1, prog := 0, pic := 0, row := 0, seg := 0 }
def firstKey : OpKey := { kind := .compose, prog := 0, pic := 0, row := 0, seg := 0 }
/-- The plan of such a frame: one row of four CTUs in one segment. -/
def onePlan (priority : Nat) : Plan := { cfg := { priority := priority }, geom := oneBand.geom, cols := [0, 4], rows := [0, 1] }
/-- A picture, one with its budget, one with a QP for its row, and one with its row packed. -/
def fresh : Picture := { f := 0, n := 0, g := 0, launch := 50 }
def planned : Picture := { f := 0, n := 0, g := 0, launch := 1000000, decided := true, plan := onePlan 0 }
def qpSet : Picture := { planned with qps := [(0, 30)] }
def packed : Picture := { qpSet with crcs := [(0, 5, 1000000)] }
/-- Program 1 codes a finished frame of one row in one segment, and only EC0 may run it. -/
def coding : State :=
  let s := on.modProg 1 (fun p => { p with
    cfg := some { priority := 0 }, running := true, plan := onePlan 0, pics := [qpSet], permitted := some ([0], [0], [0]) })
  s.modCanopy 1 (fun c => { c with
    geom := oneBand.geom, frames := [{ oneBand with composeDone := [0], finishDone := [0] }] })
/-- The encoding of its row, one of program 0, and the store's entries of both. -/
def codedKey : OpKey := { kind := .encode, prog := 1, pic := 0, row := 0, seg := 0 }
def second : OpName := { kind := 3, prog := 0, pic := 0, row := 0, seg := 0 }
def runningKey : OpKey := { codedKey with prog := 0 }
def waiting : Op := { key := codedKey, level := 2, deadline := 0 }
def running : Op := { key := runningKey, level := 3, deadline := 0, unit := some 0 }
/-- EC0 runs an operation of program 0 that program 1's may pre-empt. -/
def contended : State :=
  let s := (coding.modUnit 0 (fun x => { x with op := some runningKey })).modProg 0 (fun p => { p with
    running := true, plan := onePlan 1, pics := [{ qpSet with plan := onePlan 1 }] })
  { s with disp := { s.disp with ops := [running] } }
/-- A packet, a leg with credit for it, and one without. -/
def small : TxPkt := {
  k := 0, prog := 0, pic := 0, row := 0, stream := 0, data := List.replicate 100 0, marker := false, first := false, last := false, launch := 0, ts := 0 }
def full : TxLeg := { queue := [small], c := { depth := 1000000, credit := 100000000 }, p := { depth := 1000000, credit := 100000000 } }
def poor : TxLeg := { queue := [small], p := { rate := 125000 } }
def waiter : BePkt := { flow := some (5, 1), pkt := some small, bytes := 100, tag := 0, entered := 0 }
/-- A channel at reset, changed. -/
def channelAt (i : Nat) (f : Channel → Channel) : State := on.modChannel i f
/-- A change of the DRAM rate, a read that no operation of the graph waits for, an entry of the error table, and an ECC test. -/
def change : FreqChange := { rate := 1, cmd := (0, 7) }
def reader : OpName := { kind := 0, prog := 0, pic := 0, row := 0, seg := 0 }
def faulty : EccEntry := { channel := 49, location := 0, hits := 16 }
def trial : EctTest := { channel := 49, word := 0, data := 5, flips := 3, cmd := none }
/-- An audio input at reset, changed. -/
def inputAt (i : Nat) (f : AudioIn → AudioIn) : State := on.modIn i f
/-- A command whose flash write has begun. -/
def writing : Cmd := { cmd 0x0D02 0x0D000000 [] with phase := .committed }
/-- An operation name of a program that the device has, and a Sync and an Announce message. -/
def op : OpName := { kind := 3, prog := 0, pic := 0, row := 0, seg := 0 }
def syn : Sync := { offset := 0, masterNs := 0, valid := true, inc := 0 }
def ann : Announce := { identity := 0, priority1 := 0, clockClass := 0, accuracy := 0, variance := 0, priority2 := 0, stepsRemoved := 0 }
/-- One term for each check of an operand, with just that operand outside, at the boundary. -/
theorem test_ill_formed_refused :
  (∀ i ∈ ([
  .sqTailDoorbell 16 0, .sqTailDoorbell 0 two32, .fetchPacket 16 [] [], .rqHeadWrite 16 0, .rqHeadWrite 0 two32, .resync 16 0,
  .resync 0 two32, .resyncStateEnter 16, .ringSizeWrite (.sq 16) 0, .ringSizeWrite (.rq 16) 0, .ringSizeWrite .ev two32,
  .evHeadWrite two32, .registerWrite 65536 32 0, .registerWrite 2 32 0, .registerWrite 0 24 0, .registerWrite 0 32 (2 ^ 32),
  .uploadComplete 31 [], .uploadComplete 64 [], .lampLoadComplete 16 [], .updateData 16 0 [], .clearing 16, .timeBaseWrap 4,
  .ptpSync 4 syn, .ptpAnnounce 4 ann, .syncTimeout 4, .ppsEdgeTimeout 4, .ppsOutRise 4] : List Instr), i.wf = false) ∧
  (∀ i ∈ ([
  .ppsOutFall 4, .slewComplete 4, .captureEvent 4 0 0, .packetArrival 0 { packet with port := 4 },
  .packetArrival 0 { packet with sub := 4 }, .legDown 256 0, .legDown 0 2, .lineDeadline 256, .frameDeadline 256,
  .yelucBlockRow 0 5 [], .alignmentMarker 5 0 12 0 0, .alignmentMarker 0 9 12 0 0, .clockStrandLost 5, .braidLockFail 5,
  .restoreTimeout 5, .loopbackEnd 5 [], .dispatch { op with prog := 16 }, .preempt { op with prog := 16 },
  .promote { op with prog := 16 }, .ackTimeout 68, .progressReport 68, .progressWatchdog 68, .unitInternalError 68,
  .unitSelfTestDone 68 true, .ctuComplete 68, .operationComplete 68, .cvDramTapEnd 7] : List Instr), i.wf = false) ∧
  (∀ i ∈ ([
  .cvDramTapEnd 16, .frameBudget 16 0, .rowDecision 16 0 0, .launchTime 16 0, .shaperEligible 1024 0 0, .wireIdle 4 0 0,
  .wireIdle 0 4 0, .packetEnd 4 0 true, .packetEnd 0 4 true, .beTimeout 4 0 0, .beTimeout 0 4 0, .beTimeout 0 0 8, .linkDown 4 0,
  .linkDown 0 4, .linkUp 4 0, .linkUp 0 4, .heartbeatDue 2, .heartbeat 2 0 [], .heartbeat 0 two32 [], .pathLost 2,
  .gateAllowanceEnd 16 0 0, .journalAckTimeout (2 ^ 64), .refreshDue 2 0 0 true, .refreshDue 0 18 0 true, .refreshDue 0 0 4 true,
  .dramTempReading 2 0, .eyeTracking 18 { width := 0 }] : List Instr), i.wf = false) ∧
  (∀ i ∈ ([
  .retrainSlice 18 none, .caParityError 0 18, .caParityError two32 0, .dramReadReturn 0 18 0 none op,
  .dramReadReturn 0 0 (2 ^ 30) none op, .dramReadReturn two32 0 0 none op, .dramReadReturn 0 0 0 none { op with prog := 16 },
  .keepLogWriteBack 64, .rowRepair 64, .fillComplete (16777216 * 16) 0, .mirrorCopyComplete 18, .memRateSwitch 2,
  .sramParityError 68 true, .sramEccError two32 0 0, .ectGo two32, .subframe 8 0 0 0 true, .subframe 0 2 0 0 true,
  .subframe 0 0 two32 0 true, .channelStatusBlock 8 0 (List.replicate 24 0) (List.replicate 24 0),
  .channelStatusBlock 0 2 (List.replicate 24 0) (List.replicate 24 0),
  .channelStatusBlock 0 0 (List.replicate 25 0) (List.replicate 24 0),
  .channelStatusBlock 0 0 (List.replicate 24 0) (List.replicate 25 0), .preambleTimeout 8, .measurementWindowEnd 9 0,
  .measurementWindowEnd 0 (2 ^ 18), .rampEnd (2 ^ 38), .aes3StartBlock 12] : List Instr), i.wf = false) ∧
  (∀ i ∈ ([
  .pdmWarmUpEnd 20, .audioSlip 184549388 0, .audioSlip 184549376 65, .audioPlayInstant 256 0, .audioPacketFormed 1024,
  .powerOnRelease 65536, .vinLow 65536, .vinNormal 65536, .vinHigh 65536, .vinHighClear 65536, .pcieReset 3,
  .junctionReading (-32769), .junctionReading 32768, .throttleEngageStep 65536, .throttleReleaseStep 65536, .avsMonitor 5 true,
  .avsLowerStep 5 true, .mcPairFault 2, .dramTrainingDone [(18, 0, { width := 0 })], .dramTrainingDone [(0, 3, { width := 0 })], .imageSetLoaded 2,
  .smbusReadWord 256 true, .smbusWriteWord 256 0 true, .smbusWriteWord 0 65536 true, .selfTestResult [68], .recGo two32,
  .pmcSnap two32] : List Instr), i.wf = false) ∧
  (∀ i ∈ ([
  .pmcClearAll two32, .pmcLoRead 128, .pmcWrap 128 0, .pmcOvfClear 4 0, .pmcOvfClear 0 two32, .sampleDue 2 0 0 0 0 true,
  .sampleDue 0 (2 ^ 64) 0 0 0 true, .sampleDue 0 0 two32 0 0 true, .sampleDue 0 0 0 0 2 true, .trcCtrlWrite two32, .tbxTbnNsRead 4,
  .capInfoClear 4 0, .capInfoClear 0 two32, .tbxLateMaxRead 16, .c21ViolClear 32 0, .c21ViolClear 0 two32, .pwrAlertClear two32,
  .hifCqnDiscardsRead 16, .audInErrRead 8, .codeWordLock 5 0 true, .codeWordLock 0 9 true, .laneRecalibration 26,
  .laneRecalibrationEnd 26, .equalizerDecision 26 0 0 0, .pageIdleExpiry 18 0, .pageIdleExpiry 0 16, .aes3StopBlockEnd 12] : List Instr), i.wf = false) := by
  decide +kernel
theorem test_rows_ask_for_a_queue : ∀ r ∈ opRows, (r.2 15 0).wf = true ∧ (r.2 16 0).wf = false := by
  decide +kernel
/-! ### Tests: expected results from the spec, or by hand from it -/

/-- The check value of CRC-32C (02 R54): the CRC of the nine digits. -/
theorem test_crc32c_check : crc32c [0x31, 0x32, 0x33, 0x34, 0x35, 0x36, 0x37, 0x38, 0x39] = 0xE3069283 := by decide +kernel
/-- An operand that names nothing stops the command. -/
theorem test_bad_operand_faults :
    exec (.evHeadWrite two32) State.reset = .fault .noSuchObject ∧ exec (.nop 16 0) State.reset = .fault .noSuchObject := ⟨rfl, rfl⟩
/-- The state that a step or a command answers, or the one at reset when it stops. -/
def after (o : Out) : State := match o with | .next t => t | _ => State.reset
/-- A tick of TB0 at the nominal INC is 1.25 ns (09 R388): 1 ns and 2^28 fractions of 2^-30 ns. -/
theorem test_tick : ((after (step on)).tb 0).ns = 1 ∧ ((after (step on)).tb 0).frac = 268435456 := by decide +kernel
/-- Four ticks carry the fraction into NS: 5 ns. -/
theorem test_tick_carries :
    ((after (steps 4 on)).tb 0).ns = 5 ∧ ((after (steps 4 on)).tb 0).frac = 0 := by decide +kernel
/-- SQ_TAIL wraps at the ring's size, 256 at reset (02). -/
theorem test_sq_tail_wraps : ((after (exec (.sqTailDoorbell 0 257) on)).queue 0).sqTail = 1 := by decide +kernel
/-- A ring size that is no power of two is ignored (17 R690); 128 is taken. -/
theorem test_ring_size :
    ((after (exec (.ringSizeWrite (.sq 3) 192) on)).queue 3).sqSize = 256 ∧ ((after (exec (.ringSizeWrite (.sq 3) 128) on)).queue 3).sqSize = 128 := by
  decide +kernel
/-- A write of 8 bits does nothing (00 R15). -/
theorem test_narrow_write_does_nothing : after (exec (.registerWrite 0x100C 8 1) on) = on := by decide +kernel
/-- The first packet of a queue in the resync state is taken, whatever its SEQ (02 R67), and it moves the expected SEQ on. -/
theorem test_first_packet_is_taken :
    let t := after (exec (.fetchPacket 0 (nopPacket 0 ++ List.replicate 28 0) []) (ring 1))
    (t.queue 0).sqHead = 1 ∧ (t.queue 0).expSeq = 1 ∧ (t.queue 0).resyncState = false := by decide +kernel
/-- Commands run first in, first out. -/
theorem test_queue_order :
    (after (steps 2 { on with pending := [.sqTailDoorbell 0 1, .sqTailDoorbell 0 2] })).queue 0 = { on.queue 0 with sqTail := 2 } := by
  decide +kernel
/-- A single wrong bit is corrected, and two are found (11 R499–R501). -/
theorem test_ecc :
    (eccDecode (eccEncode 0x0123456789ABCDEF 1)).data = 0x0123456789ABCDEF ∧
    (eccDecode (eccEncode 0x0123456789ABCDEF 1 ^^^ 2 ^ 79)).bits = [79] ∧
    (eccDecode (eccEncode 0x0123456789ABCDEF 1 ^^^ 2 ^ 79 ^^^ 1)).bits = [0, 79] := by decide +kernel
/-- A layer over the whole 7680 × 4320 canopy with a crop of its source. -/
def zoomShot (x y w h : Nat) : LayerShot :=
  { index := 0, cfg := { cropX := x, cropY := y, cropW := w, cropH := h, dstW := 7680, dstH := 4320 } }
/-- The worked example of the compositor hint (06 R300, R301): the hint of the CTU centred at (3904, 2112), and its affine candidate. -/
theorem test_hint_of_a_zoom :
    hintAt (zoomShot 96 54 3648 2052, zoomShot 0 0 3840 2160) 3904 2112 = (-51, 38) ∧
    hintAffine (zoomShot 96 54 3648 2052, zoomShot 0 0 3840 2160) 3904 2112 64 = [(0, 90), (-102, 90)] := by decide +kernel
/-! ### States and commands that meet the hypotheses of the statements -/

/-- A command that starts. -/
theorem starts_of {s : State} {c : Cmd} {code : Nat}
    (h : (isQueue c.q && decide (s.findCmd c.q c.seq = some c) && c.opcode == code && s.startable c) = true) : s.Starts c code := by
  simp only [Bool.and_eq_true, decide_eq_true_eq, beq_iff_eq] at h
  exact ⟨h.1.1.1, h.1.1.2, h.1.2, h.2⟩
/-- A row that a packet names fits when it fits the packet. -/
theorem fits_of {code : Nat} {p : OpRow → Bool} (h : (opRow code).all p = true) : ∀ r, opRow code = some r → p r = true := by
  intro r hr
  rw [hr] at h
  simpa using h
/-- Every opcode but PROGRAM_START, which waits for its clearing, has a command that starts now. -/
theorem witness_opcodes_start : ∀ r ∈ opRows, r.1 ≠ 0x0402 → ∃ s c, State.StartsNow s c r.1 := by
  have h : ∀ r ∈ opRows, r.1 ≠ 0x0402 → startsB (taking (cmd r.1 0 [])) (cmd r.1 0 []) r.1 = true ∧
      (taking (cmd r.1 0 [])).awaitsClearing (cmd r.1 0 []) = none := by decide +kernel
  intro r hr hn
  obtain ⟨a, b⟩ := h r hr hn
  simp only [startsB, Bool.and_eq_true, decide_eq_true_eq, beq_iff_eq, Bool.not_eq_true'] at a
  exact ⟨_, _, ⟨⟨a.1.1.1.1.1, a.1.1.1.1.2, a.1.1.1.2, a.1.1.2⟩, a.1.2, a.2, b⟩⟩

theorem witness_StepRunsTheFrontCommand : ∃ (s : State) (c : Instr) (rest : List Instr), s.pending = c :: rest :=
  ⟨{ State.reset with pending := [.brownOut, .ready] }, .brownOut, [.ready], rfl⟩
theorem witness_IdleStepIsOneTick :
    (∃ s : State, s.pending = [] ∧ s.clocked = false) ∧
    (∃ s : State, s.pending = [] ∧ s.clocked = true ∧ (s.tb 0).state ≠ 0 ∧ (s.tb 0).mode ≠ 3 ∧ (s.tb 0).slew = none ∧ (s.tb 3).state = 0) :=
  ⟨⟨State.reset, by decide +kernel⟩, ⟨on, by decide +kernel⟩⟩
theorem witness_CommandsAnswerExactlyWhenWellFormed : (Instr.evHeadWrite 4294967295).wf = true ∧ (Instr.evHeadWrite 4294967296).wf = false := by
  decide +kernel
theorem witness_QueuedCommandsRunInOrder :
    ∃ s : State, PendingWf s ∧ 2 ≤ s.pending.length :=
  ⟨{ State.reset with pending := [.nop 15 0, .ready] }, by unfold PendingWf; decide +kernel⟩
theorem witness_FusesOnlyBurn : ∃ s t : State, step s = .next t := ⟨State.reset, _, rfl⟩
theorem witness_MemoryKeepsItsForm : ∃ s t : State, s.mem.wf = true ∧ step s = .next t := ⟨State.reset, _, by decide +kernel, rfl⟩
theorem witness_CommandsWaitForTheirTurnAndTheirTime :
    (0x0001, Instr.nop) ∈ opRows ∧ (State.reset.findCmd 0 7 = none) ∧
    (∃ (s : State) (c : Cmd), s.findCmd 0 7 = some c ∧ ¬(c.opcode = 0x0001 ∧ s.startable c = true)) ∧
    (∃ (s : State) (c : Cmd), s.Starts c 0x0302 ∧ c.clearing = true ∧ s.targetCanopy c.object = some 15 ∧
      (s.canopy 15).running = true ∧ c.effTime = 0) ∧
    (∃ (s : State) (c : Cmd), s.Starts c 0x0001 ∧ c.clearing = false ∧ c.effTime ≠ 0) :=
  ⟨List.mem_of_getElem? (i := 0) rfl, by decide +kernel, ⟨taking timed, timed, by decide +kernel⟩,
   ⟨(taking { cmd 0x0302 0x0200000F [] with flags := 4 }).modCanopy 15 (fun k => { k with running := true }), { cmd 0x0302 0x0200000F [] with flags := 4 },
    starts_of (by decide +kernel), by decide +kernel⟩,
   ⟨taking { cmd 1 0 [] with effTime := 100 }, { cmd 1 0 [] with effTime := 100 }, starts_of (by decide +kernel), by decide +kernel⟩⟩
theorem witness_StartableMeansFenced :
    (∃ (s : State) (c d : Cmd), s.startable c = true ∧ c.opcode ≠ 0x0010 ∧ d ∈ s.hif.cmds ∧ d.pos < c.pos ∧ d.q = c.q) ∧
    (∃ (s : State) (c : Cmd), c.phase = .accepted ∧ s.power.warm = false ∧ s.mute c = false ∧
      (∀ d ∈ s.hif.cmds, d.pos < c.pos → c.hitch = false ∧ d.hitch = false ∧
        (c.again = true → d.again = true → d.waitingToStart = false) ∧ (d.q = c.q → d.waitingToStart = false ∧ c.conflicts d = false))) ∧
    (∃ (s : State) (c : Cmd), c.opcode = 0x0010 ∧ c.phase = .accepted ∧ s.power.warm = false ∧ s.mute c = false) :=
  ⟨⟨taking upload, { cmd 0x0208 0x05000000 [] with pos := 1 }, upload, by decide +kernel⟩,
   ⟨taking upload, { cmd 0x0208 0x05000000 [] with pos := 1 }, by decide +kernel⟩, ⟨on, cmd 0x0010 0 [], by decide +kernel⟩⟩
theorem witness_OutcomesAreJournaledAndAnswered :
    (∃ (s : State) (c : Cmd), c.opcode ≠ 0x0102 ∧ c.quiet = false ∧ c.replayed = false ∧ s.mute c = false ∧ c.replyTo.udp = true ∧
      s.power.warm = false) ∧
    (∃ c : Cmd, c.quiet = true) :=
  ⟨⟨on, { cmd 1 0 [] with replyTo := { udp := true, addr := [10, 0, 0, 1], port := 5000 } }, by decide +kernel⟩,
   ⟨{ cmd 1 0 [] with flags := 8 }, by decide +kernel⟩⟩
/-- A packet of an unknown opcode. -/
def unknown : List Byte := List.replicate 8 0 ++ [36, 0] ++ List.replicate 26 0
theorem witness_RejectedCommandsLeaveTheShadowState :
    on.checkTaken (cmdOf unknown on.hif.nextPos {} []) (headerOf unknown).clean (headerOf unknown).flags ≠ none := by decide +kernel
/-- A NOP packet with one bit of QUEUE (bit 4), FLAGS (bit 4), byte 11, EFFECT_TB (bit 2), byte 21 or byte 28 set. -/
def spoilt (i : Nat) (b : Byte) : List Byte := (nopPacket 0).set i b
theorem witness_ReservedHeaderBitsAreRejected :
    ∀ e ∈ ([(2, 16), (3, 16), (11, 1), (20, 4), (21, 1), (28, 1)] : List (Nat × Byte)),
      (opRow (pktU (spoilt e.1 e.2) 0 2)).isSome = true ∧
      (16 ≤ pktU (spoilt e.1 e.2) 2 1 ∨ 16 ≤ pktU (spoilt e.1 e.2) 3 1 ∨ pktU (spoilt e.1 e.2) 11 1 ≠ 0 ∨ 4 ≤ pktU (spoilt e.1 e.2) 20 1 ∨
        pktU (spoilt e.1 e.2) 21 3 ≠ 0 ∨ pktU (spoilt e.1 e.2) 28 4 ≠ 0) ∧ on.isFollower = false ∧ (on.queue 0).resyncState = true ∧
      ∀ r, opRow (pktU (spoilt e.1 e.2) 0 2) = some r →
        decide ((headerOf (spoilt e.1 e.2)).length = permittedLength r (paramsOf (spoilt e.1 e.2) (headerOf (spoilt e.1 e.2)).length)) = true := by
  have h : ∀ e ∈ ([(2, 16), (3, 16), (11, 1), (20, 4), (21, 1), (28, 1)] : List (Nat × Byte)),
      (opRow (pktU (spoilt e.1 e.2) 0 2)).isSome = true ∧
      (16 ≤ pktU (spoilt e.1 e.2) 2 1 ∨ 16 ≤ pktU (spoilt e.1 e.2) 3 1 ∨ pktU (spoilt e.1 e.2) 11 1 ≠ 0 ∨ 4 ≤ pktU (spoilt e.1 e.2) 20 1 ∨
        pktU (spoilt e.1 e.2) 21 3 ≠ 0 ∨ pktU (spoilt e.1 e.2) 28 4 ≠ 0) ∧ on.isFollower = false ∧ (on.queue 0).resyncState = true ∧
      (opRow (pktU (spoilt e.1 e.2) 0 2)).all (fun r =>
        decide ((headerOf (spoilt e.1 e.2)).length = permittedLength r (paramsOf (spoilt e.1 e.2) (headerOf (spoilt e.1 e.2)).length))) = true := by
    decide +kernel
  intro e he
  obtain ⟨a, b, c, d, f⟩ := h e he
  exact ⟨a, b, c, d, fits_of f⟩
/-- CQ0 past its resync state, with the expected SEQ 5 and the expected ALIVE 0, and SEQ 0 taken before, with or without its outcome. -/
def expecting (w : List JEntry) : State := on.modQueue 0 (fun k => { k with resyncState := false, expSeq := 5, window := w })
theorem witness_ReceiptChecksAnswer :
    (∃ b : List Byte, ∃ r, opRow (headerOf b).opcode = some r ∧ (headerOf b).length ≠ permittedLength r (paramsOf b (headerOf b).length)) ∧
    (∀ r, opRow (headerOf (nopPacket 0)).opcode = some r →
      decide ((headerOf (nopPacket 0)).length = permittedLength r (paramsOf (nopPacket 0) (headerOf (nopPacket 0)).length)) = true) ∧
    (∃ s : State, s.isFollower = false ∧
      ¬((s.queue 0).resyncState = true ∨ (s.queue 0).anyAlive = true ∨ (headerOf (nopPacket 0)).alive = (s.queue 0).expAlive)) ∧
    (∃ s : State, (headerOf (nopPacket 0)).alive = (s.queue 0).expAlive ∧ (s.queue 0).resyncState = false ∧
      (headerOf (nopPacket 0)).seq ≠ (s.queue 0).expSeq ∧ ∀ e ∈ (s.queue 0).window, e.seq ≠ (headerOf (nopPacket 0)).seq) ∧
    (∃ (s : State) (e : JEntry), (headerOf (nopPacket 0)).alive = (s.queue 0).expAlive ∧ (s.queue 0).resyncState = false ∧
      (headerOf (nopPacket 0)).seq ≠ (s.queue 0).expSeq ∧
      (s.queue 0).window.find? (fun e => e.seq = (headerOf (nopPacket 0)).seq) = some e ∧ e.outcome = none) ∧
    (∃ (s : State) (e : JEntry), (headerOf (nopPacket 0)).alive = (s.queue 0).expAlive ∧ (s.queue 0).resyncState = false ∧
      (headerOf (nopPacket 0)).seq ≠ (s.queue 0).expSeq ∧
      (s.queue 0).window.find? (fun e => e.seq = (headerOf (nopPacket 0)).seq) = some e ∧ e.outcome = some {} ∧ e.quiet = false) :=
  ⟨⟨(nopPacket 0).set 8 40, (opRow 1).get (by decide +kernel), by decide +kernel⟩, fits_of (by decide +kernel),
   ⟨(expecting []).modQueue 0 (fun k => { k with expAlive := 1 }), by decide +kernel⟩, ⟨expecting [], by decide +kernel⟩,
   ⟨expecting [{ seq := 0 }], { seq := 0 }, by decide +kernel⟩,
   ⟨expecting [{ seq := 0, outcome := some {} }], { seq := 0, outcome := some {} }, by decide +kernel⟩⟩
theorem witness_FutureTimesFireWhenTheyAreReached :
    (∃ (b : TimeBase) (t k : Nat), b.ns < two32 ∧ t < two32 ∧ k < two32 ∧ 0 < (t + two32 - b.ns) % two32 ∧
      (t + two32 - b.ns) % two32 < 2147483648) ∧
    (∃ s : State, (s.tb 0).state ≠ 0 ∧ 0 < (2147483647 + two32 - (s.tb 0).ns) % two32 ∧
      (2147483647 + two32 - (s.tb 0).ns) % two32 < 2147483648 ∧
      ¬(0 < (2147483648 + two32 - (s.tb 0).ns) % two32 ∧ (2147483648 + two32 - (s.tb 0).ns) % two32 < 2147483648)) ∧
    (∃ s : State, (s.tb 3).state = 0) :=
  ⟨⟨{ ns := 4294967295 }, 0, 1, by decide +kernel⟩, ⟨on, by decide +kernel⟩, ⟨on, by decide +kernel⟩⟩
theorem witness_DramWordsReadBack : ∃ ch' ca' : Nat, ch' ≠ 0 ∨ ca' / 8 ≠ 0 / 8 := ⟨0, 8, by decide⟩
theorem witness_CodeCorrectsAnyTwoBits : ∃ d w i j : Nat, d < 2 ^ 64 ∧ w < 2 ∧ i < 80 ∧ i < j ∧ j < 80 :=
  ⟨2 ^ 64 - 1, 1, 78, 79, by decide⟩
theorem witness_RepliesAndEventRecords :
    (∃ r : Reply, 255 < 256 ∧ 4294967295 < two32 ∧ r.kind < 256 ∧ r.status < 65536 ∧ r.detail < two32 ∧ r.ts < two32) ∧
    (∃ e : EventRec, e.queue < 256 ∧ e.event < 65536 ∧ e.seq < two32 ∧ e.object < two32 ∧ e.d0 < two32 ∧ e.d1 < two32 ∧ e.ts < two32) ∧
    (∃ s : State, bit (s.hif.evMask.get 0 (0x0301 / 256)) (0x0301 % 256) = true) ∧
    (∃ s : State, bit (s.hif.evMask.get 0 (0x0301 / 256)) (0x0301 % 256) = false ∧ s.twin.role ≠ 3) :=
  ⟨⟨{ kind := 255, status := 65535, detail := 4294967295, ts := 4294967295 }, by decide +kernel⟩,
   ⟨{ event := 65535, seq := 4294967295 }, by decide +kernel⟩,
   ⟨{ on with hif := { on.hif with evMask := [(3, 2)] } }, by decide +kernel⟩, ⟨on, by decide +kernel⟩⟩
theorem witness_PolicerSetReplacesRatesAndDepths :
    ∃ (s : State) (c : Cmd), checkPolicerSet s c = none :=
  ⟨rxAt 255 (fun f => { f with isOpen := true }), cmd 0x0208 0x050000FF
    ([0, 0, 0, 0, 72, 232, 1, 0, 0, 0, 0, 0, 0, 116, 59, 164, 11, 0, 0, 0, 255, 255, 255, 0, 2, 6, 0, 0]), by decide +kernel⟩
theorem witness_SelfTimedCommandsStart :
    (∃ (s : State) (c : Cmd), s.Starts c 0x0303) ∧
    (∃ (s : State) (d : Cmd), s.hif.cmds.find? (fun c => c.opcode = 0x0303 && c.layerIdx = 32 && c.phase == .started && !c.armed) = some d ∧
      (s.layer 32).uploading = none ∧ s.uploadArmed 32 = false ∧ (s.layer 32).uploadGeom ≠ none) ∧
    (∃ (s : State) (c : Cmd), s.Starts c 0x0304 ∧ (s.modCmd c.q c.seq Cmd.begun).commitBlocked c.begun = true) ∧
    (∃ (s : State) (c : Cmd), s.Starts c 0x0304 ∧ (s.modCmd c.q c.seq Cmd.begun).commitBlocked c.begun = false) ∧
    (∃ (s : State) (c : Cmd), s.Starts c 0x0305) ∧
    (∃ (s : State) (c : Cmd), s.Starts c 0x0D02 ∧ s.upd.dataCmd = none ∧ s.upd.state ≠ 1) ∧
    (∃ (s : State) (c : Cmd), s.Starts c 0x0D02 ∧ s.upd.dataCmd = none ∧ s.upd.state = 1 ∧ c.u 8 1 ≠ 1) ∧
  (∃ (s : State) (d : Cmd), s.hif.cmds.find? (fun c => c.opcode = 0x0303 && c.layerIdx = 63 && c.phase == .started && !c.armed) = some d ∧
      (s.layer 63).uploading = none ∧ s.uploadArmed 63 = false ∧ (s.layer 63).uploadGeom ≠ none ∧ (s.layer 63).newPair ≠ none) :=
  ⟨⟨taking (cmd 0x0303 0x04000020 []), cmd 0x0303 0x04000020 [], starts_of (by decide +kernel)⟩,
   ⟨(taking upload).modLayer 32 (fun l => { l with shadow := { l.shadow with canopy := some 0 } }), upload, by decide +kernel⟩,
   ⟨having (taking { armer with seq := 8, q := 1, armed := true }) (cmd 0x0304 0x02000000 []), cmd 0x0304 0x02000000 [],
    starts_of (by decide +kernel), by decide +kernel⟩,
   ⟨taking (cmd 0x0304 0x02000000 []), cmd 0x0304 0x02000000 [], starts_of (by decide +kernel), by decide +kernel⟩,
   ⟨taking (cmd 0x0305 0x02000000 []), cmd 0x0305 0x02000000 [], starts_of (by decide +kernel)⟩,
   ⟨taking (cmd 0x0D02 0x0D000000 []), cmd 0x0D02 0x0D000000 [], starts_of (by decide +kernel), by decide +kernel⟩,
   ⟨{ taking (cmd 0x0D02 0x0D000000 []) with upd := { State.reset.upd with state := 1 } }, cmd 0x0D02 0x0D000000 [],
    starts_of (by decide +kernel), by decide +kernel⟩,
   ⟨(taking { upload with object := 0x0400001F }).modLayer 63 (fun l => { l with
      newPair := some [], shadow := { l.shadow with canopy := some 0 } }), { upload with object := 0x0400001F }, by decide +kernel⟩⟩
/-- An upload of layer 32 and a load of canopy 15 that nothing holds back, and a COMMIT of canopies 0 and 15. -/
def uploader : Cmd := cmd 0x0303 0x04000000 []
def loader : Cmd := cmd 0x0305 0x0200000F []
def committer : Cmd := cmd 0x0304 0x02000000 [1, 0, 0, 0, 15, 0, 0, 2]
theorem witness_SelfTimedCommandsStart_alone :
    (∃ s : State, s.Starts uploader 0x0303 ∧ uploader.armed = false ∧
      (∀ d ∈ s.hif.cmds, d.opcode = 0x0303 → d.layerIdx = 32 → d.phase = .started → d.armed = true) ∧ (s.layer 32).uploading = none ∧
      s.uploadArmed 32 = false ∧ (s.layer 32).uploadGeom ≠ none) ∧
    (∃ s : State, s.Starts loader 0x0305 ∧ loader.armed = false ∧
      (∀ d ∈ s.hif.cmds, d.opcode = 0x0305 → d.idx = 15 → d.phase = .started → d.armed = true) ∧ (s.canopy 15).loading = none) ∧
    (∀ b ∈ ([false, true] : List Bool), ∃ s : State, s.Starts committer 0x0304 ∧
      (s.modCmd 0 7 Cmd.begun).commitBlocked committer.begun = false ∧ 15 ∈ committer.commitCanopies ∧
      committer.commitCanopies.any (fun k => (s.canopy k).running) = b) :=
  ⟨⟨(taking uploader).modLayer 32 (fun l => { l with shadow := { l.shadow with canopy := some 0 } }), starts_of (by decide +kernel),
    by decide +kernel⟩,
   ⟨taking loader, starts_of (by decide +kernel), by decide +kernel⟩,
   fun b hb => ⟨(taking committer).modCanopy 15 (fun k => { k with running := b }), by
    have h : ∀ b ∈ ([false, true] : List Bool), let s := (taking committer).modCanopy 15 (fun k => { k with running := b })
        (isQueue committer.q && decide (s.findCmd committer.q committer.seq = some committer) && committer.opcode == 0x0304 &&
          s.startable committer) = true ∧ (s.modCmd 0 7 Cmd.begun).commitBlocked committer.begun = false ∧
        15 ∈ committer.commitCanopies ∧ committer.commitCanopies.any (fun k => (s.canopy k).running) = b := by decide +kernel
    exact ⟨starts_of (h b hb).1, (h b hb).2⟩⟩⟩
/-- A RATE_CONFIG for a program that waits for its clearing, at a bit rate beyond every level. -/
def tooFast : Cmd := cmd 0x0501 0x01000000 [0, 40, 107, 238]
def starting : State := (State.reset.modCanopy 0 (fun k => { k with geom := { oneBand.geom with mode := 1 }, configured := true })).modProg 0
  (fun p => { p with cfg := some {}, starting := true, plan := { levels := [(0, (48, 0))] } })
/-- A command on program 15, with the program running, and with its canopy running or not. -/
def progCmd (code : Nat) : Cmd := cmd code 0x0100000F []
def progOn (code : Nat) : State := (taking (progCmd code)).modProg 15 (fun p => { p with running := true })
def canopyOn (b : Bool) : State := (taking (progCmd 0x0402)).modCanopy 15 (fun p => { p with running := b })
theorem witness_ProgramCommandsWaitForTheirClearing :
    (∀ code ∈ ([0x0401, 0x0403, 0x0405, 0x0502] : List Nat), ∃ (s : State) (c : Cmd), s.Starts c code ∧ c.clearing = false ∧
      c.effTime = 0 ∧ s.awaitsClearing c = some 15 ∧ c.begun.armed = false ∧ ((s.begunAt c 15).prog c.begun.idx).running = true) ∧
    (∀ b ∈ ([false, true] : List Bool), ∃ (s : State) (c : Cmd), s.Starts c 0x0402 ∧ c.clearing = false ∧ c.effTime = 0 ∧
      s.awaitsClearing c = some 15 ∧ c.begun.armed = false ∧ ((s.begunAt c 15).canopy c.begun.idx).running = b) := by
  have h : ∀ code ∈ ([0x0401, 0x0403, 0x0405, 0x0502] : List Nat),
      (isQueue (progCmd code).q && decide ((progOn code).findCmd (progCmd code).q (progCmd code).seq = some (progCmd code)) &&
        (progCmd code).opcode == code && (progOn code).startable (progCmd code)) = true ∧ (progCmd code).clearing = false ∧
      (progCmd code).effTime = 0 ∧ (progOn code).awaitsClearing (progCmd code) = some 15 ∧ (progCmd code).begun.armed = false ∧
      (((progOn code).begunAt (progCmd code) 15).prog (progCmd code).begun.idx).running = true := by decide +kernel
  have g : ∀ b ∈ ([false, true] : List Bool),
      (isQueue (progCmd 0x0402).q && decide ((canopyOn b).findCmd (progCmd 0x0402).q (progCmd 0x0402).seq = some (progCmd 0x0402)) &&
        (progCmd 0x0402).opcode == 0x0402 && (canopyOn b).startable (progCmd 0x0402)) = true ∧ (progCmd 0x0402).clearing = false ∧
      (progCmd 0x0402).effTime = 0 ∧ (canopyOn b).awaitsClearing (progCmd 0x0402) = some 15 ∧ (progCmd 0x0402).begun.armed = false ∧
      (((canopyOn b).begunAt (progCmd 0x0402) 15).canopy (progCmd 0x0402).begun.idx).running = b := by decide +kernel
  exact ⟨fun code hc => ⟨_, _, starts_of (h code hc).1, (h code hc).2⟩, fun b hb => ⟨_, _, starts_of (g b hb).1, (g b hb).2⟩⟩
/-- A RATE_CONFIG of 20 Mbit/s for program 15, which runs, and its plan then; the bytes of its headers are open (log entry 5). -/
def slower : Cmd := cmd 0x0501 0x0100000F [0, 45, 49, 1, 0, 0, 0, 0, 0, 4]
def slowPlan : Plan := { onePlan 1 with rate := slower.rateCfg {} }
theorem witness_ProgramCommandsWaitForTheirClearing_rate :
    ∃ (s : State) (c : Cmd), s.Starts c 0x0501 ∧ c.clearing = false ∧ c.effTime = 0 ∧ s.awaitsClearing c = some 15 ∧
      c.begun.armed = false ∧ ((s.begunAt c 15).prog c.begun.idx).running = true ∧
      (slowPlan.floorMax (wholeGeo oneBand.geom 0) ≤ drainMin 20000000 0 →
        lowestBad ((s.begunAt c 15).badNewRate c.begun.idx (c.begun.rateCfg ((s.begunAt c 15).prog c.begun.idx).rate)) = none) := by
  refine ⟨(taking slower).modProg 15 (fun p => { p with running := true, plan := onePlan 1 }), slower, starts_of (by decide +kernel),
    rfl, rfl, by decide +kernel, rfl, by decide +kernel, fun h => ?_⟩
  show lowestBad slowPlan.badRate = none
  have g : slowPlan.geos = [wholeGeo oneBand.geom 0] := by decide +kernel
  have e : slowPlan.rb (wholeGeo oneBand.geom 0) = 20000000 := by decide +kernel
  have n : decide (drainMin (slowPlan.rb (wholeGeo oneBand.geom 0)) slowPlan.geom.rate < slowPlan.floorMax (wholeGeo oneBand.geom 0)) = false := by
    rw [e]; exact decide_eq_false (Nat.not_lt.mpr h)
  simp only [Plan.badRate, g, List.flatMap_cons, List.flatMap_nil, n]
  decide +kernel
theorem witness_TimeCommandsRun_starting :
    Meets 0x0701 (fun c s => c.u 0 1 ≠ 0 ∧ c.idx < 4 ∧ ((s.tb c.idx).state = 0 ∨ (s.tb c.idx).mode ≠ c.u 1 1)) :=
  meets_of State.reset (cmd 0x0701 0x08000003 [1, 1]) (by decide) (by decide)

theorem witness_DeviceCommandsRun :
  Meets 0x0005 (fun c _ => c.u 0 1 = 0) ∧
  Meets 0x0005 (fun c _ => c.u 0 1 ≠ 0) :=
  ⟨
    meets_of (State.reset) (cmd 0x0005 0x00000000 ([])) (by decide) (by decide),
    meets_of (State.reset) (cmd 0x0005 0x00000000 ([1])) (by decide) (by decide)⟩

theorem witness_ResetUnitRuns :
  Meets 0x0003 (fun c s => (s.unit c.idx).state = 2) ∧
  Meets 0x0003 (fun c s => (s.unit c.idx).state ≠ 2 ∧ (s.unit c.idx).op = none ∧ s.spareOf c.idx = some 64) ∧
  Meets 0x0003 (fun c s => (s.unit c.idx).state ≠ 2 ∧ (s.unit c.idx).op = none ∧ s.spareOf c.idx = none) ∧
  Meets 0x0003 (fun c s => (s.unit c.idx).state ≠ 2 ∧ (s.unit c.idx).op = some { kind := .encode, prog := 0, pic := 0, row := 0, seg := 0 }) :=
  ⟨
    meets_of ({ State.reset with disp := { State.reset.disp with units := [(0, { state := 2 })] } }) (cmd 0x0003 0x0C000000 ([])) (by decide) (by decide),
    meets_of (State.reset) (cmd 0x0003 0x0C000000 ([])) (by decide) (by decide),
    meets_of ({ State.reset with disp := { State.reset.disp with units := [(64, { state := 2 }), (65, { state := 2 }), (66, { state := 2 }), (67, { state := 2 })] } }) (cmd 0x0003 0x0C000000 ([])) (by decide) (by decide),
    meets_of ({ State.reset with disp := { State.reset.disp with units := [(0, { op := some { kind := .encode, prog := 0, pic := 0, row := 0, seg := 0 } })] } }) (cmd 0x0003 0x0C000000 ([])) (by decide) (by decide)⟩

theorem witness_QueueConfigRuns :
  Meets 0x0102 (fun c s => c.u 0 1 ≠ c.q ∧ (c.binding.udp ≠ (s.queue (c.u 0 1)).bind.udp ∨ c.binding.srcAddr ≠ (s.queue (c.u 0 1)).bind.srcAddr ∨ c.binding.srcPort ≠ (s.queue (c.u 0 1)).bind.srcPort)) ∧
  Meets 0x0102 (fun c s => c.u 0 1 ≠ c.q ∧ ¬(c.binding.udp ≠ (s.queue (c.u 0 1)).bind.udp ∨ c.binding.srcAddr ≠ (s.queue (c.u 0 1)).bind.srcAddr ∨ c.binding.srcPort ≠ (s.queue (c.u 0 1)).bind.srcPort)) ∧
  Meets 0x0102 (fun c s => c.u 0 1 = c.q ∧ (c.binding.udp ≠ (s.queue (c.u 0 1)).bind.udp ∨ c.binding.srcAddr ≠ (s.queue (c.u 0 1)).bind.srcAddr ∨ c.binding.srcPort ≠ (s.queue (c.u 0 1)).bind.srcPort)) ∧
  Meets 0x0102 (fun c s => c.u 0 1 = c.q ∧ ¬(c.binding.udp ≠ (s.queue (c.u 0 1)).bind.udp ∨ c.binding.srcAddr ≠ (s.queue (c.u 0 1)).bind.srcAddr ∨ c.binding.srcPort ≠ (s.queue (c.u 0 1)).bind.srcPort)) :=
  ⟨
    meets_of (State.reset) (cmd 0x0102 0x00000000 ([1, 1])) (by decide) (by decide),
    meets_of (State.reset) (cmd 0x0102 0x00000000 ([1, 0] ++ List.replicate 24 0)) (by decide) (by decide),
    meets_of (State.reset) (cmd 0x0102 0x00000000 ([0, 1])) (by decide) (by decide),
    meets_of (State.reset) (cmd 0x0102 0x00000000 ([0, 0] ++ List.replicate 24 0)) (by decide) (by decide)⟩

theorem witness_AbortRuns :
  Meets 0x0010 (fun c s => s.findCmd (c.u 0 1) (c.u 4 4) = some target ∧ target.opcode ≠ 0x0010 ∧ target.phase ≠ .committed ∧ commitsAtAcceptance target.opcode = false) ∧
  Meets 0x0010 (fun c s => s.findCmd (c.u 0 1) (c.u 4 4) = some past ∧ past.opcode ≠ 0x0010 ∧ (past.phase = .committed ∨ commitsAtAcceptance past.opcode = true)) ∧
  Meets 0x0010 (fun c s => s.findCmd (c.u 0 1) (c.u 4 4) = some another ∧ another.opcode = 0x0010) ∧
  Meets 0x0010 (fun c s => s.findCmd (c.u 0 1) (c.u 4 4) = none ∧ (s.queue (c.u 0 1)).window.find? (fun e => e.seq = c.u 4 4) = some { seq := 9 }) ∧
  Meets 0x0010 (fun c s => s.findCmd (c.u 0 1) (c.u 4 4) = none ∧ (s.queue (c.u 0 1)).window.find? (fun e => e.seq = c.u 4 4) = none) :=
  ⟨
    meets_of (taking target) (cmd 0x0010 0x00000000 ([0, 0, 0, 0, 9])) (by decide) (by decide),
    meets_of (taking past) (cmd 0x0010 0x00000000 ([0, 0, 0, 0, 9])) (by decide) (by decide),
    meets_of (taking another) (cmd 0x0010 0x00000000 ([0, 0, 0, 0, 9])) (by decide) (by decide),
    meets_of (State.reset.modQueue 0 (fun k => { k with window := [{ seq := 9 }] })) (cmd 0x0010 0x00000000 ([0, 0, 0, 0, 9])) (by decide) (by decide),
    meets_of (State.reset) (cmd 0x0010 0x00000000 ([0, 0, 0, 0, 9])) (by decide) (by decide)⟩

theorem witness_IngestCommandsRun :
  Meets 0x0205 (fun c _ => c.u 1 1 = 0) ∧
  Meets 0x0205 (fun c _ => c.u 1 1 ≠ 0) :=
  ⟨
    meets_of (State.reset) (cmd 0x0205 0x00000000 ([])) (by decide) (by decide),
    meets_of (State.reset) (cmd 0x0205 0x00000000 ([0, 1])) (by decide) (by decide)⟩

theorem witness_CanopyConfigRuns :
  Meets 0x0301 (fun c s => (s.canopy c.idx).running = false ∧ c.u 0 1 = 1) ∧
  Meets 0x0301 (fun c s => (s.canopy c.idx).running = false ∧ c.u 0 1 ≠ 1) ∧
  Meets 0x0301 (fun c s => (s.canopy c.idx).running = true ∧ (c.u 0 1 = 1 ∧ (s.canopy c.idx).nextGeom.getD (s.canopy c.idx).geom = c.canopyGeom ∧ (s.canopy c.idx).stopping = false)) ∧
  Meets 0x0301 (fun c s => (s.canopy c.idx).running = true ∧ ¬(c.u 0 1 = 1 ∧ (s.canopy c.idx).nextGeom.getD (s.canopy c.idx).geom = c.canopyGeom ∧ (s.canopy c.idx).stopping = false)) :=
  ⟨
    meets_of (State.reset) (cmd 0x0301 0x02000000 ([1])) (by decide) (by decide),
    meets_of (State.reset) (cmd 0x0301 0x02000000 ([0])) (by decide) (by decide),
    meets_of ({ State.reset with comp := { State.reset.comp with canopies := [(0, { running := true, geom := { mode := 0, format := 0, rate := 0, width := 0, height := 0, offset := 0, colorimetry := 0, transfer := 0 } })] } }) (cmd 0x0301 0x02000000 ([1])) (by decide) (by decide),
    meets_of ({ State.reset with comp := { State.reset.comp with canopies := [(0, { running := true })] } }) (cmd 0x0301 0x02000000 ([0])) (by decide) (by decide)⟩

/-- The condition of LAYER_SET on a graphic layer's buffers. -/
def movesBuffers (c : Cmd) (s : State) : Prop :=
  let n := c.layerCfg (s.layer c.layerIdx).shadow
  32 ≤ c.layerIdx ∧ ((n.canopy ≠ none ∧ n.gfxGeom ≠ (s.layer c.layerIdx).uploadGeom) ∨
    (n.canopy = none ∧ (s.layer c.layerIdx).newPair ≠ none))
theorem witness_LayerCommandsRun :
  Meets 0x0302 (fun c s => c.layerIdx = 31 ∧ ¬movesBuffers c s) ∧
  Meets 0x0302 (fun c s => c.layerIdx = 63 ∧ ¬movesBuffers c s) ∧
  Meets 0x0302 (fun c s => (c.layerCfg (s.layer c.layerIdx).shadow).canopy ≠ none ∧ movesBuffers c s) ∧
  Meets 0x0302 (fun c s => (c.layerCfg (s.layer c.layerIdx).shadow).canopy = none ∧ movesBuffers c s) :=
  ⟨
    meets_of State.reset (cmd 0x0302 0x0300001F []) (by decide +kernel) (by unfold movesBuffers; decide +kernel),
    meets_of State.reset (cmd 0x0302 0x0400001F []) (by decide +kernel) (by unfold movesBuffers; decide +kernel),
    meets_of State.reset (cmd 0x0302 0x04000000 ([0, 0, 0, 2] ++ List.replicate 16 0 ++ [64, 0, 64, 0])) (by decide +kernel)
      (by unfold movesBuffers; decide +kernel),
    meets_of (State.reset.modLayer 32 (fun l => { l with newPair := some [] })) (cmd 0x0302 0x04000000 []) (by decide +kernel)
      (by unfold movesBuffers; decide +kernel)⟩

theorem witness_IdleProgramCommandsRun :
  Meets 0x0401 (fun c s => (s.prog c.idx).running = false ∧ s.progActive c.idx = false) ∧
  Meets 0x0401 (fun c s => (s.prog c.idx).running = false ∧ s.progActive c.idx = true ∧
    (c.progCfg ((s.canopy c.idx).configured && (s.canopy c.idx).comingGeom.mode == 1)).fixedPart ≠ ((s.prog c.idx).cfg.getD {}).fixedPart) ∧
  Meets 0x0405 (fun c s => (s.prog c.idx).running = false) ∧
  Meets 0x0501 (fun c s => (s.prog c.idx).running = false ∧ lowestBad (s.badNewRate c.idx (c.rateCfg (s.prog c.idx).rate)) = none) ∧
  Meets 0x0502 (fun c s => (s.prog c.idx).running = false) ∧
  Meets 0x0403 (fun c s => (s.prog c.idx).running = false) ∧
  Meets 0x0404 (fun c s => s.progActive c.idx = true) ∧
  Meets 0x0404 (fun c s => s.progActive c.idx = false) ∧
  Meets 0x0703 (fun c s => s.progActive c.idx = false) ∧
  Meets 0x0703 (fun c s => s.progActive c.idx = true) ∧
  Meets 0x0503 (fun c s => s.statusStream c.idx (c.u 0 2) = some { stream := 0 }) ∧
  Meets 0x0503 (fun c s => s.statusStream c.idx (c.u 0 2) = none) ∧
  Meets 0x0501 (fun c s => (lowestBad (s.badNewRate c.idx (c.rateCfg (s.prog c.idx).rate))).isSome = true) :=
  ⟨
    meets_of (State.reset) (cmd 0x0401 0x01000000 ([])) (by decide) (by decide),
    meets_of (State.reset.modProg 0 (fun p => { p with starting := true })) (cmd 0x0401 0x01000000 [0, 1]) (by decide +kernel) (by decide +kernel),
    meets_of (State.reset) (cmd 0x0405 0x01000000 ([])) (by decide) (by decide),
    meets_of (State.reset) (cmd 0x0501 0x01000000 ([])) (by decide) (by decide),
    meets_of (State.reset) (cmd 0x0502 0x01000000 ([])) (by decide) (by decide),
    meets_of (State.reset) (cmd 0x0403 0x01000000 ([])) (by decide) (by decide),
    meets_of ({ State.reset with progs := [(0, { running := true })] }) (cmd 0x0404 0x01000000 ([])) (by decide) (by decide),
    meets_of (State.reset) (cmd 0x0404 0x01000000 ([])) (by decide) (by decide),
    meets_of (State.reset) (cmd 0x0703 0x01000000 ([])) (by decide) (by decide),
    meets_of ({ State.reset with progs := [(0, { starting := true })] }) (cmd 0x0703 0x01000000 ([])) (by decide) (by decide),
    meets_of ({ State.reset with progs := [(0, { streams := [{ stream := 0 }] })] }) (cmd 0x0503 0x01000000 ([])) (by decide) (by decide),
    meets_of ({ State.reset with progs := [(0, { streams := [{ stream := 0 }] })] }) (cmd 0x0503 0x01000000 [1]) (by decide) (by decide),
   meets_of starting tooFast (by decide +kernel) (by decide +kernel)⟩

theorem witness_EgressCommandsRun :
  Meets 0x0602 (fun c s => (s.txFlow c.idx).isOpen = false) ∧
  Meets 0x0602 (fun c s => (s.txFlow c.idx).isOpen = true) ∧
  Meets 0x0604 (fun c _ => c.cls = 6) ∧
  Meets 0x0604 (fun c _ => c.cls ≠ 6) :=
  ⟨
    meets_of (State.reset) (cmd 0x0602 0x06000000 ([])) (by decide) (by decide),
    meets_of ({ State.reset with egress := { State.reset.egress with flows := [(0, { isOpen := true })] } }) (cmd 0x0602 0x06000000 ([])) (by decide) (by decide),
    meets_of (State.reset) (cmd 0x0604 0x06000000 ([])) (by decide) (by decide),
    meets_of (State.reset) (cmd 0x0604 0x0D000000 ([])) (by decide) (by decide)⟩

theorem witness_TimeCommandsRun :
  Meets 0x0701 (fun c _ => c.u 0 1 = 0) ∧
  Meets 0x0702 (fun c s => s.badAdjust c.idx (c.u 0 1) = true) ∧
  Meets 0x0702 (fun c s => s.badAdjust c.idx (c.u 0 1) = false ∧ c.u 0 1 = 0 ∧ (s.tb c.idx).mode ≠ 2) ∧
  Meets 0x0702 (fun c s => s.badAdjust c.idx (c.u 0 1) = false ∧ c.u 0 1 = 0 ∧ (s.tb c.idx).mode = 2) ∧
  Meets 0x0702 (fun c s => s.badAdjust c.idx (c.u 0 1) = false ∧ c.u 0 1 = 1) ∧
  Meets 0x0702 (fun c s => s.badAdjust c.idx (c.u 0 1) = false ∧ c.u 0 1 = 2 ∧ ¬(c.i 4 4 = 0 ∧ (s.tb c.idx).slew = none)) ∧
  Meets 0x0702 (fun c s => s.badAdjust c.idx (c.u 0 1) = false ∧ c.u 0 1 = 3) ∧
  Meets 0x0704 (fun c s => c.u 0 1 = 2 ∧ ∀ k, (s.tb c.idx).capture = some k → k.continuous = true) ∧
  Meets 0x0704 (fun c _ => c.u 0 1 ≠ 2 ∧ c.u 1 1 ≠ 0) ∧
  Meets 0x0701 (fun c s => c.u 0 1 ≠ 0 ∧ c.idx = 3 ∧ (s.tb c.idx).state ≠ 0 ∧ (s.tb c.idx).mode = c.u 1 1) ∧
  Meets 0x0702 (fun c s => s.badAdjust c.idx (c.u 0 1) = false ∧ c.u 0 1 = 2 ∧ c.i 4 4 = 0 ∧ (s.tb c.idx).slew = none) ∧
  Meets 0x0704 (fun c s => c.u 0 1 = 2 ∧ (s.tb c.idx).capture = some shot ∧ shot.continuous = false) ∧
  Meets 0x0704 (fun c _ => c.u 0 1 ≠ 2 ∧ c.u 1 1 = 0) :=
  ⟨
    meets_of (State.reset) (cmd 0x0701 0x08000001 ([0])) (by decide) (by decide),
    meets_of ({ State.reset with time := { State.reset.time with bases := [(1, { mode := 1 })] } }) (cmd 0x0702 0x08000001 ([0])) (by decide) (by decide),
    meets_of (State.reset) (cmd 0x0702 0x08000001 ([0])) (by decide) (by decide),
    meets_of ({ State.reset with time := { State.reset.time with bases := [(1, { mode := 2 })] } }) (cmd 0x0702 0x08000001 ([0])) (by decide) (by decide),
    meets_of (State.reset) (cmd 0x0702 0x08000001 ([1])) (by decide) (by decide),
    meets_of (State.reset) (cmd 0x0702 0x08000000 ([2, 0, 0, 0, 1])) (by decide) (by decide),
    meets_of (State.reset) (cmd 0x0702 0x08000001 ([3])) (by decide) (by decide),
    meets_of (State.reset) (cmd 0x0704 0x08000001 ([2])) (by decide) (by decide),
    meets_of (State.reset) (cmd 0x0704 0x08000001 ([0, 1])) (by decide) (by decide),
   meets_of (State.reset.modTb 3 (fun b => { b with state := 2, mode := 2 })) (cmd 0x0701 0x08000003 [1, 2]) (by decide +kernel) (by decide +kernel),
   meets_of State.reset (cmd 0x0702 0x08000000 [2]) (by decide +kernel) (by decide +kernel),
   meets_of (State.reset.modTb 3 (fun b => { b with capture := some shot })) (cmd 0x0704 0x08000003 [2]) (by decide +kernel) (by decide +kernel),
   meets_of State.reset (cmd 0x0704 0x08000003 [1, 0]) (by decide +kernel) (by decide +kernel)⟩

theorem witness_TwinCommandsRun :
  Meets 0x0802 (fun c _ => c.u 0 1 = 0) ∧
  Meets 0x0802 (fun c _ => c.u 0 1 = 1) ∧
  Meets 0x0802 (fun c _ => c.u 0 1 ≠ 0 ∧ c.u 0 1 ≠ 1) ∧
  Meets 0x0804 (fun c s => (s.prog c.idx).peerMuted.any (fun m => m ≤ 1) = false) ∧
  Meets 0x0804 (fun c s => (s.prog c.idx).peerMuted = some 1) ∧
  Meets 0x0804 (fun c s => (s.prog c.idx).peerMuted = some 2 ∧ (s.prog c.idx).peerMuted.any (fun m => m ≤ 1) = false) :=
  ⟨
    meets_of (State.reset) (cmd 0x0802 0x00000000 ([0])) (by decide) (by decide),
    meets_of (State.reset) (cmd 0x0802 0x00000000 ([1])) (by decide) (by decide),
    meets_of (State.reset) (cmd 0x0802 0x00000000 ([2])) (by decide) (by decide),
    meets_of (State.reset) (cmd 0x0804 0x01000000 ([])) (by decide) (by decide),
    meets_of ({ State.reset with progs := [(0, { peerMuted := some 1 })] }) (cmd 0x0804 0x01000000 ([])) (by decide) (by decide),
   meets_of (State.reset.modProg 15 (fun p => { p with peerMuted := some 2 })) (cmd 0x0804 0x0100000F []) (by decide +kernel) (by decide +kernel)⟩

theorem witness_MemoryCommandsRun :
  Meets 0x0902 (fun c s => s.channelBusy c.idx = true ∨ s.inService c.idx = false) ∧
  Meets 0x0902 (fun c s => s.channelBusy c.idx = false ∧ s.inService c.idx = true) ∧
  Meets 0x0907 (fun _ s => s.mem.ectBusy = true) ∧
  Meets 0x0907 (fun _ s => s.mem.ectBusy = false) :=
  ⟨
    meets_of (State.reset) (cmd 0x0902 0x09000011 ([])) (by decide) (by decide),
    meets_of (State.reset) (cmd 0x0902 0x09000000 ([])) (by decide) (by decide),
    meets_of ({ State.reset with mem := { State.reset.mem with ectBusy := true } }) (cmd 0x0907 0x00000000 ([])) (by decide) (by decide),
    meets_of (State.reset) (cmd 0x0907 0x00000000 ([])) (by decide) (by decide)⟩

theorem witness_VerificationCommandsRun :
  Meets 0x0A01 (fun c s => c.u 1 1 = 0 ∧ (s.cvUnit c.idx).tap = 1) ∧
  Meets 0x0A01 (fun c s => c.u 1 1 = 0 ∧ (s.cvUnit c.idx).tap ≠ 1) ∧
  Meets 0x0A01 (fun c s => c.u 1 1 ≠ 0 ∧ (s.cvUnit c.idx).tap ≠ 0) ∧
  Meets 0x0A01 (fun c s => c.u 1 1 ≠ 0 ∧ (s.cvUnit c.idx).tap = 0) ∧
  Meets 0x0A02 (fun c _ => c.u 0 1 = 0) ∧
  Meets 0x0A02 (fun c s => c.u 0 1 ≠ 0 ∧ (s.cvUnit c.idx).tap ≠ 0) ∧
  Meets 0x0A02 (fun c s => c.u 0 1 ≠ 0 ∧ (s.cvUnit c.idx).tap = 0) :=
  ⟨
    meets_of ({ State.reset with cv := [(8, { tap := 1 })] }) (cmd 0x0A01 0x0A000008 ([0, 0])) (by decide) (by decide),
    meets_of (State.reset) (cmd 0x0A01 0x0A000008 ([0, 0])) (by decide) (by decide),
    meets_of ({ State.reset with cv := [(8, { tap := 2 })] }) (cmd 0x0A01 0x0A000008 ([0, 1])) (by decide) (by decide),
    meets_of (State.reset) (cmd 0x0A01 0x0A000008 ([0, 1])) (by decide) (by decide),
    meets_of (State.reset) (cmd 0x0A02 0x0A000008 ([0])) (by decide) (by decide),
    meets_of ({ State.reset with cv := [(8, { tap := 2 })] }) (cmd 0x0A02 0x0A000008 ([1])) (by decide) (by decide),
    meets_of (State.reset) (cmd 0x0A02 0x0A000008 ([1])) (by decide) (by decide)⟩

theorem witness_AudioCommandsRun :
  Meets 0x0B01 (fun c s => c.cls ≠ 13 ∧ isAesIn c.idx = true ∧ s.rateHeld c = false ∧ s.pdmMismatch c = false) ∧
  Meets 0x0B01 (fun c s => (c.cls ≠ 13 ∧ isAesIn c.idx = false ∧ s.rateHeld c = false ∧ s.pdmMismatch c = false) ∧ ((s.audioPort c.idx).enabled = true ↔ c.u 0 1 = 1)) ∧
  Meets 0x0B01 (fun c s => c.cls = 13 ∧ s.refAbsent c = false ∧ c.u 0 1 = s.audio.ref ∧ c.u 0 1 ≠ 1) ∧
  Meets 0x0B01 (fun c s => c.cls = 13 ∧ s.refAbsent c = false ∧ c.u 0 1 ≠ s.audio.ref ∧ c.u 0 1 = 0) ∧
  Meets 0x0B02 (fun c s => let r := s.route (routeKey c.object (c.u 0 1))
      r.ramp = 3 ∨ s.dataSrc r.src = true ∨ s.dataSrc c.audioSrc = true) ∧
  Meets 0x0B02 (fun c s => let r := s.route (routeKey c.object (c.u 0 1))
      ¬(r.ramp = 3 ∨ s.dataSrc r.src = true ∨ s.dataSrc c.audioSrc = true)) ∧
  Meets 0x0B01 (fun c s => (c.cls ≠ 13 ∧ isAesIn c.idx = false ∧ s.rateHeld c = false ∧ s.pdmMismatch c = false) ∧ (s.audioPort c.idx).enabled = false ∧ c.u 0 1 = 1 ∧ isAesOut c.idx = true) ∧
  Meets 0x0B01 (fun c s => (c.cls ≠ 13 ∧ isAesIn c.idx = false ∧ s.rateHeld c = false ∧ s.pdmMismatch c = false) ∧ (s.audioPort c.idx).enabled = false ∧ c.u 0 1 = 1 ∧ isAesOut c.idx = false) ∧
  Meets 0x0B01 (fun c s => (c.cls ≠ 13 ∧ isAesIn c.idx = false ∧ s.rateHeld c = false ∧ s.pdmMismatch c = false) ∧ (s.audioPort c.idx).enabled = true ∧ c.u 0 1 ≠ 1 ∧ isAesOut c.idx = true) ∧
  Meets 0x0B01 (fun c s => (c.cls ≠ 13 ∧ isAesIn c.idx = false ∧ s.rateHeld c = false ∧ s.pdmMismatch c = false) ∧ (s.audioPort c.idx).enabled = true ∧ c.u 0 1 ≠ 1 ∧ isAesOut c.idx = false) :=
  ⟨
    meets_of (State.reset) (cmd 0x0B01 0x0B000007 ([])) (by decide) (by decide),
    meets_of (State.reset) (cmd 0x0B01 0x0B000008 ([])) (by decide) (by decide),
    meets_of (State.reset) (cmd 0x0B01 0x0D000000 ([0])) (by decide) (by decide),
    meets_of ({ State.reset with audio := { State.reset.audio with ref := 1 } }) (cmd 0x0B01 0x0D000000 ([0])) (by decide) (by decide),
    meets_of (State.reset) (cmd 0x0B02 0x0B000008 ([])) (by decide) (by decide),
    meets_of ({ State.reset with audio := { State.reset.audio with routes := [(routeKey 0x0B000008 0, { ramp := 0 })] } }) (cmd 0x0B02 0x0B000008 ([])) (by decide) (by decide),
   meets_of State.reset (cmd 0x0B01 0x0B00000B [1]) (by decide +kernel) (by decide +kernel),
   meets_of State.reset (cmd 0x0B01 0x0B000013 [1]) (by decide +kernel) (by decide +kernel),
   meets_of (State.reset.modPort 11 (fun p => { p with enabled := true })) (cmd 0x0B01 0x0B00000B [0]) (by decide +kernel) (by decide +kernel),
   meets_of (State.reset.modPort 16 (fun p => { p with enabled := true })) (cmd 0x0B01 0x0B000010 [0]) (by decide +kernel) (by decide +kernel)⟩

theorem witness_AudioCommandsRun_refused :
  Meets 0x0B01 (fun c s => c.cls = 13 ∧ s.refAbsent c = true) ∧
  Meets 0x0B01 (fun c s => c.cls ≠ 13 ∧ s.rateHeld c = true) ∧
  Meets 0x0B01 (fun c s => c.cls ≠ 13 ∧ s.pdmMismatch c = true) :=
  ⟨meets_of State.reset (cmd 0x0B01 0x0D000000 [9]) (by decide +kernel) (by decide +kernel),
   meets_of (State.reset.modPort 11 (fun p => { p with enabled := true })) (cmd 0x0B01 0x0B00000B [1, 1]) (by decide +kernel) (by decide +kernel),
   meets_of (State.reset.modPort (pdmMate 19) (fun p => { p with enabled := true })) (cmd 0x0B01 0x0B000013 [1, 1]) (by decide +kernel)
    (by decide +kernel)⟩

/-- The state at reset with its update state, and with its non-volatile memory changed. -/
def updating (n : Nat) : State := { State.reset with upd := { State.reset.upd with state := n } }
def keeping (f : NonVol → NonVol) : State := { State.reset with nv := f State.reset.nv }
/-- An OWNER_LOCK with the eight bytes of a lock of zeros, or of ones. -/
def locker (op : Byte) (v : Byte) : Cmd := cmd 0x0D07 0x00000000 ([op, 0, 0, 0] ++ List.replicate 8 v)
theorem witness_UpdateCommandsRun :
  (∀ n ∈ ([0, 1] : List Nat), Meets 0x0D01 (fun _ s => s.upd.state = n ∧ s.upd.state ≤ 1)) ∧
  Meets 0x0D01 (fun _ s => 1 < s.upd.state) ∧
  Meets 0x0D03 (fun _ s => s.mayVerify = true) ∧
  Meets 0x0D03 (fun _ s => s.mayVerify = false) ∧
  Meets 0x0D04 (fun _ s => s.upd.state = 4) ∧
  Meets 0x0D04 (fun _ s => s.upd.state ≠ 4 ∧ s.isFollower = true) ∧
  Meets 0x0D04 (fun _ s => s.upd.state ≠ 4 ∧ s.isFollower = false) ∧
  Meets 0x0D05 (fun _ s => s.upd.state = 6) ∧
  Meets 0x0D05 (fun _ s => s.upd.state ≠ 6) ∧
  (∀ n ∈ ([0, 1, 2, 3, 5, 6] : List Nat), Meets 0x0D06 (fun _ s => s.upd.state = n)) ∧
  Meets 0x0D07 (fun c s => c.u 0 1 ≠ 0 ∧ s.nv.ownerLock = some (c.bytes 4 8)) ∧
  Meets 0x0D07 (fun c s => c.u 0 1 = 0 ∧ s.nv.ownerLock = none ∧ s.upd.state ≠ 5) ∧
  Meets 0x0D07 (fun c s => c.u 0 1 = 0 ∧ s.nv.ownerLock = none ∧ s.upd.state = 5) ∧
  Meets 0x0D07 (fun c s => c.u 0 1 = 0 ∧ s.nv.ownerLock ≠ none) ∧
  Meets 0x0D07 (fun c s => c.u 0 1 ≠ 0 ∧ s.nv.ownerLock ≠ some (c.bytes 4 8)) ∧
  Meets 0x0D08 (fun c s => checkLifecycleAdvance s c = none) ∧
  Meets 0x0D08 (fun c s => checkLifecycleAdvance s c ≠ none) ∧
  Meets 0x0D09 (fun c s => checkReturnAuthorise s c ≠ none) := by
  have up (code : Nat) (l : List Nat)
      (h : ∀ n ∈ l, (startsB (having (updating n) (cmd code 0 [])) (cmd code 0 []) code &&
        decide ((having (updating n) (cmd code 0 [])).awaitsClearing (cmd code 0 []) = none) = true) ∧
        ((having (updating n) (cmd code 0 [])).begun (cmd code 0 [])).upd.state = n) :
      ∀ n ∈ l, Meets code (fun _ s => s.upd.state = n) :=
    fun n hn => meets_of (updating n) (cmd code 0 []) (h n hn).1 (h n hn).2
  refine ⟨fun n hn => ?_, ?_, ?_, ?_, ?_, ?_, ?_, ?_, ?_, up 0x0D06 _ (by decide +kernel), ?_, ?_, ?_, ?_, ?_, ?_, ?_, ?_⟩
  · obtain ⟨s, c, h, e⟩ := up 0x0D01 [0, 1] (by decide +kernel) n hn
    refine ⟨s, c, h, e, ?_⟩
    rw [e]
    revert hn
    revert n
    exact fun n _ hn => (by decide : ∀ n ∈ ([0, 1] : List Nat), n ≤ 1) n hn
  · exact meets_of (updating 2) (cmd 0x0D01 0 []) (by decide +kernel) (by decide +kernel)
  · exact meets_of (updating 1) (cmd 0x0D03 0 []) (by decide +kernel) (by decide +kernel)
  · exact meets_of (updating 2) (cmd 0x0D03 0 []) (by decide +kernel) (by decide +kernel)
  · exact meets_of (updating 4) (cmd 0x0D04 0 []) (by decide +kernel) (by decide +kernel)
  · exact meets_of { State.reset with twin := { State.reset.twin with role := 3 } } { cmd 0x0D04 0 [] with q := 15 } (by decide +kernel) (by decide +kernel)
  · exact meets_of (updating 5) (cmd 0x0D04 0 []) (by decide +kernel) (by decide +kernel)
  · exact meets_of (updating 6) (cmd 0x0D05 0 []) (by decide +kernel) (by decide +kernel)
  · exact meets_of (updating 5) (cmd 0x0D05 0 []) (by decide +kernel) (by decide +kernel)
  · exact meets_of (keeping (fun n => { n with ownerLock := some (List.replicate 8 1) })) (locker 1 1) (by decide +kernel) (by decide +kernel)
  · exact meets_of State.reset (locker 0 1) (by decide +kernel) (by decide +kernel)
  · exact meets_of (updating 5) (locker 0 1) (by decide +kernel) (by decide +kernel)
  · exact meets_of (keeping (fun n => { n with ownerLock := some (List.replicate 8 1) })) (locker 0 1) (by decide +kernel) (by decide +kernel)
  · exact meets_of (keeping (fun n => { n with ownerLock := some (List.replicate 8 0) })) (locker 1 1) (by decide +kernel) (by decide +kernel)
  · exact meets_of (keeping (fun n => { n with lifecycle := 1 })) (cmd 0x0D08 0 [2]) (by decide +kernel) (by decide +kernel)
  · exact meets_of (keeping (fun n => { n with lifecycle := 4 })) (cmd 0x0D08 0 [4]) (by decide +kernel) (by decide +kernel)
  · exact meets_of (updating 1) (cmd 0x0D09 0 []) (by decide +kernel) (by decide +kernel)
/-- A return authorisation of the device with UID 0 by key slot 0: where its signature is genuine (Config.signatureValid is open), the
command passes its checks again at its start. -/
def authoriser (which : Byte) : Cmd := cmd 0x0D09 0 ([which] ++ List.replicate 203 0)
theorem witness_UpdateCommandsRun_authorised :
    ∀ e ∈ ([(0, 2), (1, 3)] : List (Byte × Nat)), let s := having (keeping (fun n => { n with lifecycle := e.2 })) (authoriser e.1)
      s.StartsNow (authoriser e.1) 0x0D09 ∧ (authoriser e.1).begun.u 0 1 = e.1.toNat ∧
        ((s.begun (authoriser e.1)).authorised (authoriser e.1).begun = true →
          checkReturnAuthorise (s.begun (authoriser e.1)) (authoriser e.1).begun = none) := by
  have h : ∀ e ∈ ([(0, 2), (1, 3)] : List (Byte × Nat)),
      let s := having (keeping (fun n => { n with lifecycle := e.2 })) (authoriser e.1)
      (startsB s (authoriser e.1) 0x0D09 && decide (s.awaitsClearing (authoriser e.1) = none)) = true ∧
        (authoriser e.1).begun.u 0 1 = e.1.toNat ∧ (s.begun (authoriser e.1)).lifeBusy = false ∧
        badRange ([(authoriser e.1).begun.outside 0 1 0 1, (authoriser e.1).begun.outside 1 1 0 3, (authoriser e.1).begun.outside 2 1 0 3] ++
          (authoriser e.1).begun.zeros [(0, 1), (1, 1), (2, 1), (4, 8), (12, 96), (108, 96)] []) = none := by decide +kernel
  intro e he
  obtain ⟨h1, h2, h3, h4⟩ := h e he
  simp only [startsB, Bool.and_eq_true, decide_eq_true_eq, beq_iff_eq, Bool.not_eq_true'] at h1
  refine ⟨⟨⟨h1.1.1.1.1.1.1, h1.1.1.1.1.1.2, h1.1.1.1.1.2, h1.1.1.1.2⟩, h1.1.1.2, h1.1.2, h1.2⟩, h2, fun ha => ?_⟩
  simp only [checkReturnAuthorise, h3, h4, ha]
  rfl

theorem witness_PacketsAreTaken :
  (∃ s : State, s.mayFetch 0 = true ∧ (s.queue 0).bind.udp = false ∧ (s.queue 0).enable = true ∧ s.hostUp = true ∧ (s.queue
    0).slotsWritten ≠ 0 ∧ (List.replicate 64 255).length = 64 * (s.queue 0).slotsWritten ∧ pktU (List.replicate 64 255) 0 4 =
    0xFFFFFFFF) ∧
  (∃ s : State, s.mayFetch 0 = true ∧ (s.queue 0).bind.udp = false ∧ (s.queue 0).enable = true ∧ s.hostUp = true ∧ (s.queue
    0).slotsWritten ≠ 0 ∧ (List.replicate 64 0).length = 64 * (s.queue 0).slotsWritten ∧ pktU (List.replicate 64 0) 0 4 ≠ 0xFFFFFFFF ∧
    (lengthOk (headerOf (List.replicate 64 0)).length = false ∨ (s.queue 0).slotsWritten < cdiv (headerOf (List.replicate 64
    0)).length 64)) ∧
  (∃ s : State, s.mayFetch 0 = true ∧ (s.queue 0).bind.udp = false ∧ (s.queue 0).enable = true ∧ s.hostUp = true ∧ (s.queue
    0).slotsWritten ≠ 0 ∧ (List.replicate 8 0 ++ [68, 0] ++ List.replicate 54 0).length = 64 * (s.queue 0).slotsWritten ∧ pktU
    (List.replicate 8 0 ++ [68, 0] ++ List.replicate 54 0) 0 4 ≠ 0xFFFFFFFF ∧ lengthOk (headerOf (List.replicate 8 0 ++ [68, 0] ++
    List.replicate 54 0)).length = true ∧ (s.queue 0).slotsWritten < cdiv (headerOf (List.replicate 8 0 ++ [68, 0] ++ List.replicate
    54 0)).length 64) ∧
  (∃ s : State, s.mayFetch 0 = true ∧ (s.queue 0).bind.udp = false ∧ (s.queue 0).enable = true ∧ s.hostUp = true ∧ (s.queue
    0).slotsWritten ≠ 0 ∧ (nopPacket 0 ++ List.replicate 28 0).length = 64 * (s.queue 0).slotsWritten ∧ pktU (nopPacket 0 ++
    List.replicate 28 0) 0 4 ≠ 0xFFFFFFFF ∧ lengthOk (headerOf (nopPacket 0 ++ List.replicate 28 0)).length = true ∧ cdiv (headerOf
    (nopPacket 0 ++ List.replicate 28 0)).length 64 ≤ (s.queue 0).slotsWritten ∧ packetCrcOk ((nopPacket 0 ++ List.replicate 28
    0).take (headerOf (nopPacket 0 ++ List.replicate 28 0)).length) (headerOf (nopPacket 0 ++ List.replicate 28 0)).length = true ∧
    (headerOf (nopPacket 0 ++ List.replicate 28 0)).queue = 0) ∧
  (∃ s : State, s.mayFetch 0 = true ∧ (s.queue 0).bind.udp = false ∧ (s.queue 0).enable = true ∧ s.hostUp = true ∧ (s.queue
    0).slotsWritten ≠ 0 ∧ (List.replicate 8 0 ++ [36, 0] ++ List.replicate 54 0).length = 64 * (s.queue 0).slotsWritten ∧ pktU
    (List.replicate 8 0 ++ [36, 0] ++ List.replicate 54 0) 0 4 ≠ 0xFFFFFFFF ∧ lengthOk (headerOf (List.replicate 8 0 ++ [36, 0] ++
    List.replicate 54 0)).length = true ∧ cdiv (headerOf (List.replicate 8 0 ++ [36, 0] ++ List.replicate 54 0)).length 64 ≤ (s.queue
    0).slotsWritten ∧ packetCrcOk ((List.replicate 8 0 ++ [36, 0] ++ List.replicate 54 0).take (headerOf (List.replicate 8 0 ++ [36,
    0] ++ List.replicate 54 0)).length) (headerOf (List.replicate 8 0 ++ [36, 0] ++ List.replicate 54 0)).length = false) ∧
  (∃ s : State, s.mayFetch 14 = true ∧ (s.queue 14).bind.udp = true ∧ (s.queue 14).waiting = datagram [] :: []) ∧
  (∃ s : State, s.mayFetch 0 = true ∧ (s.queue 0).bind.udp = false ∧ (s.queue 0).enable = true ∧ s.hostUp = true ∧ (s.queue
    0).slotsWritten ≠ 0 ∧ (nopPacket 1 ++ List.replicate 28 0).length = 64 * (s.queue 0).slotsWritten ∧ pktU (nopPacket 1 ++
    List.replicate 28 0) 0 4 ≠ 0xFFFFFFFF ∧ lengthOk (headerOf (nopPacket 1 ++ List.replicate 28 0)).length = true ∧ cdiv (headerOf
    (nopPacket 1 ++ List.replicate 28 0)).length 64 ≤ (s.queue 0).slotsWritten ∧ packetCrcOk ((nopPacket 1 ++ List.replicate 28
    0).take (headerOf (nopPacket 1 ++ List.replicate 28 0)).length) (headerOf (nopPacket 1 ++ List.replicate 28 0)).length = true ∧
    (headerOf (nopPacket 1 ++ List.replicate 28 0)).queue ≠ 0) :=
  ⟨⟨ring 1, by decide +kernel⟩,
   ⟨ring 1, by decide +kernel⟩,
   ⟨ring 1, by decide +kernel⟩,
   ⟨ring 1, by decide +kernel⟩,
   ⟨ring 1, by decide +kernel⟩,
   ⟨on.modQueue 14 (fun k => { k with waiting := [datagram []] }), by decide +kernel⟩,
   ⟨ring 1, by decide +kernel⟩⟩

/-- What PacketsAreTaken asks of a datagram: it counts, it is sound for its queue, its CRC is right. -/
def counts (s : State) (d : Datagram) : Prop :=
  s.fromPeer d = false ∧ d.fragment = false ∧ s.power.ready = true ∧ s.listening d.dport ≠ [] ∧ 3 ≤ d.payload.length
def sound (s : State) (d : Datagram) : Prop :=
  let q := pktU d.payload 2 1 % 16
  s.power.warm = false ∧ q ∈ s.listening d.dport ∧ (s.queue q).bind.accepts d = true ∧
    lengthOk (headerOf d.payload).length = true ∧ (headerOf d.payload).length = d.payload.length
def whole (d : Datagram) : Prop := packetCrcOk d.payload (headerOf d.payload).length = true
/-- A sound datagram whose CRC is wrong. -/
def torn : Datagram := datagram ((nopPacket 14).set 4 1)
theorem witness_PacketsAreTaken_datagrams :
  (∃ s : State, s.fromPeer (datagram (nopPacket 14)) = true) ∧
  (∃ s : State, counts s (datagram (List.replicate 36 0)) ∧ ¬sound s (datagram (List.replicate 36 0))) ∧
  (∃ s : State, counts s torn ∧ sound s torn ∧ ¬whole torn) ∧
  (∃ s : State, counts s (datagram (nopPacket 14)) ∧ sound s (datagram (nopPacket 14)) ∧ whole (datagram (nopPacket 14)) ∧
    s.mayFetch 14 = true ∧ (s.queue 14).waiting = []) ∧
  (∃ s : State, counts s (datagram (nopPacket 14)) ∧ sound s (datagram (nopPacket 14)) ∧ whole (datagram (nopPacket 14)) ∧
    ¬(s.mayFetch 14 = true ∧ (s.queue 14).waiting = [])) :=
  ⟨⟨{ on with twin := { on.twin with mgPorts := 1, udpPort := 23017, ipVer := 4, peerMg0 := [10, 0, 0, 1] } }, by decide +kernel⟩,
   ⟨on, by unfold counts sound; decide +kernel⟩,
   ⟨on, by unfold counts sound whole; decide +kernel⟩,
   ⟨on, by unfold counts sound whole; decide +kernel⟩,
   ⟨on.modQueue 14 (fun k => { k with waiting := [datagram []] }), by unfold counts sound whole; decide +kernel⟩⟩

theorem witness_QueueRegistersAct :
  (∃ s : State, s.power.ready = true) ∧
  (∃ s : State, s.power.ready = false) ∧
  (∃ s : State, (s.queue 15).resyncReq = true ∧ s.outstandingOn 15 = 0) ∧
  (∃ s : State, 65536 % 131072 = 2 ^ 16 ∧ 7 ≤ 16 ∧ 128 % 131072 = 2 ^ 7 ∧ 64 % 131072 = 2 ^ 6 ∧ 1 % 131072 = 2 ^ 0 ∧ sizeRegThere
    .ev = true ∧ s.pending = []) :=
  ⟨⟨on, by decide +kernel⟩,
   ⟨State.reset, by decide +kernel⟩,
   ⟨State.reset.modQueue 15 (fun k => { k with resyncReq := true }), by decide +kernel⟩,
   ⟨State.reset, by decide +kernel⟩⟩

theorem witness_RegisterWritesAct :
  (∃ s : State, isAccess 0xFFFF 8 = true ∧ isAccess 0xFFFE 16 = true ∧ isAccess 0xFFFC 32 = true ∧ isAccess 0xFFF8 64 = true ∧
    s.pending = []) := ⟨State.reset, by decide +kernel⟩

theorem witness_JournalAndHostReadEnd :
  (∃ s : State, s.findCmd 0 7 = some kept ∧ kept.toFlash = true ∧ kept.flashDone = false ∧ kept.phase = .accepting ∧ s.mute kept =
    false ∧ kept.durable = true) ∧
  (∃ s : State, s.findCmd 0 7 = some upload ∧ upload.readsHost = true ∧ s.mute upload = false ∧ upload.phase = .started ∧
    upload.armed = false) ∧
  (∃ s : State, s.findCmd 0 7 = some (cmd 0x0303 0x04000000 []) ∧ (cmd 0x0303 0x04000000 []).readsHost = true ∧ s.mute (cmd 0x0303
    0x04000000 []) = false ∧ s.startable (cmd 0x0303 0x04000000 []) = true) ∧
  (∃ s : State, s.findCmd 0 7 = some kept ∧ kept.readsHost = false) :=
  ⟨⟨taking kept, by decide +kernel⟩,
   ⟨taking upload, by decide +kernel⟩,
   ⟨taking (cmd 0x0303 0x04000000 []), by decide +kernel⟩,
   ⟨taking kept, by decide +kernel⟩⟩

theorem witness_TransfersEnd :
  (∃ s : State, (s.layer 63).uploading.bind (fun id => s.findCmd id.1 id.2) = some upload ∧ (s.ownerWrites (layerId 63)).sendsData upload = false) ∧
  (∃ s : State, (s.layer 32).uploading.bind (fun id => s.findCmd id.1 id.2) = some upload ∧ (s.ownerWrites (layerId 32)).sendsData upload = true) ∧
  (∀ b ∈ ([false, true] : List Bool), ∃ s : State, (s.layer 32).uploading = some (0, 7) ∧ s.findCmd 0 7 = some upload ∧
    (s.layer 32).uploadGeom = some (0, 0, 0) ∧ upload.layerIdx = 32 ∧ upload.clearing = false ∧ upload.effTime = 0 ∧
    s.sendsData upload = false ∧ (∀ d ∈ s.hif.cmds, d.opcode = 0x0303 → d.layerIdx = 32 → d.phase = .started → d.armed = false →
      d.q = 0 ∧ d.seq = 7) ∧ (s.layer 32).newPair.isSome = b) ∧
  (∀ c ∈ ([load, { load with effTime := 100, fireAt := 100 }] : List Cmd), ∃ s : State, (s.canopy 15).loading = some (0, 7) ∧
    s.findCmd 0 7 = some c ∧ c.idx = 15 ∧ c.clearing = false ∧ s.sendsData c = false ∧
    (∀ d ∈ s.hif.cmds, d.opcode = 0x0305 → d.idx = 15 → d.phase = .started → d.armed = false → d.q = c.q ∧ d.seq = c.seq) ∧
    (c.effTime ≠ 0 → s.fired c = false) ∧ ∀ e ∈ (s.canopy 15).arrived, e.1 ≠ (c.q, c.seq)) ∧
  (∃ s : State, (s.canopy 15).loading.bind (fun id => s.findCmd id.1 id.2) = some load ∧ s.sendsData load = false) ∧
  (∀ b ∈ ([false, true] : List Bool), ∃ s : State, s.findCmd 0 7 = some armer ∧ armer.opcode = 0x0304 ∧ armer.phase = .started ∧
    armer.armed = false ∧ s.commitBlocked armer = false ∧ 0 ∈ armer.commitCanopies ∧
    armer.commitCanopies.any (fun k => (s.canopy k).running) = b) ∧
  (∃ s : State, s.findCmd 0 7 = some armer ∧ s.commitBlocked armer = true) ∧
  (∃ s : State, s.mem.reservations.filter (fun x => x.owner = 0x04000020 && x.slot = 0 && !x.filled) = [held] ∧ held.cmd = none) := by
  refine ⟨⟨(taking upload).modLayer 63 (fun l => { l with uploading := some (0, 7) }), by decide +kernel⟩,
   ⟨leading ((taking upload).modLayer 32 (fun l => { l with uploading := some (0, 7) })), by decide +kernel⟩,
   fun b hb => ⟨(taking upload).modLayer 32 (fun l => { l with
      uploading := some (0, 7), newPair := if b then some [] else none, shadow := { l.shadow with canopy := some 0 } }), ?_⟩,
   fun c hc => ⟨(taking c).modCanopy 15 (fun l => { l with loading := some (0, 7) }), ?_⟩,
   ⟨(taking load).modCanopy 15 (fun l => { l with loading := some (0, 7) }), by decide +kernel⟩,
   fun b hb => ⟨(taking armer).modCanopy 0 (fun k => { k with running := b }), ?_⟩,
   ⟨having (taking armer) { armer with seq := 8, armed := true }, by decide +kernel⟩,
   ⟨{ State.reset with mem := { State.reset.mem with reservations := [held] } }, by decide +kernel⟩⟩
  · revert b
    decide +kernel
  · revert c
    decide +kernel
  · revert b
    decide +kernel

theorem witness_ClearingsAndEffectTimesCome :
  (∃ s : State, (s.canopy 15).running = true ∧ (s.canopy 15).g ≤ (s.reach (s.canopy 15).g).now ∧
    (s.reach (s.canopy 15).g).joinDue (s.canopy 15).g = false ∧ (s.canopy 15).stopping = false ∧ (s.canopy 15).nextGeom = none ∧
    (s.canopy 15).copies = [] ∧ (∀ d ∈ s.hif.cmds, d.waitsFor 15 = false) ∧ (s.prog 15).running = true) ∧
  (∃ s : State, (s.canopy 15).running = false ∧ s.twin.joinApply = none) ∧
  (∀ code ∈ ([1, 0x0306, 0x0906] : List Nat), ∃ s : State, s.findCmd 0 7 = some { timed with opcode := code } ∧
    timed.fireAt ≤ (s.tb timed.effTb).count) ∧
  (∃ s : State, s.findCmd 0 7 = some timed ∧ (s.tb timed.effTb).count < timed.fireAt ∧
    timed.fireAt ≤ ((s.reachOn timed.effTb timed.fireAt).tb timed.effTb).count) ∧
  (timed.effTime ≠ 0 ∧ timed.clearing = false ∧ timed.phase = .started ∧ timed.clearOf = none) := by
  refine ⟨⟨(canopyAt 15 (fun c => { c with running := true, g := 100 })).modProg 15 (fun p => { p with running := true }), by decide +kernel⟩,
   ⟨State.reset, by decide +kernel⟩,
   fun code hc => ⟨(having on { timed with opcode := code }).modTb 0 (fun b => { b with ns := 100 }), ?_⟩,
   ⟨having on timed, by decide +kernel⟩, by decide +kernel⟩
  revert code
  decide +kernel

/-- A base hears a Sync of the master that it has selected. -/
def hearing (s : State) (n : Nat) (x : Sync) (m : Announce) : Prop :=
  (s.tb n).hears x.port x.domain = true ∧ (s.tb n).master = some m ∧ m.identity = x.source ∧ m.port = x.port
def far : Sync := { syn with port := 16 }
def farAnn : Announce := { ann with port := 16 }
theorem witness_TimeBaseEventsAct :
  (∃ s : State, (s.tb 3).slew = some { left := 0, cmds := [] } ∧ (s.tb 3).mode = 3) ∧
  (∃ s : State, (s.tb 0).slew = some { left := 8, cmds := [] } ∧ (s.tb 0).mode ≠ 3 ∧ (s.tb 0).state ≠ 0 ∧ s.clocked = true ∧
    slewStep (s.tb 0).slewLimit ≠ 0) ∧
  (∃ s : State, (s.tb 3).capture = some shot ∧ shot.source = 0x40 ∧ (0x40 = 0x40 → shot.flow = 5)) ∧
  (∃ s : State, (s.tb 3).capture = some shot ∧ shot.source ≠ 1) ∧
  (∃ s : State, (s.tb 3).state ≠ 0 ∧ (s.tb 3).mode ≠ 3 ∧ (s.tb 3).slew = none ∧ (s.tb 3).inc ≠ 0 ∧ (s.tb 3).ns < two32 ∧
    (s.tb 3).frac < two30 ∧ s.clocked = true) ∧
  (∃ s : State, (s.tb 3).hears 0 127 = true ∧ (s.tb 3).master = none) ∧
  (∃ s : State, (s.tb 3).hears 0 127 = false) ∧
  (∃ s : State, ¬((s.tb 3).hears syn.port syn.domain = true ∧ ∃ m, (s.tb 3).master = some m ∧ m.identity = syn.source ∧ m.port = syn.port)) ∧
  (∃ s : State, ({ far with valid := false } : Sync).valid = false ∧ hearing s 3 { far with valid := false } farAnn ∧ 16 ≤ far.port) ∧
  (∃ s : State, far.valid = true ∧ hearing s 3 far farAnn ∧ (s.tb 3).state = 4 ∧ 16 ≤ far.port ∧ (s.tb 3).validSyncs + 1 < 16) ∧
  (∃ s : State, far.valid = true ∧ hearing s 3 far farAnn ∧ (s.tb 3).state = 4 ∧ 16 ≤ far.port ∧ 16 ≤ (s.tb 3).validSyncs + 1) ∧
  (∃ s : State, (s.tb 3).mode = 1 ∧ (s.tb 3).state = 2) ∧
  (∃ s : State, (s.tb 3).mode = 1 ∧ (s.tb 3).state = 3) ∧
  (∃ s : State, (s.tb 3).mode = 2 ∧ (s.tb 3).state = 2 ∧ (s.tb 3).ppsE.isSome = true) ∧
  (∃ s : State, ((s.at32 0).tb 3).mode = 2 ∧ ((s.at32 0).tb 3).state ≠ 0 ∧ ((s.at32 0).tb 3).ppsSets = [] ∧ ((s.at32 0).tb 3).ppsE = some 5) ∧
  (∃ s : State, (s.tb 3).drives = true ∧ (s.tb 3).ppsHigh = false) ∧
  (∃ s : State, (s.tb 3).ppsHigh = true) :=
  ⟨⟨base 3 (fun b => { b with slew := some { left := 0, cmds := [] }, mode := 3 }), by decide +kernel⟩,
   ⟨base 0 (fun b => { b with slew := some { left := 8, cmds := [] } }), by decide +kernel⟩,
   ⟨base 3 (fun b => { b with capture := some shot }), by decide +kernel⟩,
   ⟨base 3 (fun b => { b with capture := some shot }), by decide +kernel⟩,
   ⟨base 3 (fun b => { b with state := 1 }), by decide +kernel⟩,
   ⟨base 3 (fun b => { b with mode := 1, state := 2, portA := 0 }), by decide +kernel⟩,
   ⟨base 3 (fun b => { b with mode := 1, state := 2, portA := 0, domain := 5 }), by decide +kernel⟩,
   ⟨on, fun h => absurd h.1 (by decide +kernel)⟩,
   ⟨base 3 (fun b => { b with mode := 1, state := 3, portB := 16, master := some farAnn }), by unfold hearing; decide +kernel⟩,
   ⟨base 3 (fun b => { b with mode := 1, state := 4, portA := 16, master := some farAnn, validSyncs := 14 }), by unfold hearing; decide +kernel⟩,
   ⟨base 3 (fun b => { b with mode := 1, state := 4, portA := 16, master := some farAnn, validSyncs := 15 }), by unfold hearing; decide +kernel⟩,
   ⟨base 3 (fun b => { b with mode := 1, state := 2 }), by decide +kernel⟩,
   ⟨base 3 (fun b => { b with mode := 1, state := 3 }), by decide +kernel⟩,
   ⟨base 3 (fun b => { b with mode := 2, state := 2, ppsE := some 0 }), by decide +kernel⟩,
   ⟨base 3 (fun b => { b with mode := 2, state := 3, ppsE := some 5 }), by decide +kernel⟩,
   ⟨base 3 (fun b => { b with ppsOut := true, mode := 1, state := 3 }), by decide +kernel⟩,
   ⟨base 3 (fun b => { b with ppsHigh := true }), by decide +kernel⟩⟩

/-- A watch of flow 255 of period 0, with one line left. -/
def watched : GridWatch := { next := 5, nextLine := 1079, stop := 5 }
/-- The line deadline of flow 255 that comes first. -/
def lineDueOf (f : RxFlow) : Option GridWatch := earliest f.lineDue (f.watches.filter (fun w => w.era == f.era || decide (w.lineGrid ≤ w.stop)))
theorem witness_IngestPacketsAndDeadlines :
  9216 < ({ packet with len := 9217 } : RxPkt).len ∧
  ({ packet with len := 9216, fcsOk := false } : RxPkt).len ≤ 9216 ∧ ({ packet with len := 9216, fcsOk := false } : RxPkt).fcsOk = false ∧
  (packet.len ≤ 9216 ∧ packet.fcsOk = true ∧ ({ packet with pause := true } : RxPkt).pause = true) ∧
  (∃ s : State, packet.len ≤ 9216 ∧ packet.fcsOk = true ∧ packet.pause = false ∧
    ((s.at32 0).happen 0x0201 [] (4 * packet.port + packet.sub) 0 1).matchRx packet = none) ∧
  (∃ s : State, packet.len ≤ 9216 ∧ packet.fcsOk = true ∧ packet.pause = false ∧
    ((s.at32 0).happen 0x0201 [] (4 * packet.port + packet.sub) 0 1).matchRx packet = some (255, 1)) ∧
  (∃ s : State, (s.rxFlow 255).legs[1]? = some ({ up := true } : RxLeg) ∧ ({ up := true } : RxLeg).up = true) ∧
  (∃ s : State, (s.rxFlow 255).legs[0]? = some ({} : RxLeg) ∧ ({} : RxLeg).up = false) ∧
  (∃ s : State, lineDueOf (s.rxFlow 255) = some watched) ∧
  (∃ s : State, (s.rxFlow 255).watches ≠ [] ∧ lineDueOf (s.rxFlow 255) = none) ∧
  (∃ s : State, earliest GridWatch.due (s.rxFlow 255).watches = some watched) ∧
  (∃ s : State, (s.rxFlow 255).watches = []) :=
  ⟨by decide, by decide, rfl, ⟨by decide, rfl, rfl⟩,
   ⟨on, by decide +kernel⟩,
   ⟨rxAt 255 (fun f => { f with isOpen := true, legs := [{ port := 0 }, { port := 3, sub := 3 }] }), by decide +kernel⟩,
   ⟨rxAt 255 (fun f => { f with legs := [{}, { up := true }] }), by decide +kernel⟩,
   ⟨rxAt 255 (fun f => { f with legs := [{}, { up := true }] }), by decide +kernel⟩,
   ⟨rxAt 255 (fun f => { f with height := 1080, bound := some 15, nextGrid := some 5, nextLine := 1079, allowance := 0 }), by decide +kernel⟩,
   ⟨rxAt 255 (fun f => { f with era := 1, former := [{ watched with lineGrid := 9 }] }), by decide +kernel⟩,
   ⟨rxAt 255 (fun f => { f with height := 1080, bound := some 15, nextGrid := some 5, nextLine := 1079, allowance := 0 }), by decide +kernel⟩,
   ⟨on, by decide +kernel⟩⟩

/-- A far-end loop of that command. -/
def looped : LoopRun := { q := 0, seq := 7, kind := 2, stop := 0 }
theorem witness_BraidEventsAct :
  (∃ s : State, ((s.at32 0).braid 4).enabled = false) ∧
  (∃ s : State, (((s.at32 0).braid 4).enabled = true ∧ ((s.at32 0).braid 4).deaf = false) ∧ ((s.at32 0).braid 4).locked = false) ∧
  (∃ s : State, (((s.at32 0).braid 4).enabled = true ∧ ((s.at32 0).braid 4).deaf = false) ∧ ((s.at32 0).braid 4).locked = true) ∧
  (∃ s : State, markerOf 8 12 (0x4D + 256 * 8 + 65536 * 65535) = some 65535 ∧ (s.braid 4).enabled = true ∧
    (s.braid 4).deaf = false) ∧
  markerOf 8 12 (0x4E + 256 * 8) = none ∧
  (∃ x : Strand, x.sinceMarker = some 16384 ∧ ∃ c, x.markerCount = some c ∧ (c + 1 + x.missedMarkers) % 65536 = 0) ∧
  (∃ s : State, (s.braid 4).enabled = true ∧ (s.braid 4).clockLost = false ∧ (s.braid 4).deaf = false) ∧
  (∃ s : State, (s.braid 4).clockLost = true) ∧
  (∃ s : State, (s.braid 4).enabled = true ∧ (s.braid 4).locked = false) ∧
  (∃ s : State, (s.braid 4).restoring = some (0, 7, 100000000)) ∧
  (∃ s : State, (s.braid 4).loop = some looped ∧ (s.reach looped.stop).findCmd looped.q looped.seq = some loopback ∧
    loopback.u 28 4 ≠ 0) ∧
  (∃ s : State, (s.braid 4).loop = none) ∧
  (∃ s : State, (s.braid 4).enabled = true ∧ (s.braid 4).deaf = false) ∧
  (∃ s : State, (s.braid 4).enabled = true ∧ (s.braid 4).deaf = true) ∧
  (∃ s : State, (s.braid 4).enabled = false) :=
  ⟨⟨on, by decide +kernel⟩,
   ⟨braidAt 4 (fun b => { b with enabled := true }), by decide +kernel⟩,
   ⟨braidAt 4 (fun b => { b with enabled := true, locked := true }), by decide +kernel⟩,
   ⟨braidAt 4 (fun b => { b with enabled := true }), by decide +kernel⟩, by decide +kernel,
   ⟨{ sinceMarker := some 16384, markerCount := some 65533, missedMarkers := 2 }, by decide +kernel⟩,
   ⟨braidAt 4 (fun b => { b with enabled := true }), by decide +kernel⟩,
   ⟨braidAt 4 (fun b => { b with clockLost := true }), by decide +kernel⟩,
   ⟨braidAt 4 (fun b => { b with enabled := true }), by decide +kernel⟩,
   ⟨braidAt 4 (fun b => { b with restoring := some (0, 7, 100000000) }), by decide +kernel⟩,
   ⟨(taking loopback).modBraid 4 (fun b => { b with loop := some looped }), by decide +kernel⟩,
   ⟨on, by decide +kernel⟩,
   ⟨braidAt 4 (fun b => { b with enabled := true }), by decide +kernel⟩,
   ⟨braidAt 4 (fun b => { b with enabled := true, loop := some { looped with kind := 1 } }), by decide +kernel⟩,
   ⟨on, by decide +kernel⟩⟩

theorem witness_PictureEventsAct :
  (∃ s : State, s.pic 15 0 = some fresh ∧ s.budgetDue 15 fresh = true ∧ (s.prog 15).follow = false ∧ (s.prog 15).splicedNow = none) ∧
  (∃ s : State, s.pic 15 0 = some fresh ∧ s.budgetDue 15 fresh = true ∧ (s.prog 15).follow = true ∧ (s.prog 15).splicedNow = none ∧
    s.rowRecord 15 fresh.n 0 = none) ∧
  (∃ s : State, s.pic 15 0 = some ({ fresh with decided := true } : Picture) ∧ s.budgetDue 15 ({ fresh with decided := true } :
    Picture) = false) ∧
  (∃ s : State, s.pic 15 0 = some fresh ∧ fresh.launchArrived = false) ∧
  (∃ s : State, s.pic 15 0 = some ({ fresh with launchArrived := true } : Picture) ∧ ({ fresh with launchArrived := true } :
    Picture).launchArrived = true) ∧
  (∃ s : State, s.pic 1 0 = some planned ∧ s.rowDue 1 0 planned = true ∧ ((s.prog 1).follow = true ∨ planned.n < (s.prog 1).followEnd) ∧ s.rowRecord 1 planned.n 0 = some
    [1]) ∧
  (∃ s : State, s.pic 1 0 = some planned ∧ s.rowDue 1 0 planned = true ∧ (s.prog 1).follow = false ∧ (s.prog 1).followEnd ≤ planned.n ∧
    (s.decideRow 1 0 planned).peerFollows 1 planned.n = false) ∧
  (∃ s : State, s.pic 1 0 = some planned ∧ s.rowDue 1 1 planned = false) ∧
  (∃ s : State, s.pic 1 0 = some packed ∧ s.allowanceEnd 1 packed 0 = some 1050000 ∧ packed.gate.find 0 = none ∧ packed.crcs.find 0 = some (5, 1000000) ∧
    (s.prog 1).muted = none ∧ (s.reach 1050000).formed = false) ∧
  (∃ s : State, s.formed = true) ∧
  (∃ s : State, s.formed = true ∧ (s.prog 15).running = true ∧ bit 0 1 = false ∧ (∀ y ∈ (s.prog 15).pics, y.n ≠ 7) ∧
    (s.prog 15).ownCrcs.find (crcKey 7 3) = none ∧ (s.prog 15).peerCrcs.find (crcKey 7 3) = none) ∧
  (∃ s : State, s.formed = false) ∧
  (∃ s : State, opKey first = some firstKey ∧ s.disp.restarting = false ∧ s.ready firstKey = true ∧ (firstKey.pic, firstKey.row) ∈
    s.inFlight firstKey.prog ∧ firstKey ∈ s.rowOps firstKey.prog firstKey.pic firstKey.row ∧ firstKey.kind ≠ .launch ∧ s.placeOn
    firstKey = some 65536 ∧ s.isNext firstKey = true) ∧
  (∃ s : State, s.disp.restarting = true) ∧
  (∃ s : State, opKey second = some runningKey ∧ s.op runningKey = some running ∧ running.unit = some 0 ∧ running.done = false ∧
    s.disp.restarting = false ∧ (runningKey.kind = .encode ∨ runningKey.kind = .pack) ∧ (runningKey.kind = .encode →
    running.progress < ((s.opPlan runningKey).segs.getD runningKey.seg (0, 0)).2 - ((s.opPlan runningKey).segs.getD runningKey.seg (0, 0)).1) ∧ (s.unit 0).cmd = none ∧ (∃ j ∈ s.readyOps,
    s.preempts j runningKey 0 = true ∧ s.worst j runningKey = true)) ∧
  (∃ s : State, s.op firstKey = none) ∧
  (∃ s : State, (codedKey.pic, codedKey.row) ∈ s.inFlight codedKey.prog ∧ codedKey ∈ s.rowOps codedKey.prog codedKey.pic
    codedKey.row ∧ s.ready codedKey = true ∧ 2 ≤ s.level codedKey ∧ (s.reach ((s.deadline codedKey : Int) - s.remaining codedKey -
    24000 + 1).toNat).op codedKey = some waiting ∧ (s.reach ((s.deadline codedKey : Int) - s.remaining codedKey - 24000 +
    1).toNat).slack codedKey < 24000) :=
  ⟨⟨progAt 15 (fun p => { p with pics := [fresh] }), by decide +kernel⟩,
   ⟨progAt 15 (fun p => { p with pics := [fresh], follow := true }), by decide +kernel⟩,
   ⟨progAt 15 (fun p => { p with pics := [({ fresh with decided := true } : Picture)] }), by decide +kernel⟩,
   ⟨progAt 15 (fun p => { p with pics := [fresh] }), by decide +kernel⟩,
   ⟨progAt 15 (fun p => { p with pics := [({ fresh with launchArrived := true } : Picture)] }), by decide +kernel⟩,
   ⟨coding.modProg 1 (fun p => { p with pics := [planned], follow := true, records := [(0, 0, [1])] }), by decide +kernel⟩,
   ⟨coding.modProg 1 (fun p => { p with pics := [planned] }), by decide +kernel⟩,
   ⟨coding.modProg 1 (fun p => { p with pics := [planned] }), by decide +kernel⟩,
   ⟨coding.modProg 1 (fun p => { p with pics := [packed] }), by decide +kernel⟩,
   ⟨leading on, by decide +kernel⟩,
   ⟨leading (progAt 15 (fun p => { p with running := true })), by decide +kernel⟩,
   ⟨on, by decide +kernel⟩,
   ⟨composing, by decide +kernel⟩,
   ⟨{ on with disp := { on.disp with restarting := true } }, by decide +kernel⟩,
   ⟨contended, by decide +kernel⟩,
   ⟨composing, by decide +kernel⟩,
   ⟨State.modTb { coding with disp := { coding.disp with ops := [waiting] } } 0 (fun b => { b with wraps := 1 }), by decide +kernel⟩⟩

theorem witness_UnitEventsAct :
  (∃ s : State, s.busyUnit 0 = true ∧ (s.unit 0).awaitAck = true) ∧
  (∃ s : State, s.busyUnit 67 = false) ∧
  (∃ s : State, s.busyUnit 131081 = true ∧ isUnit 131081 = true) ∧
  (∃ s : State, (s.unit 0).state ≠ 2) ∧
  (∃ s : State, (s.unit 0).state = 2) ∧
  (∃ s : State, (s.unit 131081).state = 3) ∧
  (∃ (s : State) (y : Picture) (c : CanFrame), (s.unit 0).op = some runningKey ∧ s.op runningKey = some running ∧
    s.pic runningKey.prog runningKey.pic = some y ∧ s.frame runningKey.prog runningKey.pic = some c ∧ runningKey.kind = .encode ∧
    running.done = false ∧ running.progress < (y.plan.segs.getD runningKey.seg (0, 0)).2 - (y.plan.segs.getD runningKey.seg (0, 0)).1 ∧
    s.wppReady runningKey running y = true ∧ (s.unit 0).cmd = none) ∧
  (∃ s : State, (s.unit 0).state ≠ 2 ∧ (s.unit 0).op = none) ∧
  (∃ s : State, (s.unit 0).state ≠ 2 ∧ (s.unit 0).op = some firstKey) ∧
  (∃ s : State, s.disp.restarting = false ∧ (s.unit 0).op = some runningKey ∧ s.op runningKey = some { running with progress := 4 } ∧
    (s.unit 0).cmd = none ∧ ((s.opPlan runningKey).segs.getD runningKey.seg (0, 0)).2 - ((s.opPlan runningKey).segs.getD runningKey.seg (0, 0)).1 ≤ 4) ∧
  (∃ s : State, s.disp.restarting = true ∧ s.disp.gathered = []) ∧
  (∃ s : State, s.disp.restarting = false) ∧
  (∃ s : State, s.disp.restarting = true ∧ (s.unit 0).op.isSome = true) :=
  ⟨⟨unitAt 0 (fun x => { x with op := some firstKey, awaitAck := true }), by decide +kernel⟩,
   ⟨on, by decide +kernel⟩,
   ⟨unitAt 131081 (fun x => { x with op := some firstKey, state := 0 }), by decide +kernel⟩,
   ⟨on, by decide +kernel⟩,
   ⟨unitAt 0 (fun x => { x with state := 2 }), by decide +kernel⟩,
   ⟨unitAt 131081 (fun x => { x with state := 3 }), by decide +kernel⟩,
   ⟨contended.modCanopy 0 (fun c => { c with frames := [oneBand] }), { qpSet with plan := onePlan 1 }, oneBand, by decide +kernel⟩,
   ⟨on, by decide +kernel⟩,
   ⟨unitAt 0 (fun x => { x with op := some firstKey }), by decide +kernel⟩,
   ⟨{ contended with disp := { contended.disp with ops := [{ running with progress := 4 }] } }, by decide +kernel⟩,
   ⟨{ on with disp := { on.disp with restarting := true } }, by decide +kernel⟩,
   ⟨on, by decide +kernel⟩,
   ⟨State.modUnit { on with disp := { on.disp with restarting := true } } 0 (fun x => { x with op := some firstKey }), by decide +kernel⟩⟩

/-- The first instant at which a leg's head packet may be released, as EgressEventsAct has it for a leg without new buckets. -/
def instantOf (s : State) (flow : Nat) (l : TxLeg) (p : TxPkt) : Nat :=
  let cost := 8 * (l.frameLen p + l.overhead)
  max (max p.launch p.passed) (l.tLast + min (max (l.p.wait cost) (if (s.txFlow flow).cls = 0 then l.c.wait cost else 0)) 2147483649)
/-- A sub-port with its link up, and a flow's leg on it that has released the first packet of a train, or another one. -/
def linked (f : SubPort → SubPort) : State := on.modSub 3 3 (fun x => f { x with linkUp := true })
def released (first : Bool) : State :=
  (txAt 5 (fun f => { f with legs := [{ port := 3, sub := 3, released := [({ small with first := first }, 0)] }] })).modSub 3 3
    (fun x => { x with linkUp := true })
/-- What the firmware sends at an instant is open (log entry 172): a property that holds of the state with nothing sent, and with a packet
in Q0, holds of it. -/
theorem firmware_any {P : State → Prop} {s : State} (a : P s.draw.2)
    (b : P (s.draw.2.modSub 3 3 (fun x => x.enter 0 none none (64 + s.draw.1 / 2 % 9153) (8 * (64 + s.draw.1 / 2 % 9153 + 20)) s.now))) :
    P (s.firmwareSends 3 3) := by
  by_cases h : s.draw.1 % 2 = 0
  · simpa only [State.firmwareSends, if_pos h] using a
  · simpa only [State.firmwareSends, if_neg h] using b
/-- What WIRE_IDLE sees of the sub-port at the time 0. -/
def seen (s : State) : State := (s.at32 0).firmwareSends 3 3
def lineOf (s : State) : List (Nat × Nat × Nat × TxPkt) := (s.waitingOn 3 3).mergeSort shapedBefore
def mayGo (s : State) (e : Nat × Nat × Nat × TxPkt) : Bool :=
  e.2.2.2.first || s.guardOk 3 3 (((s.txLeg e.2.1 e.2.2.1).map (fun l => l.frameLen e.2.2.2 + l.overhead)).getD 0)
def wireFree (s : State) : Prop := (s.subPort 3 3).linkUp = true ∧ (s.subPort 3 3).wire = none
def ptpGoes (s : State) : Prop := (s.subPort 3 3).ptpWaiting ≠ 0 ∧ s.guardOk 3 3 110 = true
theorem witness_EgressEventsAct_wire :
  (∃ s : State, ¬wireFree (seen s)) ∧
  (∃ s : State, wireFree (seen s) ∧ ptpGoes (seen s)) ∧
  (∃ s : State, wireFree (seen s) ∧ ¬ptpGoes (seen s) ∧
    (lineOf (seen s)).find? (mayGo (seen s)) = some (0, 5, 0, { small with first := true })) ∧
  (∃ s : State, (s.at32 0).draw.1 % 2 = 0 → wireFree (seen s) ∧ ¬ptpGoes (seen s) ∧ (lineOf (seen s)).find? (mayGo (seen s)) = none ∧
    ((seen s).subPort 3 3).bestQueue = some (7, waiter)) ∧
  (∃ s : State, (s.at32 0).draw.1 % 2 = 0 → wireFree (seen s) ∧ ¬ptpGoes (seen s) ∧ (lineOf (seen s)).find? (mayGo (seen s)) = none ∧
    ((seen s).subPort 3 3).bestQueue = none) := by
  refine ⟨⟨on, firmware_any (P := fun s => ¬wireFree s) ?_ ?_⟩,
    ⟨linked (fun x => { x with ptpWaiting := 1 }), firmware_any (P := fun s => wireFree s ∧ ptpGoes s) ?_ ?_⟩,
    ⟨released true, firmware_any (P := fun s => wireFree s ∧ ¬ptpGoes s ∧
      (lineOf s).find? (mayGo s) = some (0, 5, 0, { small with first := true })) ?_ ?_⟩,
    ⟨linked (fun x => { x with beQueues := [(7, [waiter])] }), fun h => ?_⟩, ⟨linked id, fun h => ?_⟩⟩
  all_goals first
    | (unfold wireFree; decide +kernel)
    | (unfold wireFree ptpGoes; decide +kernel)
    | (simp only [seen, State.firmwareSends, if_pos h]; unfold wireFree ptpGoes; decide +kernel)
theorem witness_EgressEventsAct :
  (∃ s : State, s.txLeg 1023 1 = some full ∧ full.queue = small :: [] ∧ full.newSet = none ∧
    instantOf s 1023 full small ≤ (s.at32 0).now ∧ (s.txFlow 1023).cls = 0 ∧ small.muted = false ∧
    ((s.at32 0).subPort full.port full.sub).linkUp = true) ∧
  (∃ s : State, s.txLeg 1023 1 = some full ∧ instantOf s 1023 full small ≤ (s.at32 0).now ∧ (s.txFlow 1023).cls = 1) ∧
  (∃ s : State, s.txLeg 0 0 = some poor ∧ poor.queue = small :: [] ∧ poor.newSet = none ∧ (s.at32 0).now < instantOf s 0 poor small) ∧
  (∃ s : State, s.txLeg 0 0 = some ({} : TxLeg) ∧ ({} : TxLeg).queue = []) ∧
  (∃ s : State, (s.subPort 3 3).wire = some (none, 100)) ∧
  (∃ s : State, (s.subPort 3 3).wire = some (some (5, 1), 100) ∧
    (((s.reach 100).modSub 3 3 (fun x => { x with wire := none })).txLeg 5 1).bind TxLeg.sending = some (small, 0)) ∧
  (∃ s : State, (s.subPort 3 3).wire = none) ∧
  (∃ s : State, (s.subPort 3 3).beQueues.get [] 7 = waiter :: [] ∧ waiter.flow = some (5, 1) ∧ waiter.pkt = some small) ∧
  (∃ s : State, ∀ e ∈ s.egress.flows, ∀ l ∈ e.2.legs, l.port = 3 → l.sub = 3 → l.released = []) :=
  ⟨⟨(txAt 1023 (fun f => { f with legs := [{}, full] })).modSub 0 0 (fun x => { x with linkUp := true }), by decide +kernel⟩,
   ⟨txAt 1023 (fun f => { f with cls := 1, legs := [{}, full] }), by decide +kernel⟩,
   ⟨txAt 0 (fun f => { f with legs := [poor] }), by decide +kernel⟩,
   ⟨txAt 0 (fun f => { f with legs := [{}] }), by decide +kernel⟩,
   ⟨on.modSub 3 3 (fun x => { x with wire := some (none, 100) }), by decide +kernel⟩,
   ⟨(txAt 5 (fun f => { f with legs := [{}, { sending := some (small, 0) }] })).modSub 3 3
      (fun x => { x with wire := some (some (5, 1), 100) }), by decide +kernel⟩,
   ⟨on, by decide +kernel⟩,
   ⟨on.modSub 3 3 (fun x => { x with beQueues := [(7, [waiter])] }), by decide +kernel⟩,
   ⟨txAt 0 (fun f => { f with legs := [{ port := 3, sub := 3 }, { released := [(small, 0)] }] }), by decide +kernel⟩⟩

theorem witness_TwinPathsAct :
  (∃ s : State, (s.braid 4).enabled = false ∧ s.twin.mgPorts = 0) ∧
  (∃ s : State, (s.braid 4).enabled = true ∧
    let due := ((s.path 0).sentHb.map (fun t => t + hbPeriod 0)).getD s.now
    (s.path 0).sentHb = some 0 ∧ due ≤ (s.reach due).now) ∧
  (∃ s : State, s.twin.mgPorts ≠ 0 ∧
    let due := ((s.path 1).sentHb.map (fun t => t + hbPeriod 1)).getD s.now
    due ≤ (s.reach due).now) ∧
  (∃ s : State, pktU (List.replicate 32 0) 0 8 ≠ (s.at32 0).twin.peerUid) ∧
  (∃ s : State, pktU (List.replicate 32 0) 0 8 = (s.at32 0).twin.peerUid) ∧
  (∃ s : State, (s.path 1).up = true ∧ (s.path 1).lastHb = some 0 ∧ 0 + 3 * hbPeriod 1 ≤ (s.reach (0 + 3 * hbPeriod 1)).now) ∧
  (∃ s : State, (s.path 0).up = false) ∧
  (∃ s : State, s.twin.unacked.find? (fun e => e.1 == 18446744073709551615) = some (18446744073709551615, [1], 5) ∧
    s.replicates = true ∧ 5 + 20000 ≤ (s.reach (5 + 20000)).now) ∧
  (∃ s : State, s.twin.unacked.find? (fun e => e.1 == 0) = none) ∧
  (∃ s : State, s.twin.exchange = some (2, 0, 7)) ∧
  (∃ s : State, s.twin.exchange = none) :=
  ⟨⟨on, by decide +kernel⟩,
   ⟨State.setPath (braidAt 4 (fun b => { b with enabled := true })) 0 { sentHb := some 0 }, by decide +kernel⟩,
   ⟨{ on with twin := { on.twin with mgPorts := 2 } }, by decide +kernel⟩,
   ⟨{ on with twin := { on.twin with peerUid := 5 } }, by decide +kernel⟩,
   ⟨on, by decide +kernel⟩,
   ⟨{ on with twin := { on.twin with pathB := { up := true, lastHb := some 0 } } }, by decide +kernel⟩,
   ⟨on, by decide +kernel⟩,
   ⟨{ on with twin := { on.twin with role := 2, unacked := [(18446744073709551615, [1], 5)] } }, by decide +kernel⟩,
   ⟨on, by decide +kernel⟩,
   ⟨{ on with twin := { on.twin with exchange := some (2, 0, 7) } }, by decide +kernel⟩,
   ⟨on, by decide +kernel⟩⟩

/-- A lead without its peer, which has come back and forms: each condition of R429 holds. -/
def joining : State :=
  let s := on.modTb 0 (fun b => { b with mode := 1, state := 3 })
  { s with twin := { s.twin with
    role := 2, peerLost := true, peerRole := 1, pathA := { up := true },
    peer := { ask := 3, part := s.devIdReg / 65536, stepping := s.steppingReg, fwSet := s.fwSetReg, tbMode := 1, tbState := 3, domain := 127 } } }
/-- An epoch's end of kind 1 (no join), of epoch 0 with a length and a CRC, and the epoch as it then stands. -/
def endOf (len crc : Byte) : List Byte := [0, 0, 0, 0, 1, 0, 0, 0, len] ++ List.replicate 7 0 ++ [crc] ++ List.replicate 15 0
def ending (s : State) (p : List Byte) : EpochBuf := { s.epochIn (pktU p 0 4) with
  kind := pktU p 4 1, length := pktU p 8 8, apply := pktU p 20 4, pos := pktU p 24 8 }
def wholeEpoch (b : EpochBuf) : Prop := b.data.length = b.length ∧ ∀ e ∈ b.data, e.1 < b.length
/-- A NOP command with the position 0, as COMMAND brings it. -/
def brought : List Byte := List.replicate 8 0 ++ nopPacket 0
theorem witness_TwinMessagesAct_journaled :
    44 ≤ brought.length ∧ (∃ s : State, s.isFollower = true ∧ s.twin.notes = [] ∧
      s.holdsPos (pktU brought 0 8) (headerOf (brought.drop 8)) = false ∧
      ∀ r, ({ cmdOf (brought.drop 8) (pktU brought 0 8) r [] with phase := .accepted } : Cmd).toFlash = false) :=
  ⟨by decide +kernel, { on with twin := { on.twin with role := 3 } }, by decide +kernel, rfl, by decide +kernel, fun _ => by
    simp only [Cmd.toFlash, Cmd.durable, cmdOf]
    decide +kernel⟩
theorem witness_TwinMessagesAct :
  (∃ s : State, s.isFollower = true) ∧
  (∃ s : State, s.isFollower = false ∧ s.willFollow = true ∧ ∀ e ∈ s.twin.held, e.1 ≠ pktU (List.replicate 44 0) 0 8) ∧
  (∃ s : State, s.isLead = false) ∧
  (∃ s : State, s.isLead = true ∧ ∀ c ∈ s.hif.cmds, c.replicated = false) ∧
  (∃ s : State, s.isFollower = true ∧ s.twin.applied < pktU [0, 0, 0, 0, 0, 0, 0, 0, 1, 0, 0, 0, 0, 0, 0, 0, 0, 0, 0, 0, 0, 0, 0, 0,
    0, 0, 0, 0] 8 8 ∧ ∀ e ∈ s.twin.notes, e.2.commitSeq ≠ pktU [0, 0, 0, 0, 0, 0, 0, 0, 1, 0, 0, 0, 0, 0, 0, 0, 0, 0, 0, 0, 0, 0, 0,
    0, 0, 0, 0, 0] 8 8) ∧
  (∃ s : State, s.isFollower = false ∧ s.willFollow = false) ∧
  (∃ s : State, s.mayJoin = true) ∧
  (∃ s : State, s.mayJoin = false) ∧
  (∃ s : State, s.takesEpochs = true) ∧
  (∃ s : State, s.takesEpochs = false) ∧
  (∃ s : State, s.takesEpochs = true ∧ ¬wholeEpoch (ending s (endOf 1 0))) ∧
  (∃ s : State, s.takesEpochs = true ∧ wholeEpoch (ending s (endOf 0 1)) ∧ crc32c (ending s (endOf 0 1)).bytes ≠ pktU (endOf 0 1) 16 4) ∧
  (∃ s : State, s.takesEpochs = true ∧ wholeEpoch (ending s (endOf 0 0)) ∧ crc32c (ending s (endOf 0 0)).bytes = pktU (endOf 0 0) 16 4) ∧
  (∃ s : State, s.twin.sending.find? (fun x => x.number == pktU [0, 0, 0, 0, 0] 0 4) = some ({ number := 0 } : EpochBuf) ∧ pktU [0,
    0, 0, 0, 0] 4 1 = 0 ∧ ({ number := 0 } : EpochBuf).kind = 0) ∧
  (∃ s : State, s.twin.sending.find? (fun x => x.number == pktU [0, 0, 0, 0, 1] 0 4) = some ({ number := 0, fails := 1 } : EpochBuf)
    ∧ pktU [0, 0, 0, 0, 1] 4 1 ≠ 0 ∧ ({ number := 0, fails := 1 } : EpochBuf).fails + 1 < 3) ∧
  (∃ s : State, pktU [0, 0, 0, 0, 1] 4 1 = 1 ∧ s.twin.role = 3 ∧ s.twin.notes = []) ∧
  (∃ s : State, pktU [0, 0, 0, 0, 2] 4 1 = 2 ∧ s.twin.role = 2 ∧ s.twin.exchange = some (3, 0, 7)) ∧
  (∃ s : State, pktU [0, 0, 0, 0, 5] 4 1 = 5 ∧ s.twin.role = 3 ∧ s.twin.exchange = none) ∧
  (∃ s : State, s.formed = true ∧ (s.prog (pktU (List.replicate 12 0) 0 1 % 16)).muted.isSome = true) ∧
  (∃ s : State, s.formed = true ∧ (s.prog 0).follow = true) ∧
  (∃ s : State, s.formed = true ∧ pktU (List.replicate 12 0) 4 4 < (s.prog 0).followEnd) ∧
  (∃ s : State, s.formed = false) :=
  ⟨⟨{ on with twin := { on.twin with role := 3 } }, by decide +kernel⟩,
   ⟨{ on with twin := { on.twin with role := 1, askRole := 3 } }, by decide +kernel⟩,
   ⟨on, by decide +kernel⟩,
   ⟨leading on, by decide +kernel⟩,
   ⟨{ on with twin := { on.twin with role := 3 } }, by decide +kernel⟩,
   ⟨on, by decide +kernel⟩,
   ⟨joining, by decide +kernel⟩,
   ⟨on, by decide +kernel⟩,
   ⟨{ on with twin := { on.twin with role := 3 } }, by decide +kernel⟩,
   ⟨on, by decide +kernel⟩,
   ⟨{ on with twin := { on.twin with role := 3 } }, by unfold wholeEpoch; decide +kernel⟩,
   ⟨{ on with twin := { on.twin with role := 3 } }, by unfold wholeEpoch; decide +kernel⟩,
   ⟨{ on with twin := { on.twin with role := 3 } }, by unfold wholeEpoch; decide +kernel⟩,
   ⟨{ on with twin := { on.twin with sending := [({ number := 0 } : EpochBuf)] } }, by decide +kernel⟩,
   ⟨{ on with twin := { on.twin with sending := [({ number := 0, fails := 1 } : EpochBuf)] } }, by decide +kernel⟩,
   ⟨{ on with twin := { on.twin with role := 3 } }, by decide +kernel⟩,
   ⟨{ on with twin := { on.twin with role := 2, exchange := some (3, 0, 7) } }, by decide +kernel⟩,
   ⟨{ on with twin := { on.twin with role := 3 } }, by decide +kernel⟩,
   ⟨leading (progAt 0 (fun p => { p with muted := some 1 })), by decide +kernel⟩,
   ⟨leading (progAt 0 (fun p => { p with follow := true })), by decide +kernel⟩,
   ⟨leading (progAt 0 (fun p => { p with followEnd := 1 })), by decide +kernel⟩,
   ⟨on, by decide +kernel⟩⟩

theorem witness_DramEventsAct :
  (∃ s : State, (s.channel 49).retired = false ∧ (s.channel 49).selfRefresh = false) ∧
  (∃ s : State, (s.channel 49).retired = false ∧ (s.channel 49).selfRefresh = false ∧ s.mem.doubled.getD 1 false = false ∧
    (s.channel 49).debt.get 0 3 + 1 ≤ s.mem.postpone) ∧
  (∃ s : State, (s.channel 49).retired = false ∧ (s.channel 49).selfRefresh = false ∧ s.mem.doubled.getD 1 false = false ∧
    s.mem.postpone < (s.channel 49).debt.get 0 3 + 1) ∧
  (∃ s : State, s.mem.doubled.getD 1 false = false ∧ (s.mem.threshold : Int) * 16 ≤ 1360) ∧
  (∃ s : State, s.inService 49 = true ∧ 15 * 256 ≤ ({ width := 39 } : EyeScan).width * 100) ∧
  (∃ s : State, s.inService 49 = true ∧ ({ width := 38 } : EyeScan).width * 100 < 15 * 256) ∧
  (∃ s : State, s.inService 49 = false) ∧
  (∃ s : State, ((s.at32 0).channel 49).retired = false ∧ ((((s.at32 0).channel 49).caFails.filter (fun x => (s.at32 0).now ≤ x +
    1000)) ++ [(s.at32 0).now]).length < 3) ∧
  (∃ s : State, ((s.at32 0).channel 49).retired = false ∧ 3 ≤ ((((s.at32 0).channel 49).caFails.filter (fun x => (s.at32 0).now ≤ x
    + 1000)) ++ [(s.at32 0).now]).length) ∧
  (∃ s : State, (s.channel 49).retraining = some (0, none) ∧ (64 ≤ 64 ∧ 25 ≤ 25) ∧ 0 = s.mem.rates.getD (49 / 32) 0 ∧
    0 < (s.channel 49).sets.length) ∧
  (∃ s : State, (s.channel 49).retraining = some (2, none) ∧ (64 ≤ 64 ∧ 25 ≤ 25) ∧ 2 ≠ s.mem.rates.getD (49 / 32) 0) ∧
  (∃ s : State, (s.channel 49).retraining = some (2, some (0, 7)) ∧ ¬(64 ≤ 63 ∧ 25 ≤ 25) ∧ ¬(64 ≤ 64 ∧ 25 ≤ 24)) ∧
  (∃ s : State, s.mem.freq = some change ∧ change.stage = 0 ∧ ∀ ch ∈ allChannels, ((s.channel ch).retraining.bind Prod.snd) ≠ some
    change.cmd) ∧
  (∃ s : State, 49 ∈ s.mem.copying) ∧
  (∃ s : State, (s.channel 49).openRows.find 15 = some (3, 100)) :=
  ⟨⟨on, by decide +kernel⟩,
   ⟨channelAt 49 (fun x => { x with debt := [(3, 7)] }), by decide +kernel⟩,
   ⟨channelAt 49 (fun x => { x with debt := [(3, 8)] }), by decide +kernel⟩,
   ⟨on, by decide +kernel⟩,
   ⟨{ on with mem := { on.mem with map := [(0, some 49)] } }, by decide +kernel⟩,
   ⟨{ on with mem := { on.mem with map := [(0, some 49)] } }, by decide +kernel⟩,
   ⟨channelAt 49 (fun x => { x with retired := true }), by decide +kernel⟩,
   ⟨channelAt 49 (fun x => { x with caFails := [0] }), by decide +kernel⟩,
   ⟨channelAt 49 (fun x => { x with caFails := [0, 0] }), by decide +kernel⟩,
   ⟨channelAt 49 (fun x => { x with retraining := some (0, none) }), by decide +kernel⟩,
   ⟨channelAt 49 (fun x => { x with retraining := some (2, none) }), by decide +kernel⟩,
   ⟨channelAt 49 (fun x => { x with retraining := some (2, some (0, 7)) }), by decide +kernel⟩,
   ⟨{ on with mem := { on.mem with freq := some change } }, by decide +kernel⟩,
   ⟨{ on with mem := { on.mem with copying := [49] } }, by decide +kernel⟩,
   ⟨channelAt 49 (fun x => { x with openRows := [(15, (3, 100))] }), by decide +kernel⟩⟩

theorem witness_ErrorCorrectionActs :
  (∃ s : State, ((s.at32 0).channel 49).retired = false ∧ (eccDecode ((some (eccEncode 5 1) : Option Nat).getD ((s.at32
    0).storedWord 49 1073741823))).kind = 0 ∧ reader.kind ≠ 8 ∧ reader.kind ≠ 6 ∧ (eccDecode ((some (eccEncode 5 1) : Option Nat).getD
    ((s.at32 0).storedWord 49 1073741823))).w = true) ∧
  (∃ s : State, ((s.at32 0).channel 49).retired = false ∧ (eccDecode ((some (eccEncode 5 0) : Option Nat).getD ((s.at32
    0).storedWord 49 1073741823))).kind = 0 ∧ reader.kind ≠ 8 ∧ reader.kind ≠ 6 ∧ (eccDecode ((some (eccEncode 5 0) : Option Nat).getD
    ((s.at32 0).storedWord 49 1073741823))).w = false ∧ opKey reader = none) ∧
  (∃ s : State, ((s.at32 0).channel 49).retired = true ∧ ((s.at32 0).channel 49).was = none) ∧
  (∃ s : State, ((s.at32 0).channel 49).retired = true ∧ ((s.at32 0).channel 49).was = some 15) ∧
  (∃ s : State, ((s.at32 0).channel 49).retired = false ∧ (eccDecode (eccEncode 5 0)).kind = 0 ∧ (eccDecode (eccEncode 5 0)).w = false ∧
    (s.at32 0).awaitsCopy 49 = false) ∧
  (∃ s : State, ((s.at32 0).channel 49).retired = false ∧ (eccDecode (eccEncode 5 1)).kind = 0 ∧ (eccDecode (eccEncode 5 1)).w = true ∧
    (s.at32 0).awaitsCopy 49 = true) ∧
  (∃ s : State, s.patrolWord = none) ∧
  (∃ s : State, s.patrolWord = some (0, 0) ∧ (eccDecode ((some (eccEncode 5 1)).getD (s.storedWord 0 (8 * 0)))).kind = 0 ∧
    (eccDecode ((some (eccEncode 5 1)).getD (s.storedWord 0 (8 * 0)))).w = true) ∧
  (∃ s : State, s.mem.table.find 63 = some faulty ∧ faulty.kind = 0 ∧ 16 ≤ faulty.hits ∧ (faulty.state = 0 ∨ faulty.state = 2) ∧
    s.wordAt faulty.channel faulty.location = some 0) ∧
  (∃ s : State, s.mem.table.find 63 = some { faulty with hits := 15 } ∧ ({ faulty with hits := 15 } : EccEntry).hits < 16) ∧
  (∃ s : State, s.mem.table.find 63 = some { faulty with state := 3 } ∧ ({ faulty with state := 3 } : EccEntry).state = 3 ∧
    s.channelBusy 49 = false ∧ 8 ≤ ((s.channel 49).repairs.filter (fun r => r.1 = bits 0 16 13)).length) ∧
  (∃ s : State, s.mem.table.find 63 = some { faulty with state := 3 } ∧ ({ faulty with state := 3 } : EccEntry).state = 3 ∧
    s.channelBusy 49 = false ∧ ((s.channel 49).repairs.filter (fun r => r.1 = bits 0 16 13)).length < 8) ∧
  (∃ s : State, s.mem.table.find 63 = some faulty ∧ faulty.state ≠ 3) ∧
  (∃ s : State, bit 1 0 = true ∧ s.mem.ectBusy = false) ∧
  (∃ s : State, bit 1 0 = true ∧ s.mem.ectBusy = true) ∧
  (∃ s : State, s.mem.ectTest = some trial ∧ isChannel trial.channel = true ∧ (s.channel trial.channel).retired = false ∧ trial.cmd
    = none) ∧
  (∃ s : State, (((s.at32 0).channel 0).retired = false ∧ (eccDecode ((some (eccEncode 5 1) : Option Nat).getD ((s.at32 0).storedWord 0 0))).kind = 0 ∧
    first.kind ≠ 8 ∧ first.kind ≠ 6) ∧ (eccDecode ((some (eccEncode 5 1) : Option Nat).getD ((s.at32 0).storedWord 0 0))).w = true ∧
    opKey first = some firstKey) ∧
  (∃ s : State, (((s.at32 0).channel 0).retired = false ∧ (eccDecode ((none : Option Nat).getD ((s.at32 0).storedWord 0 0))).kind = 0 ∧
    first.kind ≠ 8 ∧ first.kind ≠ 6) ∧ (eccDecode ((none : Option Nat).getD ((s.at32 0).storedWord 0 0))).w = false ∧
    opKey first = some firstKey) ∧
  (∃ s : State, bit 0 0 = false ∧ s.mem.ectBusy = false) :=
  ⟨⟨on, by decide +kernel⟩,
   ⟨on, by decide +kernel⟩,
   ⟨channelAt 49 (fun x => { x with retired := true }), by decide +kernel⟩,
   ⟨channelAt 49 (fun x => { x with retired := true, was := some 15 }), by decide +kernel⟩,
   ⟨on, by decide +kernel⟩,
   ⟨{ on with mem := { on.mem with copying := [49] } }, by decide +kernel⟩,
   ⟨{ on with mem := { on.mem with channels := allChannels.map (fun i => (i, { retired := true })) } }, by decide +kernel⟩,
   ⟨on, by decide +kernel⟩,
   ⟨{ on with mem := { on.mem with table := [(63, faulty)], channels := [(49, { words := [(0, 1)] })] } }, by decide +kernel⟩,
   ⟨{ on with mem := { on.mem with table := [(63, { faulty with hits := 15 })] } }, by decide +kernel⟩,
   ⟨{ on with mem := { on.mem with table := [(63, { faulty with state := 3 })], channels := [(49, { repairs := List.replicate 8 (0, 1) })] } }, by decide +kernel⟩,
   ⟨{ on with mem := { on.mem with table := [(63, { faulty with state := 3 })], channels := [(49, { repairs := List.replicate 7 (0, 1) })] } }, by decide +kernel⟩,
   ⟨{ on with mem := { on.mem with table := [(63, faulty)] } }, by decide +kernel⟩,
   ⟨on, by decide +kernel⟩,
   ⟨{ on with mem := { on.mem with ectBusy := true } }, by decide +kernel⟩,
   ⟨{ on with mem := { on.mem with ectTest := some trial } }, by decide +kernel⟩,
   ⟨on, by decide +kernel⟩,
   ⟨on, by decide +kernel⟩,
   ⟨on, by decide +kernel⟩⟩
theorem witness_AudioInputsAct :
  (∃ s : State, (s.cvUnit 15).tap = 1) ∧
  (∃ s : State, (s.cvUnit 8).tap = 1 ∧ (s.cvUnit 8).at_ < (s.cvUnit 8).da + (s.cvUnit 8).dramLen) ∧
  (∃ s : State, (s.cvUnit 8).tap ≠ 1) ∧
  (∃ s : State, ((s.at32 0).audioIn 7).enabled = true) ∧
  (∃ s : State, ((s.at32 0).audioIn 7).enabled = false) ∧
  (∃ s : State, (s.audioIn 7).enabled = true ∧ (s.audioIn 7).state ≠ 1 ∧ (s.audioIn 7).lastA = some 100) ∧
  (∃ s : State, (s.audioIn 7).enabled = true ∧ (s.audioIn 7).state ≠ 1 ∧ (s.audioIn 7).lastA = none) ∧
  (∃ s : State, (s.audioIn 7).enabled = false) ∧
  (∃ s : State, (s.audioIn 7).state = 1) ∧
  (∃ s : State, (s.audioIn 7).enabled = true ∧ crcOf 3 ((List.replicate 24 0).take 23) ≠ (((List.replicate 24 0) : List Byte).getD
    23 0).toNat) ∧
  (∃ s : State, (s.audioIn 7).enabled = true ∧ crcOf 3 ((List.replicate 23 0 ++ [BitVec.ofNat 8 (crcOf 3 (List.replicate 23
    0))]).take 23) = ((List.replicate 23 0 ++ [BitVec.ofNat 8 (crcOf 3 (List.replicate 23 0))]).getD 23 0).toNat ∧ s.routesFrom 7 =
    []) ∧
  (∃ s : State, (s.audioIn 8).cls = 0 ∧ classOf 0 = 0) ∧
  (∃ s : State, (s.audioIn 7).enabled = true ∧ (s.audioIn 7).cls = 0 ∧ (s.audioIn 7).window = none) :=
  ⟨⟨{ on with cv := [(15, { tap := 1, bad := some 0 })] }, by decide +kernel⟩,
   ⟨{ on with cv := [(8, { tap := 1, da := 0, dramLen := 16, at_ := 8 })] }, by decide +kernel⟩,
   ⟨{ on with cv := [(8, { tap := 2 })] }, by decide +kernel⟩,
   ⟨inputAt 7 (fun x => { x with enabled := true }), by decide +kernel⟩,
   ⟨on, by decide +kernel⟩,
   ⟨inputAt 7 (fun x => { x with enabled := true, state := 2, lastA := some 100 }), by decide +kernel⟩,
   ⟨inputAt 7 (fun x => { x with enabled := true, state := 2 }), by decide +kernel⟩,
   ⟨on, by decide +kernel⟩,
   ⟨inputAt 7 (fun x => { x with state := 1 }), by decide +kernel⟩,
   ⟨inputAt 7 (fun x => { x with enabled := true }), by decide +kernel⟩,
   ⟨inputAt 7 (fun x => { x with enabled := true }), by decide +kernel⟩,
   ⟨on, by decide +kernel⟩,
   ⟨inputAt 7 (fun x => { x with enabled := true }), by decide +kernel⟩⟩

theorem witness_AudioOutputsAct :
  (∃ s : State, (s.route 274877906943).ramp = 1 ∧ (s.route 274877906943).src = .flow 5 1) ∧
  (∃ s : State, (s.route 0).ramp = 2 ∧ (s.route 0).next = some .silence) ∧
  (∃ s : State, (s.route 0).ramp = 0) ∧
  (∃ s : State, (s.route 0).ramp = 3) ∧
  (∃ s : State, (s.audioPort 11).state = 1) ∧
  (∃ s : State, (s.audioPort 8).state ≠ 1) ∧
  (∃ s : State, (s.audioPort 11).state = 5 ∧ ∀ e ∈ s.routesTo (audioId 11), e.2.ramp ≠ 1 ∧ e.2.ramp ≠ 2) ∧
  (∃ s : State, (s.audioPort 19).state = 1) ∧
  (∃ s : State, (s.audioPort 16).state ≠ 1) ∧
  (∃ s : State, (10000 < (10001 : Int) ∨ (10001 : Int) < -10000) ∧ s.audio.async = false) ∧
  (∃ s : State, (10000 < (-10001 : Int) ∨ (-10001 : Int) < -10000) ∧ s.audio.async = false) ∧
  (∃ s : State, (s.rxFlow 255).isOpen = true ∧ 2 ≤ (s.rxFlow 255).kind ∧ (∀ ch < (s.rxFlow 255).channels, (s.rxFlow
    255).samples.find (48 % two32 * 64 + ch) = none) ∧ 48 % max 1 (audioSamples (s.rxFlow 255).audio) = 0) ∧
  (∃ s : State, (s.rxFlow 255).isOpen = true ∧ 2 ≤ (s.rxFlow 255).kind ∧ ∃ ch < (s.rxFlow 255).channels, (s.rxFlow 255).samples.find
    (48 % two32 * 64 + ch) ≠ none) ∧
  (∃ s : State, (s.rxFlow 255).isOpen = false) ∧
  (∃ s : State, (s.rxFlow 255).kind < 2) ∧
  (∃ s : State, (s.txFlow 1023).isOpen = true ∧ (s.txFlow 1023).kind ≠ 0 ∧ (s.txFlow 1023).closing = none) ∧
  (∃ s : State, (s.txFlow 1023).isOpen = false) ∧
  (16 ≤ 16 ∧ 16 ≤ 48 ∧ (15 < 16 ∨ 48 < 15) ∧ (49 < 16 ∨ 48 < 49) ∧ (-10000 : Int) ≤ -10000 ∧ (10000 : Int) ≤ 10000) :=
  ⟨⟨{ on with audio := { on.audio with routes := [(274877906943, { ramp := 1, src := .flow 5 1 })] } }, by decide +kernel⟩,
   ⟨{ on with audio := { on.audio with routes := [(0, { ramp := 2, next := some .silence })] } }, by decide +kernel⟩,
   ⟨{ on with audio := { on.audio with routes := [(0, { ramp := 0 })] } }, by decide +kernel⟩,
   ⟨{ on with audio := { on.audio with routes := [(0, { ramp := 3 })] } }, by decide +kernel⟩,
   ⟨on.modPort 11 (fun x => { x with state := 1 }), by decide +kernel⟩,
   ⟨on, by decide +kernel⟩,
   ⟨on.modPort 11 (fun x => { x with state := 5 }), by decide +kernel⟩,
   ⟨on.modPort 19 (fun x => { x with state := 1 }), by decide +kernel⟩,
   ⟨on, by decide +kernel⟩,
   ⟨on, by decide +kernel⟩,
   ⟨on, by decide +kernel⟩,
   ⟨rxAt 255 (fun f => { f with isOpen := true, kind := 2, channels := 2, audio := 0 }), by decide +kernel⟩,
   ⟨rxAt 255 (fun f => { f with isOpen := true, kind := 3, channels := 2, samples := [(3073, 5)] }), by decide +kernel⟩,
   ⟨on, by decide +kernel⟩,
   ⟨rxAt 255 (fun f => { f with isOpen := true }), by decide +kernel⟩,
   ⟨txAt 1023 (fun f => { f with isOpen := true, kind := 1 }), by decide +kernel⟩,
   ⟨on, by decide +kernel⟩,
   by decide⟩

theorem witness_PowerEventsAct :
  (∃ s : State, s.power.held = 1 ∧ 2400 ≤ 2400 ∧ 2400 ≤ 5600) ∧
  (∃ s : State, 2499 < 2500 ∧ s.power.vinLow = false) ∧
  (∃ s : State, s.power.vinLow = true) ∧
  (∃ s : State, 2550 ≤ 2550 ∧ s.power.vinLow = true) ∧
  (∃ s : State, 5600 < 5601 ∧ s.power.vinHigh = false) ∧
  (∃ s : State, 5500 ≤ 5500 ∧ s.power.vinHigh = true) ∧
  (∃ s : State, 125 * 16 ≤ s.power.tjAt) ∧
  (∃ s : State, s.power.tjAt < 125 * 16) ∧
  (∃ s : State, (State.measure { s with power := { s.power with iin := 5200 } }).power.overCurrent = false ∧
    (State.measure { s with power := { s.power with iin := 5200 } }).power.overHeat = false) ∧
  (∃ s : State, (State.measure { s with power := { s.power with iin := 5201 } }).power.overCurrent = true) ∧
  (∃ s : State, (State.measure { s with power := { s.power with iin := 0 } }).power.overHeat = true) ∧
  (∃ s : State, 1 < s.power.step ∧ 4940 * 100 ≤ 950 * s.power.limit ∧ s.power.tj ≤ ((s.power.threshold : Int) - 2) * 16) ∧
  (∃ s : State, 950 * s.power.limit < 4941 * 100) ∧
  (∃ s : State, s.power.bootStage ≠ 0) ∧
  (2399 < 2400 ∨ 5600 < 2399) ∧
  (∃ s : State, 2500 ≤ 2500 ∨ s.power.vinLow = true) ∧
  (∃ s : State, 5600 ≤ 5600 ∨ s.power.vinHigh = true) ∧
  (∃ s : State, 2549 < 2550 ∨ s.power.vinLow = false) ∧
  (∃ s : State, 5500 < 5501 ∨ s.power.vinHigh = false) ∧
  (∃ s : State, s.power.bootStage ≠ 0 ∧ s.avsOutside 4 = true) ∧
  (∃ s : State, s.power.bootStage ≠ 0 ∧ s.avsOutside 4 = false) ∧
  ((115 * 16 ≤ (1840 : Int)) ∧ ¬(115 * 16 ≤ (1839 : Int))) :=
  ⟨⟨State.reset, by decide +kernel⟩,
   ⟨on, by decide +kernel⟩,
   ⟨{ State.reset with power := { State.reset.power with vinLow := true } }, by decide +kernel⟩,
   ⟨{ State.reset with power := { State.reset.power with vinLow := true } }, by decide +kernel⟩,
   ⟨on, by decide +kernel⟩,
   ⟨{ State.reset with power := { State.reset.power with vinHigh := true } }, by decide +kernel⟩,
   ⟨{ State.reset with power := { State.reset.power with tjAt := 2000 } }, by decide +kernel⟩,
   ⟨{ State.reset with power := { State.reset.power with tjAt := 1999 } }, by decide +kernel⟩,
   ⟨on, by decide +kernel⟩,
   ⟨on, by decide +kernel⟩,
   ⟨{ State.reset with power := { State.reset.power with tj := 1600, tjAt := 1600 } }, by decide +kernel⟩,
   ⟨{ State.reset with power := { State.reset.power with step := 2, tj := 1568 } }, by decide +kernel⟩,
   ⟨on, by decide +kernel⟩,
   ⟨{ State.reset with power := { State.reset.power with bootStage := 1 } }, by decide +kernel⟩,
   by decide,
   ⟨on, by decide +kernel⟩,
   ⟨on, by decide +kernel⟩,
   ⟨on, by decide +kernel⟩,
   ⟨on, by decide +kernel⟩,
   ⟨{ on with power := { on.power with bootStage := 6, avsMv := [(4, 599)] } }, by decide +kernel⟩,
   ⟨{ on with power := { on.power with bootStage := 6, avsMv := [(4, 950)] } }, by decide +kernel⟩,
   by decide⟩

theorem witness_PinAndBusEventsAct :
  (∃ s : State, s.power.held = 0) ∧
  (∃ s : State, s.power.held = 2) ∧
  (∃ s : State, s.power.held = 2 ∧ 2400 ≤ s.power.vinAt ∧ s.power.vinAt ≤ 5600) ∧
  (∃ s : State, s.power.held ≠ 2) ∧
  (∃ s : State, s.hif.perstHigh = true ∧ 2 ≤ s.power.bootStage) ∧
  (∃ s : State, s.hif.perstHigh = false) ∧
  (∃ s : State, s.hif.linkUp = true) ∧
  (∃ s : State, s.hif.linkUp = false) ∧
  (∃ s : State, jtagAllowed s.nv.lifecycle 3 = true ∧ jtagAllowed s.nv.lifecycle 4 = false) ∧
  (∃ s : State, s.power.pllLocked = true) ∧
  (∃ s : State, s.power.holdover = true) ∧
  ((10 ≤ 10 ∧ 10 ≤ 520) ∧ (10 ≤ 520 ∧ 520 ≤ 520) ∧ (9 < 10 ∨ 520 < 9) ∧ (521 < 10 ∨ 520 < 521)) :=
  ⟨⟨{ State.reset with power := { State.reset.power with held := 0 } }, by decide +kernel⟩,
   ⟨{ State.reset with power := { State.reset.power with held := 2 } }, by decide +kernel⟩,
   ⟨{ State.reset with power := { State.reset.power with held := 2, vinAt := 5600 } }, by decide +kernel⟩,
   ⟨State.reset, by decide +kernel⟩,
   ⟨{ { State.reset with power := { State.reset.power with bootStage := 2 } } with hif := { State.reset.hif with perstHigh := true } }, by decide +kernel⟩,
   ⟨on, by decide +kernel⟩,
   ⟨{ State.reset with hif := { State.reset.hif with linkUp := true } }, by decide +kernel⟩,
   ⟨on, by decide +kernel⟩,
   ⟨on, by decide +kernel⟩,
   ⟨on, by decide +kernel⟩,
   ⟨{ State.reset with power := { State.reset.power with holdover := true } }, by decide +kernel⟩,
   by decide⟩

theorem witness_StartUpGoesInOrder :
  (∃ s : State, s.power.held = 0 ∧ s.power.bootStage = 0) ∧
  (∃ s : State, s.power.held ≠ 0) ∧
  (∃ s : State, s.power.bootStage ≠ 0) ∧
  (∃ s : State, s.power.bootStage = 1 ∧ s.nv.lifecycle ≠ 4) ∧
  (∃ s : State, s.power.bootStage ≠ 1) ∧
  (∃ s : State, s.nv.lifecycle = 4) ∧
  (∃ s : State, s.power.bootStage = 2) ∧
  (∃ s : State, s.power.bootStage ≠ 2) ∧
  (∃ s : State, s.power.bootStage = 3) ∧
  (∃ s : State, s.power.bootStage ≠ 3) ∧
  (∃ s : State, s.power.bootStage = 4 ∧ (s.nv.bank 0).valid = true ∧ 0 = s.nv.activeBank) ∧
  (∃ s : State, (s.nv.bank 1).valid = false) ∧
  (∃ s : State, s.power.bootStage = 4) ∧
  (∃ s : State, s.power.bootStage ≠ 4) ∧
  (∃ s : State, s.power.bootStage = 5 ∧ s.nv.flash = [] ∧ s.hif.cmds = []) ∧
  (∃ s : State, s.power.bootStage ≠ 5) ∧
  (∃ s : State, bit 1 0 = true ∧ s.power.bootStage = 7 ∧ s.upd.recBusy = false ∧ (s.nv.lifecycle = 1 ∨ s.nv.lifecycle = 2 ∨
    s.nv.lifecycle = 3)) ∧
  (∃ s : State, s.power.bootStage ≠ 7) ∧
  (∃ s : State, s.upd.recBusy = true ∧ ([] : List Byte).length = s.upd.recLen ∧ s.verifyCode (fun i => (([] : List Byte).getD i
    0).toNat) 0 ([] : List Byte).length true true true ≠ 0) :=
  ⟨⟨{ State.reset with power := { State.reset.power with held := 0 } }, by decide +kernel⟩,
   ⟨State.reset, by decide +kernel⟩,
   ⟨{ State.reset with power := { State.reset.power with bootStage := 1 } }, by decide +kernel⟩,
   ⟨{ State.reset with power := { State.reset.power with bootStage := 1 } }, by decide +kernel⟩,
   ⟨State.reset, by decide +kernel⟩,
   ⟨{ State.reset with nv := { State.reset.nv with lifecycle := 4 } }, by decide +kernel⟩,
   ⟨{ State.reset with power := { State.reset.power with bootStage := 2 } }, by decide +kernel⟩,
   ⟨State.reset, by decide +kernel⟩,
   ⟨{ State.reset with power := { State.reset.power with bootStage := 3 } }, by decide +kernel⟩,
   ⟨State.reset, by decide +kernel⟩,
   ⟨{ State.reset with power := { State.reset.power with bootStage := 4 } }, by decide +kernel⟩,
   ⟨State.reset, by decide +kernel⟩,
   ⟨{ State.reset with power := { State.reset.power with bootStage := 4 } }, by decide +kernel⟩,
   ⟨State.reset, by decide +kernel⟩,
   ⟨{ State.reset with power := { State.reset.power with bootStage := 5 } }, by decide +kernel⟩,
   ⟨State.reset, by decide +kernel⟩,
   ⟨{ State.reset with power := { State.reset.power with bootStage := 7 } }, by decide +kernel⟩,
   ⟨State.reset, by decide +kernel⟩,
   ⟨{ on with upd := { on.upd with recBusy := true } }, by decide +kernel⟩⟩

theorem witness_PairAndSramEventsAct :
  (∃ s : State, s.power.ready = true ∧ s.power.warm = false ∧ s.upd.state ≤ 2) ∧
  (∃ s : State, s.power.warm = true) ∧
  (∃ s : State, s.power.warm = false) ∧
  (∃ s : State, s.power.warm = false ∧ s.power.held = 0 ∧ 4 ≤ s.power.bootStage ∧ s.pairIn 0 = some 0 ∧ s.pairState (1 - 0) = 1 ∧
    s.upd.state = 0) ∧
  (∃ s : State, s.power.warm = false ∧ s.power.held = 0 ∧ 4 ≤ s.power.bootStage ∧ s.pairIn 0 = some 1 ∧ s.pairState (1 - 1) ≠ 1 ∧
    ¬(3 ≤ s.upd.state ∧ s.upd.state ≤ 5)) ∧
  (∃ s : State, s.power.pairTest = some 1) ∧
  (∃ s : State, (s.unit 131081).state ≠ 2 ∧ isUnit 131081 = true) ∧
  (∃ s : State, 2 < 3 ∧ isUnit 67 = true ∧ (s.unit 67).state ≠ 2) ∧
  (∃ s : State, 77 ∈ s.power.recal) ∧
  (∃ s : State, 77 ∉ s.power.recal ∧ s.permitRefusal [lanePermit 77] = none) ∧
  (∃ s : State, s.nv.flash.any FlashRec.done = true ∧ s.power.ready = true ∧ s.permitRefusal [flashPermit deviceId 0] = none) ∧
  (∃ s : State, 77 ∈ s.power.recalWaiting) ∧
  (∃ s : State, (s.channel 49).waitPermit = true) ∧
  (∃ s : State, 49 ∈ s.mem.copyWait) ∧
  (∃ s : State, s.power.compactWaiting = true) ∧
  (∃ s : State, s.power.compactWaiting = true ∧ s.permitRefusal [flashPermit deviceId 0] = none) :=
  ⟨⟨{ on with upd := { on.upd with state := 2 } }, by decide +kernel⟩,
   ⟨{ State.reset with power := { State.reset.power with warm := true } }, by decide +kernel⟩,
   ⟨on, by decide +kernel⟩,
   ⟨{ State.reset with power := { State.reset.power with held := 0, bootStage := 4 } }, by decide +kernel⟩,
   ⟨{ State.reset with power := { State.reset.power with held := 0, bootStage := 6, pair0 := 3, pair1 := 0 } }, by decide +kernel⟩,
   ⟨{ State.reset with power := { State.reset.power with pairTest := some 1 } }, by decide +kernel⟩,
   ⟨on, by decide +kernel⟩,
   ⟨on, by decide +kernel⟩,
   ⟨{ State.reset with power := { State.reset.power with recal := [77] } }, by decide +kernel⟩,
   ⟨on, by decide +kernel⟩,
   ⟨{ on with nv := { on.nv with flash := [{ done := true }] } }, by decide +kernel⟩,
   ⟨{ State.reset with power := { State.reset.power with recalWaiting := [77] } }, by decide +kernel⟩,
   ⟨channelAt 49 (fun x => { x with waitPermit := true }), by decide +kernel⟩,
   ⟨{ State.reset with mem := { State.reset.mem with copyWait := [49] } }, by decide +kernel⟩,
   ⟨{ State.reset with power := { State.reset.power with compactWaiting := true } }, by decide +kernel⟩,
   ⟨{ on with power := { on.power with compactWaiting := true } }, by decide +kernel⟩⟩

/-- A container of the format UZX1 with six empty parts at 4,096, for either part number and stepping 0 (15 R602, R603). -/
def sixParts : List Byte :=
  let entry (k : Nat) : List Byte := leBytes 4 k ++ leBytes 4 4096 ++ List.replicate 56 0
  [0x55, 0x5A, 0x58, 0x31, 1, 0, 0, 63] ++ leBytes 4 4288 ++ [1, 0, 6, 0, 3, 7, 0] ++ List.replicate 45 0 ++
    ([1, 2, 3, 4, 5, 6].flatMap entry) ++ List.replicate 3840 0
theorem verifies {s : State} {f : Nat → Nat} {fmt total : Nat} {whole back recovery : Bool}
    (h : (whole && headerOk f fmt total && back && partsOk (partsOf f fmt) recovery && s.permittedPart f fmt &&
      decide (s.nv.antiRollback ≤ secVersionOf f fmt)) = true) (a : s.authentic f fmt total = true) :
    s.verifyCode f fmt total whole back recovery = 0 := by
  simp only [Bool.and_eq_true] at h
  obtain ⟨⟨⟨⟨⟨h1, h2⟩, h3⟩, h4⟩, h5⟩, h6⟩ := h
  simp [State.verifyCode, List.find?, h1, h2, h3, h4, h5, h6, a]
/-- Where its signature block is genuine (Config.signatureValid is open), the container passes as a recovery and as an update. -/
theorem witness_containers_pass :
    (let s : State := { on with upd := { on.upd with recBusy := true, recLen := 4288 } }
     s.upd.recBusy = true ∧ sixParts.length = s.upd.recLen ∧ (s.authentic (fun i => (sixParts.getD i 0).toNat) 0 sixParts.length = true →
       s.verifyCode (fun i => (sixParts.getD i 0).toNat) 0 sixParts.length true true true = 0)) ∧
    (let s : State := { on with
       upd := { on.upd with state := 2 }
       nv := on.nv.setBank on.inactive { data := bytesTab sixParts, erased := [0], total := 4288, hasRecord := true } }
     s.upd.state = 2 ∧ s.upd.cancelPending = false ∧
       (s.authentic s.download.rd s.download.format s.download.total = true →
        s.verifyCode s.download.rd s.download.format s.download.total s.download.whole true false = 0)) :=
  ⟨⟨rfl, by decide +kernel, verifies (by decide +kernel)⟩, ⟨rfl, rfl, verifies (by decide +kernel)⟩⟩
theorem witness_UpdateEventsAct :
  (∃ s : State, s.upd.state ≠ 2) ∧
  (∃ s : State, s.upd.state = 2 ∧ s.upd.cancelPending = false ∧ s.verifyCode s.download.rd s.download.format s.download.total
    s.download.whole true false ≠ 0) ∧
  (∃ s : State, s.upd.state = 3) ∧
  (∃ s : State, s.upd.state ≠ 3) ∧
  (∃ s : State, s.upd.a = none) ∧
  (∃ s : State, s.upd.a = some 0 ∧ s.upd.state = 5 ∧ s.upd.stagedSet = some (2, 1) ∧ s.upd.scheduleCmd = none) ∧
  (∃ s : State, s.upd.state = 6 ∧ s.upd.startChecks = false ∧ s.upd.selfTestPassed = false) ∧
  (∃ s : State, s.upd.state ≠ 6) ∧
  (∃ s : State, s.upd.fallbackAt = some (100, 1)) ∧
  (∃ s : State, s.upd.state = 0 ∧ s.upd.lastResult = 1) ∧
  (∃ s : State, s.upd.state ≠ 0) ∧
  (∃ s : State, s.upd.cancelCmd = some (0, 7) ∧ s.upd.state = 0) ∧
  (∃ s : State, s.upd.dataCmd = some (0, 7) ∧ s.findCmd 0 7 = some writing ∧ writing.phase = .committed) ∧
  (∃ s : State, s.upd.dataCmd = none ∧ s.power.cfgWrites = (1, 0, 7) :: [] ∧ s.findCmd 0 7 = some writing) :=
  ⟨⟨on, by decide +kernel⟩,
   ⟨{ on with upd := { on.upd with state := 2 } }, by decide +kernel⟩,
   ⟨{ on with upd := { on.upd with state := 3 } }, by decide +kernel⟩,
   ⟨on, by decide +kernel⟩,
   ⟨on, by decide +kernel⟩,
   ⟨{ on with upd := { on.upd with a := some 0, state := 5, stagedSet := some (2, 1) } }, by decide +kernel⟩,
   ⟨{ on with upd := { on.upd with state := 6 } }, by decide +kernel⟩,
   ⟨on, by decide +kernel⟩,
   ⟨{ on with upd := { on.upd with fallbackAt := some (100, 1) } }, by decide +kernel⟩,
   ⟨{ on with upd := { on.upd with lastResult := 1 } }, by decide +kernel⟩,
   ⟨{ on with upd := { on.upd with state := 1 } }, by decide +kernel⟩,
   ⟨{ on with upd := { on.upd with cancelCmd := some (0, 7) } }, by decide +kernel⟩,
   ⟨{ (taking writing) with upd := { (taking writing).upd with dataCmd := some (0, 7) } }, by decide +kernel⟩,
   ⟨{ (taking writing) with power := { (taking writing).power with cfgWrites := [(1, 0, 7)] } }, by decide +kernel⟩⟩

/-- A lane's operating point brought inside its bounds, and a point in force outside new bounds. -/
def eqInto (s : State) (lane : Nat) (e : Int × Int × Int) : Int × Int × Int :=
  let b := s.obs.eqBounds.get {} lane
  (clip e.1 b.ctleMin b.ctleMax, clip e.2.1 b.vgaMin b.vgaMax, clip e.2.2 b.dfeMin b.dfeMax)
def eqOutside (s : State) (lane : Nat) : Prop := ∃ e, s.obs.eqNow.find lane = some e ∧ eqInto s lane e ≠ e
theorem not_outside {s : State} {lane : Nat} (h : s.obs.eqNow.find lane = none) : ¬eqOutside s lane := by
  rintro ⟨e, he, -⟩
  rw [h] at he
  cases he
theorem witness_ReadsAndClearsAct :
  (∃ s : State, bit 1 0 = true ∧ bit 1 1 = false ∧ bit 2 0 = false ∧ bit 2 1 = true ∧ bit 3 0 = true ∧ bit 3 1 = true ∧ s.pending =
    []) ∧
  (∃ s : State, (s.pmc 127).enable = true ∧ 2 ^ 48 ≤ (s.pmc 127).count + 1) ∧
  (∃ s : State, (s.pmc 127).enable = false) ∧
  (∃ s : State, s.obs.sampling.find 1 = some (0, true, 0, 0) ∧ s.power.warm = false ∧ s.obs.smpUnread < 1024) ∧
  (∃ s : State, s.obs.sampling.find 1 = some (0, true, 0, 0) ∧ s.power.warm = false ∧ 1024 ≤ s.obs.smpUnread) ∧
  (∃ s : State, ¬eqOutside s 77 ∧ eqInto s 77 (31, 0, 31) = (31, 0, 31)) ∧
  (∃ s : State, ¬eqOutside s 77 ∧ eqInto s 77 (32, 0, 0) ≠ (32, 0, 0)) ∧
  (∃ s : State, s.obs.eqNow.find 77 = some (32, 0, 0) ∧ eqInto s 77 (32, 0, 0) ≠ (32, 0, 0)) :=
  ⟨⟨on, by decide +kernel⟩,
   ⟨{ on with obs := { on.obs with pmcs := [(127, { enable := true, count := 2 ^ 48 - 1 })] } }, by decide +kernel⟩,
   ⟨on, by decide +kernel⟩,
   ⟨{ on with obs := { on.obs with sampling := [(1, (0, true, 0, 0))], smpUnread := 1023 } }, by decide +kernel⟩,
   ⟨{ on with obs := { on.obs with sampling := [(1, (0, true, 0, 0))], smpUnread := 1024 } }, by decide +kernel⟩,
   ⟨on, not_outside rfl, by decide +kernel⟩,
   ⟨on, not_outside rfl, by decide +kernel⟩,
   ⟨{ on with obs := { on.obs with eqNow := [(77, (32, 0, 0))] } }, by decide +kernel⟩⟩


end Sys2Proof.Tests
end

/-! ## The scope of the device (00): its fuses and its register writes -/

namespace Sys2Proof

open Machine

/-- Whatever a step does, a command's run or a tick of the clocks, the part number stays and fuses are at most burned. -/
theorem step_fuses_burn {s t : State} (h : step s = .next t) :
    t.nv.part = s.nv.part ∧ s.nv.antiRollback ≤ t.nv.antiRollback ∧ s.nv.revoked ⊆ t.nv.revoked ∧ s.nv.returns ≤ t.nv.returns := by
  unfold step at h
  split at h
  next =>
    cases h
    simp
  next c cs _ =>
    obtain ⟨-, hpart, hroll, hrev, hret, -⟩ := exec_onward c h
    exact ⟨hpart, hroll, hrev, hret⟩

/-- Settles O5: a tick of the clocks leaves the fused values alone, and every command takes them only onward. -/
theorem fusesOnlyBurn : Obligations.FusesOnlyBurn := fun _ _ => step_fuses_burn

/-- A register write that the device can be sent answers a next state, which its width decides (00 R15). -/
theorem exec_registerWrite (s : State) {off w v : Nat} (hacc : isAccess off w = true) (hv : v < 2 ^ w) :
    exec (.registerWrite off w v) s = .next (
      if w = 32 then s.writeReg off v
      else if w = 64 then (s.writeReg off (v % two32)).writeReg (off + 4) (v / two32)
      else s) :=
  need_eq _ (by simp [hacc, hv])

/-- The registers of a command queue's block that take a base address, a tail or a control word (00 R16). -/
theorem writeReg_queueBlock (s : State) {q : Nat} (v : Nat) (hq : q < 16) :
    s.writeReg (0x1000 + 64 * q + 0x00) v = s.modQueue q (fun k => { k with sqBaseLo := v / 4096 }) ∧
    s.writeReg (0x1000 + 64 * q + 0x04) v = s.modQueue q (fun k => { k with sqBaseHi := v, sqBase := v * two32 + k.sqBaseLo * 4096 }) ∧
    s.writeReg (0x1000 + 64 * q + 0x10) v = s.modQueue q (fun k => { k with rqBaseLo := v / 4096 }) ∧
    s.writeReg (0x1000 + 64 * q + 0x14) v = s.modQueue q (fun k => { k with rqBaseHi := v, rqBase := v * two32 + k.rqBaseLo * 4096 }) ∧
    s.writeReg (0x1000 + 64 * q + 0x0C) v = s.writeSqTail q v ∧ s.writeReg (0x1000 + 64 * q + 0x28) v = s.writeCtrl q v := by
  refine ⟨?_, ?_, ?_, ?_, ?_, ?_⟩ <;> exact writeReg_queue s v hq (by decide)

/-- ECT_DATA takes effect with its upper half (00 R16); the registers with a row of their own act as that row does. -/
theorem writeReg_namedRegisters (s : State) (v : Nat) :
    s.writeReg 0xA00C v = { s with mem := { s.mem with ectDataLo := v } } ∧
    s.writeReg 0xA010 v = { s with mem := { s.mem with ectDataHi := v, ectData := v * two32 + s.mem.ectDataLo } } ∧
    s.writeReg 0xA000 v = s.writeEctCtrl v ∧ s.writeReg 0x5010 v = s.writePwrAlert v ∧ s.writeReg 0xC000 v = s.writeTrcCtrl v :=
  ⟨rfl, rfl, rfl, rfl, rfl⟩

/-- Settles O39: the width selects what a write does, and its address the register. -/
theorem registerWritesAct : Obligations.RegisterWritesAct := by
  refine ⟨?narrow, ?word, ?double, fun q v s hq _ => writeReg_queueBlock s v hq, fun v s _ => writeReg_namedRegisters s v⟩
  case narrow =>
    rintro off w v hacc hv (rfl | rfl) s -
    · exact exec_registerWrite s hacc hv
    · exact exec_registerWrite s hacc hv
  case word =>
    intro off v hacc hv s _
    exact exec_registerWrite s hacc hv
  case double =>
    intro off v hacc hv s _
    exact exec_registerWrite s hacc hv

end Sys2Proof

/-! ## The command interface (02): answers, replies and the journal -/

namespace Sys2Proof.Machine

open Sys2Proof

/-! ### Answers -/

/-- A command whose operands the device has answers what its meaning gives. -/
theorem answers_of_need {i : Instr} {b : Bool} {p : State → Prop} {f g : State → State} (hb : b = true)
    (hi : ∀ s, exec i s = need b (g s)) (h : ∀ s, p s → g s = f s) : Answers i p f :=
  fun s hs => (hi s).trans ((need_eq _ hb).trans (congrArg _ (h s hs)))

/-- The same in every state. -/
theorem answers_always {i : Instr} {b : Bool} {f : State → State} (hb : b = true) (hi : ∀ s, exec i s = need b (f s)) :
    Answers i (fun _ => True) f := answers_of_need hb hi fun _ _ => rfl

/-! ### What a reply changes (02 R68, R78) -/

/-- `t` has the taken commands of `s`, and its queues but for queue `q`. -/
def State.OnQueue (q : Nat) (s t : State) : Prop := t.hif.cmds = s.hif.cmds ∧ ∀ j, j ≠ q → t.queue j = s.queue j

theorem State.OnQueue.refl (q : Nat) (s : State) : s.OnQueue q s := ⟨rfl, fun _ _ => rfl⟩
theorem State.OnQueue.trans {q : Nat} {s t u : State} (a : s.OnQueue q t) (b : t.OnQueue q u) : s.OnQueue q u :=
  ⟨b.1.trans a.1, fun j hj => (b.2 j hj).trans (a.2 j hj)⟩
/-- The command interface alone decides. -/
theorem State.OnQueue.of_hif {q : Nat} {s t : State} (hc : t.hif.cmds = s.hif.cmds) (hq : t.hif.queues = s.hif.queues) : s.OnQueue q t :=
  ⟨hc, fun _ _ => by unfold State.queue; rw [hq]⟩
theorem State.modQueue_onQueue (s : State) (q : Nat) (f : CmdQueue → CmdQueue) : s.OnQueue q (s.modQueue q f) :=
  ⟨rfl, fun j hj => by simp [hj]⟩

@[simp] theorem State.raiseMsix_cmds (s : State) (v : Nat) : (s.raiseMsix v).hif.cmds = s.hif.cmds := by
  unfold State.raiseMsix; split <;> rfl
@[simp] theorem State.raiseMsix_queues (s : State) (v : Nat) : (s.raiseMsix v).hif.queues = s.hif.queues := by
  unfold State.raiseMsix; split <;> rfl
theorem State.raiseMsix_onQueue (s : State) (q v : Nat) : s.OnQueue q (s.raiseMsix v) := .of_hif (s.raiseMsix_cmds v) (s.raiseMsix_queues v)
@[simp] theorem State.raiseMsix_queue (s : State) (v j : Nat) : (s.raiseMsix v).queue j = s.queue j := by
  simp [State.queue]
@[simp] theorem State.raiseMsix_eventSeq (s : State) (v : Nat) : (s.raiseMsix v).hif.eventSeq = s.hif.eventSeq := by
  unfold State.raiseMsix; split <;> rfl
@[simp] theorem State.queue_emit (s : State) (o : Output) (j : Nat) : (s.emit o).queue j = s.queue j := rfl

theorem State.writeReply_onQueue (s : State) (q : Nat) (dst : ReplyTo) (l : List Byte) : s.OnQueue q (s.writeReply q dst l) := by
  unfold State.writeReply
  split
  · exact .of_hif rfl rfl
  · dsimp only
    have ring (o : Output) (f : CmdQueue → CmdQueue) : s.OnQueue q ((s.emit o).modQueue q f) :=
      State.OnQueue.trans (.of_hif rfl rfl) (State.modQueue_onQueue _ q f)
    split
    · exact (ring _ _).trans (State.raiseMsix_onQueue _ q _)
    · exact ring _ _
/-- A reply leaves the taken commands and every other queue alone. -/
theorem State.reply_onQueue (s : State) (q : Nat) (dst : ReplyTo) (l : List Byte) : s.OnQueue q (s.reply q dst l) := by
  unfold State.reply
  split
  · exact State.modQueue_onQueue s q _
  · exact State.writeReply_onQueue s q dst l

/-- A reply leaves the journal of its queue alone. -/
@[simp] theorem State.reply_window (s : State) (q : Nat) (dst : ReplyTo) (l : List Byte) :
    ((s.reply q dst l).queue q).window = (s.queue q).window := by
  unfold State.reply
  split
  · simp
  · unfold State.writeReply
    split
    · rfl
    · dsimp only
      split <;> simp

/-- The reply to a datagram is a datagram to its source (R85). -/
theorem State.reply_udp (s : State) (q : Nat) {dst : ReplyTo} (l : List Byte) (hu : dst.udp = true) (hw : s.power.warm = false) :
    s.reply q dst l = s.emit (.datagram dst.addr dst.port l) := by
  simp [State.reply, State.writeReply, hu, hw]

/-! ### The outcome of a command (02 R65, R69, R104, R110) -/

/-- The content of a COMPLETE reply. -/
def State.outcome (s : State) (status detail : Nat) : Reply := { kind := 2, status := status, detail := detail % two32, ts := s.ts }

/-- The command has left the taken ones, and its SEQ holds its outcome. -/
def State.journaled (s : State) (c : Cmd) (status : Nat) (r : Reply) : State :=
  (if status = 5 then { s.dropCmd c.q c.seq with
      nv := { (s.dropCmd c.q c.seq).nv with flash := flashDone (s.dropCmd c.q c.seq).nv.flash c.q c.seq } }
    else s.dropCmd c.q c.seq).modQueue c.q (fun k => { k with window := setOutcome k.window c.seq r })

/-- The one COMPLETE reply of a command, unless it is `silent`. -/
def State.completeReply (s : State) (c : Cmd) (silent : Prop) [Decidable silent] (r : Reply) : State :=
  if silent then s else (s.release c.q 1).reply c.q c.replyTo (replyBytes c.q c.seq c.corr r)

/-- An outcome is journaled, then answered; a QUEUE_CONFIG of its own queue takes effect behind that. -/
theorem State.complete_eq (s : State) (c : Cmd) (status detail : Nat) :
    s.complete c status detail =
      let t := (s.journaled c status (s.outcome status detail)).completeReply c (c.quiet = true ∨ c.replayed = true ∨ s.mute c = true)
        (s.outcome status detail)
      if c.opcode = 0x0102 then t.applyRebind c.q else t := rfl

theorem State.journaled_cmds (s : State) (c : Cmd) (status : Nat) (r : Reply) :
    (s.journaled c status r).hif.cmds = s.hif.cmds.filter (fun d => !(d.q = c.q ∧ d.seq = c.seq)) := by
  unfold State.journaled
  split <;> rfl
theorem State.journaled_queue (s : State) (c : Cmd) (status : Nat) (r : Reply) (j : Nat) :
    (s.journaled c status r).queue j =
      if j = c.q then { s.queue c.q with window := setOutcome (s.queue c.q).window c.seq r } else s.queue j := by
  unfold State.journaled
  split <;> exact State.queue_modQueue _ _ _ _
theorem State.journaled_out (s : State) (c : Cmd) (status : Nat) (r : Reply) : (s.journaled c status r).out = s.out := by
  unfold State.journaled
  split <;> rfl
theorem State.journaled_power (s : State) (c : Cmd) (status : Nat) (r : Reply) : (s.journaled c status r).power = s.power := by
  unfold State.journaled
  split <;> rfl
theorem State.journaled_nv (s : State) (c : Cmd) {status : Nat} (r : Reply) (h : status ≠ 5) : (s.journaled c status r).nv = s.nv := by
  unfold State.journaled
  rw [if_neg h]
  rfl

theorem State.completeReply_onQueue (s : State) (c : Cmd) (silent : Prop) [Decidable silent] (r : Reply) :
    s.OnQueue c.q (s.completeReply c silent r) := by
  unfold State.completeReply
  split
  · exact .refl _ _
  · exact (State.modQueue_onQueue s c.q _).trans (State.reply_onQueue _ _ _ _)
theorem State.completeReply_window (s : State) (c : Cmd) (silent : Prop) [Decidable silent] (r : Reply) :
    ((s.completeReply c silent r).queue c.q).window = (s.queue c.q).window := by
  unfold State.completeReply
  split
  · rfl
  · simp [State.release]
theorem State.completeReply_hostOnly (s : State) (c : Cmd) (silent : Prop) [Decidable silent] (r : Reply) :
    s.HostOnly (s.completeReply c silent r) := by
  unfold State.completeReply
  split
  · exact .refl s
  · exact (State.modQueue_hostOnly _ _ _).trans (State.reply_hostOnly _ _ _ _)

theorem State.applyRebind_onQueue (s : State) (q : Nat) : s.OnQueue q (s.applyRebind q) := by
  unfold State.applyRebind
  split
  · exact .refl _ _
  · exact State.modQueue_onQueue s q _
@[simp] theorem State.applyRebind_out (s : State) (q : Nat) : (s.applyRebind q).out = s.out := by
  unfold State.applyRebind
  split <;> rfl
theorem State.HostOnly.nv {s t : State} (a : s.HostOnly t) : t.nv = s.nv := by
  obtain ⟨h, o, rfl⟩ := a
  rfl

/-- The outcome of a command touches its own queue alone, beside the command itself. -/
theorem State.complete_onQueue (s : State) (c : Cmd) (status detail : Nat) :
    (s.journaled c status (s.outcome status detail)).OnQueue c.q (s.complete c status detail) := by
  rw [State.complete_eq]
  dsimp only
  split
  · exact (State.completeReply_onQueue _ c _ _).trans (State.applyRebind_onQueue _ _)
  · exact State.completeReply_onQueue _ c _ _
theorem State.complete_cmds (s : State) (c : Cmd) (status detail : Nat) :
    (s.complete c status detail).hif.cmds = s.hif.cmds.filter (fun d => !(d.q = c.q ∧ d.seq = c.seq)) :=
  (s.complete_onQueue c status detail).1.trans (State.journaled_cmds ..)
theorem State.complete_queue_ne (s : State) (c : Cmd) (status detail : Nat) {j : Nat} (hj : j ≠ c.q) :
    (s.complete c status detail).queue j = s.queue j := by
  rw [(s.complete_onQueue c status detail).2 j hj, State.journaled_queue, if_neg hj]
theorem State.complete_window (s : State) (c : Cmd) (status detail : Nat) (ho : c.opcode ≠ 0x0102) :
    ((s.complete c status detail).queue c.q).window = setOutcome (s.queue c.q).window c.seq (s.outcome status detail) := by
  rw [State.complete_eq]
  dsimp only
  rw [if_neg ho, State.completeReply_window, State.journaled_queue, if_pos rfl]
/-- The journal's marks of an aborted command are all that an outcome changes in flash. -/
theorem State.complete_nv (s : State) (c : Cmd) {status : Nat} (detail : Nat) (h : status ≠ 5) :
    (s.complete c status detail).nv = s.nv := by
  rw [State.complete_eq, ← State.journaled_nv s c (s.outcome status detail) h]
  dsimp only
  split
  · exact ((State.completeReply_hostOnly _ c _ _).trans (State.applyRebind_hostOnly _ _)).nv
  · exact (State.completeReply_hostOnly _ c _ _).nv
/-- What the device sends at an outcome is its reply. -/
theorem State.complete_out (s : State) (c : Cmd) (status detail : Nat) :
    (s.complete c status detail).out = ((s.journaled c status (s.outcome status detail)).completeReply c
      (c.quiet = true ∨ c.replayed = true ∨ s.mute c = true) (s.outcome status detail)).out := by
  rw [State.complete_eq]
  dsimp only
  split
  · exact State.applyRebind_out _ _
  · rfl
theorem State.complete_out_silent (s : State) (c : Cmd) (status detail : Nat)
    (h : c.quiet = true ∨ c.replayed = true ∨ s.mute c = true) : (s.complete c status detail).out = s.out := by
  rw [State.complete_out, State.completeReply, if_pos h, State.journaled_out]
theorem State.complete_out_udp (s : State) (c : Cmd) (status detail : Nat) (h : ¬(c.quiet = true ∨ c.replayed = true ∨ s.mute c = true))
    (hu : c.replyTo.udp = true) (hw : s.power.warm = false) :
    (s.complete c status detail).out =
      .datagram c.replyTo.addr c.replyTo.port (replyBytes c.q c.seq c.corr (s.outcome status detail)) :: s.out := by
  rw [State.complete_out, State.completeReply, if_neg h, State.reply_udp _ _ _ hu]
  · simp only [State.emit, State.release, State.modQueue_out, State.journaled_out]
  · simp only [State.release, State.modQueue_power, State.journaled_power, hw]

end Sys2Proof.Machine

namespace Sys2Proof

open Machine

/-- Settles O10: the outcome is journaled, then answered by the one COMPLETE reply. -/
theorem outcomesAreJournaledAndAnswered : Obligations.OutcomesAreJournaledAndAnswered := by
  intro s c status detail
  refine ⟨?frame, ?flash, State.complete_cmds .., fun q hq => State.complete_queue_ne s c status detail hq,
    State.complete_window s c status detail, State.complete_out_silent s c status detail, ?reply⟩
  case frame =>
    obtain ⟨h, o, f, e⟩ := State.complete_journalOnly s c status detail
    exact ⟨h, f, o, e⟩
  case flash => exact State.complete_nv s c detail
  case reply =>
    intro hq hr hm hu hw
    exact State.complete_out_udp s c status detail (by simp [hq, hr, hm]) hu hw

end Sys2Proof

/-! ## The command interface (02): the start of a command -/

namespace Sys2Proof.Machine

open Sys2Proof

/-! ### The rows of the opcodes (02 R91, R99, R101, R102) -/

/-- The row starts the taken command of its opcode, if there is one that may start, with the opcode's effect. -/
def IsOpRow (r : Nat × (Nat → Nat → Instr)) : Prop :=
  ∃ eff : Cmd → State → State, ∀ q seq s, exec (r.2 q seq) s = opOut q (s.runOp r.1 q seq eff)

theorem opRows_isOpRow : ∀ r ∈ opRows, IsOpRow r := by
  simp only [opRows, List.forall_mem_append, List.forall_mem_cons, List.not_mem_nil, false_imp_iff, implies_true, and_true]
  and_intros <;> exact ⟨_, fun _ _ _ => rfl⟩

/-- A CLEARING command whose target canopy runs waits for that canopy's next clearing. -/
theorem begin_clearing {s : State} {c : Cmd} {k : Nat} (hc : c.clearing = true) (hk : s.targetCanopy c.object = some k)
    (hr : (s.canopy k).running = true) (he : c.effTime = 0) (eff : Cmd → State → State) :
    s.begin c eff = ((s.modCmd c.q c.seq Cmd.begun).modCmd c.q c.seq (fun d => { d with
      clearOf := some k, notBefore := some (s.nextClearing k c.replicated) })).commitNote c.begun 1
        (s.nextClearing k c.replicated % two32) 0 2 0 := by
  have hclear : s.clearingOf c = some k := by simp [State.clearingOf, hc, hk, hr]
  simp only [State.begin, hc, hclear, he, if_true]
  rfl

/-- A command with an EFFECT_TIME waits for it. -/
theorem begin_timed {s : State} {c : Cmd} (hc : c.clearing = false) (he : c.effTime ≠ 0) (eff : Cmd → State → State) :
    s.begin c eff = (s.modCmd c.q c.seq Cmd.begun).commitNote c.begun 2 c.effTime c.effTb 2 0 := by
  simp only [State.begin, hc, he, ne_eq, not_false_iff, if_true, Bool.false_eq_true, if_false]
  rfl

/-! ### Fences and conflicts (02 R91–R93, R96, R97, R105, R111) -/

theorem Cmd.waitingToStart_eq_false {c : Cmd} : c.waitingToStart = false ↔ c.phase ≠ .accepting ∧ c.phase ≠ .accepted := by
  simp [Cmd.waitingToStart]

theorem Cmd.conflicts_eq_false {c d : Cmd} :
    c.conflicts d = false ↔ c.object ≠ deviceId ∧ d.object ≠ deviceId ∧ ∀ o ∈ c.objects, o ∉ d.objects := by
  simp [Cmd.conflicts, and_assoc]

/-- Nothing of an earlier command keeps `c` from its start. -/
def Cmd.LetsStart (d c : Cmd) : Prop :=
  c.hitch = false ∧ d.hitch = false ∧ (c.again = true → d.again = true → d.waitingToStart = false) ∧
    (d.q = c.q → d.waitingToStart = false ∧ c.conflicts d = false)

/-- A command may start when it is accepted, the command engine runs, and it is an ABORT or no earlier command holds it. -/
theorem State.startable_iff {s : State} {c : Cmd} :
    s.startable c = true ↔ c.phase = .accepted ∧ s.power.warm = false ∧ s.mute c = false ∧
      (c.opcode = 0x0010 ∨ ∀ d ∈ s.hif.cmds, d.pos < c.pos → d.LetsStart c) := by
  have earlier (d : Cmd) :
      (d.pos ≥ c.pos || ((d.q != c.q || !d.waitingToStart) && (d.q != c.q || !c.conflicts d) &&
        !(c.again && d.again && d.waitingToStart) && !c.hitch && !d.hitch)) = true ↔ (d.pos < c.pos → d.LetsStart c) := by
    simp only [Cmd.LetsStart, Bool.or_eq_true, decide_eq_true_eq, Bool.and_eq_true, bne_iff_ne, Bool.not_eq_true', Bool.and_eq_false_iff]
    rw [ge_iff_le, ← not_lt, ← imp_iff_not_or]
    refine imp_congr_right fun _ => ?_
    grind
  simp only [State.startable, Bool.and_eq_true, Bool.or_eq_true, beq_iff_eq, Bool.not_eq_true', List.all_eq_true, earlier, and_assoc]

theorem Cmd.hitch_of_opcode {c : Cmd} (h : c.opcode = 0x0101) : c.hitch = true := by simp [Cmd.hitch, h]

end Sys2Proof.Machine

namespace Sys2Proof

open Machine

/-- Settles O8: each row is the command engine's start, which waits for its turn, its clearing or its time. -/
theorem commandsWaitForTheirTurnAndTheirTime : Obligations.CommandsWaitForTheirTurnAndTheirTime := by
  intro r hr
  obtain ⟨eff, hrow⟩ := opRows_isOpRow r hr
  refine ⟨?absent, ?held, ?clearing, ?timed⟩
  case absent =>
    intro s q seq hq hf
    rw [hrow, runOp_none _ _ hf]
    exact need_eq _ hq
  case held =>
    intro s q seq c hq hf hn
    rw [hrow, runOp_not _ hf hn]
    exact need_eq _ hq
  case clearing =>
    intro s c k hs hc hk hrun he
    rw [hrow, runOp_starts hs, begin_clearing hc hk hrun he]
    exact need_eq _ hs.1
  case timed =>
    intro s c hs hc he
    rw [hrow, runOp_starts hs, begin_timed hc he]
    exact need_eq _ hs.1

/-- Settles O9: a command starts exactly when no earlier one holds it. -/
theorem startableMeansFenced : Obligations.StartableMeansFenced := by
  refine ⟨?fenced, ?free, ?abort, fun c => Cmd.hitch_of_opcode⟩
  case fenced =>
    intro s c d hs hop hd hpos
    obtain ⟨-, -, -, hlets⟩ := State.startable_iff.1 hs
    obtain ⟨hc, hdh, -, hq⟩ := hlets.resolve_left hop d hd hpos
    refine ⟨hc, hdh, fun e => ?_⟩
    obtain ⟨hw, hcon⟩ := hq e
    exact and_assoc.1 ⟨Cmd.waitingToStart_eq_false.1 hw, Cmd.conflicts_eq_false.1 hcon⟩
  case free =>
    intro s c hp hw hm hall
    exact State.startable_iff.2 ⟨hp, hw, hm, .inr hall⟩
  case abort =>
    intro s c ho hp hw hm
    exact State.startable_iff.2 ⟨hp, hw, hm, .inl ho⟩

end Sys2Proof

/-! ## The command interface (02): the packet, the reply and the event record -/

namespace Sys2Proof.Machine

open Sys2Proof

/-! ### Fields of a byte string (00 R13; 02 R54) -/

@[simp] theorem length_leBytes (n v : Nat) : (leBytes n v).length = n := by
  induction n generalizing v with
  | zero => rfl
  | succ n ih => simp [leBytes, ih]

/-- Little-endian bytes read back, as far as they go. -/
theorem leNat_leBytes (n v : Nat) : leNat (leBytes n v) = v % 256 ^ n := by
  induction n generalizing v with
  | zero => simp [leBytes, leNat, Nat.mod_one]
  | succ n ih => rw [leBytes, leNat, ih, Nat.pow_succ', Nat.mod_mul, BitVec.toNat_ofNat]

/-- The field at the front of a byte string. -/
theorem pktU_front (n v : Nat) (b : List Byte) : pktU (leBytes n v ++ b) 0 n = v % 256 ^ n := by
  unfold pktU
  rw [List.drop_zero, List.take_left' (length_leBytes n v), leNat_leBytes]

theorem pktU_leBytes (n v : Nat) : pktU (leBytes n v) 0 n = v % 256 ^ n := by simpa using pktU_front n v []

/-- A field behind the front one. -/
theorem pktU_behind {n off : Nat} (v m : Nat) (b : List Byte) (h : n ≤ off) : pktU (leBytes n v ++ b) off m = pktU b (off - n) m := by
  unfold pktU
  rw [List.drop_append, length_leBytes, List.drop_eq_nil_of_le (by simpa using h), List.nil_append]

/-- The check value leaves the fields before it alone. -/
theorem pktU_withCrc {b : List Byte} {off n : Nat} (h : off + n ≤ b.length) : pktU (withCrc b) off n = pktU b off n := by
  unfold pktU withCrc
  rw [List.drop_append_of_le_length (by omega), List.take_append_of_le_length (by simp; omega)]

theorem length_withCrc (b : List Byte) : (withCrc b).length = b.length + 4 := by simp [withCrc]

/-- The last four bytes are the check value of those before them. -/
theorem drop_withCrc {b : List Byte} {n : Nat} (h : b.length = n) : (withCrc b).drop n = leBytes 4 (crc32c ((withCrc b).take n)) := by
  unfold withCrc
  rw [List.drop_left' h, List.take_left' h]

/-! ### The reply and the event record (02 R68, R73) -/

/-- The fields of a reply, in order. -/
def replyFields (q seq corr : Nat) (r : Reply) : List Byte :=
  leBytes 1 q ++ (leBytes 1 r.kind ++ (leBytes 2 r.status ++ (leBytes 4 seq ++ (leBytes 4 corr ++ (leBytes 4 r.detail ++ leBytes 4 r.ts)))))

theorem replyBytes_eq (q seq corr : Nat) (r : Reply) : replyBytes q seq corr r = withCrc (replyFields q seq corr r) := by
  simp only [replyBytes, replyFields, List.append_assoc]

@[simp] theorem length_replyFields (q seq corr : Nat) (r : Reply) : (replyFields q seq corr r).length = 20 := by simp [replyFields]

/-- The fields of an event record, in order. -/
def eventFields (e : EventRec) (phase : Bool) : List Byte :=
  leBytes 1 e.queue ++ (leBytes 1 3 ++ (leBytes 2 e.event ++ (leBytes 4 e.seq ++ (leBytes 4 e.object ++ (leBytes 4 e.d0 ++ (leBytes 4 e.d1 ++
    (leBytes 4 e.ts ++ (leBytes 1 (b2n phase) ++ leBytes 3 0))))))))

theorem eventBytes_eq (e : EventRec) (phase : Bool) : eventBytes e phase = withCrc (eventFields e phase) := by
  simp only [eventBytes, eventFields, List.append_assoc]

@[simp] theorem length_eventFields (e : EventRec) (phase : Bool) : (eventFields e phase).length = 28 := by simp [eventFields]

/-- A reply's fields at their offsets. -/
theorem pktU_replyFields (q seq corr : Nat) (r : Reply) :
    let b := replyFields q seq corr r
    pktU b 0 1 = q % 256 ∧ pktU b 1 1 = r.kind % 256 ∧ pktU b 2 2 = r.status % 65536 ∧ pktU b 4 4 = seq % two32 ∧
      pktU b 8 4 = corr % two32 ∧ pktU b 12 4 = r.detail % two32 ∧ pktU b 16 4 = r.ts % two32 := by
  simp [replyFields, pktU_behind, pktU_front, pktU_leBytes]

/-- An event record's fields at their offsets. -/
theorem pktU_eventFields (e : EventRec) (phase : Bool) :
    let b := eventFields e phase
    pktU b 0 1 = e.queue % 256 ∧ pktU b 1 1 = 3 ∧ pktU b 2 2 = e.event % 65536 ∧ pktU b 4 4 = e.seq % two32 ∧
      pktU b 8 4 = e.object % two32 ∧ pktU b 12 4 = e.d0 % two32 ∧ pktU b 16 4 = e.d1 % two32 ∧ pktU b 20 4 = e.ts % two32 ∧
      pktU b 24 1 = b2n phase % 256 := by
  simp [eventFields, pktU_behind, pktU_front]

/-! ### Events that are masked, and the count of those that are not (02 R73; 16 R649) -/

theorem State.raiseFor_masked {s : State} {code : Nat} (q o d0 d1 : Nat)
    (h : bit (s.hif.evMask.get 0 (code / 256)) (code % 256) = true) : s.raiseFor q code o d0 d1 = s := if_pos (.inl h)

@[simp] theorem State.eventDatagram_hif (s : State) (e : EventRec) : (s.eventDatagram e).hif = s.hif := by
  unfold State.eventDatagram; split <;> rfl

theorem State.writeEvent_eventSeq (s : State) (e : EventRec) : (s.writeEvent e).hif.eventSeq = s.hif.eventSeq := by
  unfold State.writeEvent
  split
  · split
    · rfl
    · dsimp only
      split <;> simp [State.emit]
  · simp

theorem State.raiseFor_eventSeq {s : State} {code : Nat} (q o d0 d1 : Nat)
    (h : bit (s.hif.evMask.get 0 (code / 256)) (code % 256) = false) (hr : s.twin.role ≠ 3) :
    (s.raiseFor q code o d0 d1).hif.eventSeq = (s.hif.eventSeq + 1) % two32 := by
  unfold State.raiseFor
  rw [if_neg (by simp [h, hr])]
  dsimp only
  split
  · split <;> rfl
  · exact State.writeEvent_eventSeq _ _

/-! ### The receipt of a packet (02 R55–R57, R59, R61–R65) -/

/-- The LENGTH of a packet is the one that its opcode permits (17 R652). -/
def LengthFits (b : List Byte) : Prop :=
  ∀ r, opRow (headerOf b).opcode = some r → (headerOf b).length = permittedLength r (paramsOf b (headerOf b).length)

/-- The ALIVE of a packet is one that its queue takes (02 R59). -/
def State.AliveFits (s : State) (q : Nat) (b : List Byte) : Prop :=
  (s.queue q).resyncState = true ∨ (s.queue q).anyAlive = true ∨ (headerOf b).alive = (s.queue q).expAlive

section Receive

variable {s : State} {q : Nat} {b : List Byte} (dst : ReplyTo) (host : List Byte)

/-- Check 3 passes on a device that is no follower, and on CQ15. -/
theorem takes_packet (hq : s.isFollower = false ∨ q = 15) : ¬(s.isFollower = true ∧ q ≠ 15) := by
  rintro ⟨hf, hne⟩
  exact hq.elim (by simp [hf]) hne

theorem receive_wrongLength (hq : s.isFollower = false ∨ q = 15) {r : OpRow} (hr : opRow (headerOf b).opcode = some r)
    (hl : (headerOf b).length ≠ permittedLength r (paramsOf b (headerOf b).length)) :
    s.receive q b dst host = s.answer q (headerOf b) dst (s.acceptReply 0x0103 (maxLength r)) := by
  unfold State.receive
  dsimp only
  rw [if_neg (takes_packet hq), if_pos (by simp [hr, hl]), hr]
  rfl

theorem LengthFits.not_any (h : LengthFits b) :
    ¬(opRow (headerOf b).opcode).any (fun r => (headerOf b).length != permittedLength r (paramsOf b (headerOf b).length)) = true := by
  intro ha
  obtain ⟨r, hr, hne⟩ := (Option.any_eq_true _ _).1 ha
  exact bne_iff_ne.1 hne (h r hr)

theorem State.AliveFits.not_stale (h : s.AliveFits q b) :
    ¬(!(s.queue q).resyncState && !(s.queue q).anyAlive && (headerOf b).alive != (s.queue q).expAlive) = true := by
  simpa [State.AliveFits, or_iff_not_imp_left] using h

variable (hq : s.isFollower = false ∨ q = 15) (hlen : LengthFits b)

include hq hlen

theorem receive_wrongAlive (ha : ¬s.AliveFits q b) :
    s.receive q b dst host = s.answer q (headerOf b) dst (s.acceptReply 0x0102 (s.queue q).expAlive) := by
  simp only [State.AliveFits, not_or, Bool.not_eq_true] at ha
  unfold State.receive
  dsimp only
  rw [if_neg (takes_packet hq), if_neg hlen.not_any, if_pos (by simp [ha])]

variable (ha : s.AliveFits q b)

include ha

/-- A packet in its turn is judged by checks 7 to 9; one that they reject is journaled as rejected. -/
theorem receive_rejected (hturn : (s.queue q).resyncState = true ∨ (headerOf b).seq = (s.queue q).expSeq) {v : Nat × Nat}
    (hv : s.checkTaken (cmdOf b s.hif.nextPos dst host) (headerOf b).clean (headerOf b).flags = some v) :
    s.receive q b dst host = s.rejectTaken (cmdOf b s.hif.nextPos dst host) (headerOf b) v := by
  unfold State.receive
  dsimp only
  rw [if_neg (takes_packet hq), if_neg hlen.not_any, if_neg ha.not_stale,
    if_pos (by simpa using hturn), hv]

variable (hr : (s.queue q).resyncState = false) (hseq : (headerOf b).seq ≠ (s.queue q).expSeq)

include hr hseq

theorem receive_outside (hw : ∀ e ∈ (s.queue q).window, e.seq ≠ (headerOf b).seq) :
    s.receive q b dst host = s.answer q (headerOf b) dst (s.acceptReply 0x0105 (s.queue q).expSeq) := by
  have hf : (s.queue q).window.find? (fun e => e.seq == (headerOf b).seq) = none := by simpa using hw
  unfold State.receive
  dsimp only
  rw [if_neg (takes_packet hq), if_neg hlen.not_any, if_neg ha.not_stale,
    if_neg (by simp [hr, hseq]), hf]

theorem receive_duplicate {e : JEntry} (hf : (s.queue q).window.find? (fun e => e.seq = (headerOf b).seq) = some e) :
    s.receive q b dst host = s.duplicate q (headerOf b) dst e := by
  unfold State.receive
  dsimp only
  rw [if_neg (takes_packet hq), if_neg hlen.not_any, if_neg ha.not_stale,
    if_neg (by simp [hr, hseq])]
  simp only [beq_eq_decide, hf]

end Receive

/-- A duplicate of a command without an outcome. -/
theorem duplicate_pending (s : State) (q : Nat) (h : Header) (dst : ReplyTo) {e : JEntry} (ho : e.outcome = none) :
    s.duplicate q h dst e = (s.modQueue q (fun k => { k with expAlive := (h.alive + 1) % 256, anyAlive := false })).answer q h dst
      (s.acceptReply 3 e.accept.status) := by
  simp only [State.duplicate, ho, Option.map_none, Option.getD_none]

/-- A duplicate of a command with its outcome, whose COMPLETE reply is written again. -/
theorem duplicate_completed (s : State) (q : Nat) (h : Header) (dst : ReplyTo) {e : JEntry} {r : Reply} (ho : e.outcome = some r)
    (hq : e.quiet = false) :
    s.duplicate q h dst e = ((s.modQueue q (fun k => { k with expAlive := (h.alive + 1) % 256, anyAlive := false })).answer q h dst
      (s.acceptReply 3 r.status)).reply q dst (replyBytes q e.seq e.corr r) := by
  simp only [State.duplicate, ho, hq, Option.map_some, Option.getD_some, Bool.false_eq_true, if_false]

/-- A header with a reserved bit or byte that is not zero is not clean (02 R55). -/
theorem headerOf_clean_eq_false {b : List Byte}
    (h : 16 ≤ pktU b 2 1 ∨ 16 ≤ pktU b 3 1 ∨ pktU b 11 1 ≠ 0 ∨ 4 ≤ pktU b 20 1 ∨ pktU b 21 3 ≠ 0 ∨ pktU b 28 4 ≠ 0) :
    (headerOf b).clean = false := by
  simp only [headerOf, Bool.and_eq_false_iff, decide_eq_false_iff_not, beq_eq_false_iff_ne]
  omega

/-- Check 8 comes before check 9: a header that is not clean is ERR_FLAGS, whatever the command asks for. -/
theorem checkTaken_unclean {s : State} {c : Cmd} {r : OpRow} (hr : opRow c.opcode = some r) (flags : Nat) :
    s.checkTaken c false flags = some (0x0106, flags) := by
  simp [State.checkTaken, hr]

end Sys2Proof.Machine

namespace Sys2Proof

open Machine

/-- Settles O12: the reserved bits of the header are check 8, past which nothing is looked at. -/
theorem reservedHeaderBitsAreRejected : Obligations.ReservedHeaderBitsAreRejected := by
  intro s b dst host hrow hbad
  obtain ⟨r, hr⟩ := Option.isSome_iff_exists.1 hrow
  have hcheck : s.checkTaken (cmdOf b s.hif.nextPos dst host) (headerOf b).clean (headerOf b).flags = some (0x0106, pktU b 3 1) := by
    rw [headerOf_clean_eq_false hbad]
    exact checkTaken_unclean hr _
  refine ⟨hcheck, fun q hq hlen hturn => receive_rejected dst host hq hlen ?_ ?_ hcheck⟩
  · exact hturn.imp_right And.left
  · exact hturn.imp_right And.right

/-- Settles O13: checks 3 to 6 answer in their order, and a duplicate is answered from the journal. -/
theorem receiptChecksAnswer : Obligations.ReceiptChecksAnswer := by
  intro s q b dst host hq
  refine ⟨fun r hr hl => receive_wrongLength dst host hq hr hl, fun hlen ha => receive_wrongAlive dst host hq hlen ha,
    fun hlen ha hr hseq hw => receive_outside dst host hq hlen ha hr hseq hw, fun e hlen ha hr hseq hf => ?_⟩
  rw [receive_duplicate dst host hq hlen ha hr hseq hf]
  exact ⟨duplicate_pending s q _ dst, fun r => duplicate_completed s q _ dst⟩

/-- Settles O17: a reply and an event record are their fields in order behind which the check value stands. -/
theorem repliesAndEventRecords : Obligations.RepliesAndEventRecords := by
  refine ⟨by decide +kernel, ?reply, ?event, fun s q code o d0 d1 => State.raiseFor_masked q o d0 d1,
    fun s q code o d0 d1 => State.raiseFor_eventSeq q o d0 d1⟩
  case reply =>
    intro q seq corr r hq hseq hcorr hkind hstatus hdetail hts
    have hf := pktU_replyFields q seq corr r
    simp only [Nat.mod_eq_of_lt, *] at hf
    simp only [replyBytes_eq, length_withCrc, length_replyFields, pktU_withCrc, drop_withCrc, Nat.reduceAdd, Nat.reduceLeDiff, hf, and_self]
  case event =>
    intro e phase hq hevent hseq hobj hd0 hd1 hts
    have hphase : b2n phase < 256 := by cases phase <;> decide
    have hf := pktU_eventFields e phase
    simp only [Nat.mod_eq_of_lt, *] at hf
    simp only [eventBytes_eq, length_withCrc, length_eventFields, pktU_withCrc, drop_withCrc, Nat.reduceAdd, Nat.reduceLeDiff, hf, and_self]

end Sys2Proof

/-! ## The command interface (02): commands of the device and of its queues -/

namespace Sys2Proof.Machine

open Sys2Proof

/-- A QUEUE_CONFIG changes the transport or the source of the queue that it names (17 R664). -/
def Cmd.Moves (c : Cmd) (s : State) : Prop :=
  c.binding.udp ≠ (s.queue (c.u 0 1)).bind.udp ∨ c.binding.srcAddr ≠ (s.queue (c.u 0 1)).bind.srcAddr ∨
    c.binding.srcPort ≠ (s.queue (c.u 0 1)).bind.srcPort

theorem effQueueConfig_moves_iff (c : Cmd) (s : State) :
    (c.binding.udp != (s.queue (c.u 0 1)).bind.udp || c.binding.srcAddr != (s.queue (c.u 0 1)).bind.srcAddr ||
      c.binding.srcPort != (s.queue (c.u 0 1)).bind.srcPort) = true ↔ c.Moves s := by
  simp only [Cmd.Moves, Bool.or_eq_true, bne_iff_ne, or_assoc]

section QueueConfig

variable {c : Cmd} {s : State}

theorem effQueueConfig_other_moves (hq : c.u 0 1 ≠ c.q) (hm : c.Moves s) :
    effQueueConfig c s = (s.modQueue (c.u 0 1) (fun k => { k with bind := c.binding, resyncState := true, window := [] })).ok c :=
  (if_neg hq).trans (if_pos ((effQueueConfig_moves_iff c s).2 hm))
theorem effQueueConfig_other_stays (hq : c.u 0 1 ≠ c.q) (hm : ¬c.Moves s) :
    effQueueConfig c s = (s.modQueue (c.u 0 1) (fun k => { k with bind := c.binding })).ok c :=
  (if_neg hq).trans (if_neg (mt (effQueueConfig_moves_iff c s).1 hm))
theorem effQueueConfig_own_moves (hq : c.u 0 1 = c.q) (hm : c.Moves s) :
    effQueueConfig c s = (s.modQueue (c.u 0 1) (fun k => { k with rebind := some c.binding })).ok c :=
  (if_pos hq).trans (congrArg (State.ok · c) (if_pos ((effQueueConfig_moves_iff c s).2 hm)))
theorem effQueueConfig_own_stays (hq : c.u 0 1 = c.q) (hm : ¬c.Moves s) : effQueueConfig c s = s.ok c :=
  (if_pos hq).trans (congrArg (State.ok · c) (if_neg (mt (effQueueConfig_moves_iff c s).1 hm)))

end QueueConfig

/-- ABORT of a taken command: another ABORT, one past its commit point, or one that is given up (02 R106, R107). -/
theorem effAbort_taken {c t : Cmd} {s : State} (h : s.findCmd (c.u 0 1) (c.u 4 4) = some t) :
    effAbort c s =
      if t.opcode = 0x0010 then s.complete c 0x0202 deviceId
      else if t.phase = .committed ∨ commitsAtAcceptance t.opcode = true then s.complete c 4 0
      else (s.abortCmd t).ok c := by
  simp only [effAbort, h]

/-- ABORT of a SEQ that the journal holds with its outcome (02 R107). -/
theorem effAbort_journaled {c : Cmd} {s : State} {e : JEntry} (h : s.findCmd (c.u 0 1) (c.u 4 4) = none)
    (hw : (s.queue (c.u 0 1)).window.find? (fun e => e.seq = c.u 4 4) = some e) :
    effAbort c s = if e.opcode = 0x0010 then s.complete c 0x0202 deviceId else s.complete c 4 0 := by
  simp only [effAbort, h, hw]

/-- ABORT of a SEQ that the device does not know (02 R108). -/
theorem effAbort_unknown {c : Cmd} {s : State} (h : s.findCmd (c.u 0 1) (c.u 4 4) = none)
    (hw : (s.queue (c.u 0 1)).window.find? (fun e => e.seq = c.u 4 4) = none) : effAbort c s = s.complete c 0x0201 4 := by
  simp only [effAbort, h, hw]

end Sys2Proof.Machine

namespace Sys2Proof

open Machine

/-- Settles O18: each row starts its command with the effect of its opcode, which SET_LOOP_BOUNDS chooses by the loop that it names. -/
theorem deviceCommandsRun : Obligations.DeviceCommandsRun :=
  ⟨runs_of_eff fun _ _ _ => rfl, runs_of_eff fun _ _ _ => rfl, runs_of_eff fun _ _ _ => rfl, runs_of_eff fun _ _ _ => rfl,
    runsIf_of_eff (eff := effSetLoopBounds) (fun _ _ _ => rfl) (fun _ _ _ program => if_pos program),
    runsIf_of_eff (eff := effSetLoopBounds) (fun _ _ _ => rfl) (fun _ _ _ lanes => if_neg lanes),
    runs_of_eff fun _ _ _ => rfl, runs_of_eff fun _ _ _ => rfl, runs_of_eff fun _ _ _ => rfl⟩

/-- Settles O20, by the queue that the command names and whether it moves. -/
theorem queueConfigRuns : Obligations.QueueConfigRuns :=
  have row : ∀ q seq s, exec (.queueConfig q seq) s = opOut q (s.runOp 0x0102 q seq effQueueConfig) := fun _ _ _ => rfl
  ⟨runsIf_of_eff row fun _ _ _ ⟨hq, hm⟩ => effQueueConfig_other_moves hq hm,
    runsIf_of_eff row fun _ _ _ ⟨hq, hm⟩ => effQueueConfig_other_stays hq hm,
    runsIf_of_eff row fun _ _ _ ⟨hq, hm⟩ => effQueueConfig_own_moves hq hm,
    runsIf_of_eff row fun _ _ _ ⟨hq, hm⟩ => effQueueConfig_own_stays hq hm⟩

/-- Settles O21, by what the taken commands and the journal hold of the SEQ that the ABORT names. -/
theorem abortRuns : Obligations.AbortRuns := by
  have row : ∀ q seq s, exec (.abort q seq) s = opOut q (s.runOp 0x0010 q seq effAbort) := fun _ _ _ => rfl
  refine ⟨fun t => runsIf_of_eff row fun c s _ h => ?early, fun t => runsIf_of_eff row fun c s _ h => ?late,
    fun t => runsIf_of_eff row fun c s _ h => ?another, fun e => runsIf_of_eff row fun c s _ h => effAbort_journaled h.1 h.2,
    runsIf_of_eff row fun c s _ h => effAbort_unknown h.1 h.2⟩
  case early =>
    obtain ⟨hf, ho, hp, ha⟩ := h
    rw [effAbort_taken hf, if_neg ho, if_neg (by simp [hp, ha])]
  case late =>
    obtain ⟨hf, ho, hp⟩ := h
    rw [effAbort_taken hf, if_neg ho, if_pos hp]
  case another =>
    obtain ⟨hf, ho⟩ := h
    rw [effAbort_taken hf, if_pos ho]

end Sys2Proof

/-! ## The command interface (02): rings, datagrams, registers and journals -/

namespace Sys2Proof.Machine

open Sys2Proof

/-! ### Packets of a ring (02 R75, R77, R79, R692) -/

section FetchPacket

variable {s : State} {q : Nat} (slots host : List Byte)

/-- A ring whose queue may fetch has its next packet fetched. -/
theorem exec_fetchPacket_ring (hq : isQueue q = true) (hf : s.mayFetch q = true) (hu : (s.queue q).bind.udp = false)
    (he : (s.queue q).enable = true) (hup : s.hostUp = true) (hn : (s.queue q).slotsWritten ≠ 0)
    (hl : slots.length = 64 * (s.queue q).slotsWritten) :
    exec (.fetchPacket q slots host) s = .next (s.fetchRing q slots host) := by
  refine (need_eq _ hq).trans (congrArg _ ?_)
  dsimp only
  rw [if_neg (by simp [hf]), if_neg (by simp [hu]), if_neg (by simp [he, hup, hn, hl])]

/-- A UDP queue that may fetch receives the datagram that has waited longest (R82, R87). -/
theorem exec_fetchPacket_waiting (hq : isQueue q = true) (hf : s.mayFetch q = true) (hu : (s.queue q).bind.udp = true) {d : Datagram}
    {l : List Datagram} (hw : (s.queue q).waiting = d :: l) :
    exec (.fetchPacket q slots host) s =
      .next ((s.modQueue q (fun k => { k with waiting := l })).receive q d.payload (replyToOf d) []) := by
  refine (need_eq _ hq).trans (congrArg _ ?_)
  dsimp only
  rw [if_neg (by simp [hf]), if_pos hu]
  simp only [State.fetchWaiting, hw]

/-- The skip slot ends a ring (R692). -/
theorem fetchRing_skip (h : pktU slots 0 4 = 0xFFFFFFFF) :
    s.fetchRing q slots host = s.modQueue q (fun k => { k with sqHead := 0 }) := if_pos h

variable (hskip : pktU slots 0 4 ≠ 0xFFFFFFFF)

include hskip

/-- A LENGTH that check 1 does not take, or that the written slots do not hold (R56). -/
theorem fetchRing_badLength
    (h : lengthOk (headerOf slots).length = false ∨ (s.queue q).slotsWritten < cdiv (headerOf slots).length 64) :
    s.fetchRing q slots host = (s.consume q (s.queue q).slotsWritten).answer q (headerOf slots) {}
      (s.acceptReply 0x0103 (min 4096 (64 * (s.queue q).slotsWritten))) :=
  (if_neg hskip).trans (if_pos (by simpa using h))

/-- Past check 1, check 2 decides by the check value and the queue that the packet names. -/
theorem fetchRing_goodLength (hl : lengthOk (headerOf slots).length = true)
    (hn : cdiv (headerOf slots).length 64 ≤ (s.queue q).slotsWritten) :
    s.fetchRing q slots host =
      let b := slots.take (headerOf slots).length
      let s1 := s.consume q (cdiv (headerOf slots).length 64)
      if packetCrcOk b (headerOf slots).length = false then
        (s1.chainFail 9).answer q (headerOf slots) {} (s.acceptReply 0x0101 0)
      else if (headerOf slots).queue = q then s1.receive q b {} host
      else s1.answer q (headerOf slots) {} (s.acceptReply 0x0101 0) := by
  unfold State.fetchRing
  dsimp only
  rw [if_neg hskip, if_neg (by simp [hl, hn])]
  simp only [Bool.not_eq_true', beq_iff_eq]

end FetchPacket

/-! ### Datagrams (02 R82–R88; 10 R434) -/

theorem exec_commandDatagram (d : Datagram) (s : State) :
    exec (.commandDatagram d) s = .next (if s.fromPeer d then s.takeTether 1 d.payload else s.commandDatagram d) := rfl

/-- A datagram holds a packet that check 1 takes, for a queue of its port that accepts its source. -/
def State.Addressed (s : State) (d : Datagram) : Prop :=
  s.power.warm = false ∧ pktU d.payload 2 1 % 16 ∈ s.listening d.dport ∧ (s.queue (pktU d.payload 2 1 % 16)).bind.accepts d = true ∧
    lengthOk (headerOf d.payload).length = true ∧ (headerOf d.payload).length = d.payload.length

/-- A datagram that counts as a command's, and names a queue (R83, R86). -/
def State.Counts (s : State) (d : Datagram) : Prop :=
  s.fromPeer d = false ∧ d.fragment = false ∧ s.power.ready = true ∧ s.listening d.dport ≠ [] ∧ 3 ≤ d.payload.length

section Datagram

variable {s : State} {d : Datagram} (hc : s.Counts d)

include hc

theorem exec_commandDatagram_unaddressed (h : ¬s.Addressed d) :
    exec (.commandDatagram d) s = .next (s.discardOn (pktU d.payload 2 1 % 16)) := by
  obtain ⟨hp, hfr, hr, hl, hlen⟩ := hc
  rw [exec_commandDatagram, hp]
  refine congrArg _ ?_
  unfold State.commandDatagram
  dsimp only
  rw [if_neg Bool.false_ne_true, if_neg (by simp [hfr, hr, hl]), if_neg (by omega), if_pos]
  simp only [State.Addressed] at h
  simp only [List.contains_eq_mem, Bool.not_eq_true', decide_eq_false_iff_not]
  grind

variable (ha : s.Addressed d)

include ha

/-- An addressed datagram is judged by check 2, then taken at once or put behind those that wait (R82, R87). -/
theorem exec_commandDatagram_addressed :
    exec (.commandDatagram d) s = .next (
      let q := pktU d.payload 2 1 % 16
      if packetCrcOk d.payload (headerOf d.payload).length = false then (s.discardOn q).chainFail 9
      else if s.mayFetch q = true ∧ (s.queue q).waiting = [] then s.receive q d.payload (replyToOf d) []
      else s.modQueue q (fun k => { k with waiting := k.waiting ++ [d] })) := by
  obtain ⟨hp, hfr, hr, hl, hlen⟩ := hc
  obtain ⟨hwarm, hq, hacc, hok, heq⟩ := ha
  have hlength : lengthOk d.payload.length = true := heq ▸ hok
  rw [exec_commandDatagram, hp]
  refine congrArg _ ?_
  unfold State.commandDatagram
  dsimp only
  rw [if_neg Bool.false_ne_true, if_neg (by simp [hfr, hr, hl]), if_neg (by omega), if_neg (by simp [hwarm, hq, hacc, heq, hlength])]
  simp only [Bool.not_eq_true']

end Datagram

/-! ### Registers of the queues and of the event ring (02 R67, R74, R77, R78; 17 R690) -/

theorem exec_ringSizeWrite {reg : SizeReg} {v : Nat} (hr : sizeRegThere reg = true) (hv : v < two32) (s : State) :
    exec (.ringSizeWrite reg v) s = .next (s.writeSize reg v) := need_eq _ (by simp [hr, hv])

/-- The least size of a ring that its register takes. -/
def leastSize : SizeReg → Nat
  | .sq _ => 128
  | .rq _ => 64
  | .ev => 64

/-- A size that its register does not take changes nothing. -/
theorem writeSize_ignored {reg : SizeReg} {v : Nat} (h : sizeOk (leastSize reg) v = false) (s : State) : s.writeSize reg v = s := by
  cases reg <;> exact if_neg (by simpa [leastSize] using h)

/-- A power of two is taken when it is not below the register's least size. -/
theorem sizeOk_pow {lo v k : Nat} (hk : k ≤ 16) (hv : v % 131072 = 2 ^ k) : sizeOk lo v = true ↔ lo ≤ 2 ^ k := by
  rw [sizeOk_iff, hv]
  exact and_iff_left ⟨k, hk, rfl⟩

/-- What is no power of two is not taken. -/
theorem sizeOk_not_pow {lo v : Nat} (h : ∀ k, v % 131072 ≠ 2 ^ k) : sizeOk lo v = false :=
  Bool.eq_false_iff.2 fun hs => let ⟨_, k, _, e⟩ := sizeOk_iff.1 hs; h k e

/-! ### The flash journal, and a failed read of host memory (02 R70, R103, R111; 17 R658) -/

section Taken

variable {s : State} {q seq : Nat} {c : Cmd} (hq : isQueue q = true) (hf : s.findCmd q seq = some c)

include hq hf

theorem exec_flashJournalWritten (hto : c.toFlash = true) (hd : c.flashDone = false) (hp : c.phase = .accepting) (hm : s.mute c = false) :
    exec (.flashJournalWritten q seq) s = .next (
      let s0 := s.modCmd q seq (fun d => { d with flashDone := true })
      State.tryAccept { s0 with nv := { s0.nv with flash := insertRecord c.record s0.nv.flash } } q seq) := by
  refine (need_eq _ hq).trans (congrArg _ ?_)
  simp [hf, hto, hd, hp, hm]

theorem exec_hostReadTimeout_reading (hr : c.readsHost = true) (hm : s.mute c = false)
    (h : (c.phase = .started ∧ c.armed = false) ∨ s.startable c = true) :
    exec (.hostReadTimeout q seq) s = .next ((((s.undoCmd c).commitNote c 0 0 0 0x0302 0).complete c 0x0302 0).kickAfter c) := by
  refine (need_eq _ hq).trans (congrArg _ ?_)
  simp only [hf]
  exact if_pos ⟨hr, by simpa using h, by simp [hm]⟩

theorem exec_hostReadTimeout_other (hr : c.readsHost = false) : exec (.hostReadTimeout q seq) s = .next s := by
  refine (need_eq _ hq).trans (congrArg _ ?_)
  simp only [hf, hr]
  exact if_neg (by simp)

end Taken

end Sys2Proof.Machine

namespace Sys2Proof

open Machine

/-- Settles O37, by the checks of a ring's packet and of a datagram in their order. -/
theorem packetsAreTaken : Obligations.PacketsAreTaken := by
  constructor
  · intro q slots host hq there n passed
    have fetched {s : State} (h : there s) : exec (.fetchPacket q slots host) s = .next (s.fetchRing q slots host) := by
      obtain ⟨hf, hu, he, hup, hn, hl⟩ := h
      exact exec_fetchPacket_ring slots host hq hf hu he hup hn hl
    refine ⟨?skip, ?short, ?sound, ?crc, ?queue, ?waiting⟩
    case skip =>
      rintro s ⟨ht, hs⟩
      rw [fetched ht, fetchRing_skip slots host hs]
    case short =>
      rintro s ⟨ht, hs, hl⟩
      rw [fetched ht, fetchRing_badLength slots host hs hl]
      rfl
    case sound =>
      rintro s ⟨ht, hs, hl, hn, hcrc, hown⟩
      rw [fetched ht, fetchRing_goodLength slots host hs hl hn]
      dsimp only
      rw [if_neg (by simpa using hcrc), if_pos hown]
      rfl
    case crc =>
      rintro s ⟨ht, hs, hl, hn, hcrc⟩
      rw [fetched ht, fetchRing_goodLength slots host hs hl hn]
      dsimp only
      rw [if_pos hcrc]
      rfl
    case queue =>
      rintro s ⟨ht, hs, hl, hn, hcrc, hother⟩
      rw [fetched ht, fetchRing_goodLength slots host hs hl hn]
      dsimp only
      rw [if_neg (by simpa using hcrc), if_neg hother]
      rfl
    case waiting =>
      rintro d l s ⟨hf, hu, hw⟩
      exact exec_fetchPacket_waiting slots host hq hf hu hw
  · intro d q n counts sound ok
    refine ⟨?peer, ?unsound, ?crc, ?now, ?later⟩
    case peer =>
      intro s hp
      rw [exec_commandDatagram, hp]
      rfl
    case unsound =>
      rintro s ⟨hc, ha⟩
      exact exec_commandDatagram_unaddressed hc ha
    case crc =>
      rintro s ⟨hc, ha, hcrc⟩
      rw [exec_commandDatagram_addressed hc ha]
      exact congrArg _ (if_pos (Bool.eq_false_iff.2 hcrc))
    case now =>
      rintro s ⟨hc, ha, hcrc, hfree⟩
      rw [exec_commandDatagram_addressed hc ha]
      exact congrArg _ ((if_neg (by simpa using hcrc)).trans (if_pos hfree))
    case later =>
      rintro s ⟨hc, ha, hcrc, hheld⟩
      rw [exec_commandDatagram_addressed hc ha]
      exact congrArg _ ((if_neg (by simpa using hcrc)).trans (if_neg hheld))

/-- Settles O38: every register takes its value when the operand names it, a ring-size register by the form of the value. -/
theorem queueRegistersAct : Obligations.QueueRegistersAct := by
  refine ⟨fun q v hq hv => ?block, fun v hv => answers_always (by simp [hv]) fun _ => rfl,
    fun q hq => answers_of_need hq (fun _ => rfl) fun s h => if_pos h, fun q v k hq hv hk hpow => ?power, ?other⟩
  case block =>
    have hok : (isQueue q && decide (v < two32)) = true := by simp [hq, hv]
    exact ⟨answers_of_need hok (fun _ => rfl) fun s ready => if_pos ready,
      answers_of_need hok (fun _ => rfl) fun s starting => if_neg (by simp [starting]),
      answers_always hok fun _ => rfl, answers_always hok fun _ => rfl⟩
  case power =>
    have size (e : Nat) (he : e ≤ k) : 2 ^ e ≤ 2 ^ k := Nat.pow_le_pow_right (by decide) he
    refine ⟨fun s h => ?_, fun s h => ?_, fun s h => ?_, fun s h => ?_⟩
    · rw [exec_ringSizeWrite (reg := .sq q) hq hv, ← hpow]
      exact congrArg _ (if_pos ((sizeOk_pow hk hpow).2 (size 7 h)))
    · have hsmall : 2 ^ k < 2 ^ 7 := Nat.pow_lt_pow_right (by decide) h
      rw [exec_ringSizeWrite (reg := .sq q) hq hv, writeSize_ignored]
      exact Bool.eq_false_iff.2 (mt (sizeOk_pow hk hpow).1 (by simpa [leastSize] using hsmall))
    · rw [exec_ringSizeWrite (reg := .rq q) hq hv, ← hpow]
      exact congrArg _ (if_pos ((sizeOk_pow hk hpow).2 (size 6 h)))
    · rw [exec_ringSizeWrite (reg := .ev) rfl hv, ← hpow]
      exact congrArg _ (if_pos ((sizeOk_pow hk hpow).2 (size 6 h)))
  case other =>
    intro reg v hr hv hnot s _
    rw [exec_ringSizeWrite hr hv, writeSize_ignored (sizeOk_not_pow hnot)]

/-- Settles O40: the command of the operands is the one that its journal or its read was for. -/
theorem journalAndHostReadEnd : Obligations.JournalAndHostReadEnd := by
  refine ⟨fun q seq c hq s h => ?flash, fun q seq c hq s h => ?read, fun q seq c hq s h => exec_hostReadTimeout_other hq h.1 h.2⟩
  case flash =>
    obtain ⟨hf, hto, hd, hp, hm⟩ := h
    exact exec_flashJournalWritten hq hf hto hd hp hm
  case read =>
    obtain ⟨hf, hr, hm, h⟩ := h
    exact exec_hostReadTimeout_reading hq hf hr hm h

end Sys2Proof

/-! ## Registers whose read or write has an effect of its own (02, 05, 09, 13, 16) -/

namespace Sys2Proof

/-- An entry that is listed is the one that a read gives. -/
theorem Tab.get_of_find {α : Type} {t : Tab α} {i : Nat} {a : α} (d : α) (h : t.find i = some a) : t.get d i = a := by
  induction t with
  | nil => cases h
  | cons e t ih =>
    obtain ⟨j, b⟩ := e
    unfold Tab.find at h
    unfold Tab.get
    split at h
    · next hj => rw [if_pos hj]; exact Option.some.inj h
    · next hj => rw [if_neg hj]; exact ih h

end Sys2Proof

namespace Sys2Proof.Machine

open Sys2Proof

/-! ### The counters (16 R641–R643) -/

/-- The counters as a snapshot copies them. -/
def Obs.snapshot (o : Obs) : Obs :=
  { o with pmcs := o.pmcs.map (fun (e : Nat × Pmc) => (e.1, { e.2 with snap := e.2.count })), snapSeq := (o.snapSeq + 1) % 256,
           snapBusy := true }
/-- The counters as a clear leaves them. -/
def Obs.cleared (o : Obs) : Obs :=
  { o with pmcs := o.pmcs.map (fun (e : Nat × Pmc) => (e.1, { e.2 with count := 0 })), ovf := [] }

/-- A write of PMC_CTRL takes the snapshot that bit 0 asks for, then clears as bit 1 does. -/
theorem State.pmcCtrl_eq {v : Nat} {snap clear : Bool} (h0 : bit v 0 = snap) (h1 : bit v 1 = clear) (s : State) :
    s.pmcCtrl v =
      let o := if snap then s.obs.snapshot else s.obs
      { s with obs := if clear then o.cleared else o } := by
  subst h0 h1
  rfl

/-! ### The sampler (16 R645, R646) -/

section Sampler

variable {s : State} {pr ev th ct : Nat} (a i l m : Nat) (hs : s.obs.sampling.find pr = some (ev, true, th, ct))
  (hok : (pr < 2 && a < 2 ^ 64 && i < two32 && (m == 0 || m == 1 || m == 3)) = true) (hw : s.power.warm = false)

include hs hok hw

/-- A sample of an enabled pair, taken after the one before has retired, is recorded while the ring has room, and lost when it has none. -/
theorem exec_sampleDue :
    exec (.sampleDue pr a i l m true) s = .next (
      if 1024 ≤ s.obs.smpUnread then { s with obs := { s.obs with smpLost := satAdd 32 s.obs.smpLost 1 } }
      else { s with obs := { s.obs with
        smpRing := s.obs.smpRing.set s.obs.smpWr (s.sampleRecord pr ev a i l m), smpWr := (s.obs.smpWr + 1) % 1024,
        smpUnread := s.obs.smpUnread + 1 } }) := by
  refine (need_eq _ hok).trans (congrArg _ ?_)
  simp only [hs, hw, Bool.false_eq_true, if_false, Bool.not_true, false_or]

end Sampler

/-! ### Lane equalization (01 R48, R50; 16 R651) -/

/-- Settings of a lane held at its bounds. -/
def State.eqInto (s : State) (lane : Nat) (e : Int × Int × Int) : Int × Int × Int :=
  let b := s.obs.eqBounds.get {} lane
  (clip e.1 b.ctleMin b.ctleMax, clip e.2.1 b.vgaMin b.vgaMax, clip e.2.2 b.dfeMin b.dfeMax)

/-- A lane takes its new settings; a clamp is counted. -/
def State.eqMove (s : State) (lane : Nat) (now : Int × Int × Int) (clamped : Bool) : State :=
  let rest := s.obs.eqClamped.filter (fun l => l != lane)
  let s1 := { s with obs := { s.obs with
    eqNow := s.obs.eqNow.set lane now, eqClamped := if clamped then rest ++ [lane] else rest,
    eqClamps := if clamped then s.obs.eqClamps.upd 0 lane (fun n => satAdd 32 n 1) else s.obs.eqClamps } }
  if clamped then s1.happen 0x0601 [] lane 0 1 else s1

/-- The settings that a lane has lie outside its bounds. -/
def State.eqStray (s : State) (lane : Nat) : Bool := (s.obs.eqNow.find lane).any (fun e => s.eqInto lane e != e)

theorem exec_equalizerDecision (s : State) (lane : Nat) (c v d : Int) :
    exec (.equalizerDecision lane c v d) s = need (isLane lane) (
      let now := if s.eqStray lane then s.eqInto lane (s.obs.eqNow.get (0, 0, 0) lane) else s.eqInto lane (c, v, d)
      s.eqMove lane now (s.eqStray lane || now != (c, v, d))) := rfl

/-- A lane outside its bounds moves to them, whatever its equalizer decides. -/
theorem exec_equalizerDecision_stray {s : State} {lane : Nat} {e : Int × Int × Int} (c v d : Int) (hl : isLane lane = true)
    (hf : s.obs.eqNow.find lane = some e) (he : s.eqInto lane e ≠ e) :
    exec (.equalizerDecision lane c v d) s = .next (s.eqMove lane (s.eqInto lane e) true) := by
  have hs : s.eqStray lane = true := by simp [State.eqStray, hf, he]
  rw [exec_equalizerDecision, Tab.get_of_find _ hf]
  simp only [hs, if_true, Bool.true_or]
  exact need_eq _ hl

/-- A lane within its bounds moves as its equalizer decides, as far as the bounds let it. -/
theorem exec_equalizerDecision_within {s : State} {lane : Nat} (c v d : Int) (hl : isLane lane = true)
    (hs : ¬∃ e, s.obs.eqNow.find lane = some e ∧ s.eqInto lane e ≠ e) :
    exec (.equalizerDecision lane c v d) s = .next (s.eqMove lane (s.eqInto lane (c, v, d)) (s.eqInto lane (c, v, d) != (c, v, d))) := by
  have hs : s.eqStray lane = false := Bool.eq_false_iff.2 fun h => by
    obtain ⟨e, hf, he⟩ := (Option.any_eq_true _ _).1 h
    exact hs ⟨e, hf, bne_iff_ne.1 he⟩
  rw [exec_equalizerDecision]
  simp only [hs, Bool.false_eq_true, if_false, Bool.false_or]
  exact need_eq _ hl

end Sys2Proof.Machine

namespace Sys2Proof

open Machine

/-- Settles O60: each access does what its register says when the operand names one. -/
theorem readsAndClearsAct : Obligations.ReadsAndClearsAct := by
  refine ⟨fun v hv => ?writes, answers_always rfl fun _ => rfl, fun n hn => ⟨answers_always (by simp [hn]) fun _ => rfl, fun i hi => ?wrap⟩,
    fun pr a i l m hp ha hi hm ev th ct => ?sample, answers_always rfl fun _ => rfl, answers_always rfl fun _ => rfl,
    answers_always rfl fun _ => rfl, answers_always rfl fun _ => rfl, answers_always rfl fun _ => rfl, answers_always rfl fun _ => rfl,
    fun n hn => answers_always (by simp [hn]) fun _ => rfl, fun p hp => answers_always (by simp [hp]) fun _ => rfl,
    fun q hq => answers_always hq fun _ => rfl, answers_always rfl fun _ => rfl, fun i hi => answers_always (by simp [hi]) fun _ => rfl,
    answers_always rfl fun _ => rfl, answers_always rfl fun _ => rfl, fun lane c v d hl => ?equalizer⟩
  case writes =>
    have hok : decide (v < two32) = true := by simp [hv]
    exact ⟨answers_of_need hok (fun _ => rfl) fun s ⟨h0, h1⟩ => State.pmcCtrl_eq h0 h1 s,
      answers_of_need hok (fun _ => rfl) fun s ⟨h0, h1⟩ => State.pmcCtrl_eq h0 h1 s,
      answers_of_need hok (fun _ => rfl) fun s ⟨h0, h1⟩ => State.pmcCtrl_eq h0 h1 s,
      answers_always hok fun _ => rfl, fun m hm => answers_always (by simp [hm, hv]) fun _ => rfl,
      fun m hm => answers_always (by simp [hm, hv]) fun _ => rfl, fun n hn => answers_always (by simp [hn, hv]) fun _ => rfl⟩
  case wrap =>
    have hok : decide (n < 128) = true := by simp [hn]
    refine ⟨answers_of_need hok (fun _ => rfl) fun s h => if_pos ⟨h.1, h.2, hi⟩, answers_of_need hok (fun _ => rfl) fun s h => if_neg ?_⟩
    simp [h]
  case sample =>
    have hok : (pr < 2 && a < 2 ^ 64 && i < two32 && (m == 0 || m == 1 || m == 3)) = true := by
      simp only [hp, ha, hi, decide_true, Bool.true_and, Bool.or_eq_true, beq_iff_eq, or_assoc]
      exact hm
    refine ⟨?_, ?_⟩
    · rintro s ⟨hs, hw, hroom⟩
      exact (exec_sampleDue a i l m hs hok hw).trans (congrArg _ (if_neg (by omega)))
    · rintro s ⟨hs, hw, hfull⟩
      exact (exec_sampleDue a i l m hs hok hw).trans (congrArg _ (if_pos hfull))
  case equalizer =>
    refine ⟨?_, ?_, fun e s h => exec_equalizerDecision_stray c v d hl h.1 h.2⟩
    · rintro s ⟨hs, hin⟩
      have hin : s.eqInto lane (c, v, d) = (c, v, d) := hin
      rw [exec_equalizerDecision_within c v d hl hs, hin, bne_self_eq_false]
      rfl
    · rintro s ⟨hs, hout⟩
      have hout : (s.eqInto lane (c, v, d) != (c, v, d)) = true := bne_iff_ne.2 hout
      rw [exec_equalizerDecision_within c v d hl hs, hout]
      rfl

end Sys2Proof

/-! ## Ingest (03): the commands of flows, sources and braids -/

namespace Sys2Proof.Machine

open Sys2Proof

/-! ### BRAID_CONFIG (03 R138, R154) -/

/-- BRAID_CONFIG is answered, then the braid's charge is taken anew for the BRAID_CONFIG that still wait. -/
theorem effBraidConfig_eq (c : Cmd) (s : State) :
    effBraidConfig c s =
      let b := s.braid c.idx
      let s1 := (s.modBraid c.idx (fun x =>
        { (if decide (c.u 0 1 = 1) = false ∨ b.enabled = false ∨ b.rate ≠ c.u 1 1 then x.restartLock s.now else x) with
          enabled := decide (c.u 0 1 = 1), rate := c.u 1 1, autoRestrand := decide (c.u 2 1 = 1) })).ok c
      s1.rechargeObject c.object 4 (s1.braidCharges c.idx (s1.waitingFor 0x0203 c.object)) := by
  simp only [effBraidConfig, Bool.or_eq_true, Bool.not_eq_true', bne_iff_ne, or_assoc]

/-! ### POLICER_SET (03 R136) -/

/-- The rates and depths that a POLICER_SET may give a leg. -/
def Cmd.BucketsInRange (c : Cmd) : Prop :=
  125000 ≤ c.u 4 8 ∧ c.u 4 8 ≤ 50000000000 ∧ 125000 ≤ c.u 12 8 ∧ c.u 12 8 ≤ 50000000000 ∧ 1538 ≤ c.u 20 4 ∧
    c.u 20 4 ≤ 16777215 ∧ 1538 ≤ c.u 24 4 ∧ c.u 24 4 ≤ 16777215 ∧ c.u 4 8 ≤ c.u 12 8 ∧ c.u 24 4 ≤ c.u 20 4

/-- What check 9 looks at in the rates and depths of a POLICER_SET: the offset of each field, and whether it offends. -/
def Cmd.bucketOffences (c : Cmd) : List (Nat × Bool) :=
  [(4, c.u 4 8 < 125000 || c.u 4 8 > 50000000000 || c.u 12 8 < c.u 4 8), c.outside 12 8 125000 50000000000,
    (20, c.u 20 4 < 1538 || c.u 20 4 > 16777215 || c.u 24 4 > c.u 20 4), c.outside 24 4 1538 16777215]

theorem Cmd.bucketOffences_none_iff {c : Cmd} : (∀ e ∈ c.bucketOffences, e.2 = false) ↔ c.BucketsInRange := by
  simp only [Cmd.bucketOffences, Cmd.outside, Cmd.BucketsInRange, List.forall_mem_cons, List.not_mem_nil, false_imp_iff, implies_true,
    and_true, Bool.or_eq_false_iff, decide_eq_false_iff_not]
  omega

/-- Check 9 of POLICER_SET looks at its fields, then at the state of its flow. -/
theorem checkPolicerSet_eq (s : State) (c : Cmd) :
    checkPolicerSet s c =
      firstOf [badRange (c.outside 0 1 0 (max 1 (s.rxFlow c.idx).legs.length - 1) :: (c.bucketOffences ++ c.zeros [(0, 1), (4, 24)] [])),
        badState (!(s.rxFlow c.idx).isOpen || (s.rxFlow c.idx).kind == 1) c.object] := rfl

/-- A POLICER_SET passes check 9 only with rates and depths in range. -/
theorem bucketsInRange_of_check {s : State} {c : Cmd} (h : checkPolicerSet s c = none) : c.BucketsInRange := by
  rw [checkPolicerSet_eq] at h
  have hfields := badRange_none.1 (firstOf_none.1 h _ List.mem_cons_self)
  exact Cmd.bucketOffences_none_iff.1 fun e he => hfields e (List.mem_cons_of_mem _ (List.mem_append_left _ he))

/-- Rates or depths out of range are ERR_RANGE. -/
theorem checkPolicerSet_range (s : State) {c : Cmd} (h : ¬c.BucketsInRange) : ∃ d, checkPolicerSet s c = some (0x0201, d) := by
  obtain ⟨e, he, hbad⟩ : ∃ e ∈ c.bucketOffences, e.2 = true := by
    simpa only [not_forall, Bool.not_eq_false, exists_prop] using mt Cmd.bucketOffences_none_iff.1 h
  obtain ⟨d, hd⟩ := badRange_some (List.mem_cons_of_mem (c.outside 0 1 0 (max 1 (s.rxFlow c.idx).legs.length - 1))
    (List.mem_append_left (c.zeros [(0, 1), (4, 24)] []) he)) hbad
  refine ⟨d, ?_⟩
  rw [checkPolicerSet_eq, hd]
  rfl

end Sys2Proof.Machine

namespace Sys2Proof

open Machine

/-- Settles O22: each row starts its command with the effect of its opcode, which BRAID_RESTRAND chooses by its operation. -/
theorem ingestCommandsRun : Obligations.IngestCommandsRun :=
  ⟨runs_of_eff fun _ _ _ => rfl, runs_of_eff fun _ _ _ => rfl, runs_of_eff fun _ _ _ => rfl, runs_of_eff fun _ _ _ => rfl,
    runs_of_eff_eq (fun _ _ _ => rfl) fun c s _ => effBraidConfig_eq c s, runs_of_eff fun _ _ _ => rfl,
    runsIf_of_eff (eff := effBraidRestrand) (fun _ _ _ => rfl) (fun _ _ _ move => if_pos move),
    runsIf_of_eff (eff := effBraidRestrand) (fun _ _ _ => rfl) (fun _ _ _ restore => if_neg restore)⟩

/-- Settles O23: the row starts the command with its effect, and check 9 has its rates and depths in range. -/
theorem policerSetReplacesRatesAndDepths : Obligations.PolicerSetReplacesRatesAndDepths :=
  ⟨runs_of_eff fun _ _ _ => rfl, fun _ _ => bucketsInRange_of_check, fun s _ => checkPolicerSet_range s⟩

end Sys2Proof

/-! ## Ingest (03): packets, legs and deadlines -/

namespace Sys2Proof.Machine

open Sys2Proof

/-! ### Received packets (03 R123, R124, R130) -/

section Packet

variable {p : RxPkt} (s : State) (t : Nat) (hp : p.port < 4) (hb : p.sub < 4)

/-- The state in which a packet that its port accepts has been counted (16 *Performance counter events*). -/
def State.packetCounted (s : State) (t : Nat) (p : RxPkt) : State := (s.at32 t).happen 0x0201 [] (4 * p.port + p.sub) 0 1

/-- A packet is taken by a leg of the flow that it matches. -/
def State.takePacket (s : State) (p : RxPkt) (i leg : Nat) : State :=
  let f := s.rxFlow i
  let a := (f.legs.getD leg {}).arrive s.now f.legPeriod
  let s2 := (s.modRx i (fun _ => ({ f with legs := f.legs.set leg a.1 }).packet s.now leg p)).ownerWrites (rxId i)
  let s3 := if a.2 = true then s2.raise 0x0302 (rxId i) leg 0 else s2
  if p.internalOk = true then s3 else s3.chainFail 2

/-- A sound packet is taken by the flow that it matches, or counted as a packet of no flow. -/
def State.deliverPacket (s : State) (p : RxPkt) : State :=
  match s.matchRx p with
  | none => s.happen 0x0203 [] (4 * p.port + p.sub) 0 1
  | some (i, leg) => s.takePacket p i leg

theorem State.deliverPacket_none {s : State} (h : s.matchRx p = none) :
    s.deliverPacket p = s.happen 0x0203 [] (4 * p.port + p.sub) 0 1 := by
  simp only [State.deliverPacket, h]
theorem State.deliverPacket_some {s : State} {i leg : Nat} (h : s.matchRx p = some (i, leg)) :
    s.deliverPacket p = s.takePacket p i leg := by
  simp only [State.deliverPacket, h]

include hp hb

/-- A frame that is too long is not accepted by its port (R123). -/
theorem exec_packetArrival_long (hl : 9216 < p.len) : exec (.packetArrival t p) s = .next (s.at32 t) :=
  (need_eq _ (by simp [hp, hb])).trans (congrArg _ (if_pos hl))

/-- A packet that its port accepts is counted, and counted by its fault or its kind or delivered. -/
theorem exec_packetArrival_accepted (hl : p.len ≤ 9216) :
    exec (.packetArrival t p) s = .next (
      let s1 := s.packetCounted t p
      if p.fcsOk = false then s1.happen 0x0202 [] (4 * p.port + p.sub) 0 1
      else if p.pause = true then s1.happen 0x0204 [] (4 * p.port + p.sub) 0 1
      else s1.deliverPacket p) := by
  refine (need_eq _ (by simp [hp, hb])).trans (congrArg _ ((if_neg (by omega)).trans ?_))
  simp only [Bool.not_eq_true']
  rfl

theorem exec_packetArrival_sound (hl : p.len ≤ 9216) (hfcs : p.fcsOk = true) (hpause : p.pause = false) :
    exec (.packetArrival t p) s = .next ((s.packetCounted t p).deliverPacket p) := by
  rw [exec_packetArrival_accepted s t hp hb hl]
  exact congrArg _ ((if_neg (by simp [hfcs])).trans (if_neg (by simp [hpause])))

end Packet

/-! ### Legs that go down, and deadlines (03 R130, R160, R161) -/

/-- A leg that the flow has goes down 2T after its last packet; one that is down stays as it is. -/
theorem exec_legDown {s : State} {flow leg : Nat} {l : RxLeg} (hf : flow < 256) (hg : leg < 2) (hl : (s.rxFlow flow).legs[leg]? = some l) :
    exec (.legDown flow leg) s = .next (
      if l.up = true then
        let f := s.rxFlow flow
        ((s.reach (l.lastRx.getD 0 + cdiv (2 * f.legPeriod.1) f.legPeriod.2)).modRx flow (fun f =>
          { f with legs := f.legs.set leg { l with up := false, runStart := none } })).raise 0x0301 (rxId flow) leg 0
      else s) := by
  refine (need_eq _ (by simp [hf, hg])).trans (congrArg _ ?_)
  simp only [hl]

/-- The grid of a source whose line deadline comes first. -/
def RxFlow.firstLine (f : RxFlow) : Option GridWatch :=
  earliest f.lineDue (f.watches.filter (fun w => w.era == f.era || decide (w.lineGrid ≤ w.stop)))

theorem exec_lineDeadline_due {s : State} {flow : Nat} {w : GridWatch} (hf : flow < 256) (hw : (s.rxFlow flow).firstLine = some w) :
    exec (.lineDeadline flow) s = .next (
      (s.reach ((s.rxFlow flow).lineDue w)).modRx flow (fun f => (f.markLine w).setWatch (w.lineMarked f.height))) := by
  refine (need_eq _ (by simp [hf])).trans (congrArg _ ?_)
  unfold RxFlow.firstLine at hw
  simp only [hw]

theorem exec_lineDeadline_none {s : State} {flow : Nat} (hf : flow < 256) (hw : (s.rxFlow flow).firstLine = none) :
    exec (.lineDeadline flow) s = .next s := by
  refine (need_eq _ (by simp [hf])).trans (congrArg _ ?_)
  unfold RxFlow.firstLine at hw
  simp only [hw]

/-- The frame deadline that comes first declares its period. -/
theorem State.frameDeadlinePassed_due {s : State} {flow : Nat} {w : GridWatch}
    (hw : earliest GridWatch.due (s.rxFlow flow).watches = some w) :
    s.frameDeadlinePassed flow =
      let s1 := s.reach w.due
      let f := s1.rxFlow flow
      ((s1.modRx flow (fun f => (f.declare w).setWatch w.declared)).layersAfter flow (f.judge w).1).declareEvent flow (f.judge w).1
        w.next f.notComplete (f.judge w).2 (f.cause w) := by
  simp only [State.frameDeadlinePassed, hw]

/-- A source without a grid declares nothing. -/
theorem State.frameDeadlinePassed_none {s : State} {flow : Nat} (hw : (s.rxFlow flow).watches = []) : s.frameDeadlinePassed flow = s := by
  simp only [State.frameDeadlinePassed, hw, earliest]

end Sys2Proof.Machine

namespace Sys2Proof

open Machine

/-- Settles O44: a packet by what it is and the flow that it matches, a leg by whether it is up, a deadline by the grid where it comes
first. -/
theorem ingestPacketsAndDeadlines : Obligations.IngestPacketsAndDeadlines := by
  refine ⟨fun t p hp hb => ?packet, fun flow leg l hf hg => ?leg, fun flow w hf => ?line, fun flow w hf => ?frame⟩
  case packet =>
    refine ⟨fun s long => exec_packetArrival_long s t hp hb long, ?fcs, ?pause, ?unmatched, ?matched⟩
    case fcs =>
      rintro s ⟨hl, hfcs⟩
      rw [exec_packetArrival_accepted s t hp hb hl]
      exact congrArg _ (if_pos hfcs)
    case pause =>
      rintro s ⟨hl, hfcs, hpause⟩
      rw [exec_packetArrival_accepted s t hp hb hl]
      exact congrArg _ ((if_neg (by simp [hfcs])).trans (if_pos hpause))
    case unmatched =>
      rintro s ⟨hl, hfcs, hpause, hm⟩
      exact (exec_packetArrival_sound s t hp hb hl hfcs hpause).trans (congrArg _ (State.deliverPacket_none hm))
    case matched =>
      rintro i leg s ⟨hl, hfcs, hpause, hm⟩
      exact (exec_packetArrival_sound s t hp hb hl hfcs hpause).trans (congrArg _ (State.deliverPacket_some hm))
  case leg =>
    refine ⟨?up, ?down⟩
    case up =>
      rintro s ⟨hl, hup⟩
      rw [exec_legDown hf hg hl, if_pos hup]
    case down =>
      rintro s ⟨hl, hdown⟩
      rw [exec_legDown hf hg hl, if_neg (by simp [hdown])]
  case line => exact ⟨fun s due => exec_lineDeadline_due hf due, fun s none => exec_lineDeadline_none hf none⟩
  case frame =>
    have hok : decide (flow < 256) = true := by simp [hf]
    exact ⟨answers_of_need hok (fun _ => rfl) fun s due => congrArg (State.refreshReaders · flow) (State.frameDeadlinePassed_due due),
      answers_of_need hok (fun _ => rfl) fun s none => congrArg (State.refreshReaders · flow) (State.frameDeadlinePassed_none none)⟩

end Sys2Proof

/-! ## Ingest (03): the events of the braids -/

namespace Sys2Proof.Machine

open Sys2Proof

/-- A braid takes what its strands bring: it is enabled, and no near-end test loop runs (R157). -/
abbrev State.Hears (s : State) (b : Nat) : Prop := (s.braid b).enabled = true ∧ (s.braid b).deaf = false

theorem State.not_hears_iff {s : State} {b : Nat} : ¬s.Hears b ↔ (s.braid b).enabled = false ∨ (s.braid b).deaf = true := by
  simp [State.Hears, imp_iff_not_or]

/-! ### Block rows (03 R139–R154; 10 R433) -/

/-- A row as the strands of a braid read it, and the braid that has read it. -/
def State.rowRead (s : State) (b : Nat) (blocks : List YBlock) : Braid × List RxBlock := (s.braid b).readRow (strandsOf b) blocks

/-- The state in which a row has been read, sent back while the far-end loop runs, and judged block by block. -/
def State.rowNoted (s : State) (b : Nat) (blocks : List YBlock) : State :=
  let r := s.rowRead b blocks
  let read := s.modBraid b (fun _ => r.1)
  (if (s.braid b).loop.isSome = true then read.returnRow b (strandsOf b) r.2 else read).noteRow b r.2

section BlockRow

variable {s : State} {b : Nat} (blocks : List YBlock)

theorem State.blockRow_deaf (h : ¬s.Hears b) : s.blockRow b blocks = s :=
  if_pos (by simpa using State.not_hears_iff.1 h)

/-- A row that a braid hears brings it to its lock, or is taken by a locked one. -/
theorem State.blockRow_heard (h : s.Hears b) :
    s.blockRow b blocks =
      if (s.braid b).locked = false then (s.rowNoted b blocks).tryLock b
      else (s.rowNoted b blocks).takeRow b (s.rowRead b blocks).2 (s.braid b) := by
  obtain ⟨hon, hdeaf⟩ := h
  refine (if_neg (by simp [hon, hdeaf])).trans ?_
  simp only [Bool.not_eq_true']
  rfl

/-- The blocks of YT are fragments of the tether's messages when its braid hears them and is locked (10 R433). -/
theorem exec_yelucBlockRow (s : State) (t : Nat) (hb : b < 5) :
    exec (.yelucBlockRow t b blocks) s = .next (
      let s0 := s.at32 t
      if b = 4 ∧ s0.Hears b ∧ (s0.braid b).locked = true then
        ((s0.braid b).usedOf 4 (s0.rowRead b blocks).2).foldl (fun s m => s.takeTether 0 m) (s0.blockRow b blocks)
      else s0.blockRow b blocks) := by
  refine (need_eq _ (by simp [hb])).trans (congrArg _ ?_)
  by_cases h : b = 4
  · subst h
    simp only [State.Hears, and_assoc, Bool.not_eq_true']
    rfl
  · rw [if_neg (fun hc => h hc.1), if_neg (fun hc => h hc.1)]

end BlockRow

/-! ### Markers, the clock strand, the lock, restores and loops (03 R146–R157) -/

theorem exec_alignmentMarker_heard {s : State} {b strand header payload n : Nat} (skew : Nat) (hb : b < 5) (hs : strand < 9) (h : s.Hears b)
    (hm : markerOf strand header payload = some n) :
    exec (.alignmentMarker b strand header payload skew) s = .next (
      ((s.modBraid b (fun x => { x with strands := Tab.upd ({} : Strand) x.strands strand (fun y => y.marker n skew) })).judgeStrands
        b).tryLock b) := by
  obtain ⟨hon, hdeaf⟩ := h
  refine (need_eq _ (by simp [hb, hs])).trans (congrArg _ ?_)
  simp [hon, hdeaf, hm]

/-- A control code word that is no marker is ignored. -/
theorem exec_alignmentMarker_other (s : State) {b strand header payload : Nat} (skew : Nat) (hb : b < 5) (hs : strand < 9)
    (hm : markerOf strand header payload = none) : exec (.alignmentMarker b strand header payload skew) s = .next s := by
  refine (need_eq _ (by simp [hb, hs])).trans (congrArg _ ?_)
  simp [hm]

/-- The payload of a marker (R146): 0x4D, the strand, the count, and zeros. -/
theorem markerOf_marker {strand count : Nat} (hs : strand < 9) (hc : count < 65536) :
    markerOf strand 12 (0x4D + 256 * strand + 65536 * count) = some count := by
  unfold markerOf
  rw [if_pos (by omega), show (0x4D + 256 * strand + 65536 * count) / 65536 % 65536 = count by omega]

/-- A marker is counted on when it comes at its spacing with the next count, and is a first one otherwise (R146). -/
theorem Strand.marker_markers (x : Strand) (count skew : Nat) :
    (x.marker count skew).markers =
      if x.sinceMarker = some 16384 ∧ ∃ c, x.markerCount = some c ∧ (c + 1 + x.missedMarkers) % 65536 = count then x.markers + 1 else 1 := by
  unfold Strand.marker
  simp only [Bool.and_eq_true, beq_iff_eq, Option.any_eq_true]

/-- A restore that runs out of its time fails its BRAID_RESTRAND (R152). -/
theorem exec_restoreTimeout {s : State} {b q seq t : Nat} (hb : b < 5) (hr : (s.braid b).restoring = some (q, seq, t)) :
    exec (.restoreTimeout b) s = .next (
      ((s.reach t).modBraid b (fun x => { x with restoring := none, matched := 0 })).failOpt (some (q, seq)) 0x0302 0) := by
  refine (need_eq _ (by simp [hb])).trans (congrArg _ ?_)
  simp only [hr]

/-- A test loop ends at its time, and its BRAID_LOOPBACK completes with what the loop counted (R157). -/
theorem exec_loopbackEnd_running {s : State} {b : Nat} {run : LoopRun} {c : Cmd} (errors : List Nat) (hb : b < 5)
    (hl : (s.braid b).loop = some run) (hf : (s.reach run.stop).findCmd run.q run.seq = some c) :
    exec (.loopbackEnd b errors) s = .next (
      let s1 := (s.reach run.stop).modBraid b (fun x => { x with loop := none })
      let s2 := if c.u 28 4 = 0 then s1
        else s1.writeBuf c (c.u 20 8) ((List.range 10).map (fun i => leBytes 8 (errors.getD i 0))).flatten
      s2.ok c (min (if run.kind = 2 then run.returned else (errors.take 10).sum) 4294967295)) := by
  have hcmd : ((s.reach run.stop).modBraid b (fun x => { x with loop := none })).findCmd run.q run.seq = some c := hf
  refine (need_eq _ (by simp [hb])).trans (congrArg _ ?_)
  simp only [hl, hcmd]

theorem exec_loopbackEnd_none {s : State} {b : Nat} (errors : List Nat) (hb : b < 5) (hl : (s.braid b).loop = none) :
    exec (.loopbackEnd b errors) s = .next s := by
  refine (need_eq _ (by simp [hb])).trans (congrArg _ ?_)
  simp only [hl]

end Sys2Proof.Machine

namespace Sys2Proof

open Machine

/-- Settles O45: each event by whether its braid hears it, and by what the braid was doing. -/
theorem braidEventsAct : Obligations.BraidEventsAct := by
  refine ⟨fun t b blocks hb => ?row, fun b strand header payload skew hb hs => ?marker, fun strand count => markerOf_marker,
    fun x count skew => ⟨rfl, rfl, rfl, rfl, x.marker_markers count skew⟩, fun b hb => ?clock, fun b q seq t hb => ?restore,
    fun b errors run c hb => ?loop, fun b strand locked hb hs => ?lock⟩
  case row =>
    refine ⟨?deaf, ?unlocked, ?locked⟩
    case deaf =>
      intro s hdeaf
      have off : ¬(b = 4 ∧ (s.at32 t).Hears b ∧ ((s.at32 t).braid b).locked = true) := fun h => hdeaf h.2.1
      exact (exec_yelucBlockRow blocks s t hb).trans (congrArg _ ((if_neg off).trans (State.blockRow_deaf blocks hdeaf)))
    case unlocked =>
      rintro s ⟨hears, hl⟩
      have off : ¬(b = 4 ∧ (s.at32 t).Hears b ∧ ((s.at32 t).braid b).locked = true) := by simp [hl]
      exact (exec_yelucBlockRow blocks s t hb).trans
        (congrArg _ ((if_neg off).trans ((State.blockRow_heard blocks hears).trans (if_pos hl))))
    case locked =>
      rintro s ⟨hears, hl⟩
      have hu : ¬((s.at32 t).braid b).locked = false := by simp [hl]
      rw [exec_yelucBlockRow blocks s t hb]
      dsimp only
      rw [State.blockRow_heard blocks hears, if_neg hu]
      exact congrArg _ (if_congr (and_iff_left ⟨hears, hl⟩) rfl rfl)
  case marker =>
    exact ⟨fun n hm s hears => exec_alignmentMarker_heard skew hb hs hears hm, fun hm s _ => exec_alignmentMarker_other s skew hb hs hm⟩
  case clock =>
    have hok : decide (b < 5) = true := by simp [hb]
    refine ⟨answers_of_need hok (fun _ => rfl) fun s ⟨hon, hc, hdeaf⟩ => if_pos (by simp [hon, hc, hdeaf]),
      answers_of_need hok (fun _ => rfl) fun s hc => if_neg (by simp [hc]),
      answers_of_need hok (fun _ => rfl) fun s ⟨hon, hl⟩ => if_pos (by simp [hon, hl])⟩
  case restore =>
    intro s hr
    exact exec_restoreTimeout hb hr
  case loop =>
    exact ⟨fun s ⟨hl, hf⟩ => exec_loopbackEnd_running errors hb hl hf, fun s hl => exec_loopbackEnd_none errors hb hl⟩
  case lock =>
    have hok : (decide (b < 5) && decide (strand < 9)) = true := by simp [hb, hs]
    exact ⟨answers_of_need hok (fun _ => rfl) fun s ⟨hon, hdeaf⟩ => if_neg (by simp [hon, hdeaf]),
      answers_of_need hok (fun _ => rfl) fun s deaf => if_pos (by simpa using deaf)⟩

end Sys2Proof

/-! ## The taken commands, and what leaves them alone (02 R65, R69; 10 R444) -/

namespace Sys2Proof.Machine

open Sys2Proof

/-! ### The command of a SEQ -/

theorem State.findCmd_ident {s : State} {q seq : Nat} {c : Cmd} (h : s.findCmd q seq = some c) : c.q = q ∧ c.seq = seq := by
  simpa using List.find?_some h

theorem State.findCmd_congr {s t : State} (h : t.hif.cmds = s.hif.cmds) (q seq : Nat) : t.findCmd q seq = s.findCmd q seq := by
  unfold State.findCmd
  rw [h]

theorem State.mem_modCmd {s : State} {q seq : Nat} {f : Cmd → Cmd} {d : Cmd} :
    d ∈ (s.modCmd q seq f).hif.cmds ↔ ∃ e ∈ s.hif.cmds, (if e.q = q ∧ e.seq = seq then f e else e) = d := List.mem_map

/-- The first command that meets a test after a change of one: the changed one, when no other meets it. -/
theorem State.find?_modCmd {s : State} {q seq : Nat} {c : Cmd} {f : Cmd → Cmd} {p : Cmd → Bool} (h : s.findCmd q seq = some c)
    (hc : p (f c) = true) (others : ∀ d ∈ s.hif.cmds, ¬(d.q = q ∧ d.seq = seq) → p d = false) :
    (s.modCmd q seq f).hif.cmds.find? p = some (f c) := by
  obtain ⟨hid, before, after, hsplit, hbefore⟩ := List.find?_eq_some_iff_append.1 h
  have hid : c.q = q ∧ c.seq = seq := by simpa using hid
  refine List.find?_eq_some_iff_append.2 ⟨hc, before, after.map (fun d => if d.q = q ∧ d.seq = seq then f d else d), ?_, ?_⟩
  · have hsame : before.map (fun d => if d.q = q ∧ d.seq = seq then f d else d) = before :=
      (List.map_congr_left fun d hd => if_neg (by simpa [imp_iff_not_or] using hbefore d hd)).trans (List.map_id _)
    simp only [State.modCmd, hsplit, List.map_append, List.map_cons, hsame, if_pos hid]
  · intro d hd
    have hne : ¬(d.q = q ∧ d.seq = seq) := by simpa [imp_iff_not_or] using hbefore d hd
    simp [others d (by simp [hsplit, hd]) hne]

/-- A changed command is found where it was, when the change leaves its queue and SEQ. -/
theorem State.findCmd_modCmd {s : State} {q seq : Nat} {c : Cmd} {f : Cmd → Cmd} (h : s.findCmd q seq = some c) (hq : (f c).q = c.q)
    (hs : (f c).seq = c.seq) : (s.modCmd q seq f).findCmd q seq = some (f c) := by
  obtain ⟨rfl, rfl⟩ := State.findCmd_ident h
  exact State.find?_modCmd h (by simp [hq, hs]) fun d _ hd => by simpa using hd

/-- A command has left the taken ones at its outcome. -/
theorem State.findCmd_complete (s : State) (c : Cmd) (status detail : Nat) :
    (s.complete c status detail).findCmd c.q c.seq = none := by
  unfold State.findCmd
  rw [State.complete_cmds]
  simp [imp_iff_not_or]

/-- A command with the number of its COMMIT_NOTE, where one was sent. -/
def Cmd.withNote (n : Option Nat) (c : Cmd) : Cmd := n.elim c (fun n => { c with noted := some n })

/-- Of the taken commands a COMMIT_NOTE changes its own, and of that the number of the note. -/
theorem State.commitNote_cmds (s : State) (c : Cmd) (kind value tb status detail : Nat) :
    ∃ n, (s.commitNote c kind value tb status detail).hif = (s.modCmd c.q c.seq (Cmd.withNote n)).hif := by
  rcases s.commitNote_hif c kind value tb status detail with h | ⟨n, h⟩
  · refine ⟨none, ?_⟩
    have hmap : s.hif.cmds.map (fun d => if d.q = c.q ∧ d.seq = c.seq then Cmd.withNote none d else d) = s.hif.cmds :=
      (List.map_congr_left fun d _ => ite_self d).trans (List.map_id _)
    simp only [State.modCmd, hmap, h]
  · exact ⟨some n, h⟩

@[simp] theorem State.commitNote_comp (s : State) (c : Cmd) (kind value tb status detail : Nat) :
    (s.commitNote c kind value tb status detail).comp = s.comp := by
  obtain ⟨_, _, _, _, _, h⟩ := s.commitNote_startOnly c kind value tb status detail
  rw [h]

/-! ### Tests that no taken command meets -/

/-- No taken command meets a test. -/
def State.NoCmd (s : State) (p : Cmd → Bool) : Prop := ∀ d ∈ s.hif.cmds, p d = false

section NoCmd

variable {s t : State} {p : Cmd → Bool}

theorem State.NoCmd.find?_eq_none (h : s.NoCmd p) : s.hif.cmds.find? p = none :=
  List.find?_eq_none.2 fun d hd => by simp [h d hd]

theorem State.NoCmd.of_subset (h : s.NoCmd p) (hsub : t.hif.cmds ⊆ s.hif.cmds) : t.NoCmd p := fun d hd => h d (hsub hd)

/-- A change of one command keeps a test unmet that no other command meets and the changed one does not. -/
theorem State.noCmd_modCmd {q seq : Nat} {f : Cmd → Cmd} (others : ∀ d ∈ s.hif.cmds, ¬(d.q = q ∧ d.seq = seq) → p d = false)
    (hf : ∀ d ∈ s.hif.cmds, d.q = q ∧ d.seq = seq → p (f d) = false) : (s.modCmd q seq f).NoCmd p := by
  intro d hd
  obtain ⟨e, he, rfl⟩ := State.mem_modCmd.1 hd
  split
  · next hid => exact hf e he hid
  · next hid => exact others e he hid

theorem State.NoCmd.modCmd (h : s.NoCmd p) (q seq : Nat) {f : Cmd → Cmd} (hf : ∀ d, p d = false → p (f d) = false) :
    (s.modCmd q seq f).NoCmd p :=
  State.noCmd_modCmd (fun d hd _ => h d hd) fun d hd _ => hf d (h d hd)

theorem State.complete_cmds_subset (s : State) (c : Cmd) (status detail : Nat) : (s.complete c status detail).hif.cmds ⊆ s.hif.cmds := by
  rw [State.complete_cmds]
  exact List.filter_subset_self _

theorem State.NoCmd.complete (h : s.NoCmd p) (c : Cmd) (status detail : Nat) : (s.complete c status detail).NoCmd p :=
  h.of_subset (s.complete_cmds_subset c status detail)

theorem State.NoCmd.commitNote (h : s.NoCmd p) (hp : ∀ n d, p (Cmd.withNote n d) = p d) (c : Cmd) (kind value tb status detail : Nat) :
    (s.commitNote c kind value tb status detail).NoCmd p := by
  obtain ⟨n, hn⟩ := s.commitNote_cmds c kind value tb status detail
  have hmod : (s.modCmd c.q c.seq (Cmd.withNote n)).NoCmd p := h.modCmd _ _ fun d hd => (hp n d).trans hd
  exact hmod.of_subset (by rw [hn]; exact fun _ => id)

end NoCmd

/-! ### Events and counters -/

/-- `t` is `s` but for its counters, the host interface but for the taken commands, and what the device has sent. -/
def State.CountOnly (s t : State) : Prop := ∃ o h l, t = { s with obs := o, hif := h, out := l } ∧ h.cmds = s.hif.cmds

section CountOnly

variable {s t u : State}

theorem State.CountOnly.refl (s : State) : s.CountOnly s := ⟨s.obs, s.hif, s.out, rfl, rfl⟩
theorem State.CountOnly.trans (a : s.CountOnly t) (b : t.CountOnly u) : s.CountOnly u := by
  obtain ⟨o, h, l, rfl, hc⟩ := a
  obtain ⟨o', h', l', rfl, hc'⟩ := b
  exact ⟨o', h', l', rfl, hc'.trans hc⟩
theorem State.CountOnly.cmds (a : s.CountOnly t) : t.hif.cmds = s.hif.cmds := by
  obtain ⟨o, h, l, rfl, hc⟩ := a
  exact hc
theorem State.HostOnly.counts (a : s.HostOnly t) (hc : t.hif.cmds = s.hif.cmds) : s.CountOnly t := by
  obtain ⟨h, l, rfl⟩ := a
  exact ⟨s.obs, h, l, rfl, hc⟩

theorem State.foldl_countOnly {α : Type} {f : State → α → State} (h : ∀ (s : State) a, s.CountOnly (f s a)) (l : List α) (s : State) :
    s.CountOnly (l.foldl f s) :=
  List.foldlRecOn l f (.refl s) fun _ ht a _ => ht.trans (h _ a)

@[simp] theorem State.writeEvent_cmds (s : State) (e : EventRec) : (s.writeEvent e).hif.cmds = s.hif.cmds := by
  unfold State.writeEvent
  split
  · split
    · rfl
    · dsimp only
      split <;> simp [State.emit]
  · simp
@[simp] theorem State.raiseFor_cmds (s : State) (q code object d0 d1 : Nat) : (s.raiseFor q code object d0 d1).hif.cmds = s.hif.cmds := by
  unfold State.raiseFor
  split
  · rfl
  · dsimp only
    split
    · split <;> rfl
    · exact State.writeEvent_cmds _ _
theorem State.raise_countOnly (s : State) (code object d0 d1 : Nat) : s.CountOnly (s.raise code object d0 d1) :=
  (s.raise_hostOnly code object d0 d1).counts (s.raiseFor_cmds ..)

theorem State.modPmc_countOnly (s : State) (n : Nat) (f : Pmc → Pmc) : s.CountOnly (s.modPmc n f) := ⟨_, s.hif, s.out, rfl, rfl⟩
theorem State.pmcOverflow_countOnly (s : State) (n : Nat) : s.CountOnly (s.pmcOverflow n) := by
  unfold State.pmcOverflow
  split
  · exact .refl s
  · exact State.CountOnly.trans ⟨_, s.hif, s.out, rfl, rfl⟩ (State.raise_countOnly _ _ _ _ _)
theorem State.pmcAdd_countOnly (s : State) (n inc : Nat) : s.CountOnly (s.pmcAdd n inc) := by
  unfold State.pmcAdd
  dsimp only
  have count := State.modPmc_countOnly s n
  split
  · exact count _
  · split
    · split
      · have carry := fun f g => (count f).trans (State.modPmc_countOnly _ (n + 1) g)
        split
        · exact carry _ _
        · exact (carry _ _).trans (State.pmcOverflow_countOnly _ _)
      · exact count _
    · exact (count _).trans (State.pmcOverflow_countOnly _ _)
theorem State.happen_countOnly (s : State) (ev : Nat) (objects : List Nat) (qual leg inc : Nat) :
    s.CountOnly (s.happen ev objects qual leg inc) := by
  refine State.foldl_countOnly (fun s e => ?_) _ s
  split
  · exact State.pmcAdd_countOnly _ _ _
  · exact .refl _
theorem State.fabCycles_countOnly (s : State) (n : Nat) : s.CountOnly (s.fabCycles n) := by
  unfold State.fabCycles
  dsimp only
  refine (State.CountOnly.trans ⟨_, s.hif, s.out, rfl, rfl⟩
    (State.foldl_countOnly (fun s e => State.happen_countOnly s _ _ _ _ _) _ _)).trans (State.foldl_countOnly (fun s e => ?_) _ _)
  split
  · exact State.pmcAdd_countOnly _ _ _
  · exact .refl _

end CountOnly

/-- Time that passes leaves the taken commands alone. -/
@[simp] theorem State.advance_cmds (s : State) (n : Nat) : (s.advance n).hif.cmds = s.hif.cmds := by
  unfold State.advance
  split
  · exact (State.fabCycles_countOnly _ _).cmds
  · rfl
@[simp] theorem State.reach_cmds (s : State) (t : Nat) : (s.reach t).hif.cmds = s.hif.cmds := by
  unfold State.reach
  dsimp only
  split
  · exact State.advance_cmds _ _
  · rfl
/-! ### Writes to the pages of an owner -/

/-- `t` is `s` but for its memory, its counters, the host interface but for the taken commands, what the device has sent and the count of
free values. -/
def State.PageOnly (s t : State) : Prop :=
  ∃ m o h l f, t = { s with mem := m, obs := o, hif := h, out := l, free := f } ∧ h.cmds = s.hif.cmds

section PageOnly

variable {s t u : State}

theorem State.PageOnly.refl (s : State) : s.PageOnly s := ⟨s.mem, s.obs, s.hif, s.out, s.free, rfl, rfl⟩
theorem State.PageOnly.trans (a : s.PageOnly t) (b : t.PageOnly u) : s.PageOnly u := by
  obtain ⟨m, o, h, l, f, rfl, hc⟩ := a
  obtain ⟨m', o', h', l', f', rfl, hc'⟩ := b
  exact ⟨m', o', h', l', f', rfl, hc'.trans hc⟩
theorem State.CountOnly.page (a : s.CountOnly t) : s.PageOnly t := by
  obtain ⟨o, h, l, rfl, hc⟩ := a
  exact ⟨s.mem, o, h, l, s.free, rfl, hc⟩
theorem State.memory_pageOnly (s : State) (m : Mem) : s.PageOnly { s with mem := m } := ⟨m, s.obs, s.hif, s.out, s.free, rfl, rfl⟩
theorem State.foldl_pageOnly {α : Type} {f : State → α → State} (h : ∀ (s : State) a, s.PageOnly (f s a)) (l : List α) (s : State) :
    s.PageOnly (l.foldl f s) :=
  List.foldlRecOn l f (.refl s) fun _ ht a _ => ht.trans (h _ a)

theorem State.PageOnly.cmds (a : s.PageOnly t) : t.hif.cmds = s.hif.cmds := by
  obtain ⟨m, o, h, l, f, rfl, hc⟩ := a
  exact hc
theorem State.PageOnly.comp (a : s.PageOnly t) : t.comp = s.comp := by
  obtain ⟨m, o, h, l, f, rfl, -⟩ := a
  rfl
theorem State.PageOnly.twin (a : s.PageOnly t) : t.twin = s.twin := by
  obtain ⟨m, o, h, l, f, rfl, -⟩ := a
  rfl
theorem State.PageOnly.time (a : s.PageOnly t) : t.time = s.time := by
  obtain ⟨m, o, h, l, f, rfl, -⟩ := a
  rfl

theorem State.openRow_pageOnly (s : State) (ch ca : Nat) : s.PageOnly (s.openRow ch ca) := by
  unfold State.openRow
  dsimp only
  split
  · exact State.memory_pageOnly s _
  · exact (State.memory_pageOnly s _).trans (State.happen_countOnly _ _ _ _ _ _).page
theorem State.writeCopy_pageOnly (s : State) (page : Nat × Nat) (off w : Nat) : s.PageOnly (s.writeCopy page off w) := by
  unfold State.writeCopy
  dsimp only
  split
  · exact ((State.memory_pageOnly s _).trans (State.openRow_pageOnly _ _ _)).trans (State.happen_countOnly _ _ _ _ _ _).page
  · exact State.memory_pageOnly s _
theorem State.writePage_pageOnly (s : State) (page : Nat × Nat) (off w : Nat) : s.PageOnly (s.writePage page off w) := by
  unfold State.writePage
  split
  · exact (State.writeCopy_pageOnly s _ _ _).trans (State.writeCopy_pageOnly _ _ _ _)
  · exact State.writeCopy_pageOnly s _ _ _
theorem State.watchPage_pageOnly (s : State) (page : Nat × Nat) (off : Nat) : s.PageOnly (s.watchPage page off) :=
  State.foldl_pageOnly (fun s _ => State.memory_pageOnly s _) _ s
theorem State.ownWrite_pageOnly (s : State) (page : Nat × Nat) (off w : Nat) : s.PageOnly (s.ownWrite page off w) := by
  unfold State.ownWrite
  dsimp only
  have whole := (State.writePage_pageOnly s page off w).trans (State.watchPage_pageOnly _ page off)
  split
  · exact whole.trans (State.watchPage_pageOnly _ _ off)
  · exact whole
theorem State.ownerWrites_pageOnly (s : State) (owner : Nat) : s.PageOnly (s.ownerWrites owner) := by
  unfold State.ownerWrites State.ownerPuts
  dsimp only
  split
  · exact .refl s
  · have drawn : s.PageOnly s.draw.2 := ⟨s.mem, s.obs, s.hif, s.out, s.free + 1, rfl, rfl⟩
    exact drawn.trans (State.foldl_pageOnly (fun s _ => State.ownWrite_pageOnly s _ _ _) _ _)
theorem State.writeRegion_pageOnly (s : State) (r : Nat) (t : LampRegion) : s.PageOnly (s.writeRegion r t) :=
  State.foldl_pageOnly (fun s _ => State.foldl_pageOnly (fun s _ => State.ownWrite_pageOnly s _ _ _) _ s) _ s

end PageOnly

end Sys2Proof.Machine

/-! ## Composition (04): rejected commands and shadow state -/

namespace Sys2Proof.Machine

open Sys2Proof

theorem State.HostOnly.comp {s t : State} (a : s.HostOnly t) : t.comp = s.comp := by
  obtain ⟨h, o, rfl⟩ := a
  rfl
theorem State.StartOnly.comp {s t : State} (a : s.StartOnly t) : t.comp = s.comp := by
  obtain ⟨h, b, w, o, f, rfl⟩ := a
  rfl

@[simp] theorem State.answer_comp (s : State) (q : Nat) (h : Header) (dst : ReplyTo) (r : Reply) : (s.answer q h dst r).comp = s.comp :=
  (State.reply_hostOnly s q dst _).comp
@[simp] theorem State.take_comp (s : State) (q : Nat) (h : Header) (e : JEntry) : (s.take q h e).comp = s.comp := rfl
@[simp] theorem State.onReject_comp (s : State) (c : Cmd) (v : Nat × Nat) : (s.onReject c v).comp = s.comp := by
  unfold State.onReject
  split
  · rfl
  · split
    · unfold rejectBraidRestrand
      dsimp only
      split
      · exact (State.raiseFor_hostOnly s _ _ _ _ _).comp
      · rfl
    · rfl
@[simp] theorem State.sendCommand_comp (s : State) (pos : Nat) (packet : List Byte) : (s.sendCommand pos packet).comp = s.comp :=
  (State.tetherSend_tetherOnly _ 3 _).start.comp
@[simp] theorem State.replicateReject_comp (s : State) (c : Cmd) (v : Nat × Nat) : (s.replicateReject c v).comp = s.comp := by
  unfold State.replicateReject
  split
  · simp
  · rfl

/-- A rejection is journaled, posted or counted, sent to the peer and answered, and composes nothing (04 R196). -/
theorem State.rejectTaken_comp (s : State) (c : Cmd) (h : Header) (v : Nat × Nat) : (s.rejectTaken c h v).comp = s.comp := by
  simp [State.rejectTaken]

@[simp] theorem State.duplicate_comp (s : State) (q : Nat) (h : Header) (dst : ReplyTo) (e : JEntry) : (s.duplicate q h dst e).comp = s.comp := by
  have answered (status : Nat) : ((s.modQueue q (fun k => { k with expAlive := (h.alive + 1) % 256, anyAlive := false })).answer q h dst
      (s.acceptReply 3 status)).comp = s.comp := by simp
  unfold State.duplicate
  dsimp only
  split
  · split
    · exact answered _
    · exact (State.reply_hostOnly _ _ _ _).comp.trans (answered _)
  · exact answered _

/-- A packet that a check turns away, or that repeats another, composes nothing. -/
theorem State.receive_comp {s : State} {q : Nat} {b : List Byte} {dst : ReplyTo} {host : List Byte} {v : Nat × Nat}
    (h : s.checkTaken (cmdOf b s.hif.nextPos dst host) (headerOf b).clean (headerOf b).flags = some v) :
    (s.receive q b dst host).comp = s.comp := by
  unfold State.receive
  dsimp only
  split
  · simp
  · split
    · simp
    · split
      · simp
      · split
        · rw [h]
          exact State.rejectTaken_comp s _ _ v
        · split <;> simp

end Sys2Proof.Machine

namespace Sys2Proof

open Machine

/-- Settles O11: whichever check turns the packet away, its answer leaves composition alone. -/
theorem rejectedCommandsLeaveTheShadowState : Obligations.RejectedCommandsLeaveTheShadowState := by
  refine ⟨State.rejectTaken_comp, fun s q b dst host rejected => ?_⟩
  obtain ⟨v, hv⟩ := Option.ne_none_iff_exists'.1 rejected
  exact State.receive_comp hv

end Sys2Proof

/-! ## Composition (04): CANOPY_CONFIG, LAYER_SET, WALL_TILING and SCALER_COEFS -/

namespace Sys2Proof.Machine

open Sys2Proof

/-! ### CANOPY_CONFIG (04 R200, R696) -/

/-- The looks of a CANOPY_CONFIG go to shadow state, and to the active state of a canopy that is configured for the first time. -/
def State.takeLooks (c : Cmd) (s : State) : State :=
  let s1 := s.modCanopy c.idx (fun x => { x with configured := true, shadowLook := c.canopyLook })
  if (s.canopy c.idx).configured then s1 else s1.publishLook c.idx c.canopyLook

/-- A CANOPY_CONFIG leaves a running canopy's geometry as it is or is to be, and lets it run. -/
def Cmd.KeepsGeom (c : Cmd) (s : State) : Prop :=
  c.u 0 1 = 1 ∧ (s.canopy c.idx).nextGeom.getD (s.canopy c.idx).geom = c.canopyGeom ∧ (s.canopy c.idx).stopping = false

section CanopyConfig

variable {c : Cmd} {s : State} (hc : c.clearing = false)

include hc

/-- Without CLEARING only a first configuration publishes its looks. -/
theorem takeLooks_eq :
    (if (!(s.canopy c.idx).configured || c.clearing) = true then
        (s.modCanopy c.idx (fun x => { x with configured := true, shadowLook := c.canopyLook })).publishLook c.idx c.canopyLook
      else s.modCanopy c.idx (fun x => { x with configured := true, shadowLook := c.canopyLook })) = s.takeLooks c := by
  unfold State.takeLooks
  cases (s.canopy c.idx).configured <;> simp [hc]

theorem effCanopyConfig_stopped (hr : (s.canopy c.idx).running = false) :
    effCanopyConfig c s =
      let s1 := (s.takeLooks c).setGeom c.idx c.canopyGeom
      (if c.u 0 1 = 1 then s1.startCanopy c.idx else s1).ok c := by
  unfold effCanopyConfig
  dsimp only
  rw [takeLooks_eq hc, if_pos (by simp [hr])]

theorem effCanopyConfig_keeps (hr : (s.canopy c.idx).running = true) (hk : c.KeepsGeom s) :
    effCanopyConfig c s = ((s.takeLooks c).recharge c.idx).ok c := by
  obtain ⟨hrun, hgeom, hstop⟩ := hk
  unfold effCanopyConfig
  dsimp only
  rw [takeLooks_eq hc, if_neg (by simp [hr]), if_pos ⟨hrun, hgeom, by simp [hstop]⟩]

theorem effCanopyConfig_waits (hr : (s.canopy c.idx).running = true) (hk : ¬c.KeepsGeom s) :
    effCanopyConfig c s =
      (((s.takeLooks c).modCanopy c.idx (fun x => { x with
        nextGeom := some c.canopyGeom, stopping := decide (c.u 0 1 ≠ 1) })).recharge c.idx).modCmd c.q c.seq
          (fun d => { d with phase := .committed, armed := true }) := by
  unfold effCanopyConfig
  dsimp only
  rw [takeLooks_eq hc, if_neg (by simp [hr]), if_neg (by simpa [Cmd.KeepsGeom] using hk)]
  simp

end CanopyConfig

end Sys2Proof.Machine

namespace Sys2Proof

open Machine

/-- Settles O24, by whether the canopy runs and whether the command changes how. -/
theorem canopyConfigRuns : Obligations.CanopyConfigRuns := by
  have row : ∀ q seq s, exec (.canopyConfig q seq) s = opOut q (s.runOp 0x0301 q seq effCanopyConfig) := fun _ _ _ => rfl
  refine ⟨runsIf_of_eff row fun c s hc h => ?starts, runsIf_of_eff row fun c s hc h => ?configured,
    runsIf_of_eff row fun c s hc h => effCanopyConfig_keeps hc h.1 h.2, runsIf_of_eff row fun c s hc h => effCanopyConfig_waits hc h.1 h.2⟩
  case starts =>
    rw [effCanopyConfig_stopped hc h.1]
    exact congrArg (State.ok · c) (if_pos h.2)
  case configured =>
    rw [effCanopyConfig_stopped hc h.1]
    exact congrArg (State.ok · c) (if_neg h.2)

end Sys2Proof

namespace Sys2Proof.Machine

open Sys2Proof

/-! ### Charges and pages, and the end of a command that reserved some (11 R504) -/

/-- `t` is `s` but for its charges and its memory. -/
def State.ChargeOnly (s t : State) : Prop := ∃ cs m, t = { s with charges := cs, mem := m }

section ChargeOnly

variable {s t u : State}

theorem State.ChargeOnly.refl (s : State) : s.ChargeOnly s := ⟨s.charges, s.mem, rfl⟩
theorem State.ChargeOnly.trans (a : s.ChargeOnly t) (b : t.ChargeOnly u) : s.ChargeOnly u := by
  obtain ⟨cs, m, rfl⟩ := a
  obtain ⟨cs', m', rfl⟩ := b
  exact ⟨cs', m', rfl⟩
theorem State.ChargeOnly.comp (a : s.ChargeOnly t) : t.comp = s.comp := by
  obtain ⟨cs, m, rfl⟩ := a
  rfl
theorem State.ChargeOnly.hif (a : s.ChargeOnly t) : t.hif = s.hif := by
  obtain ⟨cs, m, rfl⟩ := a
  rfl

theorem State.recharge_chargeOnly (s : State) (k : Nat) : s.ChargeOnly (s.recharge k) := ⟨_, s.mem, rfl⟩
theorem State.rechargeAll_chargeOnly (s : State) (ks : List Nat) : s.ChargeOnly (ks.foldl State.recharge s) :=
  List.foldlRecOn ks State.recharge (.refl s) fun _ ht k _ => ht.trans (State.recharge_chargeOnly _ k)
theorem State.reslot_chargeOnly (s : State) (owner slot slot' : Nat) : s.ChargeOnly (s.reslot owner slot slot') := ⟨_, _, rfl⟩
theorem State.releaseSlot_chargeOnly (s : State) (owner slot : Nat) : s.ChargeOnly (s.releaseSlot owner slot) := ⟨_, _, rfl⟩
theorem State.settleCharges_chargeOnly (s : State) (pos : Nat) : s.ChargeOnly (s.settleCharges pos) := ⟨_, s.mem, rfl⟩
theorem State.takePair_chargeOnly (s : State) (c : Cmd) (n : LayerCfg) : s.ChargeOnly (s.takePair c n) := by
  unfold State.takePair
  extract_lets i own s1 held s2 cs rs
  have reserved : s.ChargeOnly s1 := by
    unfold s1
    split
    · exact .refl s
    · exact ⟨_, _, rfl⟩
  have placed : s1.ChargeOnly s2 := by
    unfold s2
    split
    · exact State.reslot_chargeOnly _ _ _ _
    · exact State.releaseSlot_chargeOnly _ _ _
  exact (reserved.trans placed).trans (State.ChargeOnly.trans ⟨cs, _, rfl⟩ (State.settleCharges_chargeOnly _ _))

end ChargeOnly

@[simp] theorem State.finish_comp (s : State) (c : Cmd) (detail : Nat) : (s.finish c detail).comp = s.comp := by
  unfold State.finish
  split
  · rfl
  · exact State.ok_comp _ _ _

/-- The end of a command gives a test no command that meets it. -/
theorem State.NoCmd.finish {s : State} {p : Cmd → Bool} (h : s.NoCmd p)
    (hp : ∀ d, p d = false → ∀ detail, p { d with phase := .committed, result := detail, clearOf := none } = false) (c : Cmd) (detail : Nat) :
    (s.finish c detail).NoCmd p := by
  unfold State.finish
  split
  · exact h.modCmd _ _ fun d hd => hp d hd detail
  · exact State.NoCmd.complete (s := s.settlePages c.q c.seq) h c 2 detail

/-! ### Uploads that end (04 R697) -/

/-- The commands that a row of outcomes leaves are taken ones that had none of them. -/
theorem State.mem_completeAll {cs : List Cmd} {status detail : Nat} {s : State} {d : Cmd}
    (h : d ∈ (cs.foldl (fun s c => s.complete c status detail) s).hif.cmds) : d ∈ s.hif.cmds ∧ d ∉ cs := by
  induction cs generalizing s with
  | nil => exact ⟨h, List.not_mem_nil⟩
  | cons c cs ih =>
    obtain ⟨hd, hne⟩ := ih h
    rw [State.complete_cmds] at hd
    obtain ⟨hd, hid⟩ := List.mem_filter.1 hd
    refine ⟨hd, fun hm => (List.mem_cons.1 hm).elim ?_ hne⟩
    rintro rfl
    simp at hid

@[simp] theorem State.completeAll_comp (cs : List Cmd) (status detail : Nat) (s : State) :
    (cs.foldl (fun s c => s.complete c status detail) s).comp = s.comp :=
  List.foldlRecOn cs _ (motive := fun t => State.comp t = s.comp) rfl fun _ ht _ _ => (State.complete_comp _ _ _ _).trans ht

/-- A LAYER_UPLOAD of a layer. -/
def Cmd.uploadsTo (i : Nat) (c : Cmd) : Bool := c.opcode = 0x0303 && c.layerIdx = i

theorem State.endUploads_noCmd (s : State) (i : Nat) : (s.endUploads i).NoCmd (Cmd.uploadsTo i) := by
  intro d hd
  obtain ⟨hs, hne⟩ := State.mem_completeAll (d := d) hd
  exact Bool.eq_false_iff.2 fun hu => hne (List.mem_filter.2 ⟨hs, hu⟩)

theorem State.layer_congr {s t : State} (h : t.comp = s.comp) (i : Nat) : t.layer i = s.layer i := by
  unfold State.layer
  rw [h]
theorem State.canopy_congr {s t : State} (h : t.comp = s.comp) (k : Nat) : t.canopy k = s.canopy k := by
  unfold State.canopy
  rw [h]

theorem State.endUploads_layer (s : State) (i j : Nat) :
    (s.endUploads i).layer j = if j = i then { s.layer i with uploading := none } else s.layer j := by
  unfold State.endUploads
  dsimp only
  rw [State.layer_modLayer, State.layer_congr (State.completeAll_comp _ _ _ _), State.layer_congr (State.completeAll_comp _ _ _ _)]
theorem State.endUploads_canopies (s : State) (i : Nat) : (s.endUploads i).comp.canopies = s.comp.canopies := by
  have ended := congrArg Compose.canopies (State.completeAll_comp (s.hif.cmds.filter (fun c => c.opcode = 0x0303 && c.layerIdx = i)) 5 0 s)
  exact ended

/-! ### LAYER_SET (04 R171, R176, R200, R697) -/

/-- A LAYER_SET asks for a graphic layer's buffers at another size or format, or gives up the pair that waits. -/
def Cmd.MovesBuffers (c : Cmd) (s : State) : Prop :=
  let n := c.layerCfg (s.layer c.layerIdx).shadow
  32 ≤ c.layerIdx ∧ ((n.canopy ≠ none ∧ n.gfxGeom ≠ (s.layer c.layerIdx).uploadGeom) ∨
    (n.canopy = none ∧ (s.layer c.layerIdx).newPair ≠ none))

/-- A LAYER_SET exchanges the pair that waits, and ends the layer's uploads. -/
def State.exchangePair (c : Cmd) (s : State) : State :=
  let n := c.layerCfg (s.layer c.layerIdx).shadow
  (((s.uncharge (fun x => x.owner = layerId c.layerIdx && x.slot = 3 && x.pos = c.pos)).takePair c n).modLayer c.layerIdx (fun l =>
    { l with newPair := if n.canopy.isSome then some [] else none, pending := false, backOf := none })).endUploads c.layerIdx

/-- The new settings of a layer enter shadow state, the canopies that it leaves and joins are charged anew, and the command ends. -/
def State.setShadow (c : Cmd) (n old : LayerCfg) (s : State) : State :=
  let s1 := (([n.canopy, old.canopy].filterMap (fun o => o)).dedup).foldl State.recharge
    (s.modLayer c.layerIdx (fun l => { l with shadow := n }))
  s1.finish c (b2n (s1.deferred c.layerIdx n Canopy.shadowLamp))

section LayerSet

variable {c : Cmd} {s : State} (hc : c.clearing = false)

theorem movesBuffers_iff :
    (decide (32 ≤ c.layerIdx) && (if (c.layerCfg (s.layer c.layerIdx).shadow).canopy.isSome then
        (c.layerCfg (s.layer c.layerIdx).shadow).gfxGeom != (s.layer c.layerIdx).uploadGeom
      else (s.layer c.layerIdx).newPair.isSome)) = true ↔ c.MovesBuffers s := by
  unfold Cmd.MovesBuffers
  dsimp only
  cases (c.layerCfg (s.layer c.layerIdx).shadow).canopy <;> simp [Option.isSome_iff_ne_none]

include hc

theorem effLayerSet_stays (h : ¬c.MovesBuffers s) :
    effLayerSet c s = ((s.uncharge (fun x => x.owner = layerId c.layerIdx && x.slot = 3 && x.pos = c.pos)).dropPair c).setShadow c
      (c.layerCfg (s.layer c.layerIdx).shadow) (s.layer c.layerIdx).shadow := by
  unfold effLayerSet
  dsimp only
  simp only [Bool.eq_false_iff.2 (mt movesBuffers_iff.1 h), hc, Bool.not_false, if_true, Bool.false_eq_true, if_false]
  rfl

theorem effLayerSet_moves (h : c.MovesBuffers s) :
    effLayerSet c s = (s.exchangePair c).setShadow c (c.layerCfg (s.layer c.layerIdx).shadow) (s.layer c.layerIdx).shadow := by
  unfold effLayerSet
  dsimp only
  simp only [movesBuffers_iff.2 h, hc, Bool.not_true, Bool.false_eq_true, if_false]
  rfl

end LayerSet

theorem State.setShadow_comp (c : Cmd) (n old : LayerCfg) (s : State) :
    (s.setShadow c n old).comp = (s.modLayer c.layerIdx (fun l => { l with shadow := n })).comp := by
  unfold State.setShadow
  exact (State.finish_comp _ _ _).trans (State.rechargeAll_chargeOnly _ _).comp
theorem State.NoCmd.setShadow {s : State} {i : Nat} (h : s.NoCmd (Cmd.uploadsTo i)) (c : Cmd) (n old : LayerCfg) :
    (s.setShadow c n old).NoCmd (Cmd.uploadsTo i) := by
  unfold State.setShadow
  refine State.NoCmd.finish (State.NoCmd.of_subset h ?_) (fun d hd _ => hd) c _
  rw [(State.rechargeAll_chargeOnly _ _).hif]
  exact fun _ => id

theorem State.exchangePair_layer (c : Cmd) (s : State) (j : Nat) :
    (s.exchangePair c).layer j = if j = c.layerIdx then
      { s.layer c.layerIdx with
        newPair := if (c.layerCfg (s.layer c.layerIdx).shadow).canopy.isSome then some [] else none
        pending := false, backOf := none, uploading := none }
    else s.layer j := by
  have taken := fun p n => State.layer_congr (s := s) (State.takePair_chargeOnly (s.uncharge p) c n).comp
  simp only [State.exchangePair, State.endUploads_layer, State.layer_modLayer, taken, if_true]
  split <;> rfl
theorem State.exchangePair_canopies (c : Cmd) (s : State) : (s.exchangePair c).comp.canopies = s.comp.canopies := by
  have taken := fun p n => congrArg Compose.canopies (State.takePair_chargeOnly (s.uncharge p) c n).comp
  exact (State.endUploads_canopies _ _).trans (taken _ _)

/-- What a LAYER_SET that moves a graphic layer's buffers does to composition and to the layer's uploads. -/
theorem effLayerSet_moves_spec {c : Cmd} {s : State} (hc : c.clearing = false) (h : c.MovesBuffers s) :
    (effLayerSet c s).comp.canopies = s.comp.canopies ∧
    (∀ j, (effLayerSet c s).layer j = if j = c.layerIdx then
      { s.layer c.layerIdx with
        shadow := c.layerCfg (s.layer c.layerIdx).shadow
        newPair := if (c.layerCfg (s.layer c.layerIdx).shadow).canopy = none then none else some []
        pending := false, backOf := none, uploading := none }
      else s.layer j) ∧
    (effLayerSet c s).NoCmd (Cmd.uploadsTo c.layerIdx) := by
  rw [effLayerSet_moves hc h]
  refine ⟨?canopies, fun j => ?layer, (State.endUploads_noCmd _ _).setShadow c _ _⟩
  case canopies =>
    rw [State.setShadow_comp]
    exact State.exchangePair_canopies c s
  case layer =>
    rw [State.layer_congr (State.setShadow_comp _ _ _ _), State.layer_modLayer, State.exchangePair_layer, State.exchangePair_layer, if_pos rfl]
    split
    · cases (c.layerCfg (s.layer c.layerIdx).shadow).canopy <;> rfl
    · rfl

end Sys2Proof.Machine

namespace Sys2Proof

open Machine

/-- Settles O25, a LAYER_SET by whether it moves the buffers of its layer. -/
theorem layerCommandsRun : Obligations.LayerCommandsRun := by
  have row : ∀ q seq s, exec (.layerSet q seq) s = opOut q (s.runOp 0x0302 q seq effLayerSet) := fun _ _ _ => rfl
  refine ⟨runsIf_of_eff row fun c s hc h => effLayerSet_stays hc h, fun s c hs h => ?moves, runs_of_eff fun _ _ _ => rfl,
    runs_of_eff_eq (eff := effScalerCoefs) (fun _ _ _ => rfl) fun c s hc => ?coefs⟩
  case moves =>
    have hc : c.begun.clearing = false := hs.2.1
    obtain ⟨canopies, layer, uploads⟩ := effLayerSet_moves_spec hc h
    refine ⟨_, runs_of_eff row s c hs, ?_⟩
    have hcomp := (State.noteOutcome_startOnly (effLayerSet c.begun (s.begun c)) c.begun 0 0).comp
    refine ⟨(congrArg Compose.canopies hcomp).trans canopies, ?_, fun j hj => ?_, fun d hd hu => ?_⟩
    · rw [State.layer_congr hcomp, layer]
      exact if_pos rfl
    · rw [State.layer_congr hcomp, layer]
      exact if_neg hj
    · have hu : d.opcode = 0x0303 ∧ d.layerIdx = c.begun.layerIdx := hu
      have none_left := uploads.commitNote (fun n d => by cases n <;> rfl) c.begun 0 0 0 _ _ d hd
      exact Bool.eq_false_iff.1 none_left (by simpa [Cmd.uploadsTo] using hu)
  case coefs => simp [effScalerCoefs, hc]

end Sys2Proof

/-! ## Composition (04): LAYER_UPLOAD, COMMIT, LAMP_TABLE_LOAD, and UPDATE_DATA (15) -/

namespace Sys2Proof.Machine

open Sys2Proof

/-- The row of an opcode that times its own effect, given a command that starts. -/
theorem exec_selfTimed {row : Nat → Nat → Instr} {code : Nat} {eff : Cmd → State → State}
    (h : ∀ q seq s, exec (row q seq) s = opOut q (s.runSelfTimed code q seq eff)) {s : State} {c : Cmd} (hs : s.Starts c code) :
    exec (row c.q c.seq) s = .next (eff c.begun (s.begun c)) := by
  rw [h, runSelfTimed_starts hs]
  exact need_eq _ hs.1

theorem State.Starts.findCmd_begun {s : State} {c : Cmd} {code : Nat} (hs : s.Starts c code) :
    (s.begun c).findCmd c.q c.seq = some c.begun := State.findCmd_modCmd hs.2.1 rfl rfl

/-- A command that starts is the only one that a test finds, when the test finds none of those that have started before. -/
theorem State.Starts.find?_begun {s : State} {c : Cmd} {code : Nat} (hs : s.Starts c code) {p : Cmd → Bool} (hc : p c.begun = true)
    (others : ∀ d ∈ s.hif.cmds, p d = false) : (s.begun c).hif.cmds.find? p = some c.begun :=
  State.find?_modCmd hs.2.1 hc fun d hd _ => others d hd

/-! ### The next upload of a layer, the next load of a canopy (04 R217, R220, R227) -/

/-- A LAYER_UPLOAD of a layer that has started and whose data has not arrived. -/
def Cmd.nextUpload (i : Nat) (c : Cmd) : Bool := c.opcode = 0x0303 && c.layerIdx = i && c.phase == .started && !c.armed
/-- A LAMP_TABLE_LOAD of a canopy that has started and whose entries have not arrived. -/
def Cmd.nextLoad (k : Nat) (c : Cmd) : Bool := c.opcode = 0x0305 && c.idx = k && c.phase == .started && !c.armed

theorem Cmd.nextUpload_iff {i : Nat} {c : Cmd} :
    c.nextUpload i = true ↔ c.opcode = 0x0303 ∧ c.layerIdx = i ∧ c.phase = .started ∧ c.armed = false := by
  simp [Cmd.nextUpload, and_assoc]
theorem Cmd.nextLoad_iff {k : Nat} {c : Cmd} :
    c.nextLoad k = true ↔ c.opcode = 0x0305 ∧ c.idx = k ∧ c.phase = .started ∧ c.armed = false := by
  simp [Cmd.nextLoad, and_assoc]
theorem Cmd.nextUpload_eq_false {i : Nat} {c : Cmd} (h : c.opcode = 0x0303 → c.layerIdx = i → c.phase = .started → c.armed = true) :
    c.nextUpload i = false := by
  refine Bool.eq_false_iff.2 fun hn => ?_
  obtain ⟨ho, hi, hp, ha⟩ := Cmd.nextUpload_iff.1 hn
  simp [h ho hi hp] at ha
theorem Cmd.nextLoad_eq_false {k : Nat} {c : Cmd} (h : c.opcode = 0x0305 → c.idx = k → c.phase = .started → c.armed = true) :
    c.nextLoad k = false := by
  refine Bool.eq_false_iff.2 fun hn => ?_
  obtain ⟨ho, hi, hp, ha⟩ := Cmd.nextLoad_iff.1 hn
  simp [h ho hi hp] at ha

/-- A layer whose next upload begins, into the new pair or the back buffer. -/
def Layer.beginUpload (d : Cmd) (l : Layer) : Layer :=
  let l1 := { l with uploading := some (d.q, d.seq), pending := false, backOf := none, before := some (l.newPair.getD l.back, l.pending) }
  match l.newPair with
  | some b => { l1 with newPair := some (if d.u 20 1 = 1 then [] else b) }
  | none => { l1 with back := if d.u 20 1 = 1 then l.front else l.back }

section Kick

variable {s : State} {i k : Nat} {d : Cmd}

theorem State.kickUpload_begins (hf : s.hif.cmds.find? (Cmd.nextUpload i) = some d) (hu : (s.layer i).uploading = none)
    (ha : s.uploadArmed i = false) (hg : (s.layer i).uploadGeom ≠ none) : s.kickUpload i = s.modLayer i (Layer.beginUpload d) := by
  obtain ⟨geom, hg⟩ := Option.ne_none_iff_exists'.1 hg
  have hf : s.hif.cmds.find? (fun c => c.opcode = 0x0303 && c.layerIdx = i && c.phase == .started && !c.armed) = some d := hf
  simp only [State.kickUpload, hf, hu, ha, hg, Option.isSome_none, Bool.false_eq_true, or_self, if_false]
  rfl
theorem State.kickUpload_none (h : s.NoCmd (Cmd.nextUpload i)) : s.kickUpload i = s := by
  have hf : s.hif.cmds.find? (fun c => c.opcode = 0x0303 && c.layerIdx = i && c.phase == .started && !c.armed) = none := h.find?_eq_none
  simp only [State.kickUpload, hf]
theorem State.kickUpload_canopies (s : State) (i : Nat) : (s.kickUpload i).comp.canopies = s.comp.canopies := by
  unfold State.kickUpload
  dsimp only
  split
  · rfl
  · split
    · rfl
    · split
      · exact congrArg Compose.canopies (State.complete_comp _ _ _ _)
      · rfl

theorem State.kickLoad_begins (hf : s.hif.cmds.find? (Cmd.nextLoad k) = some d) (hl : (s.canopy k).loading = none) :
    s.kickLoad k = s.modCanopy k (fun x => { x with loading := some (d.q, d.seq) }) := by
  have hf : s.hif.cmds.find? (fun c => c.opcode = 0x0305 && c.idx = k && c.phase == .started && !c.armed) = some d := hf
  simp only [State.kickLoad, hf, hl, Option.isSome_none, Bool.false_eq_true, if_false]
theorem State.kickLoad_none (h : s.NoCmd (Cmd.nextLoad k)) : s.kickLoad k = s := by
  have hf : s.hif.cmds.find? (fun c => c.opcode = 0x0305 && c.idx = k && c.phase == .started && !c.armed) = none := h.find?_eq_none
  simp only [State.kickLoad, hf]

end Kick

/-! ### The copies of a COMMIT (04 R201, R206) -/

/-- `t` is `s` but for composition. -/
def State.CompOnly (s t : State) : Prop := ∃ x, t = { s with comp := x }

theorem State.CompOnly.trans {s t u : State} (a : s.CompOnly t) (b : t.CompOnly u) : s.CompOnly u := by
  obtain ⟨x, rfl⟩ := a
  obtain ⟨y, rfl⟩ := b
  exact ⟨y, rfl⟩
theorem State.foldl_compOnly {α : Type} {f : State → α → State} (h : ∀ (s : State) a, s.CompOnly (f s a)) (l : List α) (s : State) :
    s.CompOnly (l.foldl f s) :=
  List.foldlRecOn l f ⟨s.comp, rfl⟩ fun _ ht a _ => ht.trans (h _ a)

/-- The layers whose completed uploads a copy takes with it change nothing of the canopies. -/
theorem State.clearPending_canopies (l : List Nat) (s : State) :
    (l.foldl (fun s i => s.modLayer i (fun l => { l with pending := false })) s).comp.canopies = s.comp.canopies :=
  List.foldlRecOn l _ (motive := fun t : State => t.comp.canopies = s.comp.canopies) rfl fun _ ht _ _ => ht

theorem State.canopy_of_canopies {s t : State} (h : t.comp.canopies = s.comp.canopies) (k : Nat) : t.canopy k = s.canopy k := by
  unfold State.canopy
  rw [h]

theorem State.takeCopy_look (s : State) (k : Nat) : (s.takeCopy k).1.look = (s.canopy k).shadowLook := rfl
theorem State.takeCopy_of (s : State) (k : Nat) : (s.takeCopy k).1.canopy = k := rfl
theorem State.takeCopy_canopy (s : State) (k j : Nat) :
    (s.takeCopy k).2.canopy j = if j = k then { s.canopy k with staged := [] } else s.canopy j := by
  have copied := State.clearPending_canopies ((s.bound k).filter (fun i => decide (32 ≤ i))) (s.modCanopy k (fun c => { c with staged := [] }))
  exact (State.canopy_of_canopies copied j).trans (State.canopy_modCanopy s k j _)
theorem State.takeCopy_compOnly (s : State) (k : Nat) : s.CompOnly (s.takeCopy k).2 :=
  State.CompOnly.trans ⟨_, rfl⟩ (State.foldl_compOnly (fun _ _ => ⟨_, rfl⟩) _ _)

/-- A canopy keeps the copy of its shadow state that a COMMIT takes. -/
def State.holdCopy (c : Cmd) (s : State) (k : Nat) : State :=
  (s.takeCopy k).2.modCanopy k (fun x => { x with copies := x.copies ++ [(c.q, c.seq, (s.takeCopy k).1)] })

theorem State.holdCopy_canopy (c : Cmd) (s : State) (k j : Nat) :
    (s.holdCopy c k).canopy j = if j = k then
      { s.canopy k with staged := [], copies := (s.canopy k).copies ++ [(c.q, c.seq, (s.takeCopy k).1)] }
    else s.canopy j := by
  unfold State.holdCopy
  rw [State.canopy_modCanopy, State.takeCopy_canopy, State.takeCopy_canopy, if_pos rfl]
  split <;> rfl

/-- Each canopy that a COMMIT names holds its copy, and shadow looks stay. -/
theorem State.holdCopies_canopy (c : Cmd) (ks : List Nat) (s : State) :
    (∀ j, ((ks.foldl (State.holdCopy c) s).canopy j).shadowLook = (s.canopy j).shadowLook) ∧
    (∀ j, (s.canopy j).copies ⊆ ((ks.foldl (State.holdCopy c) s).canopy j).copies) ∧
    (∀ k ∈ ks, ∃ copy, (c.q, c.seq, copy) ∈ ((ks.foldl (State.holdCopy c) s).canopy k).copies ∧
      copy.look = (s.canopy k).shadowLook) := by
  induction ks generalizing s with
  | nil => exact ⟨fun _ => rfl, fun _ _ => id, fun _ hk => absurd hk List.not_mem_nil⟩
  | cons k ks ih =>
    obtain ⟨look, grows, held⟩ := ih (s.holdCopy c k)
    have look1 (j : Nat) : ((s.holdCopy c k).canopy j).shadowLook = (s.canopy j).shadowLook := by
      rw [State.holdCopy_canopy]
      split
      · next h => rw [h]
      · rfl
    refine ⟨fun j => (look j).trans (look1 j), fun j x hx => grows j ?_, fun j hj => ?_⟩
    · rw [State.holdCopy_canopy]
      split
      · next h => exact List.mem_append_left _ (h ▸ hx)
      · exact hx
    · by_cases hjk : j = k
      · subst hjk
        refine ⟨(s.takeCopy j).1, grows j ?_, State.takeCopy_look s j⟩
        rw [State.holdCopy_canopy, if_pos rfl]
        exact List.mem_append_right _ (List.mem_singleton_self _)
      · obtain ⟨copy, hmem, hlook⟩ := held j ((List.mem_cons.1 hj).resolve_left hjk)
        exact ⟨copy, hmem, hlook.trans (look1 j)⟩
theorem State.holdCopies_compOnly (c : Cmd) (ks : List Nat) (s : State) : s.CompOnly (ks.foldl (State.holdCopy c) s) :=
  State.foldl_compOnly (fun s k => (State.takeCopy_compOnly s k).trans ⟨_, rfl⟩) ks s

/-- The active and the shadow look of a canopy. -/
def State.looks (s : State) (k : Nat) : CanopyLook × CanopyLook := ((s.canopy k).look, (s.canopy k).shadowLook)

theorem State.looks_congr {s t : State} (h : t.comp.canopies = s.comp.canopies) (k : Nat) : t.looks k = s.looks k := by
  simp only [State.looks, State.canopy_of_canopies h]
theorem State.publishLook_looks (s : State) (k : Nat) (l : CanopyLook) (j : Nat) :
    (s.publishLook k l).looks j = if j = k then (l, (s.canopy k).shadowLook) else s.looks j := by
  have published : (s.modCanopy k (fun c => { c with look := l })).looks j = if j = k then (l, (s.canopy k).shadowLook) else s.looks j := by
    simp only [State.looks, State.canopy_modCanopy]
    split <;> rfl
  unfold State.publishLook
  dsimp only
  split
  · rw [← published]
    generalize s.modCanopy k (fun c => { c with look := l }) = t
    have dropped (n m : Nat) : (t.dropBlocks k n).canopy m = t.canopy m := rfl
    simp only [State.looks, State.canopy_modCanopy, dropped]
    split
    · next h => rw [h]
    · rfl
  · exact published
theorem State.leaveFallback_canopies (s : State) (i g : Nat) : (s.leaveFallback i g).comp.canopies = s.comp.canopies := by
  unfold State.leaveFallback
  dsimp only
  split
  · rw [State.raise_comp]
    rfl
  · rfl
/-- A layer is published without a change of the canopies. -/
theorem State.publishLayer_canopies (s : State) (i : Nat) (cfg : LayerCfg) (pair : Option GfxBuf) (slot : Nat) (upload : Bool) (g : Nat) :
    (s.publishLayer i cfg pair slot upload g).comp.canopies = s.comp.canopies := by
  unfold State.publishLayer
  extract_lets old id s1 replaced s2 s3 s5 s4
  have left : s1.comp.canopies = s.comp.canopies := by
    unfold s1
    split
    · exact State.leaveFallback_canopies _ _ _
    · rfl
  have placed : s3.comp.canopies = s2.comp.canopies := by
    unfold s3
    split <;> rfl
  have ended : s4.comp.canopies = s3.comp.canopies := by
    unfold s4
    split
    · split
      · exact State.endUploads_canopies s5 i
      · rfl
    · rfl
  calc (s4.kickUpload i).comp.canopies = s4.comp.canopies := State.kickUpload_canopies s4 i
    _ = s2.comp.canopies := ended.trans placed
    _ = s.comp.canopies := left

/-- A copy that takes effect gives its canopy its look. -/
theorem State.applyCopy_looks (s : State) (x : CommitCopy) (g j : Nat) :
    (s.applyCopy x g).looks j = if j = x.canopy then (x.look, (s.canopy x.canopy).shadowLook) else s.looks j := by
  have swapped (m : Nat) : (s.swapRegions x.canopy x.regions).looks m = s.looks m := by
    unfold State.swapRegions State.looks
    dsimp only
    rw [State.canopy_modCanopy]
    split
    · next h => rw [h]; rfl
    · rfl
  unfold State.applyCopy
  extract_lets s1 s2
  have layers : s2.comp.canopies = s1.comp.canopies :=
    List.foldlRecOn x.layers _ (motive := fun t : State => t.comp.canopies = s1.comp.canopies) rfl
      fun _ ht _ _ => (State.publishLayer_canopies _ _ _ _ _ _ _).trans ht
  calc (s2.recharge x.canopy).looks j = s1.looks j := State.looks_congr layers j
    _ = if j = x.canopy then (x.look, ((s.swapRegions x.canopy x.regions).canopy x.canopy).shadowLook)
          else (s.swapRegions x.canopy x.regions).looks j := State.publishLook_looks _ _ _ _
    _ = if j = x.canopy then (x.look, (s.canopy x.canopy).shadowLook) else s.looks j := by
      rw [swapped, show ((s.swapRegions x.canopy x.regions).canopy x.canopy).shadowLook = _ from congrArg Prod.snd (swapped x.canopy)]
      rfl

/-- A canopy's shadow state is copied and takes effect at once. -/
def State.publishCopy (s : State) (k : Nat) : State := (s.takeCopy k).2.applyCopy (s.takeCopy k).1 s.now

theorem State.publishCopy_looks (s : State) (k j : Nat) :
    (s.publishCopy k).looks j = if j = k then ((s.canopy k).shadowLook, (s.canopy k).shadowLook) else s.looks j := by
  unfold State.publishCopy
  rw [State.applyCopy_looks, State.takeCopy_of, State.takeCopy_look, State.takeCopy_canopy, if_pos rfl]
  split
  · rfl
  · next h => simp only [State.looks, State.takeCopy_canopy, if_neg h]
theorem State.publishCopies_looks (ks : List Nat) (s : State) (j : Nat) :
    (ks.foldl State.publishCopy s).looks j = if j ∈ ks then ((s.canopy j).shadowLook, (s.canopy j).shadowLook) else s.looks j := by
  induction ks generalizing s with
  | nil => simp
  | cons k ks ih =>
    have shadow : ((s.publishCopy k).canopy j).shadowLook = (s.canopy j).shadowLook := by
      refine (congrArg Prod.snd (State.publishCopy_looks s k j)).trans ?_
      split
      · next h => rw [h]
      · rfl
    rw [List.foldl_cons, ih, shadow, State.publishCopy_looks]
    by_cases hk : j = k
    · simp [hk]
    · simp [hk]

/-! ### COMMIT (04 R201–R204) -/

section Commit

variable {s : State} {c : Cmd}

/-- The grid instant at which a COMMIT's canopies clear together. -/
def State.commitInstant (s : State) (c : Cmd) : Nat := c.commitCanopies.foldl (fun m k => max m (s.nextClearing k (c.q != 15))) 0

/-- A command past its commit point that waits for an instant. -/
def Cmd.waitsUntil (at_ : Nat) (c : Cmd) : Cmd := { c with phase := .committed, armed := true, notBefore := some at_ }

theorem State.armCommit_running (h : c.commitCanopies.any (fun k => (s.canopy k).running) = true) :
    s.armCommit c =
      let s1 := (c.commitCanopies.foldl (State.holdCopy c) s).modCmd c.q c.seq (Cmd.waitsUntil (max (s.commitInstant c) (s.now + 1)))
      if c.effTime = 0 then s1.commitNote c 1 (s.commitInstant c % two32) 0 2 0 else s1.commitNote c 2 c.effTime c.effTb 2 0 :=
  if_pos h

theorem State.armCommit_stopped (h : c.commitCanopies.any (fun k => (s.canopy k).running) = false) :
    s.armCommit c = (c.commitCanopies.foldl State.publishCopy (s.commitNote c 0 0 0 2 0)).ok c :=
  if_neg (by simp [h])

/-- The note of a command that waits for an instant leaves it waiting. -/
theorem State.commitNote_waits {d : Cmd} (hf : s.findCmd c.q c.seq = some d) (at_ kind value tb : Nat) :
    let t := (s.modCmd c.q c.seq (Cmd.waitsUntil at_)).commitNote c kind value tb 2 0
    t.comp = s.comp ∧ ∃ e, t.findCmd c.q c.seq = some e ∧ e.phase = .committed ∧ e.armed = true ∧ e.notBefore = some at_ := by
  obtain ⟨n, hn⟩ := (s.modCmd c.q c.seq (Cmd.waitsUntil at_)).commitNote_cmds c kind value tb 2 0
  have waiting : (s.modCmd c.q c.seq (Cmd.waitsUntil at_)).findCmd c.q c.seq = some (d.waitsUntil at_) := State.findCmd_modCmd hf rfl rfl
  refine ⟨State.commitNote_comp .., _, (State.findCmd_congr (congrArg Hif.cmds hn) _ _).trans (State.findCmd_modCmd waiting ?_ ?_), ?_⟩
  all_goals cases n <;> simp [Cmd.withNote, Cmd.waitsUntil]

/-- An armed COMMIT: its canopies hold their copies, and it waits past its commit point for an instant to come. -/
theorem State.armCommit_running_spec {d : Cmd} (hf : s.findCmd c.q c.seq = some d)
    (h : c.commitCanopies.any (fun k => (s.canopy k).running) = true) :
    (∀ k ∈ c.commitCanopies, ∃ copy, (c.q, c.seq, copy) ∈ ((s.armCommit c).canopy k).copies ∧ copy.look = (s.canopy k).shadowLook) ∧
    ∃ d at_, (s.armCommit c).findCmd c.q c.seq = some d ∧ d.phase = .committed ∧ d.armed = true ∧ d.notBefore = some at_ ∧ s.now < at_ := by
  obtain ⟨-, -, held⟩ := State.holdCopies_canopy c c.commitCanopies s
  obtain ⟨x, hx⟩ := State.holdCopies_compOnly c c.commitCanopies s
  have found : (c.commitCanopies.foldl (State.holdCopy c) s).findCmd c.q c.seq = some d := by rw [hx]; exact hf
  have waits := State.commitNote_waits found (max (s.commitInstant c) (s.now + 1))
  have later : s.now < max (s.commitInstant c) (s.now + 1) := by omega
  rw [State.armCommit_running h]
  dsimp only at waits ⊢
  split
  · obtain ⟨comp, e, he, hp, ha, hn⟩ := waits 1 (s.commitInstant c % two32) 0
    exact ⟨fun k hk => (State.canopy_congr comp k) ▸ held k hk, e, _, he, hp, ha, hn, later⟩
  · obtain ⟨comp, e, he, hp, ha, hn⟩ := waits 2 c.effTime c.effTb
    exact ⟨fun k hk => (State.canopy_congr comp k) ▸ held k hk, e, _, he, hp, ha, hn, later⟩

/-- A COMMIT of canopies that do not run publishes their shadow looks and completes. -/
theorem State.armCommit_stopped_spec (h : c.commitCanopies.any (fun k => (s.canopy k).running) = false) :
    (s.armCommit c).findCmd c.q c.seq = none ∧
    ∀ k ∈ c.commitCanopies, ((s.armCommit c).canopy k).look = (s.canopy k).shadowLook := by
  rw [State.armCommit_stopped h]
  refine ⟨State.findCmd_complete _ _ _ _, fun k hk => ?_⟩
  have looks := congrArg Prod.fst (State.publishCopies_looks c.commitCanopies (s.commitNote c 0 0 0 2 0) k)
  rw [if_pos hk, State.canopy_congr (State.commitNote_comp ..)] at looks
  exact (congrArg Canopy.look (State.canopy_congr (State.ok_comp _ _ _) k)).trans looks

end Commit

end Sys2Proof.Machine

namespace Sys2Proof.Machine

open Sys2Proof

/-! ### UPDATE_DATA (15 R609, R610) -/

section UpdateData

variable {s : State} {c : Cmd} (data : List Byte)

/-- The host bytes of an UPDATE_DATA are in hand, and it is the one whose write runs. -/
def State.dataRead (s : State) (c : Cmd) (bytes : List Byte) : State :=
  { s.modCmd c.q c.seq (fun d => { d with hostData := bytes }) with upd := { s.upd with dataCmd := some (c.q, c.seq) } }

theorem exec_updateData_idle (hs : s.Starts c 0x0D02) (hd : s.upd.dataCmd = none) :
    exec (.updateData c.q c.seq data) s = .next (startUpdateData data c.begun (s.begun c)) := by
  refine (need_eq _ hs.1).trans (congrArg _ ?_)
  rw [hd, runSelfTimed_starts hs]
  rfl

theorem startUpdateData_not_receiving (h : s.upd.state ≠ 1) :
    startUpdateData data c s = (s.unpermit (fun p => p.pos = c.pos)).fail c 0x0303 deviceId := if_pos h

/-- The write of an UPDATE_DATA that needs no data epoch begins while an update is RECEIVING. -/
theorem startUpdateData_receiving (h : s.upd.state = 1) (hi : c.u 8 1 ≠ 1) :
    startUpdateData data c s = (s.dataRead c (s.dataFor c data)).beginWrite { c with hostData := s.dataFor c data } := by
  unfold startUpdateData
  dsimp only
  rw [if_neg (by simp [h]), if_neg (by simp [hi])]
  rfl

/-- A write that has begun is past the commit point, with the bytes that were read. -/
theorem State.beginWrite_dataRead {d : Cmd} (hf : s.findCmd c.q c.seq = some d) (bytes : List Byte) :
    ((s.dataRead c bytes).beginWrite { c with hostData := bytes }).upd.dataCmd = some (c.q, c.seq) ∧
    ∃ e, ((s.dataRead c bytes).beginWrite { c with hostData := bytes }).findCmd c.q c.seq = some e ∧ e.phase = .committed ∧
      e.hostData = bytes := by
  obtain ⟨n, hn⟩ := (s.dataRead c bytes).commitNote_cmds { c with hostData := bytes } 0 0 0 2 0
  obtain ⟨_, _, _, _, _, started⟩ := (s.dataRead c bytes).commitNote_startOnly { c with hostData := bytes } 0 0 0 2 0
  have read : (s.dataRead c bytes).findCmd c.q c.seq = some { d with hostData := bytes } := State.findCmd_modCmd (s := s) hf rfl rfl
  have noted : ((s.dataRead c bytes).commitNote { c with hostData := bytes } 0 0 0 2 0).findCmd c.q c.seq =
      some (Cmd.withNote n { d with hostData := bytes }) :=
    (State.findCmd_congr (congrArg Hif.cmds hn) _ _).trans
      (State.findCmd_modCmd read (by cases n <;> rfl) (by cases n <;> rfl))
  unfold State.beginWrite
  refine ⟨?_, _, State.findCmd_modCmd noted rfl rfl, rfl, by cases n <;> rfl⟩
  rw [started]
  rfl

end UpdateData

end Sys2Proof.Machine

namespace Sys2Proof

open Machine

/-- Settles O26: each row starts its command, which begins its own effect when nothing of its layer, its canopies or its bank holds it. -/
theorem selfTimedCommandsStart : Obligations.SelfTimedCommandsStart := by
  have upload : ∀ q seq s, exec (.layerUpload q seq) s = opOut q (s.runSelfTimed 0x0303 q seq startLayerUpload) := fun _ _ _ => rfl
  have commit : ∀ q seq s, exec (.commit q seq) s = opOut q (s.runSelfTimed 0x0304 q seq effCommit) := fun _ _ _ => rfl
  have load : ∀ q seq s, exec (.lampTableLoad q seq) s = opOut q (s.runSelfTimed 0x0305 q seq startLampTableLoad) := fun _ _ _ => rfl
  have armed {s : State} {c : Cmd} (hs : s.Starts c 0x0304) (free : (s.begun c).commitBlocked c.begun = false) :
      exec (.commit c.q c.seq) s = .next ((s.begun c).armCommit c.begun) :=
    (exec_selfTimed commit hs).trans (congrArg _ (if_neg (by simp [free])))
  refine ⟨fun s c hs => exec_selfTimed upload hs, fun s d i hf hu ha hg => ?begins,
    fun s c hs blocked => (exec_selfTimed commit hs).trans (congrArg _ (if_pos blocked)), fun s c hs free => armed hs free,
    fun s c hs => exec_selfTimed load hs, fun s c hs ha others hu hua hg => ?uploads, fun s c hs ha others hl => ?loads,
    fun s c hs free running => ⟨_, armed hs free, State.armCommit_running_spec hs.findCmd_begun running⟩,
    fun s c hs free stopped => ⟨_, armed hs free, State.armCommit_stopped_spec stopped⟩, fun s c data hs hd hr hi => ?writes,
    fun s c data hs hd hr => (exec_updateData_idle data hs hd).trans (congrArg _ (startUpdateData_not_receiving data hr)),
    fun s c data hs hd hr hi => (exec_updateData_idle data hs hd).trans (congrArg _ (startUpdateData_receiving data hr hi))⟩
  case begins =>
    rw [State.kickUpload_begins hf hu ha hg, State.layer_modLayer, if_pos rfl]
    generalize s.layer i = l
    unfold Layer.beginUpload
    cases hp : l.newPair <;> simp [hp]
  case uploads =>
    have next : (s.begun c).hif.cmds.find? (Cmd.nextUpload c.layerIdx) = some c.begun :=
      hs.find?_begun (Cmd.nextUpload_iff.2 ⟨hs.2.2.1, rfl, rfl, ha⟩) fun d hd => Cmd.nextUpload_eq_false (others d hd)
    have begins := State.kickUpload_begins next hu hua hg
    exact (exec_selfTimed upload hs).trans (congrArg _ begins)
  case loads =>
    have next : (s.begun c).hif.cmds.find? (Cmd.nextLoad c.idx) = some c.begun :=
      hs.find?_begun (Cmd.nextLoad_iff.2 ⟨hs.2.2.1, rfl, rfl, ha⟩) fun d hd => Cmd.nextLoad_eq_false (others d hd)
    have begins := State.kickLoad_begins next hl
    exact (exec_selfTimed load hs).trans (congrArg _ begins)
  case writes =>
    obtain ⟨running, d, found, past, bytes⟩ := State.beginWrite_dataRead hs.findCmd_begun (s.dataFor c data)
    exact ⟨_, d, (exec_updateData_idle data hs hd).trans (congrArg _ (startUpdateData_receiving data hr hi)), running, found, past, bytes⟩

end Sys2Proof

/-! ## Composition (04): uploads, loads and fills that end, and a COMMIT whose turn has come -/

namespace Sys2Proof

variable {α : Type}

/-- The entry of a number after a write of a number. -/
theorem Tab.find_set (t : Tab α) (i j : Nat) (a : α) : (t.set i a).find j = if j = i then some a else t.find j := by
  induction t with
  | nil => simp [Tab.set, Tab.find]
  | cons e t ih =>
    obtain ⟨k, b⟩ := e
    unfold Tab.set
    split
    · next h => subst h; by_cases hj : j = i <;> simp [Tab.find, hj]
    · next h =>
      split
      · simp only [Tab.find]
      · by_cases hj : j = k
        · subst hj; simp [Tab.find, Ne.symm h]
        · simp only [Tab.find, if_neg hj, ih]

/-- Of writes to different numbers each is found. -/
theorem Tab.find_setAll {l : Tab α} (hl : (l.map Prod.fst).Nodup) {e : Nat × α} (he : e ∈ l) (t : Tab α) :
    (l.foldl (fun t e => Tab.set t e.1 e.2) t).find e.1 = some e.2 := by
  induction l using List.reverseRecOn with
  | nil => cases he
  | append_singleton l x ih =>
    rw [List.map_append, List.map_singleton, ← List.concat_eq_append, List.nodup_concat] at hl
    rw [List.foldl_append, List.foldl_cons, List.foldl_nil, Tab.find_set]
    rcases List.mem_append.1 he with he | he
    · have hne : e.1 ≠ x.1 := fun h => hl.1 (h ▸ List.mem_map_of_mem he)
      rw [if_neg hne]
      exact ih hl.2 he
    · rw [List.mem_singleton.1 he, if_pos rfl]

end Sys2Proof

namespace Sys2Proof.Machine

open Sys2Proof

theorem State.sendsData_congr {s t : State} (h : t.twin = s.twin) (c : Cmd) : t.sendsData c = s.sendsData c := by
  simp only [State.sendsData, State.replicates, State.joining, State.isLead, h]
theorem State.dataFor_congr {s t : State} (h : t.twin = s.twin) (c : Cmd) (host : List Byte) : t.dataFor c host = s.dataFor c host := by
  simp only [State.dataFor, State.epochOf, h]
theorem State.fired_congr {s t : State} (h : t.time = s.time) (c : Cmd) : t.fired c = s.fired c := by
  unfold State.fired State.tb
  rw [h]

/-- The data of a command is in hand. -/
def Cmd.arm (c : Cmd) : Cmd := { c with armed := true }

/-! ### UPLOAD_COMPLETE (04 R218, R220; 10 R446) -/

/-- The running upload of a layer is in the buffer that it was for. -/
def Layer.takeUpload (c : Cmd) (w fmt : Nat) (data : List Byte) (l : Layer) : Layer :=
  match l.newPair with
  | some b => { l with uploading := none, backOf := some (c.q, c.seq), newPair := some (writeRect b w fmt c data) }
  | none => { l with uploading := none, backOf := some (c.q, c.seq), back := writeRect l.back w fmt c data }

section Upload

variable {s : State} {layer : Nat} {c : Cmd}

theorem exec_uploadComplete (data : List Byte) (hlo : 32 ≤ layer) (hhi : layer < 64)
    (hf : (s.layer layer).uploading.bind (fun id => s.findCmd id.1 id.2) = some c) :
    exec (.uploadComplete layer data) s = .next (
      let s1 := s.ownerWrites (layerId layer)
      if s1.sendsData c = true then s1.dataEpoch c data.length (bytesTab data) else s1.uploadArrived layer (s1.dataFor c data)) := by
  refine (need_eq _ (by simp [hlo, hhi])).trans (congrArg _ ?_)
  simp only [hf]

/-- An upload that waits for no clearing and no time takes effect when its data has arrived. -/
theorem State.uploadArrived_now {w h fmt : Nat} (data : List Byte)
    (hf : (s.layer layer).uploading.bind (fun id => s.findCmd id.1 id.2) = some c) (hg : (s.layer layer).uploadGeom = some (w, h, fmt))
    (hc : c.clearing = false) (he : c.effTime = 0) :
    s.uploadArrived layer data =
      effLayerUpload c.arm (((s.modLayer layer (Layer.takeUpload c w fmt data)).modCmd c.q c.seq Cmd.arm).commitNote c 0 0 0 2 0) := by
  simp only [State.uploadArrived, hf, hg, hc, he, ne_eq, not_true_eq_false, false_and, if_false, Bool.false_eq_true]
  rfl

/-- An upload that still stands in its buffer becomes the pending one. -/
theorem effLayerUpload_mine (hc : c.clearing = false) (hm : (s.layer c.layerIdx).backOf = some (c.q, c.seq))
    (hn : s.NoCmd (Cmd.nextUpload c.layerIdx)) :
    effLayerUpload c s = (s.modLayer c.layerIdx (fun l => { l with pending := true, backOf := none })).ok c := by
  unfold effLayerUpload
  dsimp only
  simp only [hm, hc, beq_self_eq_true, if_true, Bool.false_eq_true, false_and, if_false]
  exact State.kickUpload_none (hn.complete (s := s.modLayer c.layerIdx _) c 2 0)

end Upload

/-! ### LAMP_LOAD_COMPLETE (04 R227, R228; 10 R446) -/

/-- The regions of a load in the free staging blocks of its canopy. -/
def State.loadedRegions (s : State) (c : Cmd) (canopy : Nat) (entries : List (Nat × Nat)) : Tab LampRegion :=
  c.lampRegions ((s.mem.reservations.filter (s.freeBlock canopy)).map Reservation.pages) entries

/-- The regions of the running load of a canopy are written and wait for the load's effect. -/
def State.takeLoad (s : State) (c : Cmd) (canopy : Nat) (r : Tab LampRegion) : State :=
  ((((r.foldl (fun s e => s.writeRegion e.1 e.2) s).modCanopy canopy (fun k =>
    { k with loading := none, arrived := k.arrived ++ [((c.q, c.seq), r)] })).unpermit (fun p => p.code = 6 && p.pos = c.pos)).modCmd
      c.q c.seq Cmd.arm)

/-- The regions of a load are different ones. -/
theorem Cmd.lampRegions_nodup (c : Cmd) (blocks : List (List (Nat × Nat))) (entries : List (Nat × Nat)) :
    ((c.lampRegions blocks entries).map Prod.fst).Nodup := by
  unfold Cmd.lampRegions
  rw [List.map_map]
  exact List.nodup_range.map fun _ _ h => Nat.add_left_cancel h

section Load

variable {s : State} {canopy : Nat} {c : Cmd} (entries : List (Nat × Nat))

theorem exec_lampLoadComplete (hk : canopy < 16) (hf : (s.canopy canopy).loading.bind (fun id => s.findCmd id.1 id.2) = some c)
    (hs : s.sendsData c = false) : exec (.lampLoadComplete canopy entries) s = .next (s.lampArrived canopy (s.entriesFor c entries)) := by
  refine (need_eq _ (by simp [hk])).trans (congrArg _ ?_)
  simp only [hf, hs, Bool.false_eq_true, if_false]

theorem State.takeLoad_pageOnly (s : State) (r : Tab LampRegion) : s.PageOnly (r.foldl (fun s e => s.writeRegion e.1 e.2) s) :=
  List.foldlRecOn r _ (.refl s) fun _ ht e _ => ht.trans (State.writeRegion_pageOnly _ e.1 e.2)
theorem State.takeLoad_canopy (s : State) (c : Cmd) (canopy : Nat) (r : Tab LampRegion) :
    (s.takeLoad c canopy r).canopy canopy =
      { s.canopy canopy with loading := none, arrived := (s.canopy canopy).arrived ++ [((c.q, c.seq), r)] } := by
  have written := State.canopy_congr (State.takeLoad_pageOnly s r).comp canopy
  refine (State.canopy_modCanopy _ canopy canopy _).trans ?_
  rw [if_pos rfl, written]
theorem State.takeLoad_time (s : State) (c : Cmd) (canopy : Nat) (r : Tab LampRegion) : (s.takeLoad c canopy r).time = s.time :=
  (State.takeLoad_pageOnly s r).time
/-- When the one load that a canopy waited for has its entries, it waits for none. -/
theorem State.takeLoad_noCmd (r : Tab LampRegion) (others : ∀ d ∈ s.hif.cmds, d.opcode = 0x0305 → d.idx = canopy → d.phase = .started →
    d.armed = false → d.q = c.q ∧ d.seq = c.seq) : (s.takeLoad c canopy r).NoCmd (Cmd.nextLoad canopy) := by
  have written := (State.takeLoad_pageOnly s r).cmds
  refine State.noCmd_modCmd (fun d hd hne => ?_) fun d _ _ => Cmd.nextLoad_eq_false fun _ _ _ => rfl
  refine Bool.eq_false_iff.2 fun hn => hne ?_
  obtain ⟨ho, hi, hp, ha⟩ := Cmd.nextLoad_iff.1 hn
  exact others d (written ▸ hd) ho hi hp ha

/-- A load that waits for no clearing takes effect at its time, or when it has arrived. -/
theorem State.lampArrived_eq (hf : (s.canopy canopy).loading.bind (fun id => s.findCmd id.1 id.2) = some c) (hc : c.clearing = false) :
    s.lampArrived canopy entries =
      let s1 := s.takeLoad c canopy (s.loadedRegions c canopy entries)
      (if c.effTime ≠ 0 ∧ s1.fired c = false then s1.commitNote c 2 c.effTime c.effTb 2 0
        else effLampTableLoad c.arm (s1.commitNote c 0 0 0 2 0)).kickLoad canopy := by
  simp only [State.lampArrived, hf, hc, Bool.false_eq_true, false_and, if_false, Bool.not_false, true_and, Bool.not_eq_true']
  rfl

/-- Without CLEARING the regions of a load enter shadow state. -/
theorem effLampTableLoad_shadow (hc : c.clearing = false) :
    effLampTableLoad c s = ((((s.modCanopy c.idx (fun k => { k with arrived := k.arrived.filter (fun e => e.1 ≠ (c.q, c.seq)) })).settleCharges
      c.pos).stageRegions c.idx (s.arrived c)).finish c) :=
  if_neg (by simp [hc])

end Load

end Sys2Proof.Machine

namespace Sys2Proof.Machine

open Sys2Proof

/-- What the arrival of a load that waits for its time leaves of its canopy. -/
theorem State.lampArrived_timed {s : State} {canopy : Nat} {c : Cmd} (entries : List (Nat × Nat))
    (hf : (s.canopy canopy).loading.bind (fun id => s.findCmd id.1 id.2) = some c)
    (hc : c.clearing = false) (he : c.effTime ≠ 0)
    (hfire : s.fired c = false)
    (others : ∀ d ∈ s.hif.cmds, d.opcode = 0x0305 → d.idx = canopy → d.phase = .started → d.armed = false →
      d.q = c.q ∧ d.seq = c.seq) :
    (s.lampArrived canopy entries).canopy canopy = { s.canopy canopy with
      loading := none, arrived := (s.canopy canopy).arrived ++ [((c.q, c.seq), s.loadedRegions c canopy entries)] } := by
  rw [State.lampArrived_eq entries hf hc]
  generalize s.loadedRegions c canopy entries = r
  have none_next : ((s.takeLoad c canopy r).commitNote c 2 c.effTime c.effTb 2 0).NoCmd (Cmd.nextLoad canopy) :=
    (State.takeLoad_noCmd r others).commitNote (fun n d => by cases n <;> rfl) c 2 c.effTime c.effTb 2 0
  dsimp only
  rw [if_pos ⟨he, (State.fired_congr (s.takeLoad_time c canopy r) c).trans hfire⟩, State.kickLoad_none none_next,
    State.canopy_congr (State.commitNote_comp ..), State.takeLoad_canopy]

/-- A load that takes effect takes its regions from those that have arrived to shadow state. -/
theorem effLampTableLoad_shadow_spec {s : State} {c : Cmd} {r : Tab LampRegion} {old : List ((Nat × Nat) × Tab LampRegion)}
    (hc : c.clearing = false) (hn : s.NoCmd (Cmd.nextLoad c.idx)) (ha : (s.canopy c.idx).arrived = old ++ [((c.q, c.seq), r)])
    (first : ∀ e ∈ old, e.1 ≠ (c.q, c.seq)) :
    (effLampTableLoad c s).NoCmd (Cmd.nextLoad c.idx) ∧
    ((effLampTableLoad c s).canopy c.idx).loading = (s.canopy c.idx).loading ∧
    ((effLampTableLoad c s).canopy c.idx).arrived = old ∧
    ((effLampTableLoad c s).canopy c.idx).staged = r.foldl (fun t e => Tab.set t e.1 e.2) (s.canopy c.idx).staged := by
  have absent : old.find? (fun e => decide (e.1 = (c.q, c.seq))) = none := by simpa using first
  have regions : s.arrived c = r := by simp [State.arrived, ha, List.find?_append, absent]
  have kept : old.filter (fun e => decide (e.1 ≠ (c.q, c.seq))) = old := List.filter_eq_self.2 fun e he => by simpa using first e he
  have settled (u : State) (n : Nat) : (u.settleCharges n).canopy c.idx = u.canopy c.idx := rfl
  rw [effLampTableLoad_shadow hc, regions]
  refine ⟨State.NoCmd.finish (s := ((s.modCanopy c.idx _).settleCharges c.pos).stageRegions c.idx r)
    (State.NoCmd.of_subset hn fun _ => id) (fun d _ _ => by simp [Cmd.nextLoad]) c 0, ?_⟩
  rw [State.canopy_congr (State.finish_comp _ _ _)]
  simp only [State.stageRegions, State.canopy_modCanopy, settled, if_true, ha, List.filter_append, kept]
  simp

/-- What the arrival of a load that takes effect at once leaves of its canopy: its regions stand in shadow state. -/
theorem State.lampArrived_now {s : State} {canopy : Nat} {c : Cmd} (entries : List (Nat × Nat))
    (hf : (s.canopy canopy).loading.bind (fun id => s.findCmd id.1 id.2) = some c)
    (hc : c.clearing = false) (he : c.effTime = 0)
    (hi : c.idx = canopy) (first : ∀ e ∈ (s.canopy canopy).arrived, e.1 ≠ (c.q, c.seq))
    (others : ∀ d ∈ s.hif.cmds, d.opcode = 0x0305 → d.idx = canopy → d.phase = .started → d.armed = false →
      d.q = c.q ∧ d.seq = c.seq) :
    ((s.lampArrived canopy entries).canopy canopy).loading = none ∧
    ((s.lampArrived canopy entries).canopy canopy).arrived = (s.canopy canopy).arrived ∧
    ((s.lampArrived canopy entries).canopy canopy).staged =
      (s.loadedRegions c canopy entries).foldl (fun t e => Tab.set t e.1 e.2) (s.canopy canopy).staged := by
  subst hi
  rw [State.lampArrived_eq entries hf hc]
  generalize s.loadedRegions c c.idx entries = r
  have none_next := (State.takeLoad_noCmd (s := s) r others).commitNote (fun n d => by cases n <;> rfl) c 0 0 0 2 0
  have taken := State.canopy_congr (State.commitNote_comp (s.takeLoad c c.idx r) c 0 0 0 2 0) c.idx
  rw [State.takeLoad_canopy] at taken
  obtain ⟨none_staged, loading, arrived, staged⟩ :=
    effLampTableLoad_shadow_spec (c := c.arm) hc none_next (congrArg Canopy.arrived taken) first
  dsimp only
  rw [if_neg (by simp [he]), State.kickLoad_none (k := c.idx) none_staged]
  refine ⟨loading.trans (congrArg Canopy.loading taken), arrived, staged.trans ?_⟩
  have stood := congrArg Canopy.staged taken
  exact congrArg (List.foldl (fun t e => Tab.set t e.1 e.2) · r) stood

/-- What the arrival of an upload that takes effect at once leaves: the upload is the pending one of its layer, and complete. -/
theorem State.uploadArrived_spec {s : State} {c : Cmd} {w h fmt : Nat} (data : List Byte)
    (hf : (s.layer c.layerIdx).uploading.bind (fun id => s.findCmd id.1 id.2) = some c)
    (hg : (s.layer c.layerIdx).uploadGeom = some (w, h, fmt)) (hc : c.clearing = false) (he : c.effTime = 0)
    (others : ∀ d ∈ s.hif.cmds, d.opcode = 0x0303 → d.layerIdx = c.layerIdx → d.phase = .started → d.armed = false →
      d.q = c.q ∧ d.seq = c.seq) :
    (s.uploadArrived c.layerIdx data).findCmd c.q c.seq = none ∧
    (s.uploadArrived c.layerIdx data).layer c.layerIdx =
      { (s.layer c.layerIdx).takeUpload c w fmt data with pending := true, backOf := none } := by
  rw [State.uploadArrived_now data hf hg hc he]
  have armed : ((s.modLayer c.layerIdx (Layer.takeUpload c w fmt data)).modCmd c.q c.seq Cmd.arm).NoCmd (Cmd.nextUpload c.layerIdx) := by
    refine State.noCmd_modCmd (fun d hd hne => Bool.eq_false_iff.2 fun hn => hne ?_) fun d _ _ => Cmd.nextUpload_eq_false fun _ _ _ => rfl
    obtain ⟨ho, hi, hp, ha⟩ := Cmd.nextUpload_iff.1 hn
    exact others d hd ho hi hp ha
  have none_next := armed.commitNote (fun n d => by cases n <;> rfl) c 0 0 0 2 0
  have taken : (((s.modLayer c.layerIdx (Layer.takeUpload c w fmt data)).modCmd c.q c.seq Cmd.arm).commitNote c 0 0 0 2 0).layer c.layerIdx =
      (s.layer c.layerIdx).takeUpload c w fmt data :=
    (State.layer_congr (State.commitNote_comp ..) _).trans ((State.layer_modLayer s _ _ _).trans (if_pos rfl))
  have mine : ((s.layer c.layerIdx).takeUpload c w fmt data).backOf = some (c.q, c.seq) := by
    unfold Layer.takeUpload
    split <;> rfl
  rw [effLayerUpload_mine (c := c.arm) hc (congrArg Layer.backOf taken |>.trans mine) none_next]
  refine ⟨State.findCmd_complete _ c.arm 2 0, (State.layer_congr (State.ok_comp _ _ _) _).trans ?_⟩
  refine (State.layer_modLayer _ c.layerIdx c.layerIdx _).trans ?_
  rw [if_pos rfl, taken]

end Sys2Proof.Machine

namespace Sys2Proof

open Machine

/-- Settles O41: an upload and a load by what waits for them, a COMMIT by whether another holds its canopies, a fill by what is due. -/
theorem transfersEnd : Obligations.TransfersEnd := by
  refine ⟨fun layer data c hlo hhi => ?sent, fun layer data c w h fmt hlo hhi => ?uploaded, fun canopy entries c hk => ?loaded,
    fun canopy entries c hk s h => exec_lampLoadComplete entries hk h.1 h.2, fun q seq c hq => ?armed, fun owner slot ho => ?filled⟩
  case sent =>
    refine ⟨?_, ?_⟩
    · rintro s ⟨hf, alone⟩
      rw [exec_uploadComplete data hlo hhi hf]
      exact congrArg _ (if_neg (by simp [alone]))
    · rintro s ⟨hf, sends⟩
      rw [exec_uploadComplete data hlo hhi hf]
      exact congrArg _ (if_pos sends)
  case uploaded =>
    rintro old s ⟨hu, hf, hg, rfl, hc, he, alone, others⟩
    have written := State.ownerWrites_pageOnly s (layerId c.layerIdx)
    have layer := State.layer_congr written.comp c.layerIdx
    have running : (s.layer c.layerIdx).uploading.bind (fun id => s.findCmd id.1 id.2) = some c := by
      rw [hu]
      exact hf
    have uploading : ((s.ownerWrites (layerId c.layerIdx)).layer c.layerIdx).uploading.bind
        (fun id => (s.ownerWrites (layerId c.layerIdx)).findCmd id.1 id.2) = some c := by
      rw [layer, hu]
      exact (State.findCmd_congr written.cmds _ _).trans hf
    obtain ⟨gone, new⟩ := State.uploadArrived_spec (s.dataFor c data) uploading ((congrArg Layer.uploadGeom layer).trans hg) hc he
      fun d hd => others d (written.cmds ▸ hd)
    have row := exec_uploadComplete data hlo hhi running
    dsimp only at row
    rw [if_neg (by simp [State.sendsData_congr written.twin, alone]), State.dataFor_congr written.twin] at row
    refine ⟨_, row, gone, ?_⟩
    rw [new, layer]
    unfold Layer.takeUpload old
    cases (s.layer c.layerIdx).newPair <;> simp
  case loaded =>
    intro old regions loaded
    have run {s : State} (h : loaded s) : (s.canopy canopy).loading.bind (fun id => s.findCmd id.1 id.2) = some c := by
      obtain ⟨hl, hf, -⟩ := h
      rw [hl]
      exact hf
    refine ⟨?_, ?_⟩
    · rintro s ⟨h, he, hfire⟩
      have bound := run h
      obtain ⟨hl, hf, hi, hc, alone, others⟩ := h
      have arrived := State.lampArrived_timed (s.entriesFor c entries) bound hc he hfire others
      exact ⟨_, exec_lampLoadComplete entries hk bound alone, congrArg Canopy.loading arrived, congrArg Canopy.arrived arrived⟩
    · rintro s ⟨h, he, first⟩
      have bound := run h
      obtain ⟨hl, hf, hi, hc, alone, others⟩ := h
      obtain ⟨loading, arrived, staged⟩ := State.lampArrived_now (s.entriesFor c entries) bound hc he hi first others
      refine ⟨_, exec_lampLoadComplete entries hk bound alone, loading, arrived, fun e hmem => ?_⟩
      rw [staged]
      exact Tab.find_setAll (Cmd.lampRegions_nodup _ _ _) hmem _
  case armed =>
    have row (s : State) (hf : s.findCmd q seq = some c) : exec (.commitArm q seq) s =
        .next (if c.opcode = 0x0304 ∧ c.phase = .started ∧ !c.armed ∧ !s.commitBlocked c then s.armCommit c else s) := by
      refine (need_eq _ hq).trans (congrArg _ ?_)
      simp only [hf]
    have arms {s : State} (hf : s.findCmd q seq = some c) (ho : c.opcode = 0x0304) (hp : c.phase = .started) (ha : c.armed = false)
        (free : s.commitBlocked c = false) : exec (.commitArm q seq) s = .next (s.armCommit c) := by
      rw [row s hf, if_pos (by simp [ho, hp, ha, free])]
    refine ⟨fun s ⟨hf, ho, hp, ha, free⟩ => arms hf ho hp ha free, ?_, fun s ⟨hf, blocked⟩ => ?_⟩
    · rintro s ⟨hf, ho, hp, ha, free, running⟩
      obtain ⟨rfl, rfl⟩ := State.findCmd_ident hf
      exact ⟨_, arms hf ho hp ha free, State.armCommit_running_spec hf running⟩
    · rw [row s hf, if_neg (by simp [blocked])]
  case filled =>
    have hok : decide (owner < 16777216 * 16) = true := by simp [ho]
    refine ⟨answers_of_need hok (fun _ => rfl) fun _ _ => rfl, answers_of_need hok (fun _ => rfl) fun s unowned => ?_⟩
    have none_waits : (s.mem.reservations.filter (fun x => x.owner = owner && x.slot = slot && !x.filled)).filterMap Reservation.cmd = [] :=
      List.filterMap_eq_nil_iff.2 unowned
    simp only [none_waits, List.foldl_nil]

end Sys2Proof

/-! ## Composition (04, 06): a clearing at its grid instant, and effect times -/

namespace Sys2Proof.Machine

open Sys2Proof

/-! ### A canopy frame begins (04 R206; 06 R314) -/

/-- `t` has the canopies and programs of `s`. -/
structure State.GridOnly (s t : State) : Prop where
  canopies : t.comp.canopies = s.comp.canopies
  progs : t.progs = s.progs

section Frame

variable {s t u : State}

theorem State.GridOnly.refl (s : State) : s.GridOnly s := ⟨rfl, rfl⟩
theorem State.GridOnly.trans (a : s.GridOnly t) (b : t.GridOnly u) : s.GridOnly u :=
  ⟨b.canopies.trans a.canopies, b.progs.trans a.progs⟩
theorem State.GridOnly.canopy (a : s.GridOnly t) (k : Nat) : t.canopy k = s.canopy k := State.canopy_of_canopies a.canopies k
theorem State.GridOnly.prog (a : s.GridOnly t) (p : Nat) : t.prog p = s.prog p := by
  unfold State.prog
  rw [a.progs]
theorem State.foldl_gridOnly {α : Type} {f : State → α → State} (h : ∀ (s : State) a, s.GridOnly (f s a)) (l : List α) (s : State) :
    s.GridOnly (l.foldl f s) :=
  List.foldlRecOn l f (.refl s) fun _ ht a _ => ht.trans (h _ a)

theorem State.modLayer_gridOnly (s : State) (i : Nat) (f : Layer → Layer) : s.GridOnly (s.modLayer i f) := ⟨rfl, rfl⟩
theorem State.raise_gridOnly (s : State) (code object d0 d1 : Nat) : s.GridOnly (s.raise code object d0 d1) :=
  ⟨congrArg Compose.canopies (s.raise_comp code object d0 d1), s.raise_progs code object d0 d1⟩
theorem State.reach_gridOnly (s : State) (g : Nat) : s.GridOnly (s.reach g) :=
  ⟨congrArg Compose.canopies (s.reach_comp g), s.reach_progs g⟩

theorem State.turnFallback_gridOnly (s : State) (i g : Nat) : s.GridOnly (s.turnFallback i g) := by
  unfold State.turnFallback
  dsimp only
  refine .trans ?_ (State.modLayer_gridOnly _ i _)
  split
  · split
    · exact s.modLayer_gridOnly i _
    · exact (s.modLayer_gridOnly i _).trans (State.raise_gridOnly ..)
  · split
    · exact (s.modLayer_gridOnly i _).trans (State.raise_gridOnly ..)
    · exact s.modLayer_gridOnly i _

theorem State.refreshCanopy_gridOnly (s : State) (k : Nat) : s.GridOnly (s.refreshCanopy k) :=
  State.foldl_gridOnly (f := fun s f => s.refreshReaders f) (fun _ _ => ⟨rfl, rfl⟩) _ s

theorem State.beginPicture_canopy (s : State) (p num g : Nat) (newSlot : Bool) (k : Nat) :
    (s.beginPicture p num g newSlot).canopy k = s.canopy k := by
  unfold State.beginPicture
  dsimp only
  split <;> rfl
/-- A program that runs takes a picture of the frame. -/
theorem State.beginPicture_pictures {p : Nat} (h : (s.prog p).running = true) (num g : Nat) (newSlot : Bool) :
    ((s.beginPicture p num g newSlot).prog p).pictures = (s.prog p).pictures + 1 := by
  simp [State.beginPicture, h]

/-- The frame of grid instant `g` in a state with the canopies and programs of `s`, once its picture begins and its sources are read. -/
theorem State.beginFrame_spec (h : s.GridOnly t) (k g frame : Nat) (newSlot : Bool) :
    let c := s.canopy k
    let gr := gridOf c.geom.rate c.geom.offset
    let u := ((t.beginFrame k g).beginPicture k frame g newSlot).refreshCanopy k
    (u.canopy k).frameCount = c.frameCount + 1 ∧ (u.canopy k).g = g + (c.rem + 1000000000 * gr.den) / gr.num ∧
      (∃ fr rest, (u.canopy k).frames = fr :: rest ∧ fr.num = c.frameCount ∧ fr.g = g ∧ fr.look = c.look) ∧
      ((s.prog k).running = true → (u.prog k).pictures = (s.prog k).pictures + 1) := by
  intro c gr u
  have read := State.refreshCanopy_gridOnly ((t.beginFrame k g).beginPicture k frame g newSlot) k
  have canopy : u.canopy k = (t.beginFrame k g).canopy k := (read.canopy k).trans (State.beginPicture_canopy ..)
  have prog : (t.beginFrame k g).prog k = s.prog k := h.prog k
  have same : t.canopy k = c := h.canopy k
  rw [canopy, State.beginFrame, State.canopy_modCanopy, if_pos rfl, same]
  refine ⟨rfl, rfl, ⟨_, _, rfl, rfl, rfl, rfl⟩, fun running => (congrArg Program.pictures (read.prog k)).trans ?_⟩
  rw [State.beginPicture_pictures (by rw [prog, running]), prog]

/-- What the next frame of a canopy does to the canopy and to its program. -/
theorem State.nextFrame_spec (s : State) (k g frame : Nat) :
    let c := s.canopy k
    let gr := gridOf c.geom.rate c.geom.offset
    let t := s.nextFrame k g frame
    (t.canopy k).frameCount = c.frameCount + 1 ∧ (t.canopy k).g = g + (c.rem + 1000000000 * gr.den) / gr.num ∧
      (∃ fr rest, (t.canopy k).frames = fr :: rest ∧ fr.num = c.frameCount ∧ fr.g = g ∧ fr.look = c.look) ∧
      ((s.prog k).running = true → (t.prog k).pictures = (s.prog k).pictures + 1) := by
  have turned : s.GridOnly (((List.range 32).filter (fun i => (s.layer i).active.canopy == some k)).foldl
      (fun s i => s.turnFallback i g) s) :=
    State.foldl_gridOnly (f := fun s i => s.turnFallback i g) (fun s i => s.turnFallback_gridOnly i g) _ s
  unfold State.nextFrame
  dsimp only
  generalize ((List.range 32).filter (fun i => (s.layer i).active.canopy == some k)).foldl (fun s i => s.turnFallback i g) s = t
    at turned ⊢
  have switched : s.GridOnly { t with upd := { t.upd with switching := t.upd.switching.filter (fun j => j != k) } } :=
    ⟨turned.canopies, turned.progs⟩
  exact State.beginFrame_spec switched k g frame _

end Frame

/-! ### A clearing (04 R201, R206) -/

section Clearing

variable {s : State} {k g : Nat}

theorem exec_clearing (hk : k < 16) (hr : (s.canopy k).running = true) (hnow : (s.canopy k).g ≤ (s.reach (s.canopy k).g).now)
    (hj : (s.reach (s.canopy k).g).joinDue (s.canopy k).g = false) :
    exec (.clearing k) s = .next ((s.reach (s.canopy k).g).clear k (s.canopy k).g) := by
  refine (need_eq _ (by simp [hk])).trans (congrArg _ ?_)
  simp only [hr, hj, if_true, if_neg hnow.not_gt, Bool.false_eq_true, if_false]

/-- A clearing at which nothing else takes effect begins the next frame. -/
theorem State.clear_idle (hstop : (s.canopy k).stopping = false) (hgeom : (s.canopy k).nextGeom = none) (hcopies : (s.canopy k).copies = [])
    (hwait : ∀ d ∈ s.hif.cmds, d.waitsFor k = false) : s.clear k g = s.nextFrame k g (s.canopy k).frameCount := by
  have commits : s.applyCommits k g = s := by simp [State.applyCommits, Canopy.commits, hcopies]
  have waiting : s.hif.cmds.filter (fun c => c.waitsFor k) = [] := List.filter_eq_nil_iff.2 fun d hd => by simp [hwait d hd]
  have applied : s.applyWaiting k g false = s := by rw [State.applyWaiting, waiting, List.foldl_nil]
  simp [State.clear, hstop, hgeom, commits, applied]

end Clearing

/-! ### EFFECT_TIME_REACHED (02 R101; 09 R406) -/

/-- A command of which the arrival of its effect time decides: started, with its data in hand, and no clearing ahead. -/
structure Cmd.AwaitsTime (c : Cmd) : Prop where
  timed : c.effTime ≠ 0
  clearing : c.clearing = false
  started : c.phase = .started
  opcode : c.opcode ≠ 0x0304
  ready : c.opcode = 0x0303 ∨ c.opcode = 0x0305 → c.armed = true
  free : c.clearOf = none

section EffectTime

variable {s : State} {c : Cmd} {q seq : Nat}

/-- The base reaches the time of the command. -/
def State.atTime (s : State) (c : Cmd) : State := if s.fired c = true then s else s.reachOn c.effTb c.fireAt

theorem State.atTime_fired (h : c.fireAt ≤ (s.tb c.effTb).count) : s.atTime c = s := if_pos (by simpa [State.fired] using h)
theorem State.atTime_ahead (h : (s.tb c.effTb).count < c.fireAt) : s.atTime c = s.reachOn c.effTb c.fireAt :=
  if_neg (by simpa [State.fired] using h)

/-- A command whose time has come takes effect without it. -/
theorem exec_effectTimeReached (hq : isQueue q = true) (hc : c.AwaitsTime) (hf : s.findCmd q seq = some c)
    (hcome : c.fireAt ≤ ((s.atTime c).tb c.effTb).count) :
    exec (.effectTimeReached q seq) s =
      .next (((s.atTime c).modCmd q seq (fun d => { d with effTime := 0 })).applyOp { c with effTime := 0 }) := by
  obtain ⟨timed, clearing, started, opcode, ready, free⟩ := hc
  have come : (s.atTime c).fired c = true := by simpa [State.fired] using hcome
  have ready : ¬((c.opcode == 0x0303 || c.opcode == 0x0305) = true ∧ (!c.armed) = true) := by simpa using ready
  refine (need_eq _ hq).trans (congrArg _ ?_)
  simp only [hf, timed, clearing, started, opcode, ready, free, ne_eq, not_true_eq_false, Bool.false_eq_true, Option.isSome_none, or_self,
    if_false]
  exact if_pos come

end EffectTime

/-- A tiling that takes effect stands at its canopy, and at no other. -/
theorem State.applyOp_wallTiling {c : Cmd} (s : State) (h : c.opcode = 0x0306) :
    (s.applyOp c).findCmd c.q c.seq = none ∧ ((s.applyOp c).canopy c.idx).tiling = (List.range (c.u 0 2)).map c.rect ∧
      ∀ k, k ≠ c.idx → (s.applyOp c).canopy k = s.canopy k := by
  have run : s.applyOp c = effWallTiling c s := by simp only [State.applyOp, h]
  have canopy (k : Nat) : (effWallTiling c s).canopy k =
      if k = c.idx then { s.canopy c.idx with tiling := (List.range (c.u 0 2)).map c.rect } else s.canopy k :=
    (State.canopy_congr (State.ok_comp _ _ _) k).trans (State.canopy_modCanopy ..)
  rw [run]
  exact ⟨State.findCmd_complete _ c 2 0, by rw [canopy, if_pos rfl], fun k hk => (canopy k).trans (if_neg hk)⟩

/-- A scrub length that takes effect waits for the next pass. -/
theorem State.applyOp_scrubConfig {c : Cmd} (s : State) (h : c.opcode = 0x0906) :
    (s.applyOp c).findCmd c.q c.seq = none ∧ (s.applyOp c).mem = { s.mem with scrubNext := some (c.u 0 1) } := by
  have run : s.applyOp c = effScrubConfig c s := by simp only [State.applyOp, h]
  rw [run]
  exact ⟨State.findCmd_complete _ c 2 0, State.ok_mem _ _ _⟩

end Sys2Proof.Machine

namespace Sys2Proof

open Machine

/-- Settles O42: a clearing by whether anything waits for it, an effect time by whether its base has reached it. -/
theorem clearingsAndEffectTimesCome : Obligations.ClearingsAndEffectTimesCome := by
  refine ⟨fun k hk => ⟨fun s ⟨hr, hnow, hj⟩ => exec_clearing hk hr hnow hj, ?idle, ?stopped⟩,
    fun q seq c hq timed clearing started opcode ready free => ?timed⟩
  case idle =>
    rintro s ⟨hr, hnow, hj, hstop, hgeom, hcopies, hwait⟩
    have reached := s.reach_gridOnly (s.canopy k).g
    have canopy := reached.canopy k
    have frame := State.nextFrame_spec (s.reach (s.canopy k).g) k (s.canopy k).g (s.canopy k).frameCount
    refine ⟨_, exec_clearing hk hr hnow hj, ?_⟩
    rw [State.clear_idle (by rw [canopy, hstop]) (by rw [canopy, hgeom]) (by rw [canopy, hcopies]) (by rwa [State.reach_cmds]), canopy]
    rwa [canopy, reached.prog] at frame
  case stopped =>
    rintro s ⟨hr, hj⟩
    refine (need_eq _ (by simp [hk])).trans (congrArg _ ?_)
    simp only [hr, hj, Bool.false_eq_true, if_false]
  case timed =>
    have awaits : c.AwaitsTime := ⟨timed, clearing, started, opcode, ready, free⟩
    have now {s : State} (hf : s.findCmd q seq = some c) (h : c.fireAt ≤ (s.tb c.effTb).count) : exec (.effectTimeReached q seq) s =
        .next ((s.modCmd q seq (fun d => { d with effTime := 0 })).applyOp { c with effTime := 0 }) := by
      have row := exec_effectTimeReached hq awaits hf
      rw [State.atTime_fired h] at row
      exact row h
    refine ⟨fun s ⟨hf, h⟩ => now hf h, ?_, ?_, ?_⟩
    · rintro s ⟨hf, h, ho⟩
      obtain ⟨rfl, rfl⟩ := State.findCmd_ident hf
      exact ⟨_, now hf h, State.applyOp_wallTiling (c := { c with effTime := 0 }) _ ho⟩
    · rintro s ⟨hf, h, ho⟩
      obtain ⟨rfl, rfl⟩ := State.findCmd_ident hf
      exact ⟨_, now hf h, State.applyOp_scrubConfig (c := { c with effTime := 0 }) _ ho⟩
    · rintro s ⟨hf, ahead, come⟩
      have row := exec_effectTimeReached hq awaits hf
      rw [State.atTime_ahead ahead] at row
      exact row come

end Sys2Proof

/-! ## The dispatcher (05): RESET_UNIT -/

namespace Sys2Proof.Machine

open Sys2Proof

section ResetUnit

variable {c : Cmd} {s : State}

/-- A retired unit starts its self-test (05 R257). -/
theorem effResetUnit_retired (hu : (s.unit c.idx).state = 2) :
    effResetUnit c s = (s.commits c).modUnit c.idx (fun x => { x with state := 3, cmd := some (c.q, c.seq) }) := if_pos hu
/-- An idle unit goes, and the warm spare takes its place (05 R256). -/
theorem effResetUnit_spared {sp : Nat} (hu : (s.unit c.idx).state ≠ 2) (ho : (s.unit c.idx).op = none) (hs : s.spareOf c.idx = some sp) :
    effResetUnit c s = ((((s.commits c).retireUnit c.idx).bringIn c.idx sp).traceSwap c.idx sp).ok c (unitId sp) := by
  simp only [effResetUnit, if_neg hu, ho, hs, State.commits]
/-- An idle unit for which no warm spare is left stays (log entry 156). -/
theorem effResetUnit_unspared (hu : (s.unit c.idx).state ≠ 2) (ho : (s.unit c.idx).op = none) (hs : s.spareOf c.idx = none) :
    effResetUnit c s = (s.commits c).fail c 0x0303 c.object := by
  simp only [effResetUnit, if_neg hu, ho, hs, State.commits]
/-- A unit that runs an operation is left to that operation's pre-emption point (05 R256). -/
theorem effResetUnit_running {k : OpKey} (hu : (s.unit c.idx).state ≠ 2) (ho : (s.unit c.idx).op = some k) :
    effResetUnit c s =
      let s1 := (s.commits c).modUnit c.idx (fun x => { x with cmd := some (c.q, c.seq) })
      { s1 with disp := { s1.disp with ops := s1.disp.ops.map (fun o => if o.key = k then { o with preempt := true } else o) } } := by
  simp only [effResetUnit, if_neg hu, ho, State.commits]

end ResetUnit

end Sys2Proof.Machine

namespace Sys2Proof

open Machine

/-- Settles O19, by whether the unit is retired, and then by the operation that it runs and the spare of its class. -/
theorem resetUnitRuns : Obligations.ResetUnitRuns := by
  have row : ∀ q seq s, exec (.resetUnit q seq) s = opOut q (s.runOp 0x0003 q seq effResetUnit) := fun _ _ _ => rfl
  exact ⟨runsIf_of_eff row fun _ _ _ hu => effResetUnit_retired hu,
    fun _ => runsIf_of_eff row fun _ _ _ ⟨hu, ho, hs⟩ => effResetUnit_spared hu ho hs,
    runsIf_of_eff row fun _ _ _ ⟨hu, ho, hs⟩ => effResetUnit_unspared hu ho hs,
    fun _ => runsIf_of_eff row fun _ _ _ ⟨hu, ho⟩ => effResetUnit_running hu ho⟩

end Sys2Proof

/-! ## Pictures, rows and operations (05, 06, 07): a frame budget that starts a refresh -/

namespace Sys2Proof.Machine

open Sys2Proof

theorem exec_frameBudget (s : State) {p : Nat} (f : Nat) (hp : p < 16) : exec (.frameBudget p f) s = .next (s.frameBudget p f) :=
  need_eq _ (by simp [hp])

/-- The second picture of a program, before its budget. -/
def secondPicture : Picture := { f := 0, n := 1, g := 0, launch := 0 }
/-- A program that codes it and has no reference left, so that its budget makes it an IDR (06 R311). -/
def idrDue : State := State.reset.modProg 0 (fun x => { x with pics := [secondPicture] })

/-- The frame budget of that picture is due by the program's own settings (07 R329). -/
theorem idrDue_budgetDue : idrDue.pic 0 0 = some secondPicture ∧ idrDue.budgetDue 0 secondPicture = true ∧
    (idrDue.prog 0).follow = false ∧ (idrDue.prog 0).splicedNow = none := by decide

/-- It posts REFRESH_STARTED, which the picture keeps note of. -/
theorem idrDue_posts : ((idrDue.frameBudget 0 0).prog 0).pics.map Picture.refreshPosted = [true] := by decide

end Sys2Proof.Machine

namespace Sys2Proof

open Machine

/-- Refutes O46: FRAME_BUDGET of a picture that starts a refresh, here one with no reference left, also marks it as posted
(06 R308), so that the program's pictures are not just those with the decided one put in. -/
theorem not_pictureEventsAct : ¬ Obligations.PictureEventsAct := by
  unfold Obligations.PictureEventsAct
  rintro ⟨budget, -⟩
  obtain ⟨decides, -⟩ := budget 0 0 secondPicture (by decide)
  obtain ⟨t, ht, hpics, -⟩ := decides idrDue idrDue_budgetDue
  obtain rfl : idrDue.frameBudget 0 0 = t := by simpa [exec_frameBudget] using ht
  have posted := idrDue_posts
  rw [hpics] at posted
  exact absurd posted (by decide)

end Sys2Proof

/-! ## The dispatcher (05): what leaves its store alone -/

namespace Sys2Proof.Machine

open Sys2Proof

/-! ### Frames that leave the dispatcher alone -/

section Frames

variable {s t : State}

theorem State.TetherOnly.disp (a : s.TetherOnly t) : t.disp = s.disp := by
  obtain ⟨b, w, o, f, rfl⟩ := a
  rfl
theorem State.PageOnly.disp (a : s.PageOnly t) : t.disp = s.disp := by
  obtain ⟨m, o, h, l, f, rfl, -⟩ := a
  rfl

theorem State.foldl_disp {α : Type} {f : State → α → State} (h : ∀ (s : State) a, (f s a).disp = s.disp) (l : List α) (s : State) :
    (l.foldl f s).disp = s.disp :=
  List.foldlRecOn (motive := fun t => t.disp = s.disp) l f rfl fun _ ht a _ => (h _ a).trans ht

end Frames

/-! ### Outcomes, tether messages and page writes (02, 10, 11) -/

@[simp] theorem State.fail_disp (s : State) (c : Cmd) (status detail : Nat) : (s.fail c status detail).disp = s.disp := by
  unfold State.fail
  split
  · exact (State.complete_disp _ c status detail).trans (State.raise_disp s 0x070E deviceId (c.pos % two32) 0)
  · exact State.complete_disp s c status detail
@[simp] theorem State.failOpt_disp (s : State) (id : Option (Nat × Nat)) (status detail : Nat) :
    (s.failOpt id status detail).disp = s.disp := by
  unfold State.failOpt
  split
  · rfl
  · exact State.fail_disp _ _ _ _
@[simp] theorem State.tetherSend_disp (s : State) (type : Nat) (payload : List Byte) : (s.tetherSend type payload).disp = s.disp :=
  (s.tetherSend_tetherOnly type payload).disp
theorem State.ownerPuts_disp (s : State) (owner n : Nat) (enc : Nat → Nat) : (s.ownerPuts owner n enc).disp = s.disp := by
  unfold State.ownerPuts
  dsimp only
  split
  · rfl
  · exact State.foldl_disp (fun s _ => (s.ownWrite_pageOnly _ _ _).disp) _ s.draw.2
@[simp] theorem State.ownerWrites_disp (s : State) (owner : Nat) : (s.ownerWrites owner).disp = s.disp := s.ownerPuts_disp owner _ _

/-! ### Frames of a canopy (04) -/

@[simp] theorem State.composeSection_disp (s : State) (k num r sec : Nat) : (s.composeSection k num r sec).disp = s.disp := by
  unfold State.composeSection
  split
  · rfl
  · exact State.foldl_disp (fun s e => s.modLayer_disp (e / 65536) _) _ _
@[simp] theorem State.finishSection_disp (s : State) (k num r sec : Nat) : (s.finishSection k num r sec).disp = s.disp := by
  unfold State.finishSection
  split
  · rfl
  · exact State.foldl_disp (fun s _ => s.raise_disp _ _ _ _) _ _
@[simp] theorem State.frameComposed_disp (s : State) (k num : Nat) : (s.frameComposed k num).disp = s.disp := by
  unfold State.frameComposed
  split
  · rfl
  · dsimp only
    split
    · exact State.raise_disp _ _ _ _ _
    · rfl
@[simp] theorem State.refreshCanopy_disp (s : State) (k : Nat) : (s.refreshCanopy k).disp = s.disp :=
  State.foldl_disp (fun s f => s.modRx_disp f _) _ s

/-! ### Taps (12) -/

@[simp] theorem State.cvDeliver_disp (s : State) (u n : Nat) (segments : List (List Byte)) : (s.cvDeliver u n segments).disp = s.disp :=
  State.raise_disp _ _ _ _ _
@[simp] theorem State.canopyTap_disp (s : State) (k num : Nat) : (s.canopyTap k num).disp = s.disp := by
  unfold State.canopyTap
  split
  · rfl
  · exact State.foldl_disp (fun s _ => s.cvDeliver_disp _ _ _) _ _
@[simp] theorem State.auTaps_disp (s : State) (p f : Nat) : (s.auTaps p f).disp = s.disp := by
  unfold State.auTaps
  split
  · rfl
  · refine State.foldl_disp (fun s n => (State.foldl_disp (fun s f => ?_) _ _).trans
      (State.foldl_disp (fun s _ => s.cvDeliver_disp _ _ _) _ s)) _ s
    dsimp only
    split
    · exact State.foldl_disp (fun s _ => s.cvDeliver_disp _ _ _) _ s
    · rfl
@[simp] theorem State.finalTaps_disp (s1 s0 : State) (k : OpKey) : (s1.finalTaps s0 k).disp = s1.disp := by
  unfold State.finalTaps
  dsimp only
  split
  · exact State.auTaps_disp _ _ _
  · rfl

/-! ### Pictures, references and rate streams (06, 07) -/

@[simp] theorem State.modPic_disp (s : State) (p f : Nat) (g : Picture → Picture) : (s.modPic p f g).disp = s.disp := rfl
@[simp] theorem State.modStream_disp (s : State) (p n : Nat) (g : RateStream → RateStream) : (s.modStream p n g).disp = s.disp := rfl
@[simp] theorem State.loseRef_disp (s : State) (p poc picture cause : Nat) : (s.loseRef p poc picture cause).disp = s.disp :=
  State.raise_disp _ _ _ _ _
@[simp] theorem State.reconWritten_disp (s : State) (k : OpKey) : (s.reconWritten k).disp = s.disp := by
  unfold State.reconWritten
  split
  · rfl
  · split
    · rfl
    · dsimp only
      split
      · exact State.loseRef_disp _ _ _ _ _
      · rfl
@[simp] theorem State.refreshDone_disp (s : State) (p f : Nat) : (s.refreshDone p f).disp = s.disp := by
  unfold State.refreshDone
  repeat' split
  all_goals simp
@[simp] theorem State.pictureComplete_disp (s : State) (p f : Nat) : (s.pictureComplete p f).disp = s.disp := by
  unfold State.pictureComplete
  split
  · rfl
  · exact State.foldl_disp (fun s (e : StreamGeo) => s.modStream_disp p e.num _) _ s
@[simp] theorem State.packRow_disp (s : State) (p f row n : Nat) : (s.packRow p f row n).disp = s.disp := by
  unfold State.packRow
  split
  · rfl
  · split
    · rfl
    · dsimp only
      simp only [State.modStream_disp, State.modProg_disp, State.modPic_disp]
      split
      · rfl
      · exact State.happen_disp _ _ _ _ _ _

/-! ### The gate (10) -/

@[simp] theorem State.twinCount_disp (s : State) (i : Nat) : (s.twinCount i).disp = s.disp := rfl
@[simp] theorem State.setGate_disp (s : State) (p f row v : Nat) : (s.setGate p f row v).disp = s.disp := rfl
@[simp] theorem State.muteHere_disp (s : State) (p n row cause : Nat) : (s.muteHere p n row cause).disp = s.disp :=
  State.raise_disp _ _ _ _ _
@[simp] theorem State.sendRecords_disp (s : State) (p n row : Nat) : (s.sendRecords p n row).disp = s.disp := by
  refine State.foldl_disp (fun s y => State.foldl_disp (fun s r => ?_) _ s) _ s
  split
  · split
    · exact State.tetherSend_disp _ _ _
    · rfl
  · rfl
@[simp] theorem State.askTwinRefresh_disp (s : State) (p : Nat) : (s.askTwinRefresh p).disp = s.disp := by
  unfold State.askTwinRefresh
  dsimp only
  split <;> rfl
@[simp] theorem State.mutePeer_disp (s : State) (p n row cause : Nat) : (s.mutePeer p n row cause).disp = s.disp := by
  unfold State.mutePeer
  dsimp only
  split
  · rfl
  · simp
@[simp] theorem State.launchAlone_disp (s : State) (p : Nat) (y : Picture) (row : Nat) : (s.launchAlone p y row).disp = s.disp := by
  unfold State.launchAlone
  dsimp only
  split
  · rfl
  · simp
@[simp] theorem State.disagreed_disp (s : State) (p : Nat) (y : Picture) (row : Nat) (peerFault : Bool) :
    (s.disagreed p y row peerFault).disp = s.disp := by
  unfold State.disagreed
  dsimp only
  repeat' split
  all_goals simp
/-- Whatever the gate decides, it marks pictures, counts, mutes and sends. -/
@[simp] theorem State.decideGate_disp (s : State) (p f row : Nat) (ended : Bool) : (s.decideGate p f row ended).disp = s.disp := by
  unfold State.decideGate
  dsimp only
  repeat' split
  all_goals simp
@[simp] theorem State.wholeAgrees_disp (s : State) (p n : Nat) : (s.wholeAgrees p n).disp = s.disp := by
  unfold State.wholeAgrees
  dsimp only
  split
  · refine (State.foldl_disp (fun s y => State.foldl_disp (fun s r => s.decideGate_disp _ _ _ _) _ s) _ _).trans ?_
    split <;> rfl
  · rfl
@[simp] theorem State.compareRow_disp (s : State) (p n row : Nat) : (s.compareRow p n row).disp = s.disp := by
  unfold State.compareRow
  dsimp only
  repeat' split
  all_goals simp
@[simp] theorem State.formRowCrc_disp (s : State) (p f row : Nat) : (s.formRowCrc p f row).disp = s.disp := by
  unfold State.formRowCrc
  split
  · rfl
  · simp only [State.compareRow_disp, State.decideGate_disp]
    repeat' split
    all_goals simp
@[simp] theorem State.rowFinished_disp (s : State) (p f row : Nat) : (s.rowFinished p f row).disp = s.disp := by
  unfold State.rowFinished
  split
  · rfl
  · dsimp only
    repeat' split
    all_goals simp

end Sys2Proof.Machine

/-! ## The dispatcher (05): its store of operations, and units -/

namespace Sys2Proof.Machine

open Sys2Proof

/-! ### What a unit and an operation read as -/

theorem State.unit_congr {s t : State} (h : t.disp.units = s.disp.units) (u : Nat) : t.unit u = s.unit u := by
  unfold State.unit
  rw [h]
theorem State.op_congr {s t : State} (h : t.disp.ops = s.disp.ops) (k : OpKey) : t.op k = s.op k := by
  unfold State.op
  rw [h]

/-- A change that keeps its key is what an operation reads as after it. -/
theorem State.op_modOp {s : State} {k : OpKey} {o : Op} (ho : s.op k = some o) {f : Op → Op} (hf : ∀ x, (f x).key = x.key) :
    (s.modOp k f).op k = some (f o) := by
  have key (x : Op) : (if x.key = k then f x else x).key = x.key := by
    split
    · exact hf x
    · rfl
  have same : o.key = k := by simpa using List.find?_some ho
  have comp : ((fun x : Op => decide (x.key = k)) ∘ fun x => if x.key = k then f x else x) = fun x => decide (x.key = k) :=
    funext fun x => congrArg (fun j => decide (j = k)) (key x)
  unfold State.op at ho ⊢
  unfold State.modOp
  rw [List.find?_map, comp, ho, Option.map_some, if_pos same]

/-! ### A trace record leaves units alone (05 R266) -/

@[simp] theorem Disp.record_units (d : Disp) (r : TraceRec) : (d.record r).units = d.units := by
  unfold Disp.record
  dsimp only
  split <;> rfl
@[simp] theorem State.trace_units (s : State) (decision : Nat) (k : OpKey) (kind unit retired : Nat) :
    (s.trace decision k kind unit retired).disp.units = s.disp.units := by
  unfold State.trace
  dsimp only
  split
  · exact Disp.record_units _ _
  · rfl
@[simp] theorem State.traceUnit_units (s : State) (decision : Nat) (k : OpKey) (u : Nat) :
    (s.traceUnit decision k u).disp.units = s.disp.units := State.trace_units _ _ _ _ _ _
@[simp] theorem State.traceIdle_units (s : State) (decision kind unit retired : Nat) :
    (s.traceIdle decision kind unit retired).disp.units = s.disp.units := by
  unfold State.traceIdle
  dsimp only
  split
  · exact Disp.record_units _ _
  · rfl
@[simp] theorem State.traceSwap_units (s : State) (u sp : Nat) : (s.traceSwap u sp).disp.units = s.disp.units :=
  State.traceIdle_units _ _ _ _ _

/-! ### The store of operations is no unit (05 R243, R245) -/

@[simp] theorem State.dropOp_units (s : State) (k : OpKey) : (s.dropOp k).disp.units = s.disp.units := rfl
@[simp] theorem State.savePack_units (s : State) (k : OpKey) (fault : Bool) : (s.savePack k fault).disp.units = s.disp.units := by
  unfold State.savePack
  split
  · split <;> rfl
  · rfl
@[simp] theorem State.returnOp_units (s : State) (k : OpKey) (raised : Bool) : (s.returnOp k raised).disp.units = s.disp.units :=
  s.savePack_units k raised
@[simp] theorem State.segmentCoded_units (s : State) (k : OpKey) (o : Op) : (s.segmentCoded k o).disp.units = s.disp.units := by
  unfold State.segmentCoded
  dsimp only
  split <;> rfl
/-- What an operation leaves behind is no matter of units. -/
@[simp] theorem State.operationDone_units (s : State) (k : OpKey) (o : Op) : (s.operationDone k o).disp.units = s.disp.units := by
  unfold State.operationDone
  split
  -- A section of a frame is the only one that looks over the whole frame.
  case h_1 | h_2 =>
    dsimp only
    split <;> simp
  all_goals simp

/-! ### Units that change places (05 R250–R252) -/

section Units

variable (s : State)

@[simp] theorem State.unit_retireUnit (u j : Nat) :
    (s.retireUnit u).unit j = if j = u then { s.unit u with state := 2, op := none, awaitAck := false } else s.unit j :=
  s.unit_modUnit u j _
@[simp] theorem State.unit_freeUnit (u j : Nat) :
    (s.freeUnit u).unit j = if j = u then { s.unit u with op := none, awaitAck := false } else s.unit j := s.unit_modUnit u j _
/-- A spare that comes into service, and a unit that an operation is delivered to, is the one that changes. -/
theorem State.unit_bringIn_ne (u : Nat) {sp j : Nat} (h : j ≠ sp) : (s.bringIn u sp).unit j = s.unit j :=
  (s.unit_modUnit sp j (fun x => { x with state := 0, standsFor := some u })).trans (if_neg h)
theorem State.unit_deliver_ne (k : OpKey) {u j : Nat} (h : j ≠ u) : (s.deliver k u).unit j = s.unit j :=
  (State.unit_modUnit _ u j _).trans (if_neg h)

@[simp] theorem State.unit_raise (code object d0 d1 j : Nat) : (s.raise code object d0 d1).unit j = s.unit j :=
  State.unit_congr (by simp) j
@[simp] theorem State.unit_happen (ev : Nat) (objects : List Nat) (qual leg inc j : Nat) :
    (s.happen ev objects qual leg inc).unit j = s.unit j := State.unit_congr (by simp) j
@[simp] theorem State.unit_failOpt (id : Option (Nat × Nat)) (status detail j : Nat) : (s.failOpt id status detail).unit j = s.unit j :=
  State.unit_congr (by simp) j
@[simp] theorem State.unit_unpermit (p : Permit → Bool) (j : Nat) : (s.unpermit p).unit j = s.unit j := rfl
@[simp] theorem State.unit_trace (decision : Nat) (k : OpKey) (kind unit retired j : Nat) :
    (s.trace decision k kind unit retired).unit j = s.unit j := State.unit_congr (by simp) j
@[simp] theorem State.unit_traceUnit (decision : Nat) (k : OpKey) (u j : Nat) : (s.traceUnit decision k u).unit j = s.unit j :=
  State.unit_congr (by simp) j
@[simp] theorem State.unit_traceSwap (u sp j : Nat) : (s.traceSwap u sp).unit j = s.unit j := State.unit_congr (by simp) j
@[simp] theorem State.unit_modOp (k : OpKey) (f : Op → Op) (j : Nat) : (s.modOp k f).unit j = s.unit j := rfl
@[simp] theorem State.unit_returnOp (k : OpKey) (raised : Bool) (j : Nat) : (s.returnOp k raised).unit j = s.unit j :=
  State.unit_congr (by simp) j
@[simp] theorem State.unit_loseUnit (u j : Nat) : (s.loseUnit u).unit j = s.unit j :=
  State.unit_raise _ _ _ _ _ j

/-- A warm spare is another unit than one in service. -/
theorem State.spareOf_ne {u sp : Nat} (hu : (s.unit u).state = 0) (h : s.spareOf u = some sp) : u ≠ sp := by
  rintro rfl
  have warm : (s.unit u).state = 1 := by simpa using List.find?_some h
  exact absurd (hu.symm.trans warm) (by decide)

end Units

end Sys2Proof.Machine

/-! ## The dispatcher (05): unit faults, CTUs and completions -/

namespace Sys2Proof.Machine

open Sys2Proof

/-! ### Unit faults (05 R249–R252) -/

/-- Whatever a faulty unit ran and whichever spare takes its place, it ends retired and runs nothing. -/
theorem State.unitFault_retired (s : State) (u cause : Nat) :
    ((s.unitFault u cause).unit u).state = 2 ∧ ((s.unitFault u cause).unit u).op = none := by
  unfold State.unitFault
  by_cases inService : (s.unit u).state = 0
  · cases spare : s.spareOf u with
    | none => cases runs : (s.unit u).op <;> simp [inService, runs]
    | some sp =>
      have other := s.spareOf_ne inService spare
      cases runs : (s.unit u).op <;> simp [inService, runs, State.unit_deliver_ne _ _ other, State.unit_bringIn_ne _ _ other]
  · cases runs : (s.unit u).op <;> simp [inService, runs]

/-! ### Rows of units (05 R243, R249, R257) -/

section UnitRows

variable {s : State} {u : Nat}

theorem exec_ackTimeout (hu : isUnit u = true) (hb : s.busyUnit u = true) (ha : (s.unit u).awaitAck = true) :
    exec (.ackTimeout u) s = .next ((s.reach ((s.unit u).lastReport + 2000)).unitFault u 1) :=
  (need_eq _ hu).trans (congrArg _ (if_pos (by simp [hb, ha])))
theorem exec_ackTimeout_idle (hu : isUnit u = true) (hb : s.busyUnit u = false) : exec (.ackTimeout u) s = .next s :=
  (need_eq _ hu).trans (congrArg _ (if_neg (by simp [hb])))
theorem exec_progressReport (hu : isUnit u = true) (hb : s.busyUnit u = true) :
    exec (.progressReport u) s = .next (s.modUnit u (fun x => { x with awaitAck := false, lastReport := s.now })) :=
  (need_eq _ hu).trans (congrArg _ (if_pos hb))
theorem exec_progressWatchdog (hu : isUnit u = true) (hb : s.busyUnit u = true) :
    exec (.progressWatchdog u) s = .next ((s.reach ((s.unit u).lastReport + s.watchdog u)).unitFault u 2) :=
  (need_eq _ hu).trans (congrArg _ (if_pos hb))

/-- The error of a unit that is not retired is a failure of hand-off 6, and poisons what it was writing (12 R533, R536). -/
theorem exec_unitInternalError (hu : isUnit u = true) (hs : (s.unit u).state ≠ 2) :
    exec (.unitInternalError u) s =
      .next ((((s.unit u).op.elim s fun k => s.ownerPoisons (progId k.prog)).chainFail 6).unitFault u 0) := by
  refine (need_eq _ hu).trans (congrArg _ ((if_neg hs).trans ?_))
  cases (s.unit u).op <;> rfl
theorem exec_unitInternalError_retired (hu : isUnit u = true) (hs : (s.unit u).state = 2) : exec (.unitInternalError u) s = .next s :=
  (need_eq _ hu).trans (congrArg _ (if_pos hs))

theorem exec_unitSelfTestDone (hu : isUnit u = true) (hs : (s.unit u).state = 3) (passed : Bool) :
    exec (.unitSelfTestDone u passed) s = .next (
      let s1 := s.modUnit u (fun y => { y with state := if passed then 1 else 2, cmd := none, standsFor := none })
      if passed then s1.completeOpt (s.unit u).cmd 2 0
      else (s1.unpermit (fun q => q.code = 7 && q.holder = unitId u)).failOpt (s.unit u).cmd 0x0303 (unitId u)) :=
  (need_eq _ hu).trans (congrArg _ (if_pos hs))

end UnitRows

/-! ### A CTU of a segment (05 R242, R247; 06 R290; 07 R340) -/

/-- Unit `u` codes operation `k` of a picture and a frame, and a CTU of its segment is left that WPP lets it code. -/
structure State.Coding (s : State) (u : Nat) (k : OpKey) (o : Op) (y : Picture) (c : CanFrame) : Prop where
  runs : (s.unit u).op = some k
  op : s.op k = some o
  pic : s.pic k.prog k.pic = some y
  frame : s.frame k.prog k.pic = some c
  encode : k.kind = .encode
  notDone : o.done = false
  left : o.progress < (y.plan.segs.getD k.seg (0, 0)).2 - (y.plan.segs.getD k.seg (0, 0)).1
  wpp : s.wppReady k o y = true

section Coding

variable {s : State} {u : Nat} {k : OpKey} {o : Op} {y : Picture} {c : CanFrame}

theorem exec_ctuComplete (hu : isUnit u = true) (h : s.Coding u k o y c) : exec (.ctuComplete u) s = .next (s.codeCtu k o u y c) := by
  refine (need_eq _ hu).trans (congrArg _ ?_)
  simp only [h.runs, h.op, h.pic, h.frame]
  exact if_pos ⟨h.encode, by simp [h.notDone], h.left, h.wpp⟩

end Coding

/-! ### What a CTU changes (05 R247; 07 R340) -/

/-- A core's report of a CTU acknowledges its delivery, and changes its operation. -/
def State.reportCtu (s : State) (u : Nat) (k : OpKey) (f : Op → Op) : State :=
  (s.modUnit u (fun x => { x with awaitAck := false })).modOp k f

section Report

variable {s : State} {u : Nat} {k : OpKey} {o : Op}

theorem State.unit_reportCtu (f : Op → Op) : (s.reportCtu u k f).unit u = { s.unit u with awaitAck := false } :=
  (s.unit_modUnit u u (fun x => { x with awaitAck := false })).trans (if_pos rfl)
theorem State.op_reportCtu (ho : s.op k = some o) {f : Op → Op} (hf : ∀ x, (f x).key = x.key) :
    (s.reportCtu u k f).op k = some (f o) := State.op_modOp (s := s.modUnit u _) ho hf

end Report

/-- A segment that starts has a context of its own, and nothing else that is new (07 R340). -/
theorem startedOp_progress_cut (o : Op) (e : EncContext) (p : Prop) [Decidable p] :
    (if p then { o with enc := e } else o).progress = o.progress ∧ (if p then { o with enc := e } else o).cut = o.cut := by
  split <;> exact ⟨rfl, rfl⟩

/-- All that coding a CTU changes in the dispatcher is the core's report: the segment is cut over to floor mode, in which it is coded again, or
goes on by one CTU (07 R340). -/
theorem State.codeCtu_disp {s : State} {u : Nat} {k : OpKey} (o : Op) (y : Picture) (c : CanFrame) (noReset : (s.unit u).cmd = none) :
    (o.cut = false ∧ ∃ e, (s.codeCtu k o u y c).disp = (s.reportCtu u k (fun z => { z with cut := true, enc := e })).disp) ∨
      ∃ b e, (s.codeCtu k o u y c).disp =
        (s.reportCtu u k (fun z => { z with progress := o.progress + 1, bits := b, enc := e })).disp := by
  unfold State.codeCtu
  extract_lets pl codec e width q pr row limit floorRow o1 floor left s2 s3
  obtain ⟨progress, cut⟩ : o1.progress = o.progress ∧ o1.cut = o.cut := startedOp_progress_cut o _ _
  rw [← progress, ← cut]
  clear_value q
  split
  split
  next code digest _ cutOver =>
    refine .inl ⟨?_, o1.enc, ?_⟩
    · simp only [floor, Bool.not_eq_true', Bool.or_eq_false_iff] at cutOver
      exact cutOver.1.1
    · split <;> exact State.happen_disp _ _ _ _ _ _
  next code digest _ _ =>
    extract_lets enc t3 t4 t5
    have report : t5.disp = (s.reportCtu u k (fun z =>
        { z with progress := o1.progress + 1, bits := o1.bits + code.bits, enc := enc })).disp := by
      have coded : t4.disp = _ := State.happen_disp _ _ _ _ _ _
      refine Eq.trans ?_ coded
      unfold t5
      split
      · exact State.happen_disp _ _ _ _ _ _
      · rfl
    refine .inr ⟨o1.bits + code.bits, enc, ?_⟩
    have idle : (t5.unit u).cmd = none := by
      rw [State.unit_congr (congrArg Disp.units report), State.unit_reportCtu]
      exact noReset
    rw [if_neg (by simp [idle])]
    exact report

/-- A CTU that is coded acknowledges; the segment has one more of its CTUs, or is cut over. -/
theorem State.codeCtu_steps {s : State} {u : Nat} {k : OpKey} {o : Op} (y : Picture) (c : CanFrame) (ho : s.op k = some o)
    (noReset : (s.unit u).cmd = none) :
    ((s.codeCtu k o u y c).unit u).awaitAck = false ∧ ∃ o', (s.codeCtu k o u y c).op k = some o' ∧
      (o'.progress = o.progress + 1 ∨ (o'.progress = o.progress ∧ o.cut = false ∧ o'.cut = true)) := by
  obtain ⟨f, report, key, stands⟩ : ∃ f : Op → Op, (s.codeCtu k o u y c).disp = (s.reportCtu u k f).disp ∧
      (∀ z, (f z).key = z.key) ∧
      ((f o).progress = o.progress + 1 ∨ ((f o).progress = o.progress ∧ o.cut = false ∧ (f o).cut = true)) := by
    obtain ⟨cut, e, report⟩ | ⟨b, e, report⟩ := State.codeCtu_disp o y c noReset
    · exact ⟨_, report, fun _ => rfl, .inr ⟨rfl, cut, rfl⟩⟩
    · exact ⟨_, report, fun _ => rfl, .inl rfl⟩
  rw [State.unit_congr (congrArg Disp.units report), State.op_congr (congrArg Disp.ops report), State.unit_reportCtu]
  exact ⟨rfl, f o, State.op_reportCtu ho key, stands⟩

/-! ### Completions (05 R246, R254) -/

/-- A completion leaves its unit idle, whatever the operation leaves behind. -/
theorem State.takeCompletion_frees {s : State} {u : Nat} {k : OpKey} {o : Op} (runs : (s.unit u).op = some k) (ho : s.op k = some o)
    (notDone : o.done = false) (noReset : (s.unit u).cmd = none)
    (coded : k.kind = .encode → ((s.opPlan k).segs.getD k.seg (0, 0)).2 - ((s.opPlan k).segs.getD k.seg (0, 0)).1 ≤ o.progress) :
    ((s.takeCompletion u).unit u).op = none ∧ ((s.takeCompletion u).unit u).awaitAck = false := by
  have ended : ¬(o.done = true ∨ (k.kind = .encode ∧
      o.progress < ((s.opPlan k).segs.getD k.seg (0, 0)).2 - ((s.opPlan k).segs.getD k.seg (0, 0)).1)) := by
    rintro (h | ⟨he, hl⟩)
    · simp [notDone] at h
    · exact absurd (coded he) (Nat.not_le.2 hl)
  unfold State.takeCompletion
  simp only [runs, ho]
  rw [if_neg ended]
  generalize hs1 : (if s.deadline k < s.now then _ else _ : State) = s1
  have noted : s1.unit u = s.unit u := by
    rw [← hs1]
    split <;> simp
  have idle : ((((s1.freeUnit u).operationDone k o).ownerWrites (progId k.prog)).reconWritten k).unit u =
      { s.unit u with op := none, awaitAck := false } := by
    rw [State.unit_congr (s := s1.freeUnit u) (by simp), State.unit_freeUnit, if_pos rfl, noted]
  rw [if_neg (by simp [idle, noReset]), idle]
  exact ⟨rfl, rfl⟩

section Completions

variable {s : State} {u : Nat}

theorem exec_operationComplete (hu : isUnit u = true) (hr : s.disp.restarting = false) :
    exec (.operationComplete u) s = .next (s.takeCompletion u) :=
  (need_eq _ hu).trans (congrArg _ (if_neg (by simp [hr])))
theorem exec_operationComplete_gathered (hu : isUnit u = true) (hr : s.disp.restarting = true) (ho : (s.unit u).op.isSome = true) :
    exec (.operationComplete u) s = .next { s with disp := { s.disp with gathered := s.disp.gathered ++ [u] } } :=
  (need_eq _ hu).trans (congrArg _ ((if_pos hr).trans (if_pos ho)))

/-- The completions that a restart gathered are taken at its end (05 R254). -/
theorem exec_dispatcherRestartEnd (hr : s.disp.restarting = true) :
    exec .dispatcherRestartEnd s = .next (
      let s1 := s.reach s.disp.restartEnd
      s1.disp.gathered.foldl (fun s u => s.takeCompletion u) { s1 with disp := { s1.disp with restarting := false, gathered := [] } }) :=
  (need_eq _ rfl).trans (congrArg _ (if_pos hr))

end Completions

end Sys2Proof.Machine

namespace Sys2Proof

open Machine

/-- Settles O47: each row by what its unit does, and the dispatcher's by whether it restarts. -/
theorem unitEventsAct : Obligations.UnitEventsAct := by
  refine ⟨fun u hu => ?units, ?mismatch, ?restarting, ?nothingGathered, fun s hr => exec_dispatcherRestartEnd hr⟩
  case units =>
    refine ⟨fun s ⟨hb, ha⟩ => exec_ackTimeout hu hb ha,
      fun s ⟨hb, ha⟩ => ⟨_, exec_ackTimeout hu hb ha, State.unitFault_retired _ u 1⟩,
      fun s hb => ⟨_, exec_progressWatchdog hu hb, State.unitFault_retired _ u 2⟩,
      fun s hs => ⟨_, exec_unitInternalError hu hs, State.unitFault_retired _ u 0⟩,
      fun s hb => exec_ackTimeout_idle hu hb, fun s hb => exec_progressReport hu hb, fun s hb => exec_progressWatchdog hu hb,
      fun s ⟨hs, idle⟩ => ?errorIdle, fun k s ⟨hs, runs⟩ => ?errorRunning, fun s hs => exec_unitInternalError_retired hu hs,
      fun s hs => exec_unitSelfTestDone hu hs true, fun s hs => exec_unitSelfTestDone hu hs false, ?coded, ?steps, ?completes,
      fun s hr => exec_operationComplete hu hr, fun s ⟨hr, ho⟩ => exec_operationComplete_gathered hu hr ho⟩
    case errorIdle =>
      rw [exec_unitInternalError hu hs, idle]
      rfl
    case errorRunning =>
      rw [exec_unitInternalError hu hs, runs]
      rfl
    case coded =>
      rintro k o y c s ⟨runs, op, pic, frame, encode, notDone, left, wpp⟩
      exact exec_ctuComplete hu ⟨runs, op, pic, frame, encode, notDone, left, wpp⟩
    case steps =>
      rintro k o y c s ⟨runs, op, pic, frame, encode, notDone, left, wpp, noReset⟩
      exact ⟨_, exec_ctuComplete hu ⟨runs, op, pic, frame, encode, notDone, left, wpp⟩, State.codeCtu_steps y c op noReset⟩
    case completes =>
      rintro k o s ⟨hr, runs, op, notDone, noReset, coded⟩
      exact ⟨_, exec_operationComplete hu hr, State.takeCompletion_frees runs op notDone noReset coded⟩
  case mismatch => exact fun s hr => (need_eq _ rfl).trans (congrArg _ (if_neg (by simp [hr])))
  case restarting => exact fun s hr => (need_eq _ rfl).trans (congrArg _ (if_pos hr))
  case nothingGathered =>
    rintro s ⟨hr, empty⟩
    rw [exec_dispatcherRestartEnd hr]
    simp [empty]

end Sys2Proof

/-! ## Programs and rate control (06, 07, 08, 09): the commands of a program, at once or at its clearing -/

namespace Sys2Proof

/-- The last write of a number stands. -/
theorem Tab.set_set {α : Type} (t : Tab α) (i : Nat) (a b : α) : (t.set i a).set i b = t.set i b := by
  induction t with
  | nil => simp [Tab.set]
  | cons e t ih =>
    obtain ⟨j, x⟩ := e
    obtain rfl | ne := eq_or_ne i j
    · simp [Tab.set]
    · by_cases before : i < j
      · simp [Tab.set, ne, before]
      · simp [Tab.set, ne, before, ih]

end Sys2Proof

namespace Sys2Proof.Machine

open Sys2Proof

/-! ### Changes of a program -/

/-- Only what a change makes of the program that stands matters. -/
theorem State.modProg_congr {s : State} {i : Nat} {f g : Program → Program} (h : f (s.prog i) = g (s.prog i)) :
    s.modProg i f = s.modProg i g :=
  congrArg (fun x => { s with progs := s.progs.set i x }) h
theorem State.modProg_modProg (s : State) (i : Nat) (f g : Program → Program) :
    (s.modProg i f).modProg i g = s.modProg i (fun p => g (f p)) := by
  simp [State.modProg, Tab.upd, Tab.set_set]

/-! ### Commands of a program that does not run (06 R270, R314; 07 R323, R345; 08 R350) -/

/-- The settings that a PROGRAM_CONFIG gives, as its canopy is a wall or not. -/
def State.givenCfg (s : State) (c : Cmd) : ProgCfg :=
  c.progCfg ((s.canopy c.idx).configured && (s.canopy c.idx).comingGeom.mode == 1)

/-- A PROGRAM_CONFIG alters what an active program may not change (06 R315). -/
def Cmd.AltersFixedPart (c : Cmd) (s : State) : Prop :=
  s.progActive c.idx = true ∧ (s.givenCfg c).fixedPart ≠ ((s.prog c.idx).cfg.getD {}).fixedPart

section Idle

variable {c : Cmd} {s : State} (idle : (s.prog c.idx).running = false)

include idle

theorem effProgramConfig_idle (keeps : ¬c.AltersFixedPart s) :
    effProgramConfig c s = ((s.modProg c.idx (fun p => { p with cfg := some (s.givenCfg c) })).recharge c.idx).ok c := by
  refine (if_neg (by simp [idle])).trans ((if_neg keeps).trans ?_)
  exact congrArg (fun t => (State.recharge t c.idx).ok c) (State.modProg_congr (by simp [idle, State.givenCfg]))
theorem effProgramConfig_alters (alters : c.AltersFixedPart s) : effProgramConfig c s = s.fail c 0x0303 c.object :=
  (if_neg (by simp [idle])).trans (if_pos alters)

theorem effSubpicMap_idle :
    effSubpicMap c s = (s.modProg c.idx (fun p => { p with
      mapMode := c.u 0 1, mapSet := if c.u 0 1 = 1 then some ((bitsSet 256 (c.u 4 32)).map (fun i => i + 1)) else none })).ok c := by
  refine (if_neg (by simp [idle])).trans (congrArg (State.ok · c) ((State.modProg_modProg _ _ _ _).trans ?_))
  exact State.modProg_congr (by simp [idle])

theorem effRateConfig_idle (good : lowestBad (s.badNewRate c.idx (c.rateCfg (s.prog c.idx).rate)) = none) :
    effRateConfig c s = (s.modProg c.idx (fun x => { x with rate := c.rateCfg x.rate })).ok c :=
  (if_neg (by simp [good])).trans (if_pos (by simp [idle]))

theorem effRateBounds_idle : effRateBounds c s = (s.modProg c.idx (fun p => { p with rate := c.rateBounds p.rate })).ok c :=
  (if_neg (by simp [idle])).trans (congrArg (State.ok · c) (State.modProg_congr (by simp [idle])))

theorem effProgramStop_idle : effProgramStop c s = s.ok c := if_pos (by simp [idle])

end Idle

/-! ### Settings and stops of a running program, and starts (06 R314–R317, 07 R324, 08 R350) -/

section BeforeClearing

variable {c : Cmd} {s : State} (unarmed : c.armed = false)

section Running

variable (runs : (s.prog c.idx).running = true)

include unarmed runs

theorem effProgramConfig_waits : effProgramConfig c s = s.awaitClearing c c.idx := if_pos (by simp [unarmed, runs])
theorem effSubpicMap_waits : effSubpicMap c s = s.awaitClearing c c.idx := if_pos (by simp [unarmed, runs])
theorem effRateBounds_waits : effRateBounds c s = s.awaitClearing c c.idx := if_pos (by simp [unarmed, runs])
theorem effProgramStop_waits : effProgramStop c s = s.awaitClearing c c.idx :=
  (if_neg (by simp [runs])).trans (if_pos (by simp [unarmed]))
/-- A RATE_CONFIG that changes a rate or a buffer size has that wait, too (07 R324). -/
theorem effRateConfig_waits (good : lowestBad (s.badNewRate c.idx (c.rateCfg (s.prog c.idx).rate)) = none) :
    effRateConfig c s =
      let x := s.prog c.idx
      let r := c.rateCfg x.rate
      (s.modProg c.idx (fun y => { y with
        rateWaits := y.rateWaits || (r.bitRate != x.rate.bitRate || r.cpb x.plan.geom.rate != x.rate.cpb x.plan.geom.rate) })).awaitClearing
          c c.idx :=
  (if_neg (by simp [good])).trans ((if_neg (by simp [runs])).trans (if_pos (by simp [unarmed])))

end Running

include unarmed in
theorem effProgramStart_waits (runs : (s.canopy c.idx).running = true) : effProgramStart c s = s.awaitClearing c c.idx :=
  (if_neg (by simp [runs])).trans (if_neg (by simp [unarmed]))

end BeforeClearing

/-- A PROGRAM_START of a canopy that does not run starts it, and is past its commit point then (06 R314). -/
theorem effProgramStart_startsCanopy {c : Cmd} {s : State} (stopped : (s.canopy c.idx).running = false) :
    effProgramStart c s = ((s.startCanopy c.idx).awaitClearing c c.idx).modCmd c.q c.seq (fun d =>
      { d with phase := .committed, notBefore := none }) :=
  if_pos (by simp [stopped])

/-! ### RATE_CONFIG beyond a limit, FORCE_REFRESH, LAUNCH_POLICY and RATE_STATUS (06 R303, R304; 07 R348; 09 R412; log entry 156) -/

section Present

variable {c : Cmd} {s : State}

theorem effRateConfig_bad {o : Nat} (bad : lowestBad (s.badNewRate c.idx (c.rateCfg (s.prog c.idx).rate)) = some o) :
    effRateConfig c s = s.fail c 0x0303 c.object := if_pos (by simp [bad])

theorem effForceRefresh_active (active : s.progActive c.idx = true) :
    effForceRefresh c s = (s.modProg c.idx (fun p => { p with
      refreshReq := askRefresh p.refreshReq (if c.u 0 1 = 0 then 2 else 1), epochDue := true })).ok c := if_pos active
theorem effForceRefresh_inactive (inactive : s.progActive c.idx = false) : effForceRefresh c s = s.ok c := if_neg (by simp [inactive])

theorem effLaunchPolicy_inactive (inactive : s.progActive c.idx = false) :
    effLaunchPolicy c s = (s.modProg c.idx (fun p => { p with launchBase := c.u 0 1, window := some (c.u 4 4) })).ok c :=
  if_neg (by simp [inactive])
theorem effLaunchPolicy_active (active : s.progActive c.idx = true) : effLaunchPolicy c s = s.fail c 0x0303 c.object := if_pos active

theorem effRateStatus_stream {x : RateStream} (found : s.statusStream c.idx (c.u 0 2) = some x) :
    effRateStatus c s = (s.writeBuf c (c.u 4 8) (s.rateRecord c.idx x)).ok c 64 := by
  simp only [effRateStatus, found]
theorem effRateStatus_noStream (absent : s.statusStream c.idx (c.u 0 2) = none) :
    effRateStatus c s = s.fail c 0x0303 c.object := by
  simp only [effRateStatus, absent]

end Present

end Sys2Proof.Machine

namespace Sys2Proof

open Machine

/-- Settles O27, a setting by whether it breaks what is about to start, and the other rows by what the program is or has. -/
theorem idleProgramCommandsRun : Obligations.IdleProgramCommandsRun :=
  ⟨⟨runsIf_of_eff (fun _ _ _ => rfl) fun _ _ _ ⟨idle, keeps⟩ => effProgramConfig_idle idle keeps,
      runsIf_of_eff (fun _ _ _ => rfl) fun _ _ _ ⟨idle, alters⟩ => effProgramConfig_alters idle alters⟩,
    runsIf_of_eff (fun _ _ _ => rfl) fun _ _ _ idle => effSubpicMap_idle idle,
    runsIf_of_eff (fun _ _ _ => rfl) fun _ _ _ ⟨idle, good⟩ => effRateConfig_idle idle good,
    fun _ => runsIf_of_eff (fun _ _ _ => rfl) fun _ _ _ bad => effRateConfig_bad bad,
    runsIf_of_eff (fun _ _ _ => rfl) fun _ _ _ idle => effRateBounds_idle idle,
    runsIf_of_eff (fun _ _ _ => rfl) fun _ _ _ idle => effProgramStop_idle idle,
    runsIf_of_eff (fun _ _ _ => rfl) fun _ _ _ active => effForceRefresh_active active,
    runsIf_of_eff (fun _ _ _ => rfl) fun _ _ _ inactive => effForceRefresh_inactive inactive,
    runsIf_of_eff (fun _ _ _ => rfl) fun _ _ _ inactive => effLaunchPolicy_inactive inactive,
    runsIf_of_eff (fun _ _ _ => rfl) fun _ _ _ active => effLaunchPolicy_active active,
    fun _ => runsIf_of_eff (fun _ _ _ => rfl) fun _ _ _ found => effRateStatus_stream found,
    runsIf_of_eff (fun _ _ _ => rfl) fun _ _ _ absent => effRateStatus_noStream absent⟩

/-- Settles O28: a command that is not at its clearing yet waits for it, a PROGRAM_START by whether its canopy runs. -/
theorem programCommandsWaitForTheirClearing : Obligations.ProgramCommandsWaitForTheirClearing :=
  ⟨runsAtClearing_of_eff (fun _ _ _ => rfl) fun _ _ ⟨unarmed, runs⟩ => effProgramConfig_waits unarmed runs,
    runsAtClearing_of_eff (fun _ _ _ => rfl) fun _ _ ⟨unarmed, runs⟩ => effProgramStop_waits unarmed runs,
    runsAtClearing_of_eff (fun _ _ _ => rfl) fun _ _ ⟨unarmed, runs⟩ => effSubpicMap_waits unarmed runs,
    runsAtClearing_of_eff (fun _ _ _ => rfl) fun _ _ ⟨unarmed, runs⟩ => effRateBounds_waits unarmed runs,
    runsAtClearing_of_eff (fun _ _ _ => rfl) fun _ _ ⟨unarmed, runs, good⟩ => effRateConfig_waits unarmed runs good,
    runsAtClearing_of_eff (fun _ _ _ => rfl) fun _ _ ⟨unarmed, runs⟩ => effProgramStart_waits unarmed runs,
    runsAtClearing_of_eff (fun _ _ _ => rfl) fun _ _ stopped => effProgramStart_startsCanopy stopped⟩

end Sys2Proof

/-! ## Egress (08): the commands of flows, shapers and queues -/

namespace Sys2Proof.Machine

open Sys2Proof

section EgressCommands

variable {c : Cmd} {s : State}

/-! ### FLOW_TX_CLOSE (08 R368) -/

theorem effFlowTxClose_closed (closed : (s.txFlow c.idx).isOpen = false) : effFlowTxClose c s = s.ok c := if_pos (by simp [closed])
theorem effFlowTxClose_open (isOpen : (s.txFlow c.idx).isOpen = true) :
    effFlowTxClose c s = ((s.commits c).modTx c.idx (fun f => { f with closing := some (c.q, c.seq, s.now) })).closeDone c.idx :=
  if_neg (by simp [isOpen])

/-! ### SCHED_CLASS_SET (08 R378) -/

theorem effSchedClassSet_flow (flow : c.cls = 6) :
    effSchedClassSet c s = (s.modTx c.idx (fun f => { f with beQueue := c.u 0 1 })).ok c := if_pos flow
theorem effSchedClassSet_subPort (port : c.cls ≠ 6) :
    effSchedClassSet c s = (s.modSub (c.u 1 1) (c.u 2 1) (fun x => { x with
      weights := (List.range 7).foldl (fun w i => Tab.set w (i + 1) (c.u (4 + i) 1)) x.weights })).ok c := if_neg port

end EgressCommands

end Sys2Proof.Machine

namespace Sys2Proof

open Machine

/-- Settles O29: each row starts its command with the effect of its opcode, a FLOW_TX_CLOSE by whether its flow is open and a
SCHED_CLASS_SET by whether it names a flow. -/
theorem egressCommandsRun : Obligations.EgressCommandsRun :=
  ⟨runs_of_eff fun _ _ _ => rfl,
    runsIf_of_eff (fun _ _ _ => rfl) fun _ _ _ closed => effFlowTxClose_closed closed,
    runsIf_of_eff (fun _ _ _ => rfl) fun _ _ _ isOpen => effFlowTxClose_open isOpen,
    runs_of_eff fun _ _ _ => rfl,
    runsIf_of_eff (fun _ _ _ => rfl) fun _ _ _ flow => effSchedClassSet_flow flow,
    runsIf_of_eff (fun _ _ _ => rfl) fun _ _ _ port => effSchedClassSet_subPort port⟩

end Sys2Proof

/-! ## Egress (08): shapers, wires and links -/

namespace Sys2Proof.Machine

open Sys2Proof

/-! ### SHAPER_ELIGIBLE (08 R372–R374, R377) -/

/-- Two changes of a flow are one. -/
theorem State.modTx_modTx (s : State) (i : Nat) (f g : TxFlow → TxFlow) :
    (s.modTx i f).modTx i g = s.modTx i (fun x => g (f x)) := by
  simp [State.modTx, Tab.upd, Tab.set_set]
/-- Two changes of a leg are one. -/
theorem State.modLeg_modLeg (s : State) (f leg : Nat) (g h : TxLeg → TxLeg) :
    (s.modLeg f leg g).modLeg f leg h = s.modLeg f leg (h ∘ g) := by
  simp [State.modLeg, State.modTx_modTx, List.modify_modify_eq]

/-- An update of a leg's buckets leaves it on its sub-port. -/
@[simp] theorem TxLeg.update_port (l : TxLeg) (now : Nat) : (l.update now).port = l.port := by
  unfold TxLeg.update; split <;> rfl
@[simp] theorem TxLeg.update_sub (l : TxLeg) (now : Nat) : (l.update now).sub = l.sub := by
  unfold TxLeg.update; split <;> rfl

/-- The leg that a test judges: new shaper values that wait take effect first (R377; log entry 171). -/
def TxLeg.judged (l : TxLeg) (now : Nat) : TxLeg := if l.newSet.isSome = true then l.update now else l
@[simp] theorem TxLeg.judged_port (l : TxLeg) (now : Nat) : (l.judged now).port = l.port := by
  unfold TxLeg.judged; split <;> simp
@[simp] theorem TxLeg.judged_sub (l : TxLeg) (now : Nat) : (l.judged now).sub = l.sub := by
  unfold TxLeg.judged; split <;> simp

/-- Only a packet of a class-0 flow waits for its leg's committed bucket, too (R374). -/
theorem TxLeg.eligibleAt_cls (l : TxLeg) (cls : Nat) (p : TxPkt) :
    l.eligibleAt (cls == 0) p = max (max p.launch p.passed) (l.tLast +
      min (max (l.p.wait (8 * (l.frameLen p + l.overhead))) (if cls = 0 then l.c.wait (8 * (l.frameLen p + l.overhead)) else 0))
        2147483649) := by
  simp [TxLeg.eligibleAt]

section ShaperEligible

variable {s : State} {flow leg : Nat} {l : TxLeg} {p : TxPkt} {rest : List TxPkt} (t : Nat) (hf : flow < 1024)
  (hl : s.txLeg flow leg = some l)

include hf hl

theorem exec_shaperEligible_empty (hq : l.queue = []) : exec (.shaperEligible flow leg t) s = .next s := by
  refine (need_eq _ (by simp [hf])).trans (congrArg _ ?_)
  simp only [hl, hq]

variable {n : Nat} (hq : l.queue = p :: rest)
  (hn : (l.judged (s.at32 t).now).eligibleAt ((s.txFlow flow).cls == 0) p = n)

include hq hn

/-- The head packet is released at its eligibility instant when that has come. -/
theorem exec_shaperEligible_due (due : n ≤ (s.at32 t).now) :
    exec (.shaperEligible flow leg t) s = .next (
      let l1 := l.judged (s.at32 t).now
      (s.at32 t).releaseHead flow leg (l1.update n) p rest (8 * (l1.frameLen p + l1.overhead)) n) := by
  subst hn
  refine (need_eq _ (by simp [hf])).trans (congrArg _ ?_)
  simp only [hl, hq]
  exact if_pos due

/-- Before that, the test only brings the buckets up to date. -/
theorem exec_shaperEligible_early (early : (s.at32 t).now < n) :
    exec (.shaperEligible flow leg t) s = .next (
      (s.at32 t).modLeg flow leg (fun _ => (l.judged (s.at32 t).now).update (s.at32 t).now)) := by
  subst hn
  refine (need_eq _ (by simp [hf])).trans (congrArg _ ?_)
  simp only [hl, hq]
  exact if_neg (Nat.not_le.mpr early)

end ShaperEligible

/-- A shaped packet of a link that is up waits for the arbiter, its bits taken from both buckets (R374). -/
theorem State.releaseHead_shaped {s : State} {f : Nat} (leg : Nat) {l : TxLeg} {p : TxPkt} (rest : List TxPkt) (cost n : Nat)
    (shaped : (s.txFlow f).cls = 0) (sent : p.muted = false) (up : (s.subPort l.port l.sub).linkUp = true) :
    s.releaseHead f leg l p rest cost n = s.modLeg f leg (fun _ =>
      { l with queue := rest, p := l.p.take cost, c := l.c.take cost, released := l.released ++ [(p, n)] }) := by
  unfold State.releaseHead
  simp only [shaped, sent, up, Bool.false_eq_true, if_false, Bool.not_true, Nat.zero_ne_one]
  exact State.modLeg_modLeg s f leg _ _

/-! ### WIRE_IDLE (08 R380, R382–R384) -/

/-- The released packets of shaped flows in the order in which they may start (R382, R384). -/
def State.shapedLine (s : State) (port sub : Nat) : List (Nat × Nat × Nat × TxPkt) := (s.waitingOn port sub).mergeSort shapedBefore
/-- The launch guard lets a released packet start (R383, R384). -/
def State.mayStart (s : State) (port sub : Nat) : Nat × Nat × Nat × TxPkt → Bool := fun e =>
  e.2.2.2.first || s.guardOk port sub (((s.txLeg e.2.1 e.2.2.1).map (fun l => l.frameLen e.2.2.2 + l.overhead)).getD 0)
/-- The packets that the guard passes over are counted on their legs (R383). -/
def State.countDeferred (s : State) (port sub : Nat) : State :=
  ((s.shapedLine port sub).takeWhile (fun e => !s.mayStart port sub e)).foldl (fun s e => s.countLeg e.2.1 e.2.2.1 5 1) s

section Arbitrate

variable {s : State} {port sub : Nat}

theorem State.arbitrate_busy (busy : ¬((s.subPort port sub).linkUp = true ∧ (s.subPort port sub).wire = none)) :
    s.arbitrate port sub = s := by
  refine if_pos ?_
  simpa [imp_iff_not_or, Option.isSome_iff_ne_none] using busy

variable (free : (s.subPort port sub).linkUp = true ∧ (s.subPort port sub).wire = none)

include free

theorem State.arbitrate_ptp (ptp : (s.subPort port sub).ptpWaiting ≠ 0 ∧ s.guardOk port sub 110 = true) :
    s.arbitrate port sub = (s.modSub port sub (fun x =>
      { x with ptpWaiting := x.ptpWaiting - 1, wire := some (none, s.now + s.wireTime port 110) })).emit (.wirePtp port sub) :=
  (if_neg (by simp [free])).trans (if_pos ptp)

variable (noPtp : ¬((s.subPort port sub).ptpWaiting ≠ 0 ∧ s.guardOk port sub 110 = true))

include noPtp

/-- With no PTP message to go first, the arbiter takes the first shaped packet that the guard lets start, and best effort where there
is none. -/
theorem State.arbitrate_line : s.arbitrate port sub =
    ((s.shapedLine port sub).find? (s.mayStart port sub)).elim
      ((s.subPort port sub).bestQueue.elim (s.countDeferred port sub) fun e =>
        if s.guardOk port sub (s.beBytes e.2) = true then (s.countDeferred port sub).startBe port sub e.1 e.2
        else (s.countDeferred port sub).holdBe e.2)
      fun e => (s.countDeferred port sub).startShaped e.2.1 e.2.2.1 e.2.2.2 := by
  refine (if_neg (by simp [free])).trans ((if_neg noPtp).trans ?_)
  unfold State.shapedLine State.mayStart
  dsimp only
  split
  case h_1 found => rw [found]; rfl
  case h_2 held =>
    rw [held, Option.elim_none]
    split <;> next best => rw [best]; rfl

theorem State.arbitrate_shaped {e : Nat × Nat × Nat × TxPkt}
    (found : (s.shapedLine port sub).find? (s.mayStart port sub) = some e) :
    s.arbitrate port sub = (s.countDeferred port sub).startShaped e.2.1 e.2.2.1 e.2.2.2 := by
  rw [State.arbitrate_line free noPtp, found, Option.elim_some]

variable (held : (s.shapedLine port sub).find? (s.mayStart port sub) = none)

include held

theorem State.arbitrate_bestEffort {q : Nat} {b : BePkt} (best : (s.subPort port sub).bestQueue = some (q, b)) :
    s.arbitrate port sub =
      if s.guardOk port sub (s.beBytes b) = true then (s.countDeferred port sub).startBe port sub q b
      else (s.countDeferred port sub).holdBe b := by
  rw [State.arbitrate_line free noPtp, held, Option.elim_none, best, Option.elim_some]

theorem State.arbitrate_nothing (best : (s.subPort port sub).bestQueue = none) : s.arbitrate port sub = s.countDeferred port sub := by
  rw [State.arbitrate_line free noPtp, held, Option.elim_none, best, Option.elim_none]

end Arbitrate

/-! ### PACKET_END (08 R370, R417; 12 R535) -/

/-- The wire of a sub-port has fallen idle at an instant. -/
def State.wireFreed (s : State) (port sub at_ : Nat) : State := (s.reach at_).modSub port sub (fun x => { x with wire := none })
/-- The frame of a packet as the wire has shown it, with its FCS inverted if its internal check failed (12 R535). -/
def State.shownFrame (s : State) (f leg : Nat) (p : TxPkt) (ok : Bool) : List Byte :=
  let sent := ((s.txLeg f leg).map (fun l => l.frame (s.txFlow f) p)).getD []
  if ok then sent else sent.take (sent.length - 4) ++ (sent.drop (sent.length - 4)).map (fun b => b ^^^ 0xFF)
/-- The leg has sent its packet; a failed internal check is counted and raised (12 R535). -/
def State.packetSent (s : State) (port sub f leg : Nat) (p : TxPkt) (ok : Bool) (seq : Nat) : State :=
  let off := (s.modLeg f leg (fun l => { l with sending := none })).emit (.wire port sub f leg (s.shownFrame f leg p ok))
  if ok then off else ((off.countLeg f leg 6 1).chainFail 8).raise 0x0903 (txId f) leg seq
/-- How far past its train's window a packet of a codestream has ended (R417). -/
def State.lateness (s : State) (f leg : Nat) (p : TxPkt) (end_ : Nat) : Option Int :=
  match s.egress.trains.find? (fun t => t.has p f leg) with
  | some t => if t.prog < 16 then some ((end_ : Int) - t.windowEnd) else none
  | none => none

section PacketEnd

variable {s : State} {port sub at_ : Nat} (ok : Bool)

theorem State.packetEnd_idle (idle : (s.subPort port sub).wire = none) : s.packetEnd port sub ok = s := by
  simp only [State.packetEnd, idle]

theorem State.packetEnd_unowned (unowned : (s.subPort port sub).wire = some (none, at_)) :
    s.packetEnd port sub ok = s.wireFreed port sub at_ := by
  simp only [State.packetEnd, unowned]
  rfl

theorem State.packetEnd_leg {f leg start : Nat} {p : TxPkt} (owned : (s.subPort port sub).wire = some (some (f, leg), at_))
    (sends : ((s.wireFreed port sub at_).txLeg f leg).bind TxLeg.sending = some (p, start)) :
    s.packetEnd port sub ok =
      let freed := s.wireFreed port sub at_
      let gone := freed.packetSent port sub f leg p ok (((s.txFlow f).seq0 + p.k) % 65536)
      gone.packetGone f leg p
        (gone.lateness f leg p (start + s.wireTime port (((freed.txLeg f leg).map (fun l => l.frameLen p)).getD 0))) := by
  unfold State.wireFreed at sends
  simp only [State.packetEnd, owned, sends]
  cases ok <;> rfl

end PacketEnd

/-! ### BE_TIMEOUT (08 R381) and LINK_DOWN (08 R385) -/

theorem exec_beTimeout_flow {s : State} {port sub q f leg : Nat} {b : BePkt} {rest : List BePkt} {p : TxPkt} (hp : port < 4)
    (hs : sub < 4) (hq : q < 8) (head : (s.subPort port sub).beQueues.get [] q = b :: rest) (flow : b.flow = some (f, leg))
    (pkt : b.pkt = some p) :
    exec (.beTimeout port sub q) s = .next (
      ((((s.reach (b.entered + 2000000)).modSub port sub (fun x =>
        { x with beQueues := x.beQueues.set q rest })).countLeg f leg 4 1).freePacket p).closeDone f) := by
  refine (need_eq _ (by simp [hp, hs, hq])).trans (congrArg _ ?_)
  simp only [head, flow, pkt]

/-- What the legs of a sub-port have released: flow, leg and packet. -/
def State.releasedOn (s : State) (port sub : Nat) : List (Nat × Nat × TxPkt) :=
  s.egress.flows.flatMap (fun e => (e.2.legs.zipIdx).flatMap (fun l =>
    if l.1.port = port ∧ l.1.sub = sub then l.1.released.map (fun r => (e.1, l.2, r.1)) else []))

theorem State.releasedOn_eq_nil {s : State} {port sub : Nat}
    (h : ∀ e ∈ s.egress.flows, ∀ l ∈ e.2.legs, l.port = port → l.sub = sub → l.released = []) : s.releasedOn port sub = [] := by
  refine List.flatMap_eq_nil_iff.mpr fun e he => List.flatMap_eq_nil_iff.mpr fun l hl => ?_
  split
  · next here => rw [h e he l.1 (List.fst_mem_of_mem_zipIdx hl) here.1 here.2, List.map_nil]
  · rfl

/-- The link goes down, and each released packet is discarded and counted on its leg (R385). -/
def State.linkGone (s : State) (port sub : Nat) : State :=
  (s.releasedOn port sub).foldl (fun s e =>
    ((s.modLeg e.1 e.2.1 (fun l => { l with released := l.released.tail })).countLeg e.1 e.2.1 2 1).packetGone e.1 e.2.1 e.2.2 none)
    (s.modSub port sub (fun x => { x with linkUp := false }))

theorem State.linkGone_nothing {s : State} {port sub : Nat} (h : s.releasedOn port sub = []) :
    s.linkGone port sub = s.modSub port sub (fun x => { x with linkUp := false }) := by
  rw [State.linkGone, h, List.foldl_nil]

end Sys2Proof.Machine

namespace Sys2Proof

open Machine

/-- Settles O48: a leg's head by its eligibility instant, a wire by what waits for it and what the guard lets start, the end of a packet
by what had the wire, and a link that goes down by what its legs have released. -/
theorem egressEventsAct : Obligations.EgressEventsAct := by
  refine ⟨fun flow leg t l0 p rest hf => ?shaper, fun port sub hp hs => ?wire⟩
  case shaper =>
    intro l cost instant there
    have eligible (s : State) : (l s).eligibleAt ((s.txFlow flow).cls == 0) p = instant s := TxLeg.eligibleAt_cls _ _ _
    have released (s : State) (h : there s) (due : instant s ≤ (s.at32 t).now) := exec_shaperEligible_due t hf h.1 h.2 (eligible s) due
    refine ⟨fun s ⟨h, due⟩ => released s h due, ?shaped,
      fun s ⟨⟨hl, hq⟩, early⟩ => exec_shaperEligible_early t hf hl hq (eligible s) early,
      fun s ⟨hl, hq⟩ => exec_shaperEligible_empty t hf hl hq⟩
    case shaped =>
      rintro s ⟨h, due, shaped, sent, up⟩
      have hs : ((s.at32 t).txFlow flow).cls = 0 := by rwa [State.txFlow, State.at32_egress]
      exact (released s h due).trans (congrArg _ (State.releaseHead_shaped leg rest _ _ hs sent (by simpa using up)))
  case wire =>
    have hok : (decide (port < 4) && decide (sub < 4)) = true := by simp [hp, hs]
    refine ⟨fun t => ?idle, fun e at_ => answers_of_need hok (fun _ => rfl) fun s unowned => State.packetEnd_unowned e unowned,
      fun f leg at_ p x e => ?leg, fun e => answers_of_need hok (fun _ => rfl) fun s idle => State.packetEnd_idle e idle,
      fun q b rest f leg pk hq s ⟨head, flow, pkt⟩ => exec_beTimeout_flow hp hs hq head flow pkt, ?unreleased,
      answers_always hok fun s => rfl, answers_always hok fun s => rfl⟩
    case idle =>
      intro now free ptp line may counted
      have wire {p : State → Prop} {f : State → State} (h : ∀ s, p s → (now s).arbitrate port sub = f s) :
          Answers (.wireIdle port sub t) p f := answers_of_need hok (fun _ => rfl) h
      exact ⟨wire fun s busy => State.arbitrate_busy busy,
        wire fun s ⟨hfree, hptp⟩ => State.arbitrate_ptp hfree hptp,
        fun e => wire fun s ⟨hfree, hptp, found⟩ => State.arbitrate_shaped hfree hptp found,
        fun q b => wire fun s ⟨hfree, hptp, held, best⟩ => State.arbitrate_bestEffort hfree hptp held best,
        wire fun s ⟨hfree, hptp, held, best⟩ => State.arbitrate_nothing hfree hptp held best⟩
    case leg =>
      intro ended late sent off there
      refine ⟨answers_of_need hok (fun _ => rfl) fun s ⟨owned, sends⟩ => State.packetEnd_leg true owned sends, ?failed⟩
      case failed =>
        rintro s ⟨⟨owned, sends⟩, rfl⟩
        exact (need_eq _ hok).trans (congrArg _ (State.packetEnd_leg false owned sends))
    case unreleased =>
      intro s h
      exact ⟨_, need_eq _ hok, State.linkGone_nothing (State.releasedOn_eq_nil h)⟩

end Sys2Proof

/-! ## Time and launch (09): the tick of the clocks -/

namespace Sys2Proof.Machine

open Sys2Proof

/-! ### The value of a base (R388, R390) -/

@[simp] theorem TimeBase.units_setUnits (b : TimeBase) (u : Nat) : (b.setUnits u).units = u := by
  simp only [TimeBase.setUnits, TimeBase.units, TimeBase.ext, Nat.div_add_mod']
theorem TimeBase.ns_setUnits_lt (b : TimeBase) (u : Nat) : (b.setUnits u).ns < two32 := Nat.mod_lt _ (by decide)
theorem TimeBase.frac_setUnits_lt (b : TimeBase) (u : Nat) : (b.setUnits u).frac < two30 := Nat.mod_lt _ (by decide)
theorem TimeBase.epoch_setUnits (b : TimeBase) (u : Nat) :
    (b.setUnits u).epoch = xor b.epoch (decide (((b.setUnits u).wraps + b.wraps) % 2 = 1)) := rfl
theorem TimeBase.epoch_setUnits_same {b : TimeBase} {u : Nat} (same : (b.setUnits u).wraps = b.wraps) :
    (b.setUnits u).epoch = b.epoch := by
  rw [TimeBase.epoch_setUnits, same, decide_eq_false (by omega), Bool.xor_false]
theorem TimeBase.epoch_setUnits_wrapped {b : TimeBase} {u : Nat} (wrapped : (b.setUnits u).wraps = b.wraps + 1) :
    (b.setUnits u).epoch = !b.epoch := by
  rw [TimeBase.epoch_setUnits, wrapped, decide_eq_true (by omega), Bool.xor_true]

/-! ### Ticks (R388, R392) -/

theorem TimeBase.tick_stopped {b : TimeBase} (stopped : b.state = 0) (k : Nat) : b.tick k = b := if_pos (.inl stopped)
/-- A base that runs on its own clock and does not slew gains INC with every tick. -/
theorem TimeBase.tick_running {b : TimeBase} (runs : b.state ≠ 0) (own : b.mode ≠ 3) (steady : b.slew = none) (k : Nat) :
    b.tick k = b.setUnits (b.units + k * b.inc) := by
  have gain : ((b.units + k * b.inc : Nat) + (0 : Int)).toNat = b.units + k * b.inc := by rw [Int.add_zero, Int.toNat_natCast]
  simp only [TimeBase.tick, runs, own, steady, or_self, if_false, Option.map_none, gain]
  simp only [TimeBase.setUnits, steady]
@[simp] theorem TimeBase.tick_mode (b : TimeBase) (k : Nat) : (b.tick k).mode = b.mode := by
  unfold TimeBase.tick
  split <;> rfl
@[simp] theorem TimeBase.tick_state (b : TimeBase) (k : Nat) : (b.tick k).state = b.state := by
  unfold TimeBase.tick
  split <;> rfl
theorem TimeBase.followTb0_own {b : TimeBase} (own : ¬(b.mode = 3 ∧ b.state ≠ 0)) (tb0 : TimeBase) : b.followTb0 tb0 = b := if_neg own

theorem State.tb_congr {s t : State} (h : t.time = s.time) (n : Nat) : t.tb n = s.tb n := by
  unfold State.tb
  rw [h]
@[simp] theorem State.fabCycles_time (s : State) (n : Nat) : (s.fabCycles n).time = s.time := by
  obtain ⟨o, h, l, e, -⟩ := s.fabCycles_countOnly n
  rw [e]

theorem State.advance_unclocked {s : State} (unclocked : s.clocked = false) (k : Nat) : s.advance k = s := if_neg (by simp [unclocked])
/-- Ticks of the clocks, for a base that follows no other. -/
theorem State.tb_advance {s : State} {n : Nat} (clocked : s.clocked = true) (hn : n < 4)
    (own : ¬((s.tb n).mode = 3 ∧ (s.tb n).state ≠ 0)) (k : Nat) : (s.advance k).tb n = (s.tb n).tick k := by
  have alone : ((s.tb n).tick k).followTb0 ((s.tb 0).tick k) = (s.tb n).tick k :=
    TimeBase.followTb0_own (by simpa using own) _
  unfold State.advance
  rw [if_pos clocked]
  refine (State.tb_congr (State.fabCycles_time _ _) n).trans ?_
  match n, hn, alone with
  | 0, _, _ => rfl
  | 1, _, alone => exact alone
  | 2, _, alone => exact alone
  | 3, _, alone => exact alone

theorem step_idle {s : State} (idle : s.pending = []) : step s = .next (s.advance 1) := by simp only [step, idle]

end Sys2Proof.Machine

namespace Sys2Proof

open Machine

/-- Settles O2: a tick sets each base that runs on its own to its value and INC, and touches nothing else but the counters. -/
theorem idleStepIsOneTick : Obligations.IdleStepIsOneTick := by
  intro s idle
  refine ⟨s.advance 1, step_idle idle, s.advance_clockOnly 1, fun unclocked => State.advance_unclocked unclocked 1, ?runs, ?stands⟩
  case runs =>
    intro clocked n hn runs own steady
    have ticked : (s.advance 1).tb n = (s.tb n).setUnits ((s.tb n).units + (s.tb n).inc) := by
      rw [State.tb_advance clocked hn (fun h => own h.1), TimeBase.tick_running runs own steady, Nat.one_mul]
    rw [ticked]
    exact ⟨TimeBase.units_setUnits .., TimeBase.ns_setUnits_lt .., TimeBase.frac_setUnits_lt .., TimeBase.epoch_setUnits_same,
      TimeBase.epoch_setUnits_wrapped⟩
  case stands =>
    intro clocked n hn stopped
    rw [State.tb_advance clocked hn (fun h => h.2 stopped), TimeBase.tick_stopped stopped]

end Sys2Proof

/-! ## Time and launch (09): future times -/

namespace Sys2Proof.Machine

open Sys2Proof

/-- How many nanoseconds a 32-bit time lies ahead of what a base shows (R405). -/
def TimeBase.ahead (b : TimeBase) (t : Nat) : Nat := (t + two32 - b.ns) % two32

theorem b2n_not (e : Bool) : b2n (!e) + b2n e = 1 := by cases e <;> rfl

/-- The stored value of a future time is the base's own value after as many nanoseconds as the time lies ahead (R406). -/
theorem TimeBase.store33_eq {b : TimeBase} {t : Nat} (hns : b.ns < two32) (ht : t < two32) (future : 0 < b.ahead t) :
    b.store33 t = (b.value33 + b.ahead t) % (2 * two32) := by
  have epochs := b2n_not b.epoch
  by_cases later : b.ns < t
  · have stored : b.store33 t = b2n b.epoch * two32 + t :=
      congrArg (fun e => b2n e * two32 + t) (if_pos ⟨future, later⟩)
    rw [stored]
    simp only [TimeBase.ahead, TimeBase.value33, two32] at *
    omega
  · have stored : b.store33 t = b2n (!b.epoch) * two32 + t :=
      congrArg (fun e => b2n e * two32 + t) (if_neg fun h => later h.2)
    rw [stored]
    simp only [TimeBase.ahead, TimeBase.value33, two32] at *
    omega

/-- A time stored `d` ns ahead has fired `k` ns later just when `d` is no more than `k`, while both stay under half of the 33-bit range. -/
theorem fired33_ahead (v : Nat) {d k : Nat} (hd : d < two32) (hk : k < two32) :
    fired33 ((v + k) % (2 * two32)) ((v + d) % (2 * two32)) = decide (d ≤ k) := by
  simp only [fired33, two32] at *
  exact decide_eq_decide.2 (by omega)

end Sys2Proof.Machine

namespace Sys2Proof.Machine

open Sys2Proof

/-! ### Judging a time (R101, R405) -/

section BadTime

variable {s : State} {n t : Nat}

theorem State.badTime_stopped (r : Bool) (stopped : (s.tb n).state = 0) : s.badTime n t r = some (0x0202, tbId n) := if_pos stopped
theorem State.badTime_running (runs : (s.tb n).state ≠ 0) :
    s.badTime n t false = verdict ((s.tb n).ahead t ≤ 0 || 2147483648 ≤ (s.tb n).ahead t) 0x0205 (s.tb n).ns := if_neg runs
theorem State.badTime_future (runs : (s.tb n).state ≠ 0) (future : 0 < (s.tb n).ahead t ∧ (s.tb n).ahead t < 2147483648) :
    s.badTime n t false = none := by
  rw [State.badTime_running runs]
  exact if_neg (by simp; omega)
theorem State.badTime_ambiguous (runs : (s.tb n).state ≠ 0) (ambiguous : ¬(0 < (s.tb n).ahead t ∧ (s.tb n).ahead t < 2147483648)) :
    s.badTime n t false = some (0x0205, (s.tb n).ns) := by
  rw [State.badTime_running runs]
  exact if_pos (by simp; omega)

end BadTime

end Sys2Proof.Machine

namespace Sys2Proof

open Machine

/-- Settles O14: a time is stored as the 33-bit value that its base comes to show, and judged by how far it lies ahead. -/
theorem futureTimesFireWhenTheyAreReached : Obligations.FutureTimesFireWhenTheyAreReached := by
  refine ⟨fun b t k hns ht hk future near => ?fires,
    fun s n t runs => ⟨State.badTime_future runs, State.badTime_ambiguous runs⟩, fun s n t r => State.badTime_stopped r⟩
  case fires =>
    rw [TimeBase.store33_eq hns ht future]
    exact fired33_ahead _ (near.trans (by decide)) hk

end Sys2Proof

/-! ## Time and launch (09): the commands of the time bases -/

namespace Sys2Proof.Machine

open Sys2Proof

section TimeCommands

variable {c : Cmd} {s : State}

/-! ### TIMEBASE_CONFIG (R391–R394, R401) -/

theorem effTimebaseConfig_stop (stop : c.u 0 1 = 0) :
    effTimebaseConfig c s =
      ((s.setTbStateFor c.q c.idx 0).modTb c.idx (fun b => { b with mode := 0, ppsOut := false })).settlePps.ok c := if_pos stop

/-! ### TIMEBASE_ADJUST (R402, R687) -/

theorem effTimebaseAdjust_bad (bad : s.badAdjust c.idx (c.u 0 1) = true) : effTimebaseAdjust c s = s.fail c 0x0303 c.object := if_pos bad

section Adjust

variable (permitted : s.badAdjust c.idx (c.u 0 1) = false)

include permitted

theorem effTimebaseAdjust_set (op : c.u 0 1 = 0) (mode : (s.tb c.idx).mode ≠ 2) :
    effTimebaseAdjust c s = (s.modTb c.idx (fun b => { b with ns := c.u 4 4, frac := 0, wraps := 0 })).ok c := by
  refine (if_neg (by simp [permitted])).trans ?_
  simp only [op, if_neg mode]
theorem effTimebaseAdjust_setPps (op : c.u 0 1 = 0) (mode : (s.tb c.idx).mode = 2) :
    effTimebaseAdjust c s = s.modTb c.idx (fun b => { b with ppsSets := b.ppsSets ++ [(c.u 4 4, c.q, c.seq)] }) := by
  refine (if_neg (by simp [permitted])).trans ?_
  simp only [op, if_pos mode]
theorem effTimebaseAdjust_step (op : c.u 0 1 = 1) : effTimebaseAdjust c s = (s.modTb c.idx (fun b => b.stepBy (c.i 4 4))).ok c := by
  refine (if_neg (by simp [permitted])).trans ?_
  simp only [op]
theorem effTimebaseAdjust_slew (op : c.u 0 1 = 2) (slews : ¬(c.i 4 4 = 0 ∧ (s.tb c.idx).slew = none)) :
    effTimebaseAdjust c s = (s.modTb c.idx (fun b => { b with slew := some {
      left := (b.slew.getD { left := 0, cmds := [] }).left + c.i 4 4 * (two30 : Int),
      cmds := (b.slew.getD { left := 0, cmds := [] }).cmds ++ [(c.q, c.seq)] } })).commits c := by
  refine (if_neg (by simp [permitted])).trans ?_
  simp only [op, Option.isNone_iff_eq_none, if_neg slews]
  rfl
theorem effTimebaseAdjust_slewNothing (op : c.u 0 1 = 2) (zero : c.i 4 4 = 0) (steady : (s.tb c.idx).slew = none) :
    effTimebaseAdjust c s = s.ok c := by
  refine (if_neg (by simp [permitted])).trans ?_
  simp only [op, zero, steady, Option.isNone_none, and_self, if_true]
theorem effTimebaseAdjust_tune (op : c.u 0 1 = 3) : effTimebaseAdjust c s = (s.modTb c.idx (fun b => { b with inc := c.u 4 4 })).ok c := by
  refine (if_neg (by simp [permitted])).trans ?_
  simp only [op]

end Adjust

/-! ### CAPTURE_ARM (R423–R426, R667) -/

theorem effCaptureArm_disarm (op : c.u 0 1 = 2) (unowed : ∀ k, (s.tb c.idx).capture = some k → k.continuous = true) :
    effCaptureArm c s = (s.modTb c.idx (fun b => { b with capture := none })).ok c := by
  refine (if_pos op).trans (congrArg (State.ok · c) ?_)
  cases armed : (s.tb c.idx).capture with
  | none => rfl
  | some k => exact if_pos (unowed k armed)
theorem effCaptureArm_abort {k : Capture} (op : c.u 0 1 = 2) (armed : (s.tb c.idx).capture = some k) (single : k.continuous = false) :
    effCaptureArm c s = ((s.modTb c.idx (fun b => { b with capture := none })).completeId (k.q, k.seq) 5 0).ok c := by
  refine (if_pos op).trans (congrArg (State.ok · c) ?_)
  simp only [armed, single, Bool.false_eq_true, if_false]

end TimeCommands

end Sys2Proof.Machine

namespace Sys2Proof

open Machine

/-- Settles O30: each row starts its command, a TIMEBASE_CONFIG by whether the base is to run, a TIMEBASE_ADJUST by its operation and
whether the base permits it, a CAPTURE_ARM by its operation and what was armed. -/
theorem timeCommandsRun : Obligations.TimeCommandsRun :=
  ⟨runsIf_of_eff (fun _ _ _ => rfl) fun _ _ _ stop => effTimebaseConfig_stop stop,
    runsIf_of_eff (fun _ _ _ => rfl) fun _ _ _ start => if_neg start,
    runsIf_of_eff (fun _ _ _ => rfl) fun _ _ _ bad => effTimebaseAdjust_bad bad,
    runsIf_of_eff (fun _ _ _ => rfl) fun _ _ _ ⟨permitted, op, mode⟩ => effTimebaseAdjust_set permitted op mode,
    runsIf_of_eff (fun _ _ _ => rfl) fun _ _ _ ⟨permitted, op, mode⟩ => effTimebaseAdjust_setPps permitted op mode,
    runsIf_of_eff (fun _ _ _ => rfl) fun _ _ _ ⟨permitted, op⟩ => effTimebaseAdjust_step permitted op,
    runsIf_of_eff (fun _ _ _ => rfl) fun _ _ _ ⟨permitted, op, slews⟩ => effTimebaseAdjust_slew permitted op slews,
    runsIf_of_eff (fun _ _ _ => rfl) fun _ _ _ ⟨permitted, op⟩ => effTimebaseAdjust_tune permitted op,
    runsIf_of_eff (fun _ _ _ => rfl) fun _ _ _ ⟨permitted, op, zero, steady⟩ => effTimebaseAdjust_slewNothing permitted op zero steady,
    runsIf_of_eff (fun _ _ _ => rfl) fun _ _ _ ⟨op, unowed⟩ => effCaptureArm_disarm op unowed,
    fun _ => runsIf_of_eff (fun _ _ _ => rfl) fun _ _ _ ⟨op, armed, single⟩ => effCaptureArm_abort op armed single,
    runsIf_of_eff (fun _ _ _ => rfl) fun _ _ _ arm => if_neg arm⟩

end Sys2Proof

/-! ## Time and launch (09): the events of the time bases -/

namespace Sys2Proof.Machine

open Sys2Proof

/-! ### What an operation on one base leaves of the time bases -/

/-- `t` has the time bases of `s`, but for the settings and the discipline of base `n`: that one still shows what it showed. -/
structure State.OnBase (n : Nat) (s t : State) : Prop where
  others : ∀ m, m ≠ n → t.tb m = s.tb m
  ext : (t.tb n).ext = (s.tb n).ext

/-- `b'` shows what `b` shows, and expects the same edge of PPS_IN after the same last one. -/
structure TimeBase.KeepsEdge (b b' : TimeBase) : Prop where
  ext : b'.ext = b.ext
  ppsE : b'.ppsE = b.ppsE
  ppsAt : b'.ppsAt = b.ppsAt

/-- `t` has the time bases of `s` but for base `n`, which still shows what it showed and holds the same edges of PPS_IN. -/
structure State.KeepsEdge (n : Nat) (s t : State) : Prop where
  others : ∀ m, m ≠ n → t.tb m = s.tb m
  edge : (s.tb n).KeepsEdge (t.tb n)

section OnBase

variable {n : Nat} {s t u : State}

theorem State.OnBase.trans (a : s.OnBase n t) (b : t.OnBase n u) : s.OnBase n u :=
  ⟨fun m hm => (b.others m hm).trans (a.others m hm), b.ext.trans a.ext⟩
theorem State.OnBase.now (a : s.OnBase n t) : t.now = s.now := by
  obtain rfl | h := eq_or_ne 0 n
  · exact a.ext
  · exact congrArg TimeBase.ext (a.others 0 h)

theorem TimeBase.KeepsEdge.refl (b : TimeBase) : b.KeepsEdge b := ⟨rfl, rfl, rfl⟩
theorem State.KeepsEdge.onBase (a : s.KeepsEdge n t) : s.OnBase n t := ⟨a.others, a.edge.ext⟩
theorem State.KeepsEdge.of_time (h : t.time = s.time) : s.KeepsEdge n t :=
  ⟨fun m _ => State.tb_congr h m, State.tb_congr h n ▸ .refl _⟩
theorem State.KeepsEdge.refl (n : Nat) (s : State) : s.KeepsEdge n s := .of_time rfl
theorem State.KeepsEdge.trans (a : s.KeepsEdge n t) (b : t.KeepsEdge n u) : s.KeepsEdge n u :=
  ⟨fun m hm => (b.others m hm).trans (a.others m hm),
    ⟨b.edge.ext.trans a.edge.ext, b.edge.ppsE.trans a.edge.ppsE, b.edge.ppsAt.trans a.edge.ppsAt⟩⟩

theorem State.modTb_onBase (s : State) {n : Nat} {f : TimeBase → TimeBase} (ext : (f (s.tb n)).ext = (s.tb n).ext) :
    s.OnBase n (s.modTb n f) :=
  ⟨fun m hm => by rw [State.tb_modTb, if_neg hm], by rw [State.tb_modTb, if_pos rfl, ext]⟩
theorem State.modTb_keepsEdge (s : State) {n : Nat} {f : TimeBase → TimeBase} (edge : (s.tb n).KeepsEdge (f (s.tb n))) :
    s.KeepsEdge n (s.modTb n f) :=
  ⟨fun m hm => by rw [State.tb_modTb, if_neg hm], by rwa [State.tb_modTb, if_pos rfl]⟩

end OnBase

/-! ### A base changes state (R391, R403) -/

@[simp] theorem State.raiseFor_time (s : State) (q code object d0 d1 : Nat) : (s.raiseFor q code object d0 d1).time = s.time := by
  obtain ⟨_, _, e⟩ := s.raiseFor_hostOnly q code object d0 d1
  rw [e]

/-- A change of state changes, of all bases, the state of its own, the history of INC, and the level of PPS_OUT. -/
theorem State.setTbStateFor_tb (s : State) (q n st : Nat) :
    (∃ l h, (s.setTbStateFor q n st).tb n = { s.tb n with state := st, incs := l, ppsHigh := h }) ∧
      ∀ m, m ≠ n → (s.setTbStateFor q n st).tb m = s.tb m := by
  unfold State.setTbStateFor
  dsimp only
  split
  case isTrue same => exact ⟨⟨(s.tb n).incs, (s.tb n).ppsHigh, by rw [← same]⟩, fun _ _ => rfl⟩
  case isFalse =>
    have posted (f : TimeBase → TimeBase) (m : Nat) :
        ((s.modTb n f).raiseFor q 0x0601 (tbId n) (s.tb n).state st).tb m = if m = n then f (s.tb n) else s.tb m :=
      (State.tb_congr (State.raiseFor_time ..) m).trans (State.tb_modTb ..)
    split
    · refine ⟨⟨(s.tb n).noteLocked st s.now, false, (State.tb_congr (State.emit_time ..) n).trans ?_⟩,
        fun m hm => (State.tb_congr (State.emit_time ..) m).trans ?_⟩
      · rw [State.tb_modTb, if_pos rfl, posted, if_pos rfl]
      · rw [State.tb_modTb, if_neg hm, posted, if_neg hm]
    · exact ⟨⟨_, _, (posted _ n).trans (if_pos rfl)⟩, fun m hm => (posted _ m).trans (if_neg hm)⟩

theorem State.setTbState_keepsEdge (s : State) (n st : Nat) : s.KeepsEdge n (s.setTbState n st) := by
  obtain ⟨⟨l, h, here⟩, others⟩ := s.setTbStateFor_tb 255 n st
  exact ⟨others, here ▸ ⟨rfl, rfl, rfl⟩⟩

/-- HOLDOVER, with the master as it was (R398). -/
theorem State.holdover_tb (s : State) (n : Nat) : ((s.holdover n).tb n).state = 4 ∧ ((s.holdover n).tb n).master = (s.tb n).master := by
  unfold State.holdover
  obtain ⟨⟨l, h, here⟩, -⟩ := State.setTbStateFor_tb (s.modTb n _) 255 n 4
  rw [State.setTbState, here]
  exact ⟨rfl, by rw [State.tb_modTb, if_pos rfl]⟩

/-! ### Edges of PPS_IN (R401, R402) -/

/-- The edge that a base expects next, once an edge has come at an instant: the last SET that waits, or else whole seconds on (R401). -/
def TimeBase.nextEdge (b : TimeBase) (now : Nat) : Option Nat :=
  (b.ppsSets.getLast?.map Prod.fst).or
    (b.ppsE.map (fun e => (e + max 1 ((now - b.ppsAt + 500000000) / 1000000000) * 1000000000) % two32))
/-- A base has taken an edge: the SETs that waited complete, and the next edge is expected (R402). -/
def State.ppsTaken (s : State) (n : Nat) : State :=
  ((s.tb n).ppsSets.foldl (fun s x => s.completeId x.2 2 0) s).modTb n (fun x => { x with
    ppsE := (s.tb n).nextEdge s.now, ppsSets := [], ppsAt := s.now, ppsNear := if (s.tb n).ppsSets.isEmpty then x.ppsNear else s.now })

/-- What an edge at an offset does to the INC of a base, unless it is in HOLDOVER (R401). -/
def TimeBase.ppsSteered (b : TimeBase) (off : Int) (inc now : Nat) : TimeBase :=
  let y := { b with offset := off, ppsNear := if off.natAbs ≤ 1000000 then now else b.ppsNear }
  if off.natAbs ≤ 1000000 ∧ b.state ≠ 4 then y.servo inc now else y

theorem TimeBase.ppsSteered_keepsEdge (b : TimeBase) (off : Int) (inc now : Nat) : b.KeepsEdge (b.ppsSteered off inc now) := by
  unfold TimeBase.ppsSteered
  dsimp only
  split <;> exact ⟨rfl, rfl, rfl⟩

theorem State.foldl_completeId_time {α : Type} (id : α → Nat × Nat) (status detail : Nat) (l : List α) (s : State) :
    (l.foldl (fun s x => s.completeId (id x) status detail) s).time = s.time :=
  List.foldlRecOn (motive := fun t : State => t.time = s.time) l _ rfl fun t ht _ _ => (t.completeId_time _ _ _).trans ht

theorem State.ppsTaken_onBase (s : State) (n : Nat) : s.OnBase n (s.ppsTaken n) :=
  (State.KeepsEdge.of_time (State.foldl_completeId_time Prod.snd 2 0 _ s)).onBase.trans (State.modTb_onBase _ rfl)

/-- What an edge at an offset makes of a base in a state, the last `good` edges having come close enough: back out of HOLDOVER, or on to
LOCKED (R401). -/
def State.ppsJudged (s : State) (n st good : Nat) (off : Int) : State :=
  if st = 4 then
    if off.natAbs ≤ 1000000 then (s.modTb n (fun b => { b with goodEdges := 0 })).setTbState n 2 else s
  else
    let s1 := s.modTb n (fun b => { b with goodEdges := good })
    if st = 2 ∧ 4 ≤ good then s1.setTbState n 3 else s1
/-- An edge expected at `v` steers a base that showed `b` at it, by a free value (log entry 45). -/
def State.ppsSteer (s : State) (n : Nat) (b : TimeBase) (v now : Nat) : State :=
  let off := signed 32 (wrapInt 32 ((b.ns : Int) - v - b.ppsDelay))
  let c := min (1342177280 * b.slewLimit / 1000000) 671088
  (s.draw.2.modTb n (fun x => x.ppsSteered off (1342177280 - c + s.draw.1 % (2 * c + 1)) now)).ppsJudged n b.state
    (if off.natAbs ≤ 100 then b.goodEdges + 1 else 0) off

theorem State.ppsJudged_keepsEdge (s : State) (n st good : Nat) (off : Int) : s.KeepsEdge n (s.ppsJudged n st good off) := by
  have judged (k : Nat) : s.KeepsEdge n (s.modTb n (fun b => { b with goodEdges := k })) := State.modTb_keepsEdge s ⟨rfl, rfl, rfl⟩
  unfold State.ppsJudged
  dsimp only
  split
  · split
    · exact (judged 0).trans (State.setTbState_keepsEdge _ n 2)
    · exact .refl n s
  · split
    · exact (judged _).trans (State.setTbState_keepsEdge _ n 3)
    · exact judged _
theorem State.ppsSteer_keepsEdge (s : State) (n : Nat) (b : TimeBase) (v now : Nat) : s.KeepsEdge n (s.ppsSteer n b v now) := by
  have drawn : s.KeepsEdge n s.draw.2 := .of_time rfl
  exact (drawn.trans (State.modTb_keepsEdge _ (TimeBase.ppsSteered_keepsEdge ..))).trans (State.ppsJudged_keepsEdge ..)

section Takes

variable {s : State} {n : Nat} (takes : ¬((s.tb n).mode ≠ 2 ∨ (s.tb n).state = 0))

include takes

/-- A base in PPS mode that runs takes the edge, which steers it once it expects one. -/
theorem State.ppsEdge_eq : s.ppsEdge n =
    ((s.tb n).nextEdge s.now).elim (s.ppsTaken n) fun v => (s.ppsTaken n).ppsSteer n (s.tb n) v s.now := by
  unfold State.ppsEdge State.ppsTaken TimeBase.nextEdge
  dsimp only
  rw [if_neg takes]
  cases (s.tb n).ppsSets.getLast? with
  | some x => rfl
  | none =>
    cases (s.tb n).ppsE with
    | none => rfl
    | some e => rfl

/-- What an edge steers leaves the next expected one alone. -/
theorem State.ppsTaken_keepsEdge_ppsEdge : (s.ppsTaken n).KeepsEdge n (s.ppsEdge n) := by
  rw [State.ppsEdge_eq takes]
  cases (s.tb n).nextEdge s.now with
  | none => exact .refl n _
  | some v => exact State.ppsSteer_keepsEdge ..

end Takes

theorem State.ppsEdge_onBase (s : State) (n : Nat) : s.OnBase n (s.ppsEdge n) := by
  by_cases takes : (s.tb n).mode ≠ 2 ∨ (s.tb n).state = 0
  · have left : s.ppsEdge n = s := if_pos takes
    rw [left]
    exact (State.KeepsEdge.refl n s).onBase
  · exact (s.ppsTaken_onBase n).trans (State.ppsTaken_keepsEdge_ppsEdge takes).onBase

/-- A base in PPS mode that runs, expects an edge and has no SET waiting. -/
structure TimeBase.Expects (b : TimeBase) (e : Nat) : Prop where
  mode : b.mode = 2
  runs : b.state ≠ 0
  noSet : b.ppsSets = []
  edge : b.ppsE = some e

/-- A base has taken an edge that came at an instant, and expects the next one whole seconds after the one it expected. -/
def TimeBase.TookEdge (b : TimeBase) (e now : Nat) : Prop :=
  b.ppsAt = now ∧ ∃ k, 1 ≤ k ∧ b.ppsE = some ((e + k * 1000000000) % two32)

theorem State.ppsEdge_tookEdge {s : State} {n e : Nat} (h : (s.tb n).Expects e) : ((s.ppsEdge n).tb n).TookEdge e s.now := by
  have edge := (State.ppsTaken_keepsEdge_ppsEdge (s := s) (n := n) (by simp [h.mode, h.runs])).edge
  refine ⟨edge.ppsAt.trans ?_, max 1 ((s.now - (s.tb n).ppsAt + 500000000) / 1000000000), Nat.le_max_left .., edge.ppsE.trans ?_⟩
  · rw [State.ppsTaken, State.tb_modTb, if_pos rfl]
  · rw [State.ppsTaken, State.tb_modTb, if_pos rfl]
    simp only [TimeBase.nextEdge, h.noSet, h.edge, List.getLast?_nil, Option.map_none, Option.none_or, Option.map_some]

theorem State.ppsEdges_others {n : Nat} {l : List Nat} (away : n ∉ l) (s : State) :
    (l.foldl (fun s m => s.ppsEdge m) s).tb n = s.tb n :=
  List.foldlRecOn (motive := fun t : State => t.tb n = s.tb n) l _ rfl fun t ht m hm =>
    ((t.ppsEdge_onBase m).others n fun h => away (h ▸ hm)).trans ht
/-- Each base takes an edge for itself, whatever the others made of it before. -/
theorem State.ppsEdges_tookEdge {n e : Nat} {l : List Nat} (once : l.Nodup) (hn : n ∈ l) {s : State} (h : (s.tb n).Expects e) :
    ((l.foldl (fun s m => s.ppsEdge m) s).tb n).TookEdge e s.now := by
  induction l generalizing s with
  | nil => cases hn
  | cons m l ih =>
    obtain ⟨away, once⟩ := List.nodup_cons.1 once
    rw [List.foldl_cons]
    by_cases here : n = m
    · subst here
      rw [State.ppsEdges_others away]
      exact State.ppsEdge_tookEdge h
    · have left := s.ppsEdge_onBase m
      rw [← left.now]
      exact ih once ((List.mem_cons.1 hn).resolve_left here) ((left.others n here).symm ▸ h)

/-! ### Wraps (R388, R390) -/

/-- The ticks counted for a gain of a base that does not slew do gain it. -/
theorem TimeBase.gain_le_ticksFor {b : TimeBase} (steady : b.slew = none) (turns : b.inc ≠ 0) (u : Nat) : u ≤ b.ticksFor u * b.inc := by
  have ticks : b.ticksFor u = cdiv u b.inc := by simp only [TimeBase.ticksFor, steady]
  have whole := Nat.div_add_mod (u + b.inc - 1) b.inc
  have rest := Nat.mod_lt (u + b.inc - 1) (Nat.pos_of_ne_zero turns)
  rw [ticks, cdiv, Nat.mul_comm]
  omega

theorem State.reachOn_ahead {s : State} {n : Nat} {t : Int} (own : (s.tb n).mode ≠ 3) (runs : (s.tb n).state ≠ 0)
    (ahead : (s.tb n).ext < t) :
    s.reachOn n t = s.advance ((s.tb n).ticksFor (t.toNat * two30 - (s.tb n).units)) :=
  (if_neg fun h => own h.1).trans (if_pos ⟨runs, ahead⟩)

/-- A base that runs by itself comes to show an instant ahead of it, or a later one. -/
theorem State.reachOn_reaches {s : State} {n t : Nat} (hn : n < 4) (clocked : s.clocked = true) (own : (s.tb n).mode ≠ 3)
    (runs : (s.tb n).state ≠ 0) (steady : (s.tb n).slew = none) (turns : (s.tb n).inc ≠ 0) (ahead : (s.tb n).ext < t) :
    ∃ u, t * two30 ≤ u ∧ (s.reachOn n t).tb n = (s.tb n).setUnits u := by
  have gained := (s.tb n).gain_le_ticksFor steady turns (t * two30 - (s.tb n).units)
  refine ⟨(s.tb n).units + (s.tb n).ticksFor (t * two30 - (s.tb n).units) * (s.tb n).inc, by omega, ?_⟩
  rw [State.reachOn_ahead own runs (Int.ofNat_lt.2 ahead), State.tb_advance clocked hn (fun h => own h.1),
    TimeBase.tick_running runs own steady, Int.toNat_natCast]
theorem TimeBase.le_wraps_setUnits (b : TimeBase) {w u : Nat} (h : w * two32 * two30 ≤ u) : w ≤ (b.setUnits u).wraps :=
  (Nat.le_div_iff_mul_le (by decide)).2 ((Nat.le_div_iff_mul_le (by decide)).2 h)

/-! ### Captures (R423–R426) -/

/-- The base with the capture that it has taken. -/
def TimeBase.captured (b : TimeBase) (k : Capture) : TimeBase := { b with
  capNs := b.ns, capFrac := b.frac, capCount := (b.capCount + 1) % 65536, capValid := true, capOverrun := b.capOverrun || b.capValid,
  capture := if k.continuous then some k else none }

section Captured

variable {s : State} {n : Nat} {k : Capture} (armed : (s.tb n).capture = some k)

include armed

theorem State.captured_tb : (s.captured n).tb n = (s.tb n).captured k := by
  have time : (s.captured n).time = (s.modTb n (fun x => { x with
      capNs := (s.tb n).ns, capFrac := (s.tb n).frac, capCount := ((s.tb n).capCount + 1) % 65536, capValid := true,
      capOverrun := (s.tb n).capOverrun || (s.tb n).capValid, capture := if k.continuous then some k else none })).time := by
    simp only [State.captured, armed]
    split
    · rfl
    · split
      · rfl
      · split <;> simp
  exact (State.tb_congr time n).trans ((State.tb_modTb ..).trans (if_pos rfl))

/-- A single capture completes its command. -/
theorem State.captured_findCmd (single : k.continuous = false) : (s.captured n).findCmd k.q k.seq = none := by
  simp only [State.captured, armed, single, Bool.false_eq_true, if_false]
  split
  · next absent => exact absent
  · next c found =>
    obtain ⟨hq, hseq⟩ := State.findCmd_ident found
    rw [← hq, ← hseq]
    exact State.findCmd_complete ..

end Captured

/-! ### Sync messages (R394, R397, R398) -/

/-- A Sync of the selected master, on a port and in a domain that the base hears. -/
def State.FromMaster (s : State) (n : Nat) (x : Sync) : Prop :=
  (s.tb n).hears x.port x.domain = true ∧ ∃ m, (s.tb n).master = some m ∧ m.identity = x.source ∧ m.port = x.port
/-- A valid Sync has been taken: its delay request goes out, and the base notes it. -/
def State.syncTaken (s : State) (n : Nat) (x : Sync) : State :=
  (s.delayRequest x.port).modTb n (fun b => { b with
    offset := sat32 x.offset, lastSync := s.now, lastMaster := some (b.ext, x.masterNs) })

/-- The delay request of a Sync on an MG port goes out at once (log entry 157). -/
theorem State.delayRequest_mg (s : State) {port : Nat} (mg : 16 ≤ port) : s.delayRequest port = s.emit (.wirePtp port 0) :=
  if_neg mg.not_gt

section PtpSync

variable {s : State} {n : Nat} {x : Sync}

theorem State.fromMaster_iff : s.FromMaster n x ↔
    ¬((!(s.tb n).hears x.port x.domain) = true ∨ (!(s.tb n).master.any (fun m => m.identity == x.source && m.port == x.port)) = true) := by
  cases selected : (s.tb n).master <;> simp [State.FromMaster, selected]

theorem State.ptpSync_other (other : ¬s.FromMaster n x) : s.ptpSync n x = s :=
  if_pos (not_not.1 (State.fromMaster_iff.not.1 other))

variable (heard : s.FromMaster n x)

include heard

theorem State.ptpSync_invalid (invalid : x.valid = false) :
    s.ptpSync n x = (s.delayRequest x.port).modTb n (fun b => { b with validSyncs := 0 }) :=
  (if_neg (State.fromMaster_iff.1 heard)).trans (if_pos (by simp [invalid]))

variable (valid : x.valid = true) (holdover : (s.tb n).state = 4)

include valid holdover

theorem State.ptpSync_counts (few : (s.tb n).validSyncs + 1 < 16) :
    s.ptpSync n x = (s.syncTaken n x).modTb n (fun b => { b with validSyncs := b.validSyncs + 1 }) :=
  (if_neg (State.fromMaster_iff.1 heard)).trans ((if_neg (by simp [valid])).trans ((if_pos holdover).trans (if_neg few.not_ge)))
theorem State.ptpSync_relocks (enough : 16 ≤ (s.tb n).validSyncs + 1) :
    s.ptpSync n x = ((s.syncTaken n x).modTb n (fun b => { b with validSyncs := 0, inSyncs := 0, outSyncs := 0 })).setTbState n 2 :=
  (if_neg (State.fromMaster_iff.1 heard)).trans ((if_neg (by simp [valid])).trans ((if_pos holdover).trans (if_pos enough)))

end PtpSync

/-! ### Slews, and the rows of the events (R398, R402, R687) -/

/-- A slew is over, and its commands complete (R687). -/
def State.slewEnded (s : State) (n : Nat) (sl : Slew) : State :=
  sl.cmds.foldl (fun s id => s.completeId id 2 0) (s.modTb n (fun b => { b with slew := none }))

section Rows

variable {s : State} {n : Nat} (hn : n < 4)

include hn

section SlewComplete

variable {sl : Slew} (slews : (s.tb n).slew = some sl)

include slews

theorem exec_slewComplete_following (follows : (s.tb n).mode = 3) : exec (.slewComplete n) s = .next (s.slewEnded n sl) := by
  refine (need_eq _ (decide_eq_true hn)).trans (congrArg _ ?_)
  simp [slews, follows, State.slewEnded]
theorem exec_slewComplete_running (own : (s.tb n).mode ≠ 3) (runs : (s.tb n).state ≠ 0) (clocked : s.clocked = true)
    (moves : slewStep (s.tb n).slewLimit ≠ 0) :
    exec (.slewComplete n) s = .next ((s.advance (sl.left.natAbs / slewStep (s.tb n).slewLimit + 1)).slewEnded n sl) := by
  refine (need_eq _ (decide_eq_true hn)).trans (congrArg _ ?_)
  simp [slews, own, runs, clocked, moves, State.slewEnded]

end SlewComplete

section CaptureEvent

variable {k : Capture} {source : Nat} (flow : Nat) (armed : (s.tb n).capture = some k)

include armed

theorem exec_captureEvent_taken (here : k.source = source) (ofFlow : source = 0x40 → k.flow = flow) :
    exec (.captureEvent n source flow) s = .next (s.captured n) := by
  refine (need_eq _ (decide_eq_true hn)).trans (congrArg _ ?_)
  simp only [armed]
  exact if_pos ⟨here, Classical.or_iff_not_imp_left.2 fun h => ofFlow (not_not.1 h)⟩
theorem exec_captureEvent_other (other : k.source ≠ source) : exec (.captureEvent n source flow) s = .next s := by
  refine (need_eq _ (decide_eq_true hn)).trans (congrArg _ ?_)
  simp only [armed]
  exact if_neg fun h => other h.1

end CaptureEvent

theorem exec_ptpSync (x : Sync) : exec (.ptpSync n x) s = .next (s.ptpSync n x) := need_eq _ (decide_eq_true hn)

theorem exec_ptpAnnounce_first {x : Announce} (heard : (s.tb n).hears x.port x.domain = true) (unled : (s.tb n).master = none) :
    exec (.ptpAnnounce n x) s = .next (s.modTb n (fun b => { b with master := some x, lastAnnounce := s.now })) := by
  refine (need_eq _ (decide_eq_true hn)).trans (congrArg _ ((if_pos heard).trans ?_))
  simp only [unled, if_true]
theorem exec_ptpAnnounce_unheard {x : Announce} (unheard : (s.tb n).hears x.port x.domain = false) : exec (.ptpAnnounce n x) s = .next s :=
  (need_eq _ (decide_eq_true hn)).trans (congrArg _ (if_neg (by simp [unheard])))

theorem exec_syncTimeout (waits : (s.tb n).mode = 1 ∧ ((s.tb n).state = 2 ∨ (s.tb n).state = 3)) :
    exec (.syncTimeout n) s = .next (((s.reach (min ((s.tb n).lastSync + 1000000000) ((s.tb n).lastAnnounce + 750000000))).modTb n
      (fun b => { b with master := none })).holdover n) :=
  (need_eq _ (decide_eq_true hn)).trans (congrArg _ (if_pos waits))
theorem exec_ppsEdgeTimeout (waits : (s.tb n).mode = 2 ∧ ((s.tb n).state = 2 ∨ (s.tb n).state = 3) ∧ (s.tb n).ppsE.isSome = true) :
    exec (.ppsEdgeTimeout n) s = .next ((s.reach ((s.tb n).ppsNear + 2001000000)).holdover n) :=
  (need_eq _ (decide_eq_true hn)).trans (congrArg _ (if_pos waits))

end Rows

theorem exec_ppsInEdge (s : State) (t : Nat) :
    exec (.ppsInEdge t) s = .next ((List.range 4).foldl (fun s n => s.ppsEdge n) (s.at32 t)) := need_eq _ rfl
theorem foldl_range_four {α : Type} (f : α → Nat → α) (a : α) : (List.range 4).foldl f a = f (f (f (f a 0) 1) 2) 3 := rfl

end Sys2Proof.Machine

namespace Sys2Proof

open Machine

/-- Settles O43: each event by what its base is doing, and a wrap by the ticks that it takes; an edge of PPS_IN by every base for itself. -/
theorem timeBaseEventsAct : Obligations.TimeBaseEventsAct := by
  refine ⟨fun n sl hn => ?slew, fun n source flow k hn => ?capture, fun n hn => ?base,
    fun t s _ => (exec_ppsInEdge s t).trans (congrArg _ (foldl_range_four _ _))⟩
  case slew =>
    exact ⟨fun s ⟨slews, follows⟩ => exec_slewComplete_following hn slews follows,
      fun s ⟨slews, own, runs, clocked, moves⟩ => exec_slewComplete_running hn slews own runs clocked moves⟩
  case capture =>
    refine ⟨fun s ⟨armed, here, ofFlow⟩ => exec_captureEvent_taken hn flow armed here ofFlow, fun s ⟨armed, here, ofFlow⟩ => ?_,
      fun s ⟨armed, other⟩ => exec_captureEvent_other hn flow armed other⟩
    refine ⟨_, exec_captureEvent_taken hn flow armed here ofFlow, ?_⟩
    dsimp only
    rw [State.captured_tb armed]
    exact ⟨rfl, rfl, rfl, rfl, rfl, rfl, State.captured_findCmd armed⟩
  case base =>
    have hok : decide (n < 4) = true := decide_eq_true hn
    intro heard
    refine ⟨answers_always hok fun _ => rfl, ?wraps, fun s waits => ⟨_, exec_syncTimeout hn waits, ?unled⟩,
      fun s waits => ⟨_, exec_ppsEdgeTimeout hn waits, (State.holdover_tb _ n).1⟩, fun t e s ⟨mode, runs, noSet, edge⟩ => ?edge,
      fun x s other => (exec_ptpSync hn x).trans (congrArg _ (State.ptpSync_other other)), fun x invalid s ⟨heard, mg⟩ => ?invalid,
      fun x valid => ?back, fun x s ⟨heard, unled⟩ => exec_ptpAnnounce_first hn heard unled,
      fun x s unheard => exec_ptpAnnounce_unheard hn unheard, fun s waits => exec_syncTimeout hn waits,
      fun s waits => exec_ppsEdgeTimeout hn waits,
      answers_of_need hok (fun _ => rfl) fun s ⟨drives, low⟩ => if_pos (by simp [drives, low]),
      answers_of_need hok (fun _ => rfl) fun s high => if_pos high⟩
    case wraps =>
      rintro s ⟨runs, own, steady, turns, ns, -, clocked⟩
      have ahead : (s.tb n).ext < ((s.tb n).wraps + 1) * two32 := by
        rw [TimeBase.ext, Nat.add_one_mul]
        exact Nat.add_lt_add_left ns _
      obtain ⟨u, reached, shows⟩ := State.reachOn_reaches hn clocked own runs steady turns ahead
      have wrapped := TimeBase.le_wraps_setUnits (s.tb n) reached
      rw [← shows] at wrapped
      exact ⟨_, need_eq _ hok, wrapped⟩
    case unled =>
      obtain ⟨state, master⟩ := State.holdover_tb ((s.reach _).modTb n (fun b => { b with master := none })) n
      exact ⟨state, master.trans (by rw [State.tb_modTb, if_pos rfl])⟩
    case edge =>
      exact ⟨_, exec_ppsInEdge s t, State.ppsEdges_tookEdge List.nodup_range (List.mem_range.2 hn) ⟨mode, runs, noSet, edge⟩⟩
    case invalid =>
      rw [exec_ptpSync hn, State.ptpSync_invalid heard invalid, State.delayRequest_mg s mg]
    case back =>
      intro taken back
      have sync {s : State} (mg : 16 ≤ x.port) : s.syncTaken n x = taken s :=
        congrArg (State.modTb · n _) (s.delayRequest_mg mg)
      refine ⟨fun s ⟨⟨heard, holdover, mg⟩, few⟩ => ?_, fun s ⟨⟨heard, holdover, mg⟩, enough⟩ => ?_⟩
      · rw [exec_ptpSync hn, State.ptpSync_counts heard valid holdover few, sync mg]
      · rw [exec_ptpSync hn, State.ptpSync_relocks heard valid holdover enough, sync mg]

end Sys2Proof

/-! ## Twin operation (10): the commands of the twin -/

namespace Sys2Proof.Machine

open Sys2Proof

section TwinCommands

variable {c : Cmd} {s : State}

/-- FORMING: the peer is named, and the YT braid locks anew when it is off or its rate changes (R427, R428). -/
theorem effTwinConfig_eq (c : Cmd) (s : State) :
    effTwinConfig c s =
      (({ s with twin := { s.twin with
        role := 1, peerUid := c.u 0 8, askRole := c.u 8 1, autoSplice := c.u 9 1 == 1, ytRate := c.u 10 1, mgPorts := c.u 11 1,
        udpPort := c.u 12 2, ipVer := c.u 14 1, peerMg0 := c.bytes 16 16, peerMg1 := c.bytes 32 16 } } : State).modBraid 4 (fun x =>
          { (if (s.braid 4).enabled = false ∨ (s.braid 4).rate ≠ c.u 10 1 then x.restartLock s.now else x) with
            enabled := true, rate := c.u 10 1 })).ok c := by
  simp only [effTwinConfig, Bool.or_eq_true, Bool.not_eq_true', bne_iff_ne]
  rfl

theorem effTwinRole_swap (op : c.u 0 1 = 0) :
    effTwinRole c s = ({ s.commits c with twin := { s.twin with exchange := some (1, c.q, c.seq) } } : State).trySwap := by
  simp only [effTwinRole, op]
  rfl
theorem effTwinRole_take (op : c.u 0 1 = 1) :
    effTwinRole c s =
      ({ s.commits c with twin := { s.twin with exchange := some (2, c.q, c.seq), takeAt := s.now } } : State).sendRole
        (s.twin.term + 1) 3 := by
  simp only [effTwinRole, op]
  rfl
theorem effTwinRole_leave (op : c.u 0 1 ≠ 0 ∧ c.u 0 1 ≠ 1) : effTwinRole c s = s.leave.ok c s.twin.term := by
  obtain ⟨n, hn⟩ : ∃ n, c.u 0 1 = n + 2 := ⟨c.u 0 1 - 2, by omega⟩
  simp only [effTwinRole, hn]

/-- No refresh is asked for when the peer has not muted the program for disagreement or a fault (R465). -/
theorem effSplice_quiet (quiet : (s.prog c.idx).peerMuted.any (fun m => m ≤ 1) = false) :
    effSplice c s = (s.modProg c.idx (fun p => { p with spliceOk := true })).ok c :=
  congrArg (State.ok · c) (if_neg (by simp [quiet]))
theorem effSplice_refresh {m : Nat} (cause : m ≤ 1) (muted : (s.prog c.idx).peerMuted = some m) :
    effSplice c s = ((s.modProg c.idx (fun p => { p with spliceOk := true })).askTwinRefresh c.idx).ok c :=
  congrArg (State.ok · c) (if_pos (by simp [muted, cause]))

end TwinCommands

end Sys2Proof.Machine

namespace Sys2Proof

open Machine

/-- Settles O31: each row starts its command, a TWIN_ROLE by its operation and a SPLICE by why the peer has muted the program. -/
theorem twinCommandsRun : Obligations.TwinCommandsRun :=
  ⟨runs_of_eff_eq (fun _ _ _ => rfl) fun c s _ => effTwinConfig_eq c s,
    runsIf_of_eff (fun _ _ _ => rfl) fun _ _ _ op => effTwinRole_swap op,
    runsIf_of_eff (fun _ _ _ => rfl) fun _ _ _ op => effTwinRole_take op,
    runsIf_of_eff (fun _ _ _ => rfl) fun _ _ _ op => effTwinRole_leave op,
    runs_of_eff fun _ _ _ => rfl,
    runsIf_of_eff (fun _ _ _ => rfl) fun _ _ _ quiet => effSplice_quiet quiet,
    fun _ cause => runsIf_of_eff (fun _ _ _ => rfl) fun _ _ _ muted => effSplice_refresh cause muted⟩

end Sys2Proof

/-! ## Twin operation (10): heartbeats, lost paths and resending -/

namespace Sys2Proof.Machine

open Sys2Proof

/-! ### HEARTBEAT (R438–R440) -/

/-- The instant at which the next heartbeat of a path is due: a period after the last one (R438). -/
def State.heartbeatAt (s : State) (path : Nat) : Nat := ((s.path path).sentHb.map (fun t => t + hbPeriod path)).getD s.now
/-- The heartbeat of a path goes out now (R438). -/
def State.sendHeartbeat (s : State) (path : Nat) : State :=
  let s1 := s.setPath path { s.path path with sentHb := some s.now }
  (s1.tetherOn path 1 s1.heartbeatBytes).trySwap
/-- A heartbeat shows the DEV_UID of its sender (R429). -/
def State.showsPeer (s : State) (payload : List Byte) : State := { s with twin := { s.twin with peerSeenUid := pktU payload 0 8 } }
/-- What a heartbeat of the named peer says is noted (R439). -/
def State.notePeer (s : State) (path : Nat) (payload : List Byte) : State := { s with twin := { s.twin with
  peerRole := pktU payload 8 1, peerTerm := pktU payload 12 4, peerMuted := pktU payload 10 2,
  tbDiff := if path = 0 then signed 32 (s.ts + two32 - pktU payload 16 4) else s.twin.tbDiff } }
/-- A path is lost: its losses are counted, and its event is posted (R439). -/
def State.losePath (s : State) (path : Nat) (x : TPath) : State :=
  (s.setPath path { x with up := false, timely := 0, losses := satAdd 32 x.losses 1 }).raise
    (if path = 0 then 0x0703 else 0x0705) deviceId (satAdd 32 x.losses 1) 0

section Paths

variable {s : State} {path : Nat}

theorem State.pathReady_iff :
    s.pathReady path = true ↔ if path = 0 then (s.braid 4).enabled = true else s.twin.mgPorts ≠ 0 := by
  unfold State.pathReady
  split
  · exact Iff.rfl
  · exact bne_iff_ne

section Heartbeat

variable {payload : List Byte} (whole : payload.length = 32)

include whole

theorem State.hearHeartbeat_other (other : pktU payload 0 8 ≠ s.twin.peerUid) : s.hearHeartbeat path payload = s.showsPeer payload :=
  (if_neg (not_not.2 whole)).trans (if_pos other)
theorem State.hearHeartbeat_named (named : pktU payload 0 8 = s.twin.peerUid) :
    s.hearHeartbeat path payload =
      ((((s.showsPeer payload).beat path).learnPeer).notePeer path payload).findSplit (pktU payload 8 1) (pktU payload 12 4) :=
  (if_neg (not_not.2 whole)).trans (if_neg (not_not.2 named))

end Heartbeat

/-! ### The rows of a path -/

variable (hp : path < 2)

include hp

theorem exec_heartbeatDue_unready (unready : s.pathReady path = false) : exec (.heartbeatDue path) s = .next s :=
  (need_eq _ (decide_eq_true hp)).trans (congrArg _ (if_pos (by simp [unready])))
theorem exec_heartbeatDue_due (ready : s.pathReady path = true) (due : s.heartbeatAt path ≤ (s.reach (s.heartbeatAt path)).now) :
    exec (.heartbeatDue path) s = .next ((s.reach (s.heartbeatAt path)).sendHeartbeat path) :=
  (need_eq _ (decide_eq_true hp)).trans (congrArg _ ((if_neg (by simp [ready])).trans (if_neg due.not_gt)))

theorem exec_heartbeat {t : Nat} (ht : t < two32) (payload : List Byte) :
    exec (.heartbeat path t payload) s = .next ((s.at32 t).hearHeartbeat path payload) := need_eq _ (by simp [hp, ht])

theorem exec_pathLost_down (down : (s.path path).up = false) : exec (.pathLost path) s = .next s := by
  refine (need_eq _ (decide_eq_true hp)).trans (congrArg _ ?_)
  simp only [down]
theorem exec_pathLost_silent {l : Nat} (up : (s.path path).up = true) (last : (s.path path).lastHb = some l)
    (silent : l + 3 * hbPeriod path ≤ (s.reach (l + 3 * hbPeriod path)).now) :
    exec (.pathLost path) s = .next (
      let s1 := (s.reach (l + 3 * hbPeriod path)).losePath path (s.path path)
      if (s1.path (1 - path)).up = true then s1 else s1.peerGone) := by
  refine (need_eq _ (decide_eq_true hp)).trans (congrArg _ ?_)
  simp only [up, last, State.losePath]
  exact if_neg silent.not_gt

end Paths

/-! ### Messages that get no answer (R442, R460) -/

/-- A replicated COMMAND is sent again, and waits for its acknowledgement from now on (R442). -/
def State.resendCommand (s : State) (pos : Nat) (packet : List Byte) : State :=
  State.tetherSend { s with twin := { s.twin with
    unacked := s.twin.unacked.map (fun (x : Nat × List Byte × Nat) => if x.1 = pos then (x.1, x.2.1, s.now) else x) } }
    3 (leBytes 8 pos ++ packet)

section Unanswered

variable {s : State}

section Journal

variable {pos : Nat} (hpos : pos < 2 ^ 64)

include hpos

theorem exec_journalAckTimeout_acked (acked : s.twin.unacked.find? (fun e => e.1 == pos) = none) :
    exec (.journalAckTimeout pos) s = .next s := by
  refine (need_eq _ (decide_eq_true hpos)).trans (congrArg _ ?_)
  simp only [acked]
theorem exec_journalAckTimeout_waits {e : Nat × List Byte × Nat} (waits : s.twin.unacked.find? (fun e => e.1 == pos) = some e)
    (replicates : s.replicates = true) (due : e.2.2 + 20000 ≤ (s.reach (e.2.2 + 20000)).now) :
    exec (.journalAckTimeout pos) s = .next ((s.reach (e.2.2 + 20000)).resendCommand pos e.2.1) := by
  refine (need_eq _ (decide_eq_true hpos)).trans (congrArg _ ?_)
  simp only [waits]
  exact (if_neg (by simp [replicates])).trans (if_neg due.not_gt)

end Journal

theorem exec_takeDoneTimeout_none (idle : s.twin.exchange = none) : exec .takeDoneTimeout s = .next s := by
  refine (need_eq _ rfl).trans (congrArg _ ?_)
  simp only [idle]
theorem exec_takeDoneTimeout_take {q seq : Nat} (take : s.twin.exchange = some (2, q, seq)) :
    exec .takeDoneTimeout s = .next (
      let s1 := s.reach (s.twin.takeAt + 100000)
      State.completeId { s1 with twin := { s1.twin with exchange := none } } (q, seq) 0x0302 0) := by
  refine (need_eq _ rfl).trans (congrArg _ ?_)
  simp only [take]

end Unanswered

end Sys2Proof.Machine

namespace Sys2Proof

open Machine

/-- Settles O49: a path by whether it can be sent on, whose heartbeat comes and whether one still does; a COMMAND and a TAKE by whether
their answer is waited for. -/
theorem twinPathsAct : Obligations.TwinPathsAct := by
  refine ⟨fun path hp => ?path, fun pos e hpos => ?command,
    fun q seq s take => exec_takeDoneTimeout_take take, fun s idle => exec_takeDoneTimeout_none idle⟩
  case path =>
    intro due ready
    refine ⟨fun s unready => exec_heartbeatDue_unready hp (Bool.eq_false_iff.2 (State.pathReady_iff.not.2 unready)),
      fun s ⟨isReady, isDue⟩ => exec_heartbeatDue_due hp (State.pathReady_iff.2 isReady) isDue, fun t payload ht whole => ?heartbeat,
      fun l s ⟨up, last, silent⟩ => exec_pathLost_silent hp up last silent, fun s down => exec_pathLost_down hp down⟩
    case heartbeat =>
      exact ⟨fun s other => (exec_heartbeat hp ht payload).trans (congrArg _ (State.hearHeartbeat_other whole other)),
        fun s named => (exec_heartbeat hp ht payload).trans (congrArg _ (State.hearHeartbeat_named whole named))⟩
  case command =>
    exact ⟨fun s ⟨waits, replicates, isDue⟩ => exec_journalAckTimeout_waits hpos waits replicates isDue,
      fun s acked => exec_journalAckTimeout_acked hpos acked⟩

end Sys2Proof

/-! ## Twin operation (10): the messages of the tether -/

namespace Sys2Proof.Machine

open Sys2Proof

/-! ### What sending over the tether leaves of the twin (R433, R436, R444) -/

/-- Of the twin, `t` differs from `s` in what messages sent and notes numbered leave behind alone: MSG_SEQ, path A's queue and the commit
sequence. -/
def State.SendsOnly (s t : State) : Prop :=
  ∃ m a f n, t.twin = { s.twin with msgSeq := m, txA := a, txFree := f, commitSeq := n }

section SendsOnly

variable {s t u : State}

theorem State.SendsOnly.of_twin (h : t.twin = s.twin) : s.SendsOnly t :=
  ⟨s.twin.msgSeq, s.twin.txA, s.twin.txFree, s.twin.commitSeq, h⟩
theorem State.SendsOnly.refl (s : State) : s.SendsOnly s := .of_twin rfl
theorem State.SendsOnly.trans (a : s.SendsOnly t) (b : t.SendsOnly u) : s.SendsOnly u := by
  obtain ⟨m, a, f, n, ht⟩ := a
  obtain ⟨m', a', f', n', hu⟩ := b
  exact ⟨m', a', f', n', by rw [hu, ht]⟩
theorem State.foldl_sendsOnly {α : Type} {f : State → α → State} (h : ∀ (s : State) a, s.SendsOnly (f s a)) (l : List α) (s : State) :
    s.SendsOnly (l.foldl f s) :=
  List.foldlRecOn l f (.refl s) fun _ ht a _ => ht.trans (h _ a)

theorem State.SendsOnly.role (a : s.SendsOnly t) : t.twin.role = s.twin.role := by
  obtain ⟨m, a, f, n, h⟩ := a
  rw [h]
theorem State.SendsOnly.term (a : s.SendsOnly t) : t.twin.term = s.twin.term := by
  obtain ⟨m, a, f, n, h⟩ := a
  rw [h]

end SendsOnly

theorem State.sendStrands_sendsOnly (s : State) (l : List (Nat × List Byte)) : s.SendsOnly (s.sendStrands l) := by
  unfold State.sendStrands
  refine State.foldl_sendsOnly ?_ l s
  exact fun _ _ => .of_twin rfl
theorem State.sendRow_sendsOnly (s : State) (blocks : List (List Byte)) : s.SendsOnly (s.sendRow blocks) := by
  unfold State.sendRow
  exact State.SendsOnly.trans ⟨_, s.twin.txA, s.twin.txFree, s.twin.commitSeq, rfl⟩ (State.sendStrands_sendsOnly _ _)
theorem State.drainTether_sendsOnly (n : Nat) (s : State) : s.SendsOnly (State.drainTether n s) := by
  induction n generalizing s with
  | zero => exact .refl s
  | succ n ih =>
    unfold State.drainTether
    split
    · exact .refl s
    · refine State.SendsOnly.trans ?_ (ih _)
      exact State.SendsOnly.trans ⟨s.twin.msgSeq, _, _, s.twin.commitSeq, rfl⟩ (State.sendRow_sendsOnly _ _)
theorem State.idleTether_sendsOnly (s : State) : s.SendsOnly s.idleTether := by
  unfold State.idleTether
  split
  · exact ⟨s.twin.msgSeq, s.twin.txA, s.now, s.twin.commitSeq, rfl⟩
  · exact .refl s
theorem State.pathASend_sendsOnly (s : State) (type : Nat) (blocks : List (List Byte)) : s.SendsOnly (s.pathASend type blocks) := by
  unfold State.pathASend
  have idle := (State.drainTether_sendsOnly s.twin.txA.length s).trans (State.idleTether_sendsOnly _)
  exact (idle.trans ⟨_, _, _, _, rfl⟩).trans (State.drainTether_sendsOnly _ _)
theorem State.pathBSend_sendsOnly (s : State) (b : List Byte) : s.SendsOnly (s.pathBSend b) := .of_twin rfl
theorem State.tetherOn_sendsOnly (s : State) (path type : Nat) (payload : List Byte) : s.SendsOnly (s.tetherOn path type payload) := by
  unfold State.tetherOn
  dsimp only
  split
  · exact .refl s
  · refine State.SendsOnly.trans ⟨_, s.twin.txA, s.twin.txFree, s.twin.commitSeq, rfl⟩ ?_
    split
    · exact State.pathASend_sendsOnly _ _ _
    · exact State.foldl_sendsOnly State.pathBSend_sendsOnly _ _
theorem State.tetherSend_sendsOnly (s : State) (type : Nat) (payload : List Byte) : s.SendsOnly (s.tetherSend type payload) :=
  State.tetherOn_sendsOnly _ _ _ _
theorem State.sendRole_sendsOnly (s : State) (term kind : Nat) : s.SendsOnly (s.sendRole term kind) := State.tetherSend_sendsOnly _ _ _
theorem State.commitNote_sendsOnly (s : State) (c : Cmd) (kind value tb status detail : Nat) :
    s.SendsOnly (s.commitNote c kind value tb status detail) := by
  unfold State.commitNote
  split
  · have numbered : s.SendsOnly { s with twin := { s.twin with commitSeq := s.twin.commitSeq + 1 } } :=
      ⟨s.twin.msgSeq, s.twin.txA, s.twin.txFree, _, rfl⟩
    dsimp only
    split
    · exact numbered.trans ((State.tetherSend_sendsOnly _ _ _).trans (.of_twin rfl))
    · exact numbered.trans (.of_twin rfl)
  · exact .refl s

/-! ### ACCEPT replies that waited are written (R442, R443; 02 R70) -/

@[simp] theorem State.kickUpload_twin (s : State) (i : Nat) : (s.kickUpload i).twin = s.twin := by
  unfold State.kickUpload
  split
  · rfl
  · dsimp only
    split
    · rfl
    · split
      · exact State.complete_twin ..
      · rfl
@[simp] theorem State.kickLoad_twin (s : State) (k : Nat) : (s.kickLoad k).twin = s.twin := by
  unfold State.kickLoad
  split
  · rfl
  · split <;> rfl
@[simp] theorem State.kickAfter_twin (s : State) (c : Cmd) : (s.kickAfter c).twin = s.twin := by
  unfold State.kickAfter
  split
  · exact State.kickUpload_twin ..
  · split
    · exact State.kickLoad_twin ..
    · rfl
theorem State.endAborted_sendsOnly (s : State) (c : Cmd) : s.SendsOnly (s.endAborted c) :=
  (State.commitNote_sendsOnly _ _ _ _ _ _ _).trans (.of_twin ((State.kickAfter_twin _ _).trans (State.complete_twin ..)))
theorem State.HostOnly.twin {s t : State} (a : s.HostOnly t) : t.twin = s.twin := by
  obtain ⟨h, o, rfl⟩ := a
  rfl
theorem State.writeAccept_twin (s : State) (c : Cmd) : (s.writeAccept c).twin = s.twin := by
  unfold State.writeAccept
  split
  · rfl
  · exact (State.reply_hostOnly _ _ _ _).twin
theorem State.tryAccept_sendsOnly (s : State) (q seq : Nat) : s.SendsOnly (s.tryAccept q seq) := by
  unfold State.tryAccept
  split
  · exact .refl s
  · split
    · have accepted (c : Cmd) : s.SendsOnly ((s.modCmd q seq (fun d => { d with phase := .accepted })).writeAccept c) :=
        .of_twin (State.writeAccept_twin _ _)
      dsimp only
      split
      · exact (accepted _).trans (State.endAborted_sendsOnly _ _)
      · exact accepted _
    · exact .refl s
theorem State.tryAccepts_sendsOnly (s : State) : s.SendsOnly s.tryAccepts :=
  State.foldl_sendsOnly (fun s _ => State.tryAccept_sendsOnly s _ _) _ s

/-! ### Roles (R457, R460) -/

theorem State.endIncomplete_twin (s : State) (l : List EpochBuf) : (s.endIncomplete l).twin = s.twin := by
  unfold State.endIncomplete
  have raised (nums : List Nat) : (nums.foldl (fun s n => State.raise s 0x070D deviceId n 0) s).twin = s.twin :=
    List.foldlRecOn (motive := fun t : State => t.twin = s.twin) nums _ rfl fun _ ht _ _ => (State.raise_twin ..).trans ht
  exact List.foldlRecOn (motive := fun t : State => t.twin = s.twin) _ _ (raised _) fun _ ht _ _ => (State.complete_twin ..).trans ht

/-- The end of a takeover leaves the role and the TERM that it took. -/
theorem State.leadNow_role (s : State) (receiving : List EpochBuf) (lost : Bool) :
    (s.leadNow receiving lost).twin.role = s.twin.role ∧ (s.leadNow receiving lost).twin.term = s.twin.term := by
  unfold State.leadNow
  dsimp only
  have unmuted : (if lost = true then s.unmuteAll else s).twin = s.twin := by split <;> rfl
  generalize (if lost = true then s.unmuteAll else s) = s1 at unmuted ⊢
  have accepts := State.tryAccepts_sendsOnly
    (((s1.endIncomplete receiving).twinCount 5).raise 0x0708 deviceId (s1.endIncomplete receiving).twin.term 0)
  rw [accepts.role, accepts.term, State.raise_twin]
  have counted : ((s1.endIncomplete receiving).twinCount 5).twin = { s.twin with
      counters := s.twin.counters.upd 0 5 (fun n => satAdd 32 n 1) } := by
    simp only [State.twinCount, State.endIncomplete_twin, unmuted]
  rw [counted]
  exact ⟨rfl, rfl⟩

/-- A follower that holds no note becomes lead of the term. -/
theorem State.becomeLead_role {s : State} (term : Nat) (lost : Bool) (settled : s.twin.notes = []) :
    (s.becomeLead term lost).twin.role = 2 ∧ (s.becomeLead term lost).twin.term = term % two32 := by
  have lead : s.becomeLead term lost = (s.takeLead term s.twin.applied lost).leadNow s.twin.receiving lost := by
    simp only [State.becomeLead, settled, List.foldl_nil, List.map_nil]
  rw [lead]
  exact State.leadNow_role _ _ _

theorem State.completeId_findCmd (s : State) (q seq status detail : Nat) : (s.completeId (q, seq) status detail).findCmd q seq = none := by
  unfold State.completeId
  split
  · next absent => exact absent
  · next c found =>
    obtain ⟨rfl, rfl⟩ := State.findCmd_ident found
    exact State.findCmd_complete ..

section Role

variable {s : State} {payload : List Byte} (whole : payload.length = 5)

include whole

theorem State.hearRole_swap (kind : pktU payload 4 1 = 1) (role : s.twin.role = 3) :
    s.hearRole payload = (s.becomeLead (pktU payload 0 4) false).sendRole (pktU payload 0 4) 2 := by
  refine (if_neg (not_not.2 whole)).trans ?_
  simp only [kind, role]
theorem State.hearRole_swapDone {q seq : Nat} (kind : pktU payload 4 1 = 2) (role : s.twin.role = 2)
    (swap : s.twin.exchange = some (3, q, seq)) :
    s.hearRole payload = (s.becomeFollower (pktU payload 0 4)).completeId (q, seq) 2 (pktU payload 0 4) := by
  refine (if_neg (not_not.2 whole)).trans ?_
  simp only [kind, role, swap]
theorem State.hearRole_leave (kind : pktU payload 4 1 = 5) (role : s.twin.role = 3) (idle : s.twin.exchange = none) :
    s.hearRole payload = s.becomeLead (s.twin.term + 1) true := by
  refine (if_neg (not_not.2 whole)).trans ?_
  simp only [kind, role, idle]
  rfl

/-- A follower that holds no note is lead of the SWAP's term after it. -/
theorem State.hearRole_swap_leads (kind : pktU payload 4 1 = 1) (role : s.twin.role = 3) (settled : s.twin.notes = []) :
    (s.hearRole payload).twin.role = 2 ∧ (s.hearRole payload).twin.term = pktU payload 0 4 % two32 := by
  have sent := State.sendRole_sendsOnly (s.becomeLead (pktU payload 0 4) false) (pktU payload 0 4) 2
  rw [State.hearRole_swap whole kind role, sent.role, sent.term]
  exact State.becomeLead_role _ false settled
/-- The lead of a SWAP is follower of its term after it, and its command has its outcome. -/
theorem State.hearRole_swapDone_follows {q seq : Nat} (kind : pktU payload 4 1 = 2) (role : s.twin.role = 2)
    (swap : s.twin.exchange = some (3, q, seq)) :
    (s.hearRole payload).twin.role = 3 ∧ (s.hearRole payload).twin.term = pktU payload 0 4 ∧
      (s.hearRole payload).findCmd q seq = none := by
  rw [State.hearRole_swapDone whole kind role swap, State.completeId_twin]
  exact ⟨rfl, rfl, State.completeId_findCmd _ q seq 2 _⟩

end Role

theorem exec_role (s : State) (payload : List Byte) : exec (.role payload) s = .next (s.hearRole payload) := need_eq _ rfl

/-! ### COMMAND (R431, R442) -/

/-- The command that a follower journals for a COMMAND: accepted already, and answered by nobody here (R442, R446). -/
def journaledCmd (packet : List Byte) (pos : Nat) (to_ : ReplyTo) : Cmd := { cmdOf packet pos to_ [] with phase := .accepted }

/-- `t` is what a follower makes of `s` when it journals a command. -/
structure State.Journals (s t : State) (c : Cmd) : Prop where
  cmds : t.hif.cmds = insertCmd c s.hif.cmds
  nextPos : t.hif.nextPos = max s.hif.nextPos (c.pos + 1)
  journaled : t.twin.journaled = max s.twin.journaled c.pos
  notes : t.twin.notes = s.twin.notes

theorem mem_insertCmd (c : Cmd) (l : List Cmd) : c ∈ insertCmd c l := by simp [insertCmd]
theorem State.Journals.mem {s t : State} {c : Cmd} (a : s.Journals t c) : c ∈ t.hif.cmds := a.cmds ▸ mem_insertCmd c _

theorem State.ackJournal_hif (s : State) (pos : Nat) : (s.ackJournal pos).hif = s.hif := (State.tetherSend_tetherOnly _ _ _).hif
theorem State.ackJournal_twin (s : State) (pos : Nat) :
    (s.ackJournal pos).twin.journaled = max s.twin.journaled pos ∧ (s.ackJournal pos).twin.notes = s.twin.notes := by
  obtain ⟨m, a, f, n, h⟩ := State.tetherSend_sendsOnly
    { s with twin := { s.twin with journaled := max s.twin.journaled pos } } 4 (leBytes 8 pos)
  rw [State.ackJournal, h]
  exact ⟨rfl, rfl⟩

/-- The reply address of a queue's bound source (R442). -/
def CmdQueue.source (k : CmdQueue) : ReplyTo := { udp := k.bind.udp, addr := k.bind.srcAddr, port := k.bind.srcPort }
/-- The SEQ of a COMMAND enters its queue's journal; the expected SEQ follows it unless it was missed until now (R442). -/
def State.enterCommand (s : State) (pos : Nat) (h : Header) (quiet : Bool) : State :=
  let e : JEntry := { seq := h.seq, opcode := h.opcode, corr := h.corr, accept := { kind := 1, status := 1, ts := s.ts }, quiet := quiet }
  if s.twin.journaled < pos then s.take h.queue h e else s.modQueue h.queue (fun k => { k with window := (e :: k.window).take 1024 })

theorem State.enterCommand_eq (s : State) (pos : Nat) (h : Header) (quiet : Bool) :
    ∃ f, s.enterCommand pos h quiet = s.modQueue h.queue f := by
  unfold State.enterCommand
  dsimp only
  split <;> exact ⟨_, rfl⟩

/-- A command that is new to a follower, and does not go to flash, is journaled and acknowledged at once (R442). -/
theorem State.journalCommand_new {s : State} {pos : Nat} {packet : List Byte} {c : Cmd} (new : s.holdsPos pos (headerOf packet) = false)
    (stamped : s.stampOrder (journaledCmd packet pos (s.queue (headerOf packet).queue).source) = c) (volatile : c.toFlash = false) :
    s.journalCommand pos packet =
      let s1 := s.enterCommand pos (headerOf packet) c.quiet
      State.ackJournal { s1 with hif := { s1.hif with nextPos := max s1.hif.nextPos (pos + 1), cmds := insertCmd c s1.hif.cmds } } pos := by
  subst stamped
  exact (if_neg (by simp [new])).trans (if_neg (Bool.eq_false_iff.1 volatile))
theorem State.journalCommand_journals {s : State} {pos : Nat} {packet : List Byte} (new : s.holdsPos pos (headerOf packet) = false)
    (volatile : ∀ r, (journaledCmd packet pos r).toFlash = false) :
    s.Journals (s.journalCommand pos packet) (journaledCmd packet pos (s.queue (headerOf packet).queue).source) := by
  have stays := volatile (s.queue (headerOf packet).queue).source
  obtain ⟨f, entered⟩ := s.enterCommand_eq pos (headerOf packet)
    (journaledCmd packet pos (s.queue (headerOf packet).queue).source).quiet
  rw [State.journalCommand_new new (if_neg (by simp [stays])) stays, entered]
  obtain ⟨journaled, notes⟩ := State.ackJournal_twin _ pos
  exact ⟨congrArg Hif.cmds (State.ackJournal_hif ..), congrArg Hif.nextPos (State.ackJournal_hif ..), journaled, notes⟩

section Follower

variable {s : State} {payload : List Byte} (whole : 44 ≤ payload.length)

include whole

theorem State.hearCommand_follower (follower : s.isFollower = true) :
    s.hearCommand payload = (s.journalCommand (pktU payload 0 8) (payload.drop 8)).drainNotes :=
  (if_neg whole.not_gt).trans (if_pos follower)
theorem State.hearCommand_held (follower : s.isFollower = false) (follows : s.willFollow = true)
    (new : ∀ e ∈ s.twin.held, e.1 ≠ pktU payload 0 8) :
    s.hearCommand payload = { s with twin := { s.twin with held := s.twin.held ++ [(pktU payload 0 8, payload.drop 8)] } } :=
  (if_neg whole.not_gt).trans ((if_neg (by simp [follower])).trans (if_pos (by simpa [follows] using fun a b h => new (a, b) h)))

end Follower

theorem exec_command (s : State) (payload : List Byte) : exec (.command payload) s = .next (s.hearCommand payload) := need_eq _ rfl
theorem State.drainNotes_none {s : State} (settled : s.twin.notes = []) : s.drainNotes = s := by
  simp only [State.drainNotes, settled, List.length_nil, State.applyNotes]

/-! ### JOURNAL_ACK and COMMIT_NOTE (R442, R444) -/

theorem State.hearJournalAck_other {s : State} {payload : List Byte} (whole : payload.length = 8) (other : s.isLead = false) :
    s.hearJournalAck payload = s := (if_neg (not_not.2 whole)).trans (if_pos (by simp [other]))
theorem State.hearJournalAck_lead {s : State} {payload : List Byte} (whole : payload.length = 8) (lead : s.isLead = true)
    (own : ∀ c ∈ s.hif.cmds, c.replicated = false) :
    s.hearJournalAck payload = State.trySwap { s with twin := { s.twin with
      unacked := s.twin.unacked.filter (fun e => e.1 != pktU payload 0 8) } } := by
  have unmarked : s.hif.cmds.map (fun (c : Cmd) => if c.replicated && c.pos == pktU payload 0 8 then { c with twinAcked := true } else c) =
      s.hif.cmds := (List.map_congr_left fun c hc => if_neg (by simp [own c hc])).trans (List.map_id _)
  have unfound : s.hif.cmds.find? (fun c => c.replicated && c.pos == pktU payload 0 8) = none :=
    List.find?_eq_none.2 fun c hc => by simp [own c hc]
  refine (if_neg (not_not.2 whole)).trans ((if_neg (by simp [lead])).trans ?_)
  simp only [unmarked, unfound]
theorem State.hearCommitNote_new {s : State} {payload : List Byte} (whole : payload.length = 28) (follower : s.isFollower = true)
    (unapplied : s.twin.applied < pktU payload 8 8) (new : ∀ e ∈ s.twin.notes, e.2.commitSeq ≠ pktU payload 8 8) :
    s.hearCommitNote payload = State.drainNotes { s with twin := { s.twin with notes := s.twin.notes ++ [(pktU payload 0 8, ({
        commitSeq := pktU payload 8 8, effect := pktU payload 16 4, kind := pktU payload 20 1, tb := pktU payload 21 1 % 4,
        status := pktU payload 22 2, detail := pktU payload 24 4 } : Note))] } } := by
  refine (if_neg (not_not.2 whole)).trans ((if_neg ?_).trans (if_pos follower))
  simpa [follower, unapplied] using fun pos n h => new (pos, n) h
theorem State.hearCommitNote_alone {s : State} {payload : List Byte} (whole : payload.length = 28) (other : s.isFollower = false)
    (single : s.willFollow = false) : s.hearCommitNote payload = s :=
  (if_neg (not_not.2 whole)).trans (if_pos (by simp [other, single]))

theorem exec_journalAck (s : State) (payload : List Byte) : exec (.journalAck payload) s = .next (s.hearJournalAck payload) := need_eq _ rfl
theorem exec_commitNote (s : State) (payload : List Byte) : exec (.commitNote payload) s = .next (s.hearCommitNote payload) := need_eq _ rfl

/-! ### Epochs (R431, R448–R450) -/

/-- An epoch sent is the next in number, and stands with those on their way (R449). -/
theorem State.sendEpoch_twin (s : State) (kind pos apply length : Nat) (data : Tab Byte) :
    (s.sendEpoch kind pos apply length data).twin.nextEpoch = (s.twin.nextEpoch + 1) % two32 ∧
      (s.sendEpoch kind pos apply length data).twin.sending = s.twin.sending ++
        [{ number := s.twin.nextEpoch, kind := kind, data := data, pos := pos, apply := apply, length := length }] := by
  unfold State.sendEpoch
  dsimp only
  obtain ⟨m, a, f, n, h⟩ := (State.tetherSend_sendsOnly _ _ _).trans (State.tetherSend_sendsOnly _ _ _)
  rw [h]
  exact ⟨rfl, rfl⟩

/-- The lead's whole state goes out as a join epoch (R431). -/
def State.sendJoin (s : State) : State :=
  let bytes := Config.joinBytes (s.draw.2.joinState s.draw.1)
  s.draw.2.sendEpoch 0 (s.hif.nextPos - 1) s.draw.2.joinInstant bytes.length ((bytes.zipIdx).map (fun e => (e.2, BitVec.ofNat 8 e.1)))

theorem exec_joinEpochSend_joins {s : State} (joins : s.mayJoin = true) : exec .joinEpochSend s = .next s.sendJoin :=
  (need_eq _ rfl).trans (congrArg _ (if_pos joins))
theorem exec_joinEpochSend_not {s : State} (alone : s.mayJoin = false) : exec .joinEpochSend s = .next s :=
  (need_eq _ rfl).trans (congrArg _ (if_neg (by simp [alone])))

/-- The epoch that an EPOCH_END ends, as it stands then (R449). -/
def State.epochEnded (s : State) (payload : List Byte) : EpochBuf := { s.epochIn (pktU payload 0 4) with
  kind := pktU payload 4 1, length := pktU payload 8 8, apply := pktU payload 20 4, pos := pktU payload 24 8 }
/-- Every byte of an epoch has come, and no byte past its length (R449). -/
def EpochBuf.Whole (b : EpochBuf) : Prop := b.data.length = b.length ∧ ∀ e ∈ b.data, e.1 < b.length

theorem EpochBuf.whole_iff {b : EpochBuf} : (b.data.length == b.length && b.data.all (fun e => e.1 < b.length)) = true ↔ b.Whole := by
  simp [EpochBuf.Whole]

/-- What a verified epoch leaves of the twin: a join epoch waits for its instant, a data epoch for its command (R431, R449). -/
theorem State.epochVerified_twin (s : State) (b : EpochBuf) :
    (s.epochVerified b).twin.lastEpoch = b.number ∧ (s.epochVerified b).twin.rxFails = 0 ∧
      (b.kind = 0 → (s.epochVerified b).twin.joinIn = some { b with verified := true } ∧
        (s.epochVerified b).twin.joinApply = some (s.extend b.apply)) ∧
      (b.kind ≠ 0 → (s.epochVerified b).twin.verified = s.twin.verified ++ [{ b with verified := true }]) := by
  unfold State.epochVerified State.ackEpoch
  dsimp only
  obtain ⟨m, a, f, n, sent⟩ := State.tetherSend_sendsOnly _ 8 (leBytes 4 b.number ++ leBytes 1 0)
  rw [sent]
  by_cases join : b.kind = 0
  · rw [if_pos join]
    exact ⟨rfl, rfl, fun _ => ⟨rfl, rfl⟩, fun data => absurd join data⟩
  · rw [if_neg join]
    exact ⟨rfl, rfl, fun h => absurd h join, fun _ => rfl⟩

theorem State.otherEpochs_eq (s : State) (n : Nat) : s.otherEpochs n = s.twin.receiving.filter (fun b => b.number ≠ n) :=
  List.filter_congr fun _ _ => Bool.eq_iff_iff.2 (by simp)

/-- The bytes of an EPOCH_DATA are put at their offset in the epoch (R449). -/
def EpochBuf.put (b : EpochBuf) (payload : List Byte) : EpochBuf :=
  { b with data := ((payload.drop 12).zipIdx).foldl (fun (t : Tab Byte) e => t.set (pktU payload 4 8 + e.2) e.1) b.data }

section Epochs

variable {s : State} {payload : List Byte}

theorem State.hearEpochData_takes (whole : 12 ≤ payload.length) (takes : s.takesEpochs = true) :
    s.hearEpochData payload =
      { s with twin := { s.twin with receiving := s.twin.receiving.filter (fun b => b.number ≠ pktU payload 0 4) ++
        [(s.epochIn (pktU payload 0 4)).put payload] } } := by
  rw [← State.otherEpochs_eq]
  exact if_neg (by simp [takes, whole])
theorem State.hearEpochData_other (other : s.takesEpochs = false) : s.hearEpochData payload = s := if_pos (.inr (by simp [other]))

section End

variable (full : payload.length = 32) (takes : s.takesEpochs = true)

include full takes

theorem State.hearEpochEnd_partial (short : ¬(s.epochEnded payload).Whole) :
    s.hearEpochEnd payload = s.epochFailed (s.epochEnded payload).number 2 :=
  (if_neg (by simp [full, takes])).trans (if_pos (by rwa [Bool.not_eq_true', ← Bool.not_eq_true, EpochBuf.whole_iff]))

variable (whole : (s.epochEnded payload).Whole)

include whole

theorem State.hearEpochEnd_damaged (damaged : crc32c (s.epochEnded payload).bytes ≠ pktU payload 16 4) :
    s.hearEpochEnd payload = (s.chainFail 11).epochFailed (s.epochEnded payload).number 1 :=
  (if_neg (by simp [full, takes])).trans
    ((if_neg (by rwa [Bool.not_eq_true', Bool.not_eq_false, EpochBuf.whole_iff])).trans (if_pos damaged))
theorem State.hearEpochEnd_verified (sound : crc32c (s.epochEnded payload).bytes = pktU payload 16 4) :
    s.hearEpochEnd payload = s.epochVerified (s.epochEnded payload) :=
  (if_neg (by simp [full, takes])).trans
    ((if_neg (by rwa [Bool.not_eq_true', Bool.not_eq_false, EpochBuf.whole_iff])).trans (if_neg (not_not.2 sound)))

end End

section Ack

variable {b : EpochBuf} (full : payload.length = 5) (found : s.twin.sending.find? (fun x => x.number == pktU payload 0 4) = some b)

include full found

theorem State.hearEpochAck_joined (good : pktU payload 4 1 = 0) (join : b.kind = 0) :
    s.hearEpochAck payload = { s with twin := { s.twin with
      sending := s.twin.sending.filter (fun x => x.number != pktU payload 0 4), lastEpoch := pktU payload 0 4,
      joinApply := some b.apply } } := by
  refine (if_neg (not_not.2 full)).trans ?_
  simp only [found, good, join, if_true]
theorem State.hearEpochAck_resends (bad : pktU payload 4 1 ≠ 0) (few : b.fails + 1 < 3) :
    s.hearEpochAck payload = (State.twinCount { s with twin := { s.twin with
      sending := s.twin.sending.filter (fun x => x.number != pktU payload 0 4) } } 6).resendEpoch b := by
  refine (if_neg (not_not.2 full)).trans ?_
  simp only [found, if_neg bad, if_pos few]

end Ack

end Epochs

theorem exec_epochData (s : State) (payload : List Byte) : exec (.epochData payload) s = .next (s.hearEpochData payload) := need_eq _ rfl
theorem exec_epochEnd (s : State) (payload : List Byte) : exec (.epochEnd payload) s = .next (s.hearEpochEnd payload) := need_eq _ rfl
theorem exec_epochAck (s : State) (payload : List Byte) : exec (.epochAck payload) s = .next (s.hearEpochAck payload) := need_eq _ rfl

/-! ### ROW_RECORD (R462, R464) -/

section RowRecord

variable {s : State} {payload : List Byte}

/-- The records of a program with one more, and without those of long ago (R462). -/
def Program.addRecord (n row : Nat) (payload : List Byte) (p : Program) : Program := { p with
  records := (p.records.filter (fun e => n < e.1 + 16 && !(e.1 == n && e.2.1 == row))) ++ [(n, row, payload)] }

theorem State.hearRowRecord_held (whole : 12 ≤ payload.length) (formed : s.formed = true)
    (wanted : (s.prog (pktU payload 0 1 % 16)).muted.isSome = true ∨ (s.prog (pktU payload 0 1 % 16)).follow = true ∨
      pktU payload 4 4 < (s.prog (pktU payload 0 1 % 16)).followEnd) :
    s.hearRowRecord payload = s.modProg (pktU payload 0 1 % 16) (Program.addRecord (pktU payload 4 4) (pktU payload 2 2) payload) :=
  (if_neg whole.not_gt).trans (if_pos ⟨formed, wanted⟩)
theorem State.hearRowRecord_unformed (whole : 12 ≤ payload.length) (unformed : s.formed = false) : s.hearRowRecord payload = s :=
  (if_neg whole.not_gt).trans (if_neg (by simp [unformed]))
theorem exec_rowRecord (s : State) (payload : List Byte) : exec (.rowRecord payload) s = .next (s.hearRowRecord payload) := need_eq _ rfl

end RowRecord

end Sys2Proof.Machine

namespace Sys2Proof

open Machine

/-- Settles O50: each message by the role of the device that it comes to; what journaling, taking an epoch or changing roles leaves of the
twin is what the messages sent with it leave alone. -/
theorem twinMessagesAct : Obligations.TwinMessagesAct := by
  refine ⟨fun payload whole => ?command, fun payload whole => ?journals, fun payload whole => ?journalAck,
    fun payload whole => ?commitNote, ?join, ?joinSent, fun payload whole => ?epochData, fun payload full => ?epochEnd,
    fun payload b full => ?epochAck, fun payload whole => ?role, fun payload whole => ?rowRecord⟩
  case command =>
    exact ⟨fun s follower => (exec_command s payload).trans (congrArg _ (State.hearCommand_follower whole follower)),
      fun s ⟨follower, follows, new⟩ => (exec_command s payload).trans (congrArg _ (State.hearCommand_held whole follower follows new))⟩
  case journals =>
    intro pos h s ⟨follower, settled, new, volatile⟩
    have journals := State.journalCommand_journals new volatile
    refine ⟨_, exec_command s payload, ?_⟩
    rw [State.hearCommand_follower whole follower, State.drainNotes_none (journals.notes.trans settled)]
    exact ⟨journals.journaled, journals.nextPos, _, journals.mem, rfl, rfl, rfl⟩
  case journalAck =>
    exact ⟨fun s other => (exec_journalAck s payload).trans (congrArg _ (State.hearJournalAck_other whole other)),
      fun s ⟨lead, own⟩ => ⟨_, exec_journalAck s payload, State.hearJournalAck_lead whole lead own⟩⟩
  case commitNote =>
    exact ⟨fun s ⟨follower, unapplied, new⟩ =>
        (exec_commitNote s payload).trans (congrArg _ (State.hearCommitNote_new whole follower unapplied new)),
      fun s ⟨other, single⟩ => (exec_commitNote s payload).trans (congrArg _ (State.hearCommitNote_alone whole other single))⟩
  case join => exact ⟨fun s joins => exec_joinEpochSend_joins joins, fun s alone => exec_joinEpochSend_not alone⟩
  case joinSent =>
    intro s joins
    obtain ⟨next, sending⟩ := State.sendEpoch_twin s.draw.2 0 (s.hif.nextPos - 1) s.draw.2.joinInstant _ _
    exact ⟨_, exec_joinEpochSend_joins joins, next, _, sending, rfl, rfl, rfl⟩
  case epochData =>
    exact ⟨fun s takes => (exec_epochData s payload).trans (congrArg _ (State.hearEpochData_takes whole takes)),
      fun s other => (exec_epochData s payload).trans (congrArg _ (State.hearEpochData_other other))⟩
  case epochEnd =>
    intro b takes whole
    refine ⟨fun s ⟨takes, short⟩ => (exec_epochEnd s payload).trans (congrArg _ (State.hearEpochEnd_partial full takes short)),
      fun s ⟨takes, whole, damaged⟩ => (exec_epochEnd s payload).trans (congrArg _ (State.hearEpochEnd_damaged full takes whole damaged)),
      fun s ⟨takes, whole, sound⟩ => (exec_epochEnd s payload).trans (congrArg _ (State.hearEpochEnd_verified full takes whole sound)),
      fun s ⟨takes, whole, sound⟩ => ⟨_, exec_epochEnd s payload, ?_⟩⟩
    rw [State.hearEpochEnd_verified full takes whole sound]
    exact State.epochVerified_twin s _
  case epochAck =>
    exact ⟨fun s ⟨found, good, join⟩ => (exec_epochAck s payload).trans (congrArg _ (State.hearEpochAck_joined full found good join)),
      fun s ⟨found, bad, few⟩ => (exec_epochAck s payload).trans (congrArg _ (State.hearEpochAck_resends full found bad few))⟩
  case role =>
    exact ⟨fun s ⟨kind, role⟩ => (exec_role s payload).trans (congrArg _ (State.hearRole_swap whole kind role)),
      fun s ⟨kind, role, settled⟩ => ⟨_, exec_role s payload, State.hearRole_swap_leads whole kind role settled⟩,
      fun q seq s ⟨kind, role, swap⟩ => ⟨_, exec_role s payload, State.hearRole_swapDone_follows whole kind role swap⟩,
      fun q seq s ⟨kind, role, swap⟩ => (exec_role s payload).trans (congrArg _ (State.hearRole_swapDone whole kind role swap)),
      fun s ⟨kind, role, idle⟩ => (exec_role s payload).trans (congrArg _ (State.hearRole_leave whole kind role idle))⟩
  case rowRecord =>
    exact ⟨fun s ⟨formed, wanted⟩ => (exec_rowRecord s payload).trans (congrArg _ (State.hearRowRecord_held whole formed wanted)),
      fun s unformed => (exec_rowRecord s payload).trans (congrArg _ (State.hearRowRecord_unformed whole unformed))⟩

end Sys2Proof

/-! ## Stacked DRAM (11): the DEC-TED code -/

namespace Sys2Proof.Machine

open Sys2Proof

/-! ### The field GF(2^7) (R500) -/

theorem gfDouble_eq {a : Nat} (ha : a < 128) : gfDouble a = 2 * a % 128 ^^^ (if a.testBit 6 then 9 else 0) := by
  have top : a.testBit 6 = decide (64 ≤ a) := by
    rw [Nat.testBit_eq_decide_div_mod_eq]
    exact decide_eq_decide.2 (by omega)
  unfold gfDouble
  by_cases h : 64 ≤ a
  · simp [top, h]
  · have := Nat.mod_eq_of_lt (show 2 * a < 128 by omega)
    simp [top, h, this]
theorem gfDouble_lt {a : Nat} (ha : a < 128) : gfDouble a < 128 := by
  rw [gfDouble_eq ha]
  refine Nat.xor_lt_two_pow (n := 7) (Nat.mod_lt _ (by decide)) ?_
  split <;> decide
theorem two_mul_xor (a b : Nat) : 2 * (a ^^^ b) = 2 * a ^^^ 2 * b := by
  simpa [Nat.shiftLeft_eq, Nat.mul_comm] using Nat.shiftLeft_xor_distrib (i := 1) (a := a) (b := b)
/-- Multiplication by α is additive. -/
theorem gfDouble_xor {a b : Nat} (ha : a < 128) (hb : b < 128) : gfDouble (a ^^^ b) = gfDouble a ^^^ gfDouble b := by
  rw [gfDouble_eq (Nat.xor_lt_two_pow (n := 7) ha hb), gfDouble_eq ha, gfDouble_eq hb, two_mul_xor, Nat.testBit_xor,
    show 128 = 2 ^ 7 from rfl, Nat.xor_mod_two_pow]
  cases a.testBit 6 <;> cases b.testBit 6 <;> simp [Nat.xor_comm, Nat.xor_left_comm]

theorem parity_xor (a b : Nat) : (a ^^^ b) % 2 = a % 2 ^^^ b % 2 := Nat.xor_mod_two_pow (n := 1)

theorem gfMulAux_lt {n a : Nat} (b : Nat) (ha : a < 128) : gfMulAux n a b < 128 := by
  induction n generalizing a b with
  | zero => exact Nat.zero_lt_succ _
  | succ n ih =>
    refine Nat.xor_lt_two_pow (n := 7) ?_ (ih _ (gfDouble_lt ha))
    split
    · exact ha
    · decide
theorem ite_odd_xor (a b c : Nat) :
    (if (b ^^^ c) % 2 = 1 then a else 0) = (if b % 2 = 1 then a else 0) ^^^ (if c % 2 = 1 then a else 0) := by
  rw [parity_xor]
  rcases Nat.mod_two_eq_zero_or_one b with hb | hb
  · simp [hb]
  · rcases Nat.mod_two_eq_zero_or_one c with hc | hc <;> simp [hb, hc]
theorem gfMulAux_xor_right (n a b c : Nat) : gfMulAux n a (b ^^^ c) = gfMulAux n a b ^^^ gfMulAux n a c := by
  induction n generalizing a b c with
  | zero => exact (Nat.xor_self 0).symm
  | succ n ih =>
    simp only [gfMulAux, Nat.xor_div_two, ih, ite_odd_xor]
    ac_rfl
theorem gfMulAux_xor_left {n a b : Nat} (c : Nat) (ha : a < 128) (hb : b < 128) :
    gfMulAux n (a ^^^ b) c = gfMulAux n a c ^^^ gfMulAux n b c := by
  induction n generalizing a b c with
  | zero => exact (Nat.xor_self 0).symm
  | succ n ih =>
    simp only [gfMulAux, gfDouble_xor ha hb, ih _ (gfDouble_lt ha) (gfDouble_lt hb)]
    split
    · ac_rfl
    · simp only [Nat.zero_xor]
theorem gfMulAux_gfDouble {n a : Nat} (b : Nat) (ha : a < 128) : gfMulAux n (gfDouble a) b = gfDouble (gfMulAux n a b) := by
  induction n generalizing a b with
  | zero => rfl
  | succ n ih =>
    simp only [gfMulAux]
    rw [gfDouble_xor (by split <;> omega) (gfMulAux_lt _ (gfDouble_lt ha)), ih _ (gfDouble_lt ha)]
    split <;> rfl

theorem gfMul_lt {a : Nat} (b : Nat) (ha : a < 128) : gfMul a b < 128 := gfMulAux_lt b ha
theorem gfMul_xor_right (a b c : Nat) : gfMul a (b ^^^ c) = gfMul a b ^^^ gfMul a c := gfMulAux_xor_right 7 a b c
theorem gfMul_xor_left {a b : Nat} (c : Nat) (ha : a < 128) (hb : b < 128) : gfMul (a ^^^ b) c = gfMul a c ^^^ gfMul b c :=
  gfMulAux_xor_left c ha hb
theorem gfMul_zero (a : Nat) : gfMul a 0 = 0 := by simpa using gfMul_xor_right a 0 0

/-! ### Powers of α -/

theorem gfExp_lt (j : Nat) : gfExp j < 128 := by
  induction j with
  | zero => decide
  | succ j ih => exact gfDouble_lt ih
theorem gfMul_one_left : ∀ b < 128, gfMul 1 b = b := by decide +kernel
theorem gfMul_gfExp (i j : Nat) : gfMul (gfExp i) (gfExp j) = gfExp (i + j) := by
  induction i with
  | zero => rw [Nat.zero_add]; exact gfMul_one_left _ (gfExp_lt j)
  | succ i ih =>
    rw [Nat.succ_add]
    exact (gfMulAux_gfDouble _ (gfExp_lt i)).trans (congrArg gfDouble ih)
theorem gfExp_add_order (j : Nat) : gfExp (j + 127) = gfExp j := by
  rw [← gfMul_gfExp, show gfExp 127 = gfExp 0 by decide +kernel, gfMul_gfExp, Nat.add_zero]

theorem gfLog_gfExp : ∀ j < 127, gfLog (gfExp j) = some j := by decide +kernel
theorem gfLog_isSome : ∀ a < 128, a ≠ 0 → (gfLog a).isSome = true := by decide +kernel
theorem gfLogFrom_sound {a n j k : Nat} (h : gfLogFrom a n j (gfExp j) = some k) : gfExp k = a ∧ k < j + n := by
  induction n generalizing j with
  | zero => exact absurd h (by simp [gfLogFrom])
  | succ n ih =>
    unfold gfLogFrom at h
    split at h
    next found =>
      cases h
      exact ⟨found, by omega⟩
    next =>
      obtain ⟨hk, lt⟩ := ih h
      exact ⟨hk, by omega⟩
/-- Every element but 0 is a power of α. -/
theorem exists_gfExp {a : Nat} (ha : a < 128) (h : a ≠ 0) : ∃ k < 127, gfExp k = a := by
  obtain ⟨k, hk⟩ := Option.isSome_iff_exists.1 (gfLog_isSome a ha h)
  obtain ⟨he, lt⟩ := gfLogFrom_sound hk
  exact ⟨k, by omega, he⟩
theorem gfDouble_ne_zero {a : Nat} (h : a ≠ 0) : gfDouble a ≠ 0 := by
  unfold gfDouble
  split
  · intro zero
    have odd := congrArg (· % 2) zero
    simp only [parity_xor] at odd
    rw [show 2 * a % 128 % 2 = 0 by omega] at odd
    exact absurd odd (by decide)
  · omega
theorem gfExp_ne_zero (j : Nat) : gfExp j ≠ 0 := by
  induction j with
  | zero => decide
  | succ j ih => exact gfDouble_ne_zero ih
theorem gfExp_inj {i j : Nat} (hi : i < 127) (hj : j < 127) (h : gfExp i = gfExp j) : i = j :=
  Option.some.inj ((gfLog_gfExp i hi).symm.trans ((congrArg gfLog h).trans (gfLog_gfExp j hj)))

/-! ### Values and remainders of polynomials (R500) -/

theorem polyAt_zero (x n : Nat) : polyAt x 0 n = 0 := by
  induction n with
  | zero => rfl
  | succ n ih => simp [polyAt, ih, gfMul_zero]
/-- The value at a point is additive in the polynomial. -/
theorem polyAt_xor (x a b n : Nat) : polyAt x (a ^^^ b) n = polyAt x a n ^^^ polyAt x b n := by
  induction n generalizing a b with
  | zero => exact (Nat.xor_self 0).symm
  | succ n ih =>
    simp only [polyAt, Nat.xor_div_two, parity_xor, ih, gfMul_xor_right]
    ac_rfl
theorem polyAt_shift (x c n : Nat) {b : Nat} (hb : b < 2) : polyAt x (2 * c + b) (n + 1) = gfMul x (polyAt x c n) ^^^ b := by
  rw [polyAt, show (2 * c + b) / 2 = c by omega, show (2 * c + b) % 2 = b by omega]
/-- Coefficients above the degree do not matter. -/
theorem polyAt_of_lt {c n k : Nat} (x : Nat) (h : c < 2 ^ n) (hk : n ≤ k) : polyAt x c k = polyAt x c n := by
  induction n generalizing c k with
  | zero => rw [Nat.lt_one_iff.1 h, polyAt_zero, polyAt_zero]
  | succ n ih =>
    obtain ⟨k, rfl⟩ := Nat.exists_eq_succ_of_ne_zero (show k ≠ 0 by omega)
    simp only [polyAt]
    rw [ih (by omega) (by omega)]
/-- The value of x^e at a power of α. -/
theorem polyAt_two_pow {e n : Nat} (k : Nat) (h : e < n) : polyAt (gfExp k) (2 ^ e) n = gfExp (k * e) := by
  induction e generalizing n with
  | zero =>
    obtain ⟨n, rfl⟩ := Nat.exists_eq_succ_of_ne_zero (show n ≠ 0 by omega)
    simp [polyAt, polyAt_zero, gfMul_zero, gfExp]
  | succ e ih =>
    obtain ⟨n, rfl⟩ := Nat.exists_eq_succ_of_ne_zero (show n ≠ 0 by omega)
    have half : 2 ^ (e + 1) / 2 = 2 ^ e := by omega
    have even : 2 ^ (e + 1) % 2 = 0 := by omega
    simp only [polyAt, half, even, Nat.xor_zero, ih (show e < n by omega), gfMul_gfExp]
    exact congrArg gfExp (by ring)

theorem polyMod_lt (m n : Nat) : polyMod m n < 2 ^ 14 := by
  induction n generalizing m with
  | zero => exact Nat.two_pow_pos 14
  | succ n ih =>
    have hq := ih (m / 2)
    simp only [polyMod]
    split
    next high =>
      have top : (2 * polyMod (m / 2) n + m % 2) / 2 ^ 14 = 1 := by omega
      have clear : ((2 * polyMod (m / 2) n + m % 2) ^^^ 0x4377) / 2 ^ 14 = 0 := by
        rw [Nat.xor_div_two_pow, top]
        rfl
      omega
    next low => omega
/-- A root of g(x) has the same value in a polynomial and in its remainder. -/
theorem polyAt_polyMod {x : Nat} (root : polyAt x 0x4377 15 = 0) (m n : Nat) : polyAt x (polyMod m n) 14 = polyAt x m n := by
  induction n generalizing m with
  | zero => exact polyAt_zero x 14
  | succ n ih =>
    have hq := polyMod_lt (m / 2) n
    have hlt := polyMod_lt m (n + 1)
    have shifted : polyAt x (2 * polyMod (m / 2) n + m % 2) 15 = polyAt x m (n + 1) := by
      rw [polyAt_shift x _ 14 (Nat.mod_lt m Nat.two_pos), ih]
      rfl
    rw [← shifted, ← polyAt_of_lt x hlt (Nat.le_succ 14)]
    simp only [polyMod]
    split
    · rw [polyAt_xor, root, Nat.xor_zero]
    · rfl

/-! ### Parity (R499) -/

theorem parityOf_xor (a b n : Nat) : parityOf (a ^^^ b) n = parityOf a n ^^^ parityOf b n := by
  induction n generalizing a b with
  | zero => exact (Nat.xor_self 0).symm
  | succ n ih =>
    simp only [parityOf, Nat.xor_div_two, parity_xor, ih]
    ac_rfl
theorem parityOf_lt (w n : Nat) : parityOf w n < 2 := by
  induction n generalizing w with
  | zero => exact Nat.two_pos
  | succ n ih => exact Nat.xor_lt_two_pow (n := 1) (Nat.mod_lt _ Nat.two_pos) (ih _)
theorem parityOf_append {a n : Nat} (b k : Nat) (h : a < 2 ^ n) : parityOf (a + b * 2 ^ n) (n + k) = parityOf a n ^^^ parityOf b k := by
  induction n generalizing a with
  | zero => simp [Nat.lt_one_iff.1 h, parityOf]
  | succ n ih =>
    have step : a + b * 2 ^ (n + 1) = a + 2 * (b * 2 ^ n) := by ring
    rw [Nat.succ_add, parityOf, parityOf, step, show (a + 2 * (b * 2 ^ n)) / 2 = a / 2 + b * 2 ^ n by omega,
      show (a + 2 * (b * 2 ^ n)) % 2 = a % 2 by omega, ih (by omega), Nat.xor_assoc]
theorem parityOf_zero (n : Nat) : parityOf 0 n = 0 := by
  induction n with
  | zero => rfl
  | succ n ih => simp [parityOf, ih]
theorem parityOf_two_pow {i n : Nat} (h : i < n) : parityOf (2 ^ i) n = 1 := by
  induction i generalizing n with
  | zero =>
    obtain ⟨n, rfl⟩ := Nat.exists_eq_succ_of_ne_zero (show n ≠ 0 by omega)
    simp [parityOf, parityOf_zero]
  | succ i ih =>
    obtain ⟨n, rfl⟩ := Nat.exists_eq_succ_of_ne_zero (show n ≠ 0 by omega)
    have half : 2 ^ (i + 1) / 2 = 2 ^ i := by omega
    have even : 2 ^ (i + 1) % 2 = 0 := by omega
    simp only [parityOf, half, even, Nat.zero_xor, ih (show i < n by omega)]

/-! ### The syndromes of a stored word (R500) -/

/-- A syndrome of a stored word: the value of its bits 0–78 at a point. -/
def syndrome (x w : Nat) : Nat := polyAt x (codePoly w) 79

/-- The polynomial index of a stored bit, as `storedBit` has it the other way. -/
def polyIndex (i : Nat) : Nat := if i < 65 then i + 14 else i - 65

theorem polyIndex_lt {i : Nat} (h : i < 79) : polyIndex i < 79 := by
  unfold polyIndex
  split <;> omega
theorem storedBit_polyIndex {i : Nat} (h : i < 79) : storedBit (polyIndex i) = i := by
  unfold storedBit polyIndex
  split <;> split <;> omega
theorem polyIndex_inj {i j : Nat} (hi : i < 79) (hj : j < 79) (h : polyIndex i = polyIndex j) : i = j := by
  rw [← storedBit_polyIndex hi, h, storedBit_polyIndex hj]

theorem testBit_codePoly (w j : Nat) : (codePoly w).testBit j = if j < 79 then w.testBit (storedBit j) else false := by
  have low : w / 2 ^ 65 % 2 ^ 14 < 2 ^ 14 := Nat.mod_lt _ (Nat.two_pow_pos 14)
  rw [codePoly, Nat.mul_comm, Nat.testBit_two_pow_mul_add _ low, storedBit]
  simp only [Nat.testBit_mod_two_pow, Nat.testBit_div_two_pow]
  by_cases h : j < 14
  · simp [h, show j < 79 by omega, show ¬(14 ≤ j) by omega]
  · by_cases h' : j < 79
    · simp [h, h', show j - 14 < 65 by omega, show 14 ≤ j by omega]
    · simp [h, h', show ¬(j - 14 < 65) by omega]
theorem codePoly_xor (a b : Nat) : codePoly (a ^^^ b) = codePoly a ^^^ codePoly b := by
  refine Nat.eq_of_testBit_eq fun j => ?_
  simp only [Nat.testBit_xor, testBit_codePoly]
  split <;> rfl
theorem codePoly_two_pow {i : Nat} (h : i < 79) : codePoly (2 ^ i) = 2 ^ polyIndex i := by
  refine Nat.eq_of_testBit_eq fun j => ?_
  rw [testBit_codePoly, Nat.testBit_two_pow, Nat.testBit_two_pow]
  split
  next lt =>
    refine decide_eq_decide.2 ⟨fun e => ?_, fun e => ?_⟩
    · subst e
      unfold storedBit polyIndex at *
      split <;> split <;> omega
    · rw [← e, storedBit_polyIndex h]
  next ge =>
    have := polyIndex_lt h
    exact (decide_eq_false (by omega)).symm

theorem syndrome_xor (x a b : Nat) : syndrome x (a ^^^ b) = syndrome x a ^^^ syndrome x b := by
  rw [syndrome, codePoly_xor, polyAt_xor]
  rfl
theorem syndrome_two_pow {i : Nat} (k : Nat) (h : i < 79) : syndrome (gfExp k) (2 ^ i) = gfExp (k * polyIndex i) := by
  rw [syndrome, codePoly_two_pow h, polyAt_two_pow k (polyIndex_lt h)]
/-- The overall parity bit stands in no polynomial. -/
theorem syndrome_parityBit (x : Nat) : syndrome x (2 ^ 79) = 0 := polyAt_zero x 79

/-! ### Code words (R499, R500) -/

/-- A stored word as it is written: no syndrome, and even parity. -/
structure CodeWord (w : Nat) : Prop where
  lt : w < 2 ^ 80
  s1 : syndrome (gfExp 1) w = 0
  s3 : syndrome (gfExp 3) w = 0
  parity : parityOf w 80 = 0

theorem mul_two_pow_add_eq_xor (a : Nat) {b n : Nat} (h : b < 2 ^ n) : a * 2 ^ n + b = a * 2 ^ n ^^^ b := by
  refine Nat.eq_of_testBit_eq fun j => ?_
  rw [Nat.mul_comm, Nat.testBit_two_pow_mul_add _ h, Nat.testBit_xor, Nat.testBit_two_pow_mul]
  split
  next low => simp [Nat.not_le_of_lt low]
  next high =>
    have := Nat.testBit_lt_two_pow (h.trans_le (Nat.pow_le_pow_right Nat.two_pos (Nat.le_of_not_lt high)))
    simp [this, Nat.le_of_not_lt high]
/-- The remainder behind a message makes it a multiple of g(x). -/
theorem polyAt_encoded {x : Nat} (m : Nat) (root : polyAt x 0x4377 15 = 0) :
    polyAt x (m * 2 ^ 14 + polyMod (m * 2 ^ 14) 79) 79 = 0 := by
  have lt := polyMod_lt (m * 2 ^ 14) 79
  rw [mul_two_pow_add_eq_xor m lt, polyAt_xor, polyAt_of_lt x lt (by decide), polyAt_polyMod root, Nat.xor_self]

/-- The 65 bits of data and W. -/
def message (d w : Nat) : Nat := d % 2 ^ 64 + w % 2 * 2 ^ 64

theorem message_lt (d w : Nat) : message d w < 2 ^ 65 := by
  unfold message
  omega
/-- A stored word is data and W, the remainder and the overall parity in their places. -/
theorem eccEncode_eq (d w : Nat) : ∃ r p, r = polyMod (message d w * 2 ^ 14) 79 ∧ p = parityOf (message d w) 65 ^^^ parityOf r 14 ∧
    eccEncode d w = message d w + (r + p * 2 ^ 14) * 2 ^ 65 := ⟨_, _, rfl, rfl, rfl⟩

theorem eccEncode_codeWord (d w : Nat) : CodeWord (eccEncode d w) := by
  obtain ⟨r, p, hr, hp, word⟩ := eccEncode_eq d w
  have hm := message_lt d w
  have hr14 : r < 2 ^ 14 := hr ▸ polyMod_lt _ _
  have hp2 : p < 2 := hp ▸ Nat.xor_lt_two_pow (n := 1) (parityOf_lt _ _) (parityOf_lt _ _)
  have poly : codePoly (eccEncode d w) = message d w * 2 ^ 14 + r := by
    unfold codePoly
    omega
  refine ⟨by omega, ?_, ?_, ?_⟩
  · rw [syndrome, poly, hr]
    exact polyAt_encoded _ (by decide +kernel)
  · rw [syndrome, poly, hr]
    exact polyAt_encoded _ (by decide +kernel)
  · have last : parityOf p 1 = p := by
      simp [parityOf, Nat.mod_eq_of_lt hp2]
    rw [word, show 80 = 65 + 15 from rfl, parityOf_append _ _ hm, show 15 = 14 + 1 from rfl, parityOf_append _ _ hr14, last, hp]
    simp [Nat.xor_comm]


/-! ### The decoder's cases (R501) -/

/-- What a read decodes to when the bits of a list are corrected; two of them are listed in rising order. -/
def corrected (w : Nat) (l : List Nat) : Decoded := {
  kind := l.length, word := l.foldl (fun w b => w ^^^ 2 ^ b) (w % 2 ^ 80),
  bits := if l.length = 2 ∧ l.getD 1 0 < l.getD 0 0 then l.reverse else l,
  s1 := syndrome (gfExp 1) w, s3 := syndrome (gfExp 3) w, p := parityOf w 80 }

/-- What a read decodes to when its error is no single and no double one. -/
def uncorrectable (w : Nat) : Decoded :=
  { kind := 3, word := w % 2 ^ 80, bits := [], s1 := syndrome (gfExp 1) w, s3 := syndrome (gfExp 3) w, p := parityOf w 80 }

/-- The decoder, by the syndromes and the parity of the word. -/
theorem eccDecode_eq (w : Nat) : eccDecode w =
    let s1 := syndrome (gfExp 1) w
    let s3 := syndrome (gfExp 3) w
    if s1 = 0 then if s3 ≠ 0 then uncorrectable w else corrected w (if parityOf w 80 = 0 then [] else [79])
    else if s3 = gfMul s1 (gfMul s1 s1) then
      match gfLog s1 with
      | some j => if 78 < j then uncorrectable w else corrected w (storedBit j :: (if parityOf w 80 = 1 then [] else [79]))
      | none => uncorrectable w
    else if parityOf w 80 = 1 then uncorrectable w
    else match locators s1 (gfMul s3 (gfInv s1) ^^^ gfMul s1 s1) with
      | [i, j] => corrected w [storedBit i, storedBit j]
      | _ => uncorrectable w := by
  simp only [uncorrectable, corrected, syndrome, show gfExp 1 = 2 by decide, show gfExp 3 = 8 by decide]
  rfl

theorem eccDecode_noLocator {w : Nat} (h1 : syndrome (gfExp 1) w = 0) (h3 : syndrome (gfExp 3) w = 0) :
    eccDecode w = corrected w (if parityOf w 80 = 0 then [] else [79]) := by
  simp only [eccDecode_eq, h1, h3, ne_eq, not_true, if_true, if_false]

/-- One bit of the polynomial is wrong, and the overall parity bit as well where the word's parity is even. -/
theorem eccDecode_oneLocator {w e : Nat} (he : e < 79) (h1 : syndrome (gfExp 1) w = gfExp e) (h3 : syndrome (gfExp 3) w = gfExp (3 * e)) :
    eccDecode w = corrected w (storedBit e :: (if parityOf w 80 = 1 then [] else [79])) := by
  have cube : gfExp (3 * e) = gfMul (gfExp e) (gfMul (gfExp e) (gfExp e)) := by
    rw [gfMul_gfExp, gfMul_gfExp]
    exact congrArg gfExp (by ring)
  simp only [eccDecode_eq, h1, h3, if_neg (gfExp_ne_zero e), if_pos cube, gfLog_gfExp e (by omega), if_neg (show ¬(78 < e) by omega)]

theorem gfMul_zero_left (a : Nat) : gfMul 0 a = 0 := by
  simpa using gfMul_xor_left (a := 0) (b := 0) a (by decide) (by decide)
theorem gfMul_ne_zero {a b : Nat} (ha : a < 128) (hb : b < 128) (ha0 : a ≠ 0) (hb0 : b ≠ 0) : gfMul a b ≠ 0 := by
  obtain ⟨i, -, rfl⟩ := exists_gfExp ha ha0
  obtain ⟨j, -, rfl⟩ := exists_gfExp hb hb0
  rw [gfMul_gfExp]
  exact gfExp_ne_zero _
/-- A product divided by one of its factors. -/
theorem gfMul_gfInv {c a : Nat} (hc : c < 128) (ha : a < 128) (h : a ≠ 0) : gfMul (gfMul c a) (gfInv a) = c := by
  obtain ⟨k, hk, rfl⟩ := exists_gfExp ha h
  have inv : gfInv (gfExp k) = gfExp ((127 - k) % 127) := by simp only [gfInv, gfLog_gfExp k hk]
  rw [inv]
  rcases eq_or_ne c 0 with rfl | hc0
  · rw [gfMul_zero_left, gfMul_zero_left]
  · obtain ⟨i, -, rfl⟩ := exists_gfExp hc hc0
    rw [gfMul_gfExp, gfMul_gfExp]
    rcases Nat.eq_zero_or_pos k with rfl | pos
    · rfl
    · rw [Nat.mod_eq_of_lt (by omega), show i + k + (127 - k) = i + 127 by omega, gfExp_add_order]

/-! ### Two locators -/

section TwoLocators

variable {e f : Nat}

theorem gfExp_xor_lt (e f : Nat) : gfExp e ^^^ gfExp f < 128 := Nat.xor_lt_two_pow (n := 7) (gfExp_lt e) (gfExp_lt f)
theorem gfExp_xor_ne_zero (he : e < 127) (hf : f < 127) (h : e ≠ f) : gfExp e ^^^ gfExp f ≠ 0 :=
  fun zero => h (gfExp_inj he hf (by simpa [Nat.xor_assoc] using congrArg (· ^^^ gfExp f) zero))

theorem square_gfExp_xor (e f : Nat) : gfMul (gfExp e ^^^ gfExp f) (gfExp e ^^^ gfExp f) = gfExp (2 * e) ^^^ gfExp (2 * f) := by
  simp only [gfMul_xor_left _ (gfExp_lt e) (gfExp_lt f), gfMul_xor_right, gfMul_gfExp, Nat.add_comm f e, ← two_mul]
  simp [Nat.xor_assoc, Nat.xor_comm, Nat.xor_left_comm]
/-- The sum of two cubes is the cube of the sum, and the product times the sum. -/
theorem cubes_gfExp (e f : Nat) : gfExp (3 * e) ^^^ gfExp (3 * f) =
    gfMul (gfExp e ^^^ gfExp f) (gfMul (gfExp e ^^^ gfExp f) (gfExp e ^^^ gfExp f)) ^^^ gfMul (gfExp (e + f)) (gfExp e ^^^ gfExp f) := by
  rw [square_gfExp_xor]
  simp only [gfMul_xor_left _ (gfExp_lt e) (gfExp_lt f), gfMul_xor_right, gfMul_gfExp]
  rw [show e + 2 * e = 3 * e by ring, show f + 2 * f = 3 * f by ring, show e + f + e = f + 2 * e by ring, show e + f + f = e + 2 * f by ring]
  simp [Nat.xor_assoc, Nat.xor_comm, Nat.xor_left_comm]
theorem quotient_gfExp (he : e < 127) (hf : f < 127) (h : e ≠ f) :
    gfMul (gfExp (3 * e) ^^^ gfExp (3 * f)) (gfInv (gfExp e ^^^ gfExp f)) ^^^ gfMul (gfExp e ^^^ gfExp f) (gfExp e ^^^ gfExp f) =
      gfExp (e + f) := by
  have factor : gfExp (3 * e) ^^^ gfExp (3 * f) = gfMul ((gfExp (2 * e) ^^^ gfExp (2 * f)) ^^^ gfExp (e + f)) (gfExp e ^^^ gfExp f) := by
    rw [cubes_gfExp, square_gfExp_xor, gfMul_xor_left _ (gfExp_xor_lt _ _) (gfExp_lt _)]
    simp only [gfMul_xor_left _ (gfExp_lt _) (gfExp_lt _), gfMul_xor_right, gfMul_gfExp, Nat.add_comm e (2 * _), Nat.add_comm f (2 * _)]
    simp [Nat.xor_assoc, Nat.xor_comm, Nat.xor_left_comm]
  rw [factor, gfMul_gfInv (Nat.xor_lt_two_pow (n := 7) (gfExp_xor_lt _ _) (gfExp_lt _)) (gfExp_xor_lt e f) (gfExp_xor_ne_zero he hf h),
    square_gfExp_xor]
  simp [Nat.xor_comm]
/-- The locators are the roots of their quadratic. -/
theorem locator_iff {j : Nat} (he : e < 127) (hf : f < 127) (hj : j < 127) :
    gfMul (gfExp j) (gfExp j) ^^^ gfMul (gfExp e ^^^ gfExp f) (gfExp j) ^^^ gfExp (e + f) = 0 ↔ j = e ∨ j = f := by
  have product : gfMul (gfExp j) (gfExp j) ^^^ gfMul (gfExp e ^^^ gfExp f) (gfExp j) ^^^ gfExp (e + f) =
      gfMul (gfExp j ^^^ gfExp e) (gfExp j ^^^ gfExp f) := by
    simp only [gfMul_xor_left _ (gfExp_lt _) (gfExp_lt _), gfMul_xor_right, gfMul_gfExp, Nat.add_comm j f]
    ac_rfl
  rw [product]
  constructor
  · intro zero
    by_contra away
    rw [not_or] at away
    exact gfMul_ne_zero (gfExp_xor_lt _ _) (gfExp_xor_lt _ _) (gfExp_xor_ne_zero hj he away.1) (gfExp_xor_ne_zero hj hf away.2) zero
  · rintro (rfl | rfl)
    · rw [Nat.xor_self, gfMul_zero_left]
    · rw [Nat.xor_self, gfMul_zero]

theorem filter_range_pair {n : Nat} {p : Nat → Bool} (lt : e < f) (hf : f < n) (h : ∀ j < n, p j = true ↔ j = e ∨ j = f) :
    (List.range n).filter p = [e, f] := by
  have rises : ((List.range n).filter p).Pairwise (· < ·) := List.pairwise_lt_range.filter p
  refine List.Perm.eq_of_pairwise (le := (· < ·)) (fun a b _ _ hab hba => absurd hab (Nat.lt_asymm hba)) rises (by simpa using lt) ?_
  refine (List.perm_ext_iff_of_nodup (rises.imp Nat.ne_of_lt) (by simpa using lt.ne)).2 fun j => ?_
  simp only [List.mem_filter, List.mem_range, List.mem_cons, List.not_mem_nil, or_false]
  exact ⟨fun ⟨hj, hp⟩ => (h j hj).1 hp, fun hj => ⟨by omega, (h j (by omega)).2 hj⟩⟩
theorem locators_eq (lt : e < f) (hf : f < 79) : locators (gfExp e ^^^ gfExp f) (gfExp (e + f)) = [e, f] :=
  filter_range_pair lt hf fun j hj => by
    rw [beq_iff_eq]
    exact locator_iff (by omega) (by omega) (by omega)

theorem eccDecode_twoLocators {w : Nat} (lt : e < f) (hf : f < 79) (h1 : syndrome (gfExp 1) w = gfExp e ^^^ gfExp f)
    (h3 : syndrome (gfExp 3) w = gfExp (3 * e) ^^^ gfExp (3 * f)) (even : parityOf w 80 = 0) :
    eccDecode w = corrected w [storedBit e, storedBit f] := by
  have sum := gfExp_xor_ne_zero (show e < 127 by omega) (show f < 127 by omega) lt.ne
  have noCube : gfExp (3 * e) ^^^ gfExp (3 * f) ≠
      gfMul (gfExp e ^^^ gfExp f) (gfMul (gfExp e ^^^ gfExp f) (gfExp e ^^^ gfExp f)) := by
    intro cube
    rw [cubes_gfExp] at cube
    exact gfMul_ne_zero (gfExp_lt _) (gfExp_xor_lt e f) (gfExp_ne_zero _) sum
      (by simpa [← Nat.xor_assoc] using congrArg (gfMul (gfExp e ^^^ gfExp f) (gfMul (gfExp e ^^^ gfExp f) (gfExp e ^^^ gfExp f)) ^^^ ·) cube)
  simp only [eccDecode_eq, h1, h3, even, if_neg sum, if_neg noCube, if_neg Nat.zero_ne_one,
    quotient_gfExp (show e < 127 by omega) (show f < 127 by omega) lt.ne, locators_eq lt hf]

end TwoLocators

/-! ### Errors in a code word -/

/-- The decoding finds the word `c` by correcting the bits of `l`. -/
structure Decoded.Finds (d : Decoded) (c : Nat) (l : List Nat) : Prop where
  kind : d.kind = l.length
  word : d.word = c
  bits : d.bits = l

section CodeWord

variable {c : Nat} (h : CodeWord c)

include h

theorem CodeWord.decode : (eccDecode c).Finds c [] := by
  rw [eccDecode_noLocator h.s1 h.s3, h.parity]
  exact ⟨rfl, Nat.mod_eq_of_lt h.lt, rfl⟩

/-- The bit that was flipped is corrected. -/
theorem CodeWord.corrected_one {i : Nat} (hi : i < 80) : (corrected (c ^^^ 2 ^ i) [i]).Finds c [i] := by
  have lt := Nat.xor_lt_two_pow h.lt (Nat.pow_lt_pow_right (by decide) hi)
  refine ⟨rfl, ?_, rfl⟩
  change (c ^^^ 2 ^ i) % 2 ^ 80 ^^^ 2 ^ i = c
  rw [Nat.mod_eq_of_lt lt, Nat.xor_xor_cancel_right]
/-- The two bits that were flipped are corrected, whichever is found first. -/
theorem CodeWord.corrected_two {i j : Nat} (lt : i < j) (hj : j < 80) :
    (corrected (c ^^^ 2 ^ i ^^^ 2 ^ j) [i, j]).Finds c [i, j] ∧ (corrected (c ^^^ 2 ^ i ^^^ 2 ^ j) [j, i]).Finds c [i, j] := by
  have small := Nat.xor_lt_two_pow (Nat.xor_lt_two_pow h.lt (Nat.pow_lt_pow_right (a := 2) (by decide) (lt.trans hj)))
    (Nat.pow_lt_pow_right (a := 2) (by decide) hj)
  refine ⟨⟨rfl, ?_, ?_⟩, ⟨rfl, ?_, ?_⟩⟩
  · change (c ^^^ 2 ^ i ^^^ 2 ^ j) % 2 ^ 80 ^^^ 2 ^ i ^^^ 2 ^ j = c
    rw [Nat.mod_eq_of_lt small]
    simp [Nat.xor_comm, Nat.xor_left_comm]
  · exact if_neg fun k => Nat.lt_asymm lt k.2
  · change (c ^^^ 2 ^ i ^^^ 2 ^ j) % 2 ^ 80 ^^^ 2 ^ j ^^^ 2 ^ i = c
    rw [Nat.mod_eq_of_lt small]
    simp [Nat.xor_comm, Nat.xor_left_comm]
  · exact if_pos ⟨rfl, lt⟩

/-- The parity of a code word with a bit flipped is odd. -/
theorem CodeWord.parity_flip {i : Nat} (hi : i < 80) : parityOf (c ^^^ 2 ^ i) 80 = 1 := by
  rw [parityOf_xor, h.parity, parityOf_two_pow hi, Nat.zero_xor]
theorem CodeWord.parity_flip_two {i j : Nat} (hi : i < 80) (hj : j < 80) : parityOf (c ^^^ 2 ^ i ^^^ 2 ^ j) 80 = 0 := by
  rw [parityOf_xor, h.parity_flip hi, parityOf_two_pow hj, Nat.xor_self]

theorem CodeWord.decode_flip {i : Nat} (hi : i < 80) : (eccDecode (c ^^^ 2 ^ i)).Finds c [i] := by
  have odd := h.parity_flip hi
  rcases Nat.lt_succ_iff_lt_or_eq.1 hi with low | rfl
  · rw [eccDecode_oneLocator (polyIndex_lt low) (by rw [syndrome_xor, h.s1, syndrome_two_pow 1 low, Nat.zero_xor, one_mul])
      (by rw [syndrome_xor, h.s3, syndrome_two_pow 3 low, Nat.zero_xor]), storedBit_polyIndex low, if_pos odd]
    exact h.corrected_one hi
  · rw [eccDecode_noLocator (by rw [syndrome_xor, h.s1, syndrome_parityBit, Nat.xor_self])
      (by rw [syndrome_xor, h.s3, syndrome_parityBit, Nat.xor_self]), odd, if_neg Nat.one_ne_zero]
    exact h.corrected_one hi

theorem CodeWord.decode_flip_two {i j : Nat} (lt : i < j) (hj : j < 80) : (eccDecode (c ^^^ 2 ^ i ^^^ 2 ^ j)).Finds c [i, j] := by
  have even := h.parity_flip_two (lt.trans hj) hj
  obtain ⟨rising, falling⟩ := h.corrected_two lt hj
  rcases Nat.lt_succ_iff_lt_or_eq.1 hj with low | rfl
  case inr =>
    have hi := lt
    rw [eccDecode_oneLocator (polyIndex_lt hi)
      (by rw [syndrome_xor, syndrome_xor, h.s1, syndrome_two_pow 1 hi, syndrome_parityBit, Nat.zero_xor, Nat.xor_zero, one_mul])
      (by rw [syndrome_xor, syndrome_xor, h.s3, syndrome_two_pow 3 hi, syndrome_parityBit, Nat.zero_xor, Nat.xor_zero]),
      storedBit_polyIndex hi, even, if_neg Nat.zero_ne_one]
    exact rising
  case inl =>
    have hi := lt.trans low
    have s1 : syndrome (gfExp 1) (c ^^^ 2 ^ i ^^^ 2 ^ j) = gfExp (polyIndex i) ^^^ gfExp (polyIndex j) := by
      rw [syndrome_xor, syndrome_xor, h.s1, syndrome_two_pow 1 hi, syndrome_two_pow 1 low, Nat.zero_xor, one_mul, one_mul]
    have s3 : syndrome (gfExp 3) (c ^^^ 2 ^ i ^^^ 2 ^ j) = gfExp (3 * polyIndex i) ^^^ gfExp (3 * polyIndex j) := by
      rw [syndrome_xor, syndrome_xor, h.s3, syndrome_two_pow 3 hi, syndrome_two_pow 3 low, Nat.zero_xor]
    rcases Nat.lt_or_gt_of_ne (fun same => lt.ne (polyIndex_inj hi low same)) with up | down
    · rw [eccDecode_twoLocators up (polyIndex_lt low) s1 s3 even, storedBit_polyIndex hi, storedBit_polyIndex low]
      exact rising
    · rw [eccDecode_twoLocators down (polyIndex_lt hi) (s1.trans (Nat.xor_comm _ _)) (s3.trans (Nat.xor_comm _ _)) even,
        storedBit_polyIndex hi, storedBit_polyIndex low]
      exact falling

end CodeWord

/-- The data and W of a stored word stand in its first 65 bits. -/
theorem eccEncode_data {d : Nat} (w : Nat) (hd : d < 2 ^ 64) : eccEncode d w % 2 ^ 64 = d := by
  obtain ⟨r, p, -, -, word⟩ := eccEncode_eq d w
  rw [word, message]
  omega
theorem eccEncode_w (d : Nat) {w : Nat} (hw : w < 2) : (eccEncode d w).testBit 64 = (w == 1) := by
  obtain ⟨r, p, -, -, word⟩ := eccEncode_eq d w
  rw [Nat.testBit_eq_decide_div_mod_eq, word, message]
  exact decide_eq_decide.2 (by omega)

end Sys2Proof.Machine

namespace Sys2Proof

open Machine

/-- Settles O16: the syndromes are additive and vanish on code words, so those of a word with wrong bits are the locators' own, which the
decoder finds. -/
theorem codeCorrectsAnyTwoBits : Obligations.CodeCorrectsAnyTwoBits := by
  intro d w hd hw
  have code := eccEncode_codeWord d w
  obtain ⟨kind, word, -⟩ := code.decode
  refine ⟨kind, ?data, ?written, fun i hi => ?single, fun i j lt hj => ?double⟩
  case data =>
    rw [Decoded.data, word, eccEncode_data w hd]
  case written =>
    rw [Decoded.w, word, eccEncode_w d hw]
  case single =>
    obtain ⟨kind, word, bits⟩ := code.decode_flip hi
    exact ⟨kind, word, bits⟩
  case double =>
    obtain ⟨kind, word, bits⟩ := code.decode_flip_two lt hj
    exact ⟨kind, word, bits⟩

end Sys2Proof

/-! ## Stacked DRAM (11): the stored words -/

namespace Sys2Proof.Machine

open Sys2Proof

theorem State.storedWord_modChannel (s : State) (ch : Nat) (f : Channel → Channel) (ch' ca : Nat) :
    (s.modChannel ch f).storedWord ch' ca =
      if ch' = ch then (f (s.channel ch)).words.get (eccEncode s.mem.fill 0) (ca / 8) else s.storedWord ch' ca := by
  change Tab.get _ ((s.modChannel ch f).channel ch').words _ = _
  rw [State.channel_modChannel]
  split <;> rfl
/-- A written word reads as what was written, and no other word changes (R479, R481). -/
theorem State.storedWord_putWord (s : State) (ch ca w ch' ca' : Nat) :
    (s.putWord ch ca w).storedWord ch' ca' = if ch' = ch ∧ ca' / 8 = ca / 8 then w else s.storedWord ch' ca' := by
  rw [State.putWord, State.storedWord_modChannel]
  by_cases own : ch' = ch
  · subst own
    by_cases fill : w = eccEncode s.mem.fill 0 <;> simp [fill, State.storedWord]
  · simp [own]

end Sys2Proof.Machine

namespace Sys2Proof

open Machine

/-- Settles O6: a tick of the clocks leaves the DRAM alone, and every command keeps its form. -/
theorem memoryKeepsItsForm : Obligations.MemoryKeepsItsForm := by
  intro s t formed h
  unfold step at h
  split at h
  next =>
    cases h
    simpa using formed
  next c cs _ =>
    obtain ⟨-, -, -, -, -, wf⟩ := exec_onward c h
    exact wf formed

/-- Settles O15: what a word reads as after a write is the written word where it is the same word, and the old one elsewhere. -/
theorem dramWordsReadBack : Obligations.DramWordsReadBack := by
  intro s ch ca w
  refine ⟨?same, fun ch' ca' other => ?other, _, rfl⟩
  case same => rw [State.storedWord_putWord, if_pos ⟨rfl, rfl⟩]
  case other => rw [State.storedWord_putWord, if_neg fun same => other.elim (· same.1) (· same.2)]

end Sys2Proof

/-! ## Stacked DRAM (11): the commands -/

namespace Sys2Proof.Machine

open Sys2Proof

section MemCommands

variable {c : Cmd} {s : State}

/-! ### MEM_RETRAIN (R493) -/

theorem effMemRetrain_held (held : s.channelBusy c.idx = true ∨ s.inService c.idx = false) :
    effMemRetrain c s = (s.unpermit (fun p => p.pos = c.pos)).fail c 0x0303 c.object := if_pos (by simpa using held)
theorem effMemRetrain_trains (idle : s.channelBusy c.idx = false) (serves : s.inService c.idx = true) :
    effMemRetrain c s = (s.commits c).modChannel c.idx (fun x => { x with
      retraining := some (s.mem.rates.getD (c.idx / 32) 0, some (c.q, c.seq)), waitPermit := false }) := if_neg (by simp [idle, serves])

/-! ### ECC_TEST (R516) -/

theorem effEccTest_busy (busy : s.mem.ectBusy = true) : effEccTest c s = s.fail c 0x0303 c.object := if_pos busy
theorem effEccTest_idle (idle : s.mem.ectBusy = false) :
    effEccTest c s = (s.commits c).startEct {
      channel := c.idx, word := c.u 0 2, data := c.u 4 8, flips := c.u 12 10, cmd := some (c.q, c.seq) } := if_neg (by simp [idle])

end MemCommands

end Sys2Proof.Machine

namespace Sys2Proof

open Machine

/-- Settles O32: each row starts its command, a MEM_RETRAIN by whether its channel serves and is idle, an ECC_TEST by whether one runs. -/
theorem memoryCommandsRun : Obligations.MemoryCommandsRun :=
  ⟨runs_of_eff fun _ _ _ => rfl,
    runsIf_of_eff (fun _ _ _ => rfl) fun _ _ _ held => effMemRetrain_held held,
    runsIf_of_eff (fun _ _ _ => rfl) fun _ _ _ ⟨idle, serves⟩ => effMemRetrain_trains idle serves,
    runs_of_eff fun _ _ _ => rfl, runs_of_eff fun _ _ _ => rfl, runs_of_eff fun _ _ _ => rfl, runs_of_eff fun _ _ _ => rfl,
    runsIf_of_eff (fun _ _ _ => rfl) fun _ _ _ busy => effEccTest_busy busy,
    runsIf_of_eff (fun _ _ _ => rfl) fun _ _ _ idle => effEccTest_idle idle⟩

end Sys2Proof

/-! ## Stacked DRAM (11): what leaves the retired channels alone -/

namespace Sys2Proof.Machine

open Sys2Proof

theorem State.channel_congr {s t : State} (h : t.mem.channels = s.mem.channels) (ch : Nat) : t.channel ch = s.channel ch := by
  unfold State.channel
  rw [h]
/-- A change of a channel is what it makes of the channel as it stands. -/
theorem State.modChannel_congr {s : State} {ch : Nat} {f g : Channel → Channel} (h : f (s.channel ch) = g (s.channel ch)) :
    s.modChannel ch f = s.modChannel ch g :=
  congrArg (fun x => { s with mem := { s.mem with channels := s.mem.channels.set ch x } }) h
@[simp] theorem State.channel_happen (s : State) (ev : Nat) (objects : List Nat) (qual leg inc ch : Nat) :
    (s.happen ev objects qual leg inc).channel ch = s.channel ch := State.channel_congr (by simp) ch

/-- `t` has the retired channels of `s`, in service and in flash. -/
structure State.SameRetired (s t : State) : Prop where
  channels : ∀ ch, (t.channel ch).retired = (s.channel ch).retired
  flash : t.nv.retired = s.nv.retired

section SameRetired

variable {s t u : State}

theorem State.SameRetired.refl (s : State) : s.SameRetired s := ⟨fun _ => rfl, rfl⟩
theorem State.SameRetired.trans (a : s.SameRetired t) (b : t.SameRetired u) : s.SameRetired u :=
  ⟨fun ch => (b.channels ch).trans (a.channels ch), b.flash.trans a.flash⟩
theorem State.SameRetired.before (b : t.SameRetired u) (a : s.SameRetired t) : s.SameRetired u := a.trans b
theorem State.SameRetired.of_eq (hm : t.mem.channels = s.mem.channels) (hn : t.nv = s.nv) : s.SameRetired t :=
  ⟨fun ch => by rw [State.channel_congr hm], by rw [hn]⟩
theorem State.foldl_sameRetired {α : Type} {f : State → α → State} (h : ∀ (s : State) a, s.SameRetired (f s a)) (l : List α) (s : State) :
    s.SameRetired (l.foldl f s) := by
  induction l generalizing s with
  | nil => exact .refl s
  | cons a l ih => exact (h s a).trans (ih _)
theorem State.modChannel_sameRetired (s : State) (ch : Nat) {f : Channel → Channel} (h : ∀ x, (f x).retired = x.retired) :
    s.SameRetired (s.modChannel ch f) := by
  refine ⟨fun j => ?_, rfl⟩
  rw [State.channel_modChannel]
  split
  next own => rw [h, own]
  next => rfl
theorem State.SameRetired.raise {code object d0 d1 : Nat} (a : s.SameRetired t) : s.SameRetired (t.raise code object d0 d1) :=
  a.trans (.of_eq (by simp) (by simp))

theorem State.loseRefsOn_sameRetired (s : State) (p : Nat) : s.SameRetired (s.loseRefsOn p) := by
  refine State.foldl_sameRetired (fun s r => ?_) _ s
  have loses (t : State) : t.SameRetired (t.loseRef p r.poc r.picture 2) :=
    State.SameRetired.raise (.of_eq rfl rfl)
  dsimp only
  split
  · exact loses s
  · split
    · exact (loses s.draw.2).before (.of_eq rfl rfl)
    · exact .of_eq rfl rfl
theorem State.loseGraphic_sameRetired (s : State) (i g : Nat) : s.SameRetired (s.loseGraphic i g) := by
  unfold State.loseGraphic
  dsimp only
  split
  · exact .refl s
  · exact State.SameRetired.raise (.of_eq rfl rfl)
theorem State.loseContent_sameRetired (s : State) (c : Nat) : s.SameRetired (s.loseContent c) := by
  unfold State.loseContent
  refine (State.foldl_sameRetired (fun s o => ?_) _ s).trans (.of_eq rfl rfl)
  dsimp only
  split
  · exact State.loseRefsOn_sameRetired s _
  · split
    · exact State.loseGraphic_sameRetired s _ _
    · exact .refl s
theorem State.startCopy_sameRetired (s : State) (ch : Nat) : s.SameRetired (s.startCopy ch) := by
  unfold State.startCopy
  split <;> exact .of_eq rfl rfl
theorem State.renewPage_sameRetired (s : State) (page : Nat × Nat) : s.SameRetired (s.renewPage page) := by
  unfold State.renewPage State.setPage
  dsimp only
  split
  · exact .refl s
  · exact State.modChannel_sameRetired s _ fun _ => rfl
theorem State.movePage_sameRetired (base count : Nat) (s : State) (page : Nat × Nat) : s.SameRetired (State.movePage base count s page) := by
  unfold State.movePage
  dsimp only
  split
  · exact (State.renewPage_sameRetired _ page).before (.of_eq rfl rfl)
  · exact .refl s
theorem State.movePages_sameRetired (s : State) (c : Nat) : s.SameRetired (s.movePages c) :=
  (State.foldl_sameRetired (State.movePage_sameRetired _ _) _ s).trans (State.foldl_sameRetired (State.movePage_sameRetired _ _) _ _)

theorem Channel.loadSet_retired (rate : Nat) (x : Channel) : (x.loadSet rate).retired = x.retired := by
  unfold Channel.loadSet
  split <;> rfl

end SameRetired

/-! ### Retirement of a channel (R494) -/

/-- A channel that is retired, with nothing more of what it held. -/
def Channel.retire (was : Option Nat) (x : Channel) : Channel := { x with
  retired := true, was := was, words := [], debt := [], openRows := [], caFails := [], ueReads := [], ceLanes := [] }
/-- The state as a channel is marked retired, before a spare takes its place or its logical channel is unbacked. -/
def State.markRetired (s : State) (ch : Nat) : State :=
  let s1 := (s.serviceFault ch).modChannel ch (Channel.retire (s.logicalOf ch))
  { s1 with
    nv := { s1.nv with retired := s1.nv.retired ++ [ch] },
    mem := { s1.mem with
      table := s1.mem.table.filter (fun e => e.2.channel != ch), copying := s1.mem.copying.filter (fun x => x != ch),
      copyWait := s1.mem.copyWait.filter (fun x => x != ch) } }

theorem State.markRetired_channel (s : State) (ch : Nat) : ((s.markRetired ch).channel ch).retired = true := by
  change (((s.serviceFault ch).modChannel ch (Channel.retire (s.logicalOf ch))).channel ch).retired = true
  rw [State.channel_modChannel, if_pos rfl]
  rfl
theorem State.mem_markRetired (s : State) (ch : Nat) : ch ∈ (s.markRetired ch).nv.retired := List.mem_append_right _ (List.mem_singleton.2 rfl)

/-- What follows the mark leaves it alone. -/
theorem State.retireChannel_marks {s : State} {ch : Nat} (cause : Nat) (here : (s.channel ch).retired = false) :
    (s.markRetired ch).SameRetired (s.retireChannel ch cause) := by
  unfold State.retireChannel
  rw [if_neg (by simp [here])]
  dsimp only
  have posted : (s.markRetired ch).SameRetired
      (((s.markRetired ch).unpermit (fun p => p.code = 3 && p.holder = channelId ch)).raise 0x0804 (channelId ch) cause 0) :=
    State.SameRetired.raise (.of_eq rfl rfl)
  split
  · exact posted
  · refine posted.trans ?_
    split
    · refine (State.startCopy_sameRetired _ _).before ((State.loseContent_sameRetired _ _).before (State.SameRetired.raise ?_))
      refine (State.modChannel_sameRetired _ _ fun x => ?_).before (.of_eq rfl rfl)
      exact (Channel.loadSet_retired _ _).trans rfl
    · refine (State.movePages_sameRetired _ _).before ((State.loseContent_sameRetired _ _).before ?_)
      exact State.SameRetired.raise (.of_eq rfl rfl)
theorem State.retireChannel_retires {s : State} {ch : Nat} (cause : Nat) (here : (s.channel ch).retired = false) :
    ((s.retireChannel ch cause).channel ch).retired = true ∧ ch ∈ (s.retireChannel ch cause).nv.retired := by
  have marks := State.retireChannel_marks cause here
  exact ⟨(marks.channels ch).trans (s.markRetired_channel ch), marks.flash ▸ s.mem_markRetired ch⟩

end Sys2Proof.Machine

/-! ## Stacked DRAM (11): its refreshes, temperatures, training and channels -/

namespace Sys2Proof.Machine

open Sys2Proof

/-! ### Refresh (R483, R484) -/

section Refresh

variable {s : State} {stack channel group : Nat}

/-- The debt of a bank group with the refresh that falls due. -/
def State.dueDebt (s : State) (ch group : Nat) : Nat := (s.channel ch).debt.get 0 group + 1
/-- The refresh is owed. -/
def State.oweRefresh (s : State) (ch group : Nat) : State :=
  s.modChannel ch (fun x => { x with debt := x.debt.set group (s.dueDebt ch group) })

theorem State.debt_issueRefresh (s : State) (ch group n : Nat) :
    ((s.issueRefresh ch group n).channel ch).debt.get 0 group = (s.channel ch).debt.get 0 group - n := by
  simp [State.issueRefresh]
theorem State.debt_oweRefresh (s : State) (ch group : Nat) :
    ((s.oweRefresh ch group).channel ch).debt.get 0 group = s.dueDebt ch group := by simp [State.oweRefresh]

variable (hs : stack < 2) (hc : channel < 18) (hg : group < 4)
  (runs : (s.channel (32 * stack + channel)).retired = false ∧ (s.channel (32 * stack + channel)).selfRefresh = false)

include hs hc hg runs

theorem exec_refreshDue_idle : exec (.refreshDue stack channel group true) s =
    .next ((s.oweRefresh (32 * stack + channel) group).issueRefresh (32 * stack + channel) group (s.dueDebt (32 * stack + channel) group)) :=
  (need_eq _ (by simp [hs, hc, hg])).trans (congrArg _ ((if_neg (by simp [runs])).trans (if_pos rfl)))
theorem exec_refreshDue_postponed (single : s.mem.doubled.getD stack false = false)
    (within : s.dueDebt (32 * stack + channel) group ≤ s.mem.postpone) : exec (.refreshDue stack channel group false) s = .next (
      let owed := s.oweRefresh (32 * stack + channel) group
      { owed with mem := owed.mem.postDecision stack false }) := by
  refine (need_eq _ (by simp [hs, hc, hg])).trans (congrArg _ ((if_neg (by simp [runs])).trans ?_))
  simp only [single, Bool.false_eq_true, if_false]
  exact if_pos within
theorem exec_refreshDue_clamped (single : s.mem.doubled.getD stack false = false)
    (exceeds : s.mem.postpone < s.dueDebt (32 * stack + channel) group) : exec (.refreshDue stack channel group false) s = .next (
      let issued := (s.oweRefresh (32 * stack + channel) group).issueRefresh (32 * stack + channel) group
        (s.dueDebt (32 * stack + channel) group - s.mem.postpone)
      { issued with mem := issued.mem.postDecision stack true }) := by
  refine (need_eq _ (by simp [hs, hc, hg])).trans (congrArg _ ((if_neg (by simp [runs])).trans ?_))
  simp only [single, Bool.false_eq_true, if_false]
  exact (if_neg (Nat.not_le_of_lt exceeds)).trans rfl

end Refresh

/-! ### Temperatures and eyes (R485, R486, R491, R492) -/

theorem clip_of_mem {x lo hi : Int} (hlo : lo ≤ x) (hhi : x ≤ hi) : clip x lo hi = x :=
  (if_neg (not_lt.2 hlo)).trans (if_neg (not_lt.2 hhi))

/-- A stack enters doubled rate at a reading, with its event (R485, R486). -/
def State.enterDoubled (s : State) (stack : Nat) (temp : Int) : State :=
  (State.doubleDebts { s with mem := { s.mem with
    temps := s.mem.temps.set stack temp, doubled := s.mem.doubled.set stack true } } stack).raise 0x0801 deviceId stack (wrapInt 32 temp)
/-- The channels of a stack that are 10 °C away from their training ask for retraining (R492). -/
def State.askRetrains (s : State) (stack : Nat) (temp : Int) : State :=
  (stackChannels stack).foldl (fun s ch => if 160 ≤ (temp - (s.channel ch).trainedTemp).natAbs then s.autoRetrain ch else s) s

theorem exec_dramTempReading_hot {s : State} {stack : Nat} {temp : Int} (hs : stack < 2) (lo : -32768 ≤ temp) (hi : temp ≤ 32767)
    (single : s.mem.doubled.getD stack false = false) (hot : (s.mem.threshold : Int) * 16 ≤ temp) :
    exec (.dramTempReading stack temp) s = .next ((s.enterDoubled stack temp).askRetrains stack temp) := by
  refine (need_eq _ (decide_eq_true hs)).trans (congrArg _ ?_)
  rw [clip_of_mem lo hi]
  exact congrArg (State.askRetrains · stack temp) (if_pos ⟨by rw [single]; rfl, decide_eq_true hot⟩)

/-! ### Settings found (R489) -/

theorem eyePasses_iff {e : EyeScan} : eyePasses e = true ↔ 64 ≤ e.width ∧ 25 ≤ e.height := by simp [eyePasses]

/-- A channel whose retraining has found a setting of a rate. -/
def Channel.takeSet (rate : Nat) (m : EyeScan) (temp : Int) (x : Channel) : Channel :=
  { x with retraining := none, sets := x.sets.set rate (some m), trainedTemp := temp }
/-- A retraining gives its permit back, and takes the PHY tables of the active set (15 R616). -/
def State.endRetraining (s : State) (ch : Nat) : State := (s.unpermit (fun p => p.code = 2 && p.holder = channelId ch)).takePhy (channelId ch)

theorem Channel.loadSet_takeSet {x : Channel} {rate : Nat} (m : EyeScan) (temp : Int) (hr : rate < x.sets.length) :
    (x.takeSet rate m temp).loadSet rate = { x.takeSet rate m temp with margin := m.width, delays := (m.read, m.write) } := by
  have found : (x.takeSet rate m temp).sets.getD rate none = some m := by simp [Channel.takeSet, hr]
  simp only [Channel.loadSet, found]

section Channels

variable {s : State} {ch : Nat} (hch : isChannel ch = true)

include hch

theorem exec_eyeTracking_good {eye : EyeScan} (serves : s.inService ch = true) (good : 15 * 256 ≤ eye.width * 100) :
    exec (.eyeTracking ch eye) s = .next (s.modChannel ch (fun x => x.track eye)) :=
  (need_eq _ hch).trans (congrArg _ ((if_pos serves).trans (if_neg (Nat.not_lt_of_le good))))
theorem exec_eyeTracking_low {eye : EyeScan} (serves : s.inService ch = true) (low : eye.width * 100 < 15 * 256) :
    exec (.eyeTracking ch eye) s = .next ((s.modChannel ch (fun x => x.track eye)).autoRetrain ch) :=
  (need_eq _ hch).trans (congrArg _ ((if_pos serves).trans (if_pos low)))
theorem exec_eyeTracking_out {eye : EyeScan} (out : s.inService ch = false) : exec (.eyeTracking ch eye) s = .next s :=
  (need_eq _ hch).trans (congrArg _ (if_neg (by simp [out])))

/-! ### C/A parity (R494) -/

/-- The C/A parity failures of a channel within 1 µs of one that happens now. -/
def State.caFailsNow (s : State) (ch : Nat) : List Nat := ((s.channel ch).caFails.filter (fun x => s.now ≤ x + 1000)) ++ [s.now]
/-- They are noted. -/
def State.noteCaFail (s : State) (ch : Nat) : State := s.modChannel ch (fun x => { x with caFails := s.caFailsNow ch })

theorem exec_caParityError_few {t : Nat} (ht : t < two32) (there : ((s.at32 t).channel ch).retired = false)
    (few : ((s.at32 t).caFailsNow ch).length < 3) : exec (.caParityError t ch) s = .next ((s.at32 t).noteCaFail ch) :=
  (need_eq _ (by simp [hch, ht])).trans (congrArg _ ((if_neg (by simp [there])).trans (if_neg (Nat.not_le_of_lt few))))
theorem exec_caParityError_third {t : Nat} (ht : t < two32) (there : ((s.at32 t).channel ch).retired = false)
    (third : 3 ≤ ((s.at32 t).caFailsNow ch).length) :
    exec (.caParityError t ch) s = .next (((s.at32 t).noteCaFail ch).retireChannel ch 1) :=
  (need_eq _ (by simp [hch, ht])).trans (congrArg _ ((if_neg (by simp [there])).trans (if_pos third)))

/-! ### Retraining (R489, R492–R494) -/

theorem exec_retrainSlice_passes {rate : Nat} {m : EyeScan} (trains : (s.channel ch).retraining = some (rate, none))
    (passes : eyePasses m = true) : exec (.retrainSlice ch (some m)) s = .next ((s.modChannel ch (fun x =>
      let y := x.takeSet rate m (s.mem.temps.getD (ch / 32) 0)
      if rate = s.mem.rates.getD (ch / 32) 0 then y.loadSet rate else y)).endRetraining ch) := by
  refine (need_eq _ hch).trans (congrArg _ ?_)
  simp only [trains]
  exact if_neg (by simp [passes])
theorem exec_retrainSlice_current {rate : Nat} {m : EyeScan} (trains : (s.channel ch).retraining = some (rate, none))
    (passes : eyePasses m = true) (current : rate = s.mem.rates.getD (ch / 32) 0) (hr : rate < (s.channel ch).sets.length) :
    exec (.retrainSlice ch (some m)) s = .next ((s.modChannel ch (fun x => { x.takeSet rate m (s.mem.temps.getD (ch / 32) 0) with
      margin := m.width, delays := (m.read, m.write) })).endRetraining ch) := by
  rw [exec_retrainSlice_passes hch trains passes]
  exact congrArg (fun t => Host.Outcome.next (State.endRetraining t ch))
    (State.modChannel_congr ((if_pos current).trans (Channel.loadSet_takeSet m _ hr)))
theorem exec_retrainSlice_other {rate : Nat} {m : EyeScan} (trains : (s.channel ch).retraining = some (rate, none))
    (passes : eyePasses m = true) (other : rate ≠ s.mem.rates.getD (ch / 32) 0) :
    exec (.retrainSlice ch (some m)) s = .next ((s.modChannel ch (Channel.takeSet rate m (s.mem.temps.getD (ch / 32) 0))).endRetraining ch) := by
  rw [exec_retrainSlice_passes hch trains passes]
  exact congrArg (fun t => Host.Outcome.next (State.endRetraining t ch)) (State.modChannel_congr (if_neg other))
theorem exec_retrainSlice_fails {rate : Nat} {cmd : Option (Nat × Nat)} {m : EyeScan}
    (trains : (s.channel ch).retraining = some (rate, cmd)) (fails : eyePasses m = false) :
    exec (.retrainSlice ch (some m)) s = .next (s.retireChannel ch 0) := by
  refine (need_eq _ hch).trans (congrArg _ ?_)
  simp only [trains]
  exact if_pos (by simp [fails])
theorem exec_retrainSlice_none : exec (.retrainSlice ch none) s = .next s := by
  refine (need_eq _ hch).trans (congrArg _ ?_)
  cases (s.channel ch).retraining <;> rfl

/-! ### Mirror copies and open rows (R482, R495) -/

/-- The mirrored pages of a channel take the words of their other copies, and its copy ends. -/
def State.endCopy (s : State) (ch : Nat) : State :=
  let s1 := (((s.logicalOf ch).map s.mirroredOn).getD []).foldl State.renewPage s
  State.unpermit { s1 with mem := { s1.mem with copying := s1.mem.copying.filter (fun x => x != ch) } }
    (fun p => p.code = 3 && p.holder = channelId ch)

theorem exec_mirrorCopyComplete (copying : ch ∈ s.mem.copying) : exec (.mirrorCopyComplete ch) s = .next (s.endCopy ch) :=
  (need_eq _ hch).trans (congrArg _ (if_pos (List.contains_iff_mem.2 copying)))

theorem exec_pageIdleExpiry_open {bank row t : Nat} (hb : bank < 16) (isOpen : (s.channel ch).openRows.find bank = some (row, t)) :
    exec (.pageIdleExpiry ch bank) s = .next ((s.reach t).modChannel ch (fun x => { x with openRows := x.openRows.erase bank })) := by
  refine (need_eq _ (by simp [hch, hb])).trans (congrArg _ ?_)
  simp only [isOpen]

end Channels

theorem State.endCopy_copying (s : State) (ch : Nat) : ch ∉ (s.endCopy ch).mem.copying := by simp [State.endCopy]
theorem State.endCopy_permits (s : State) (ch : Nat) : ∀ p ∈ (s.endCopy ch).power.permits, ¬(p.code = 3 ∧ p.holder = channelId ch) := by
  rintro p hp ⟨code, holder⟩
  have kept := (List.mem_filter.1 hp).2
  simp [code, holder] at kept

/-! ### Rate switches (R498) -/

/-- The channels of a stack in self-refresh: their debts are repaid, their rows close, and their sets of a rate are loaded. -/
def State.reloadStack (s : State) (stack rate : Nat) : State :=
  (stackChannels stack).foldl (fun s ch =>
    let s' := (s.channel ch).debt.foldl (fun s e => s.issueRefresh ch e.1 e.2) s
    s'.modChannel ch (fun x => Channel.loadSet rate { x with openRows := [] })) s
/-- The first stack passes through self-refresh to its new rate, which is the commit point of the command. -/
def State.switchFirst (s : State) (f : FreqChange) : State :=
  let s1 := s.modCmd f.cmd.1 f.cmd.2 (fun c => { c with phase := .committed })
  let s2 := s1.reloadStack 0 f.rate
  { s2 with mem := { s2.mem with rates := s2.mem.rates.set 0 f.rate, freq := some { f with stage := 1, since := s1.now } } }

theorem State.switchFirst_freq (s : State) (f : FreqChange) :
    (s.switchFirst f).mem.freq = some { f with stage := 1, since := s.now } := rfl
theorem State.switchFirst_rates (s : State) (f : FreqChange) : ∃ l : List Nat, (s.switchFirst f).mem.rates = l.set 0 f.rate := by
  simp only [State.switchFirst]
  exact ⟨_, rfl⟩

theorem exec_memRateSwitch_first {s : State} {f : FreqChange} (changes : s.mem.freq = some f) (first : f.stage = 0)
    (trained : ∀ ch ∈ allChannels, ((s.channel ch).retraining.bind Prod.snd) ≠ some f.cmd) :
    exec (.memRateSwitch 0) s = .next (s.switchFirst f) := by
  have ready : ¬(f.stage ≠ 0 ∨ allChannels.any (fun ch => ((s.channel ch).retraining.bind Prod.snd) == some f.cmd) = true) := by
    refine not_or.2 ⟨not_not.2 first, fun waits => ?_⟩
    obtain ⟨ch, hch, waits⟩ := List.any_eq_true.1 waits
    exact trained ch hch (eq_of_beq waits)
  refine (need_eq _ rfl).trans (congrArg _ ?_)
  simp only [changes, if_neg ready, if_true, State.switchFirst, State.reloadStack]

end Sys2Proof.Machine

namespace Sys2Proof

open Machine

/-- Settles O51: each event by what its channel or its stack is doing, and a retirement by the mark that nothing after it takes away. -/
theorem dramEventsAct : Obligations.DramEventsAct := by
  refine ⟨fun stack channel group hs hc hg => ?refresh, fun stack temp hs lo hi => ?temperature, fun ch eye hch => ?eye,
    fun ch t hch ht => ?parity, fun ch m rate hch => ?retrain, fun f => ?rate, fun ch hch => ?copy⟩
  case refresh =>
    refine ⟨fun s runs => exec_refreshDue_idle hs hc hg runs, fun s runs => ⟨_, exec_refreshDue_idle hs hc hg runs, ?_⟩,
      fun s ⟨runs, single, within⟩ => exec_refreshDue_postponed hs hc hg runs single within,
      fun s ⟨runs, single, exceeds⟩ => exec_refreshDue_clamped hs hc hg runs single exceeds⟩
    exact (State.debt_issueRefresh _ _ _ _).trans (by rw [State.debt_oweRefresh, Nat.sub_self])
  case temperature => exact fun s ⟨single, hot⟩ => ⟨_, exec_dramTempReading_hot hs lo hi single hot, rfl⟩
  case eye =>
    exact ⟨fun s ⟨serves, good⟩ => exec_eyeTracking_good hch serves good, fun s ⟨serves, low⟩ => exec_eyeTracking_low hch serves low,
      fun s out => exec_eyeTracking_out hch out⟩
  case parity =>
    refine ⟨fun s ⟨there, few⟩ => exec_caParityError_few hch ht there few,
      fun s ⟨there, third⟩ => exec_caParityError_third hch ht there third,
      fun s ⟨there, third⟩ => ⟨_, exec_caParityError_third hch ht there third, State.retireChannel_retires 1 ?_⟩⟩
    simpa [State.noteCaFail] using there
  case retrain =>
    exact ⟨fun s ⟨trains, passes, current, hr⟩ => exec_retrainSlice_current hch trains (eyePasses_iff.2 passes) current hr,
      fun s ⟨trains, passes, other⟩ => exec_retrainSlice_other hch trains (eyePasses_iff.2 passes) other,
      fun cmd s ⟨trains, fails⟩ => exec_retrainSlice_fails hch trains (Bool.eq_false_iff.2 fun passes => fails (eyePasses_iff.1 passes)),
      fun s _ => exec_retrainSlice_none hch⟩
  case rate => exact fun s ⟨changes, first, trained⟩ => 
    ⟨_, exec_memRateSwitch_first changes first trained, s.switchFirst_freq f, s.switchFirst_rates f⟩
  case copy =>
    exact ⟨fun s copying => exec_mirrorCopyComplete hch copying,
      fun s copying => ⟨_, exec_mirrorCopyComplete hch copying, s.endCopy_copying ch, s.endCopy_permits ch⟩,
      fun bank row t hb s isOpen => exec_pageIdleExpiry_open hch hb isOpen⟩

end Sys2Proof

/-! ## Stacked DRAM (11): reads, the scrubber, write-backs, row repairs and ECC tests -/

namespace Sys2Proof.Machine

open Sys2Proof

/-! ### A word reaches its reader (R502) -/

section ServeWord

variable {s : State} {ch ca word : Nat} {page : Option (Nat × Nat)} {op : OpName}

theorem State.countUnwritten_written {d : Decoded} (written : d.w = true) : s.countUnwritten d = s := if_neg (by simp [written])
/-- One more word has been read as unwritten (R502). -/
def State.moreUnwritten (s : State) : State := { s with mem := { s.mem with unwritten := satAdd 32 s.mem.unwritten 1 } }
theorem State.countUnwritten_unwritten {d : Decoded} (clean : d.kind = 0) (unwritten : d.w = false) :
    s.countUnwritten d = s.moreUnwritten := if_pos (by simp [clean, unwritten])

/-- Neither a DRAM tap nor a partial write: an operation, or a source that keeps nothing in the state. -/
def PlainReader (op : OpName) : Prop := op.kind ≠ 8 ∧ op.kind ≠ 6

theorem State.serveWord_plain (plain : PlainReader op) : s.serveWord ch ca page op word =
    let d := eccDecode word
    match opKey op with
    | some k => if d.kind = 3 ∨ !d.w then (s.countUnwritten d).readerBad k page (ca % 65536) (d.kind != 3)
        else (s.countUnwritten d).fillSram k word d
    | none => s.countUnwritten d := (if_neg plain.1).trans (if_neg plain.2)
theorem State.serveWord_unkept (plain : PlainReader op) (unkept : opKey op = none) :
    s.serveWord ch ca page op word = s.countUnwritten (eccDecode word) := by
  rw [State.serveWord_plain plain]
  simp only [unkept]
/-- A clean written word enters the SRAM of the unit that reads it. -/
theorem State.serveWord_written {k : OpKey} (plain : PlainReader op) (key : opKey op = some k) (clean : (eccDecode word).kind = 0)
    (written : (eccDecode word).w = true) : s.serveWord ch ca page op word = s.fillSram k word (eccDecode word) := by
  rw [State.serveWord_plain plain]
  simp only [key, State.countUnwritten_written written]
  exact if_neg (by simp [clean, written])
/-- An unwritten word reaches an operation as a bad one. -/
theorem State.serveWord_unwritten {k : OpKey} (plain : PlainReader op) (key : opKey op = some k) (clean : (eccDecode word).kind = 0)
    (unwritten : (eccDecode word).w = false) :
    s.serveWord ch ca page op word = s.moreUnwritten.readerBad k page (ca % 65536) true := by
  rw [State.serveWord_plain plain]
  simp only [key, State.countUnwritten_unwritten clean unwritten]
  refine (if_pos (by simp [unwritten])).trans ?_
  rw [clean]
  rfl

end ServeWord

/-! ### DRAM_READ_RETURN (R494, R499–R502) -/

/-- The word that a read returns: what the lanes delivered, or the word as the state holds it. -/
def State.readWord (s : State) (ch ca : Nat) (raw : Option Nat) : Nat := raw.getD (s.storedWord ch ca)
/-- The word is clean, and written where a spare still waits for its mirrored content (R495). -/
structure State.ReadsClean (s : State) (ch ca : Nat) (raw : Option Nat) : Prop where
  runs : (s.channel ch).retired = false
  clean : (eccDecode (s.readWord ch ca raw)).kind = 0
  copied : (eccDecode (s.readWord ch ca raw)).w = true ∨ s.awaitsCopy ch = false

theorem readNamed {t ch ca : Nat} {op : OpName} (hch : isChannel ch = true) (hca : ca < 2 ^ 30) (ht : t < two32) (hp : op.prog < 16) :
    (isChannel ch && decide (ca < 2 ^ 30) && decide (t < two32) && decide (op.prog < 16)) = true := by
  rw [hch, decide_eq_true hca, decide_eq_true ht, decide_eq_true hp]
  rfl

section ReadReturn

variable {s : State} {t ch ca : Nat} {raw : Option Nat} {op : OpName} (hch : isChannel ch = true) (hca : ca < 2 ^ 30) (ht : t < two32)
  (hp : op.prog < 16)

include hch hca ht hp

theorem exec_dramReadReturn_clean (h : (s.at32 t).ReadsClean ch ca raw) : exec (.dramReadReturn t ch ca raw op) s =
    .next ((((s.at32 t).touchRow ch ca).watchRead ch ca false false).serveWord ch ca ((s.at32 t).pageAt ch ca) op
      ((s.at32 t).readWord ch ca raw)) := by
  obtain ⟨runs, clean, copied⟩ := h
  have kept : ((s.at32 t).awaitsCopy ch && !(eccDecode ((s.at32 t).readWord ch ca raw)).w) = false := by
    rcases copied with written | copied
    · simp [written]
    · simp [copied]
  have readable : (eccDecode ((s.at32 t).readWord ch ca raw)).kind ≠ 3 := by simp [clean]
  refine (need_eq _ (readNamed hch hca ht hp)).trans (congrArg _ ?_)
  exact (if_neg (by simp [runs])).trans ((if_neg readable).trans ((if_pos clean).trans (if_neg (ne_true_of_eq_false kept))))
theorem exec_dramReadReturn_late (late : ((s.at32 t).channel ch).retired = true) :
    exec (.dramReadReturn t ch ca raw op) s = .next ((s.at32 t).lateRead ch ca op) :=
  (need_eq _ (readNamed hch hca ht hp)).trans (congrArg _ (if_pos late))

section Plain

variable (h : (s.at32 t).ReadsClean ch ca raw) (plain : PlainReader op)

include h plain

theorem exec_dramReadReturn_written {k : OpKey} (written : (eccDecode ((s.at32 t).readWord ch ca raw)).w = true)
    (key : opKey op = some k) : exec (.dramReadReturn t ch ca raw op) s =
      .next ((((s.at32 t).touchRow ch ca).watchRead ch ca false false).fillSram k ((s.at32 t).readWord ch ca raw)
        (eccDecode ((s.at32 t).readWord ch ca raw))) := by
  rw [exec_dramReadReturn_clean hch hca ht hp h, State.serveWord_written plain key h.clean written]
theorem exec_dramReadReturn_unwritten {k : OpKey} (unwritten : (eccDecode ((s.at32 t).readWord ch ca raw)).w = false)
    (key : opKey op = some k) : exec (.dramReadReturn t ch ca raw op) s =
      .next ((((s.at32 t).touchRow ch ca).watchRead ch ca false false).moreUnwritten.readerBad k ((s.at32 t).pageAt ch ca)
        (ca % 65536) true) := by
  rw [exec_dramReadReturn_clean hch hca ht hp h, State.serveWord_unwritten plain key h.clean unwritten]
theorem exec_dramReadReturn_writtenUnkept (written : (eccDecode ((s.at32 t).readWord ch ca raw)).w = true)
    (unkept : opKey op = none) : exec (.dramReadReturn t ch ca raw op) s = .next (((s.at32 t).touchRow ch ca).watchRead ch ca false false) := by
  rw [exec_dramReadReturn_clean hch hca ht hp h, State.serveWord_unkept plain unkept, State.countUnwritten_written written]
theorem exec_dramReadReturn_unwrittenUnkept (unwritten : (eccDecode ((s.at32 t).readWord ch ca raw)).w = false)
    (unkept : opKey op = none) : exec (.dramReadReturn t ch ca raw op) s =
      .next (((s.at32 t).touchRow ch ca).watchRead ch ca false false).moreUnwritten := by
  rw [exec_dramReadReturn_clean hch hca ht hp h, State.serveWord_unkept plain unkept, State.countUnwritten_unwritten h.clean unwritten]

end Plain

end ReadReturn

theorem State.lateRead_none {s : State} {ch : Nat} (ca : Nat) (op : OpName) (was : (s.channel ch).was = none) :
    s.lateRead ch ca op = s := by
  unfold State.lateRead
  rw [was]
theorem State.lateRead_some {s : State} {ch c : Nat} (ca : Nat) (op : OpName) (was : (s.channel ch).was = some c) :
    s.lateRead ch ca op =
      let home := s.mem.homeOf (c, ca / 65536)
      let copy := s.mirrorWord home (ca % 65536)
      (s.fromMirror home (ca % 65536) copy).serveWord ch ca (some home) op (copy.getD (eccPoison 0)) := by
  unfold State.lateRead
  rw [was]

/-! ### SCRUB_READ (R514) -/

theorem exec_scrubRead_none {s : State} (raw : Option Nat) (idle : s.patrolWord = none) : exec (.scrubRead raw) s = .next s := by
  refine (need_eq _ rfl).trans (congrArg _ ?_)
  simp only [idle]
theorem exec_scrubRead_clean {s : State} {raw : Option Nat} {ch w : Nat} (reads : s.patrolWord = some (ch, w))
    (clean : (eccDecode (s.readWord ch (8 * w) raw)).kind = 0) (written : (eccDecode (s.readWord ch (8 * w) raw)).w = true) :
    exec (.scrubRead raw) s = .next (
      let s2 := (s.touchRow ch (8 * w)).watchRead ch (8 * w) false true
      { s2 with mem := s2.mem.patrolNext (s.patrolled.getLastD 0) ch w }) := by
  unfold State.readWord at clean written
  refine (need_eq _ rfl).trans (congrArg _ ?_)
  simp [reads, clean, written, State.countUnwritten_written]

/-! ### KEEP_LOG_WRITE_BACK and ROW_REPAIR (R508, R509, R511, R512) -/

section Entries

variable {s : State} {i : Nat} {e : EccEntry} (hi : i < 64) (listed : s.mem.table.find i = some e)

include hi listed

theorem exec_keepLogWriteBack_due {ca : Nat} (kind : e.kind = 0) (hits : 16 ≤ e.hits) (state : e.state = 0 ∨ e.state = 2)
    (word : s.wordAt e.channel e.location = some ca) : exec (.keepLogWriteBack i) s =
      .next ((s.writeWord e.channel ca (eccDecode (s.storedWord e.channel ca)).word).enterWatch i) := by
  refine (need_eq _ (decide_eq_true hi)).trans (congrArg _ ?_)
  simp only [listed, word]
  exact if_pos ⟨kind, hits, state⟩
theorem exec_keepLogWriteBack_early (hits : e.hits < 16) : exec (.keepLogWriteBack i) s = .next s := by
  refine (need_eq _ (decide_eq_true hi)).trans (congrArg _ ?_)
  simp only [listed]
  exact if_neg fun h => Nat.not_le_of_lt hits h.2.1

/-- How many rows of the bank of an entry are remapped. -/
def State.sparesUsed (s : State) (e : EccEntry) : Nat := ((s.channel e.channel).repairs.filter (fun r => r.1 = bits e.location 16 13)).length
/-- The row of an entry is remapped to a spare row, which the flash keeps, with its words corrected. -/
def State.remapRow (s : State) (e : EccEntry) : State :=
  let repairs := (s.channel e.channel).repairs ++ [(bits e.location 16 13, bits e.location 31 17)]
  let s1 := s.modChannel e.channel (fun x => { x with
    repairs := x.repairs ++ [(bits e.location 16 13, bits e.location 31 17)], words := s.correctedRow e.channel e.location x.words })
  { s1 with nv := { s1.nv with repairs := s1.nv.repairs.set e.channel repairs } }

theorem exec_rowRepair_exhausted (pending : e.state = 3) (idle : s.channelBusy e.channel = false) (full : 8 ≤ s.sparesUsed e) :
    exec (.rowRepair i) s =
      .next ((s.modEntry i (fun e => { e with state := 5 })).raise 0x080A (channelId e.channel) e.location i) := by
  refine (need_eq _ (decide_eq_true hi)).trans (congrArg _ ?_)
  simp only [listed]
  exact (if_neg (by simp [pending, idle])).trans (if_pos full)
theorem exec_rowRepair_remaps (pending : e.state = 3) (idle : s.channelBusy e.channel = false) (free : s.sparesUsed e < 8) :
    exec (.rowRepair i) s =
      .next (((s.remapRow e).modEntry i (fun e => { e with state := 4 })).raise 0x0809 (channelId e.channel) e.location i) := by
  refine (need_eq _ (decide_eq_true hi)).trans (congrArg _ ?_)
  simp only [listed]
  exact (if_neg (by simp [pending, idle])).trans (if_neg (Nat.not_le_of_lt free))
theorem exec_rowRepair_settled (settled : e.state ≠ 3) : exec (.rowRepair i) s = .next s := by
  refine (need_eq _ (decide_eq_true hi)).trans (congrArg _ ?_)
  simp only [listed]
  exact if_pos (.inl settled)

end Entries

/-! ### ECT_GO and ECC_TEST_DONE (R516) -/

theorem State.writeEctCtrl_ignored {s : State} {v : Nat} (ignored : bit v 0 = false ∨ s.mem.ectBusy = true) : s.writeEctCtrl v = s := by
  refine if_neg fun go => ?_
  rcases ignored with low | busy
  · simp [low] at go
  · simp [busy] at go
theorem State.writeEctCtrl_go {s : State} {v : Nat} (go : bit v 0 = true) (idle : s.mem.ectBusy = false) :
    s.writeEctCtrl v = s.startEct {
      channel := s.mem.ectTarget, word := s.mem.ectOffset, data := s.mem.ectData,
      flips := s.mem.ectFlip2 * 2 ^ 64 + s.mem.ectFlip1 * two32 + s.mem.ectFlip0, cmd := none } := if_pos (by simp [go, idle])

/-- A test of a running channel ends: the flipped word stands in its training area, and its decoding in the result registers. -/
def State.endEct (s : State) (x : EctTest) : State :=
  let s1 := (({ s with mem := { s.mem with ectBusy := false, ectTest := none } } : State)).modChannel x.channel
    (fun y => { y with training := y.training.set x.word (eccEncode x.data 1 ^^^ x.flips) })
  { s1 with mem := s1.mem.ectDecoded (eccDecode (eccEncode x.data 1 ^^^ x.flips)) }

theorem exec_eccTestDone_register {s : State} {x : EctTest} (runs : s.mem.ectTest = some x) (hx : isChannel x.channel = true)
    (there : (s.channel x.channel).retired = false) (register : x.cmd = none) : exec .eccTestDone s = .next (s.endEct x) := by
  refine (need_eq _ rfl).trans (congrArg _ ?_)
  simp only [runs, if_pos hx, there, Bool.false_eq_true, if_false, register]
  rfl

end Sys2Proof.Machine

namespace Sys2Proof

open Machine

/-- Settles O52: a read by whether its channel runs and what its word decodes to, the scrubber by the same, an entry of the error table by its
state and hits, an ECC test by who started it. -/
theorem errorCorrectionActs : Obligations.ErrorCorrectionActs := by
  refine ⟨fun t ch ca raw op hch hca ht hp => ?read, fun raw s idle => exec_scrubRead_none raw idle,
    fun raw ch w s ⟨reads, clean, written⟩ => exec_scrubRead_clean reads clean written, fun i e hi => ?entry, fun v hv => ?ectGo,
    fun x s ⟨runs, hx, there, register⟩ => ⟨_, exec_eccTestDone_register runs hx there register, rfl⟩⟩
  case read =>
    dsimp only
    have late (s : State) (h : ((s.at32 t).channel ch).retired = true) := exec_dramReadReturn_late (raw := raw) (op := op) hch hca ht hp h
    exact ⟨fun s ⟨runs, clean, copied⟩ => exec_dramReadReturn_clean hch hca ht hp ⟨runs, clean, copied⟩,
      fun s ⟨⟨runs, clean, copied⟩, plain, written, unkept⟩ =>
        exec_dramReadReturn_writtenUnkept hch hca ht hp ⟨runs, clean, copied⟩ plain written unkept,
      fun k s ⟨⟨runs, clean, copied⟩, plain, written, key⟩ =>
        exec_dramReadReturn_written hch hca ht hp ⟨runs, clean, copied⟩ plain written key,
      fun k s ⟨⟨runs, clean, copied⟩, plain, unwritten, key⟩ =>
        exec_dramReadReturn_unwritten hch hca ht hp ⟨runs, clean, copied⟩ plain unwritten key,
      fun s ⟨⟨runs, clean, copied⟩, plain, unwritten, unkept⟩ =>
        exec_dramReadReturn_unwrittenUnkept hch hca ht hp ⟨runs, clean, copied⟩ plain unwritten unkept,
      fun s ⟨retired, was⟩ => (late s retired).trans (congrArg _ (State.lateRead_none ca op was)),
      fun c s ⟨retired, was⟩ => (late s retired).trans (congrArg _ (State.lateRead_some ca op was))⟩
  case entry =>
    exact ⟨fun ca s ⟨listed, kind, hits, state, word⟩ => exec_keepLogWriteBack_due hi listed kind hits state word,
      fun s ⟨listed, hits⟩ => exec_keepLogWriteBack_early hi listed hits,
      fun s ⟨listed, pending, idle, full⟩ => exec_rowRepair_exhausted hi listed pending idle full,
      fun s ⟨listed, pending, idle, free⟩ => ⟨_, exec_rowRepair_remaps hi listed pending idle free,
        congrArg NonVol.repairs (State.raise_nv _ _ _ _ _)⟩,
      fun s ⟨listed, settled⟩ => exec_rowRepair_settled hi listed settled⟩
  case ectGo =>
    exact ⟨fun s ⟨go, idle⟩ => (need_eq _ (decide_eq_true hv)).trans (congrArg _ (State.writeEctCtrl_go go idle)),
      fun s ignored => (need_eq _ (decide_eq_true hv)).trans (congrArg _ (State.writeEctCtrl_ignored ignored))⟩

end Sys2Proof

/-! ## Verification units (12): the commands -/

namespace Sys2Proof.Machine

open Sys2Proof

section CvCommands

variable {c : Cmd} {s : State}

/-! ### CV_CONFIG (R523, R525, R526) -/

/-- A unit without a tap starts a fresh context of the algorithm on its new tap; a DRAM tap keeps the command. -/
def State.startTap (s : State) (c : Cmd) : State := s.modCv c.idx (fun x => { x with
  algo := c.u 0 1, value := crcStart (crcAlgo (c.u 0 1)), length := 0, alive := 0, unwritten := false, tap := c.u 1 1,
  stream := c.u 2 2, source := c.u 4 4, da := c.u 8 8, dramLen := c.u 16 8, at_ := c.u 8 8, bad := none, since := s.now,
  cmd := if c.u 1 1 = 1 then some (c.q, c.seq) else none })

theorem effCvConfig_stopsDram (stop : c.u 1 1 = 0) (dram : (s.cvUnit c.idx).tap = 1) :
    effCvConfig c s = (s.endDramTap c.idx).ok c := (if_pos stop).trans (congrArg (State.ok · c) (if_pos dram))
theorem effCvConfig_stops (stop : c.u 1 1 = 0) (other : (s.cvUnit c.idx).tap ≠ 1) :
    effCvConfig c s = ((s.liveContext c.idx).2.modCv c.idx (fun _ => { (s.liveContext c.idx).1 with tap := 0 })).ok c :=
  (if_pos stop).trans (congrArg (State.ok · c) (if_neg other))
theorem effCvConfig_taken (start : c.u 1 1 ≠ 0) (taken : (s.cvUnit c.idx).tap ≠ 0) : effCvConfig c s = s.fail c 0x0303 c.object :=
  (if_neg start).trans (if_pos taken)
theorem effCvConfig_starts (start : c.u 1 1 ≠ 0) (free : (s.cvUnit c.idx).tap = 0) :
    effCvConfig c s = if c.u 1 1 = 1 then (s.startTap c).commits c else (s.startTap c).ok c :=
  (if_neg start).trans (if_neg (not_not_intro free))

/-! ### CV_CONTEXT (R526, R527) -/

theorem effCvContext_reads (read : c.u 0 1 = 0) :
    effCvContext c s =
      let x := (s.liveContext c.idx).1
      ((s.liveContext c.idx).2.writeBuf c (c.u 4 8)
        (x.record ++ ((x.results ++ List.replicate (16 - x.results.length) 0).take 16).flatMap (leBytes 8))).ok c 160 := if_pos read
theorem effCvContext_taken (write : c.u 0 1 ≠ 0) (taken : (s.cvUnit c.idx).tap ≠ 0) : effCvContext c s = s.fail c 0x0303 c.object :=
  (if_neg write).trans (if_pos taken)
theorem effCvContext_writes (write : c.u 0 1 ≠ 0) (free : (s.cvUnit c.idx).tap = 0) :
    effCvContext c s = (s.modCv c.idx (fun x => { x with
      algo := c.u 16 1, alive := c.u 17 1, unwritten := bit (c.u 18 1) 0, length := c.u 20 6, value := c.u 32 8 })).ok c :=
  (if_neg write).trans (if_neg (not_not_intro free))

end CvCommands

end Sys2Proof.Machine

namespace Sys2Proof

open Machine

/-- Settles O33: a CV_CONFIG by whether it stops or starts a tap and by what its unit taps, a CV_CONTEXT by whether it reads or writes and by
whether its unit taps. -/
theorem verificationCommandsRun : Obligations.VerificationCommandsRun :=
  ⟨runsIf_of_eff (fun _ _ _ => rfl) fun _ _ _ ⟨stop, dram⟩ => effCvConfig_stopsDram stop dram,
    runsIf_of_eff (fun _ _ _ => rfl) fun _ _ _ ⟨stop, other⟩ => effCvConfig_stops stop other,
    runsIf_of_eff (fun _ _ _ => rfl) fun _ _ _ ⟨start, taken⟩ => effCvConfig_taken start taken,
    runsIf_of_eff (fun _ _ _ => rfl) fun _ _ _ ⟨start, free⟩ => effCvConfig_starts start free,
    runsIf_of_eff (fun _ _ _ => rfl) fun _ _ _ read => effCvContext_reads read,
    runsIf_of_eff (fun _ _ _ => rfl) fun _ _ _ ⟨write, taken⟩ => effCvContext_taken write taken,
    runsIf_of_eff (fun _ _ _ => rfl) fun _ _ _ ⟨write, free⟩ => effCvContext_writes write free⟩

end Sys2Proof

/-! ## Verification units and audio inputs (12, 13): their events -/

namespace Sys2Proof.Machine

open Sys2Proof

/-! ### CV_DRAM_TAP_END (12 R525) -/

section DramTap

variable {s : State} {u : Nat} (hu : 8 ≤ u ∧ u < 16)

include hu

theorem exec_cvDramTapEnd_dram (dram : (s.cvUnit u).tap = 1) : exec (.cvDramTapEnd u) s =
    .next ((State.tapRest u (((s.cvUnit u).da + (s.cvUnit u).dramLen - (s.cvUnit u).at_) / 8) s).endDramTap u) :=
  (need_eq _ (by simpa using hu)).trans (congrArg _ (if_neg (not_not_intro dram)))
theorem exec_cvDramTapEnd_other (other : (s.cvUnit u).tap ≠ 1) : exec (.cvDramTapEnd u) s = .next s :=
  (need_eq _ (by simpa using hu)).trans (congrArg _ (if_pos other))

end DramTap

/-! ### SUBFRAME (R545–R547) -/

section Subframe

variable {s : State} {i ch t : Nat} {smp : Int} (hi : i < 8) (hch : ch < 2) (ht : t < two32)

include hi hch ht

theorem exec_subframe_bad (on : ((s.at32 t).audioIn i).enabled = true) :
    exec (.subframe i ch t smp true) s = .next ((s.at32 t).badSubframe i ch) :=
  (need_eq _ (by simp [hi, hch, ht])).trans (congrArg _ ((if_neg (by simp [on])).trans (if_pos rfl)))
theorem exec_subframe_good (on : ((s.at32 t).audioIn i).enabled = true) :
    exec (.subframe i ch t smp false) s = .next ((s.at32 t).goodSubframe i ch (signed 24 (wrapInt 24 smp))) :=
  (need_eq _ (by simp [hi, hch, ht])).trans (congrArg _ ((if_neg (by simp [on])).trans (if_neg Bool.false_ne_true)))
theorem exec_subframe_off {e : Bool} (off : ((s.at32 t).audioIn i).enabled = false) :
    exec (.subframe i ch t smp e) s = .next (s.at32 t) :=
  (need_eq _ (by simp [hi, hch, ht])).trans (congrArg _ (if_pos (by simp [off])))

end Subframe

/-! ### The loss of an input (R547, R565) -/

@[simp] theorem State.muteRoute_audioIn (s : State) (key cause : Nat) (delivers : Bool) (j : Nat) :
    (s.muteRoute key cause delivers).audioIn j = s.audioIn j := by
  unfold State.muteRoute
  dsimp only
  split
  · exact State.audioIn_modRoute ..
  · split <;> exact State.audioIn_modRoute ..
theorem State.foldl_muteRoute_audioIn (l : List (Nat × Route)) (cause : Nat) (delivers : Bool) (s : State) (j : Nat) :
    (l.foldl (fun s e => s.muteRoute e.1 cause delivers) s).audioIn j = s.audioIn j := by
  induction l generalizing s with
  | nil => rfl
  | cons e l ih => exact (ih _).trans (State.muteRoute_audioIn ..)

/-- An audio clock that loses its reference holds; no input changes with it. -/
theorem State.holdClock_audioIn (isRef : Bool) (s : State) (j : Nat) :
    (if isRef = true then ({ s with audio := { s.audio with clkState := 1 } } : State) else s).audioIn j = s.audioIn j := by
  cases isRef <;> rfl

/-- The input is lost: it has neither a last preamble nor a clean window. -/
structure AudioIn.Lost (x : AudioIn) : Prop where
  state : x.state = 1
  lost : x.lost = true
  lastA : x.lastA = none
  clean : x.clean = 0

theorem State.audioFinding_lost (s : State) {n : Nat} (hn : n ≠ 8) : ((s.audioFinding n 1).audioIn n).Lost := by
  unfold State.audioFinding
  dsimp only
  rw [State.foldl_muteRoute_audioIn, State.holdClock_audioIn, State.audioIn_modIn, if_pos rfl]
  exact ⟨if_neg hn, rfl, rfl, rfl⟩

/-! ### PREAMBLE_TIMEOUT (R547) -/

/-- The instant at which the next preamble of an input is missed: 2 sample periods after its last one. -/
def State.preambleMissed (s : State) (i : Nat) : State :=
  (s.audioIn i).lastA.elim s fun t =>
    s.reach (t + 2000000000 / if classHz (s.audioIn i).cls = 0 then 48000 else classHz (s.audioIn i).cls)

theorem State.preambleMissed_timed {s : State} {i t : Nat} (timed : (s.audioIn i).lastA = some t) :
    s.preambleMissed i =
      s.reach (t + 2000000000 / if classHz (s.audioIn i).cls = 0 then 48000 else classHz (s.audioIn i).cls) := by
  rw [State.preambleMissed, timed, Option.elim_some]
theorem State.preambleMissed_untimed {s : State} {i : Nat} (untimed : (s.audioIn i).lastA = none) : s.preambleMissed i = s := by
  rw [State.preambleMissed, untimed, Option.elim_none]

section PreambleTimeout

variable {s : State} {i : Nat} (hi : i < 8)

include hi

theorem exec_preambleTimeout_on (on : (s.audioIn i).enabled = true) (here : (s.audioIn i).state ≠ 1) :
    exec (.preambleTimeout i) s = .next ((s.preambleMissed i).audioFinding i 1) := by
  refine (need_eq _ (decide_eq_true hi)).trans (congrArg _ ((if_neg (by simp [on, here])).trans ?_))
  unfold State.preambleMissed
  cases (s.audioIn i).lastA <;> rfl
theorem exec_preambleTimeout_idle (idle : (s.audioIn i).enabled = false ∨ (s.audioIn i).state = 1) :
    exec (.preambleTimeout i) s = .next s :=
  (need_eq _ (decide_eq_true hi)).trans (congrArg _ (if_pos (by simpa using idle)))

end PreambleTimeout

/-! ### CHANNEL_STATUS_BLOCK (R548, R549) -/

/-- The user bits of a block are held whatever its CRCC says. -/
def State.holdUser (s : State) (i ch : Nat) (u : List Byte) : State := s.modIn i (fun x => { x with user := x.user.set ch u })
/-- The channel status of a block with a good CRCC is held. -/
def State.holdStatus (s : State) (i ch : Nat) (b : List Byte) : State :=
  s.modIn i (fun x => { x with cs := x.cs.set ch b, data := (b.getD 0 0).toNat.testBit 1 })

section ChannelStatusBlock

variable {s : State} {i ch : Nat} {b u : List Byte} (hi : i < 8) (hch : ch < 2) (hb : b.length = 24) (hu : u.length = 24)
  (on : (s.audioIn i).enabled = true)

include hi hch hb hu on

theorem exec_channelStatusBlock_bad (bad : crcOf 3 (b.take 23) ≠ (b.getD 23 0).toNat) : exec (.channelStatusBlock i ch b u) s =
    .next (((s.holdUser i ch u).chainFail 13).modIn i (fun x => { x with csErr := satAdd 16 x.csErr 1 })) :=
  (need_eq _ (by simp [hi, hch, hb, hu])).trans (congrArg _ ((if_neg (by simp [on])).trans (if_pos bad)))
theorem exec_channelStatusBlock_good (good : crcOf 3 (b.take 23) = (b.getD 23 0).toNat) (unrouted : s.routesFrom i = []) :
    exec (.channelStatusBlock i ch b u) s = .next ((s.holdUser i ch u).holdStatus i ch b) := by
  refine (need_eq _ (by simp [hi, hch, hb, hu])).trans (congrArg _ ((if_neg (by simp [on])).trans ?_))
  refine (if_neg (not_not_intro good)).trans (ite_eq_left_iff.2 fun _ => ?_)
  exact congrArg (State.judgeRoutes _) unrouted

end ChannelStatusBlock

/-! ### MEASUREMENT_WINDOW_END (R563, R567) -/

/-- A window ends in which an input without a class measured no class: the next one opens, and nothing counts as clean. -/
def State.windowUnclassed (s : State) (i hz : Nat) : State :=
  let s0 := s.reach (if (s.audioIn i).winEnd = 0 then windowEnd s.now else (s.audioIn i).winEnd)
  s0.modIn i (fun x => { x with
    measHz := hz, cls := 0, window := none, winEnd := windowEnd s0.now, dirty := false, clean := 0 })

/-- AUD_MCLK_IN has its measured class noted. -/
def State.noteClock (s : State) (hz : Nat) : State := { s with audio := { s.audio with mclkMeas := mclkClass hz } }
@[simp] theorem State.noteClock_audioIn (s : State) (hz j : Nat) : (s.noteClock hz).audioIn j = s.audioIn j := rfl

section WindowEnd

variable {s : State} {i hz : Nat} (hhz : hz < 2 ^ 18)

include hhz

theorem exec_measurementWindowEnd_off (hi : i < 8) (off : (s.audioIn i).enabled = false) :
    exec (.measurementWindowEnd i hz) s = .next s :=
  (need_eq _ (by simp; omega)).trans (congrArg _ (if_pos (by simp [hi, off])))
theorem exec_measurementWindowEnd_silent (hi : i < 8) (on : (s.audioIn i).enabled = true) (unclassed : (s.audioIn i).cls = 0)
    (silent : (s.audioIn i).window = none) :
    exec (.measurementWindowEnd i hz) s = .next ((s.windowUnclassed i 0).reportFinding i 0) := by
  refine (need_eq _ (by simp; omega)).trans (congrArg _ ((if_neg (by simp [on])).trans ?_))
  have input : i ≠ 8 := by omega
  have noClass : classOf 0 = 0 := if_pos rfl
  simp only [input, unclassed, silent, noClass, if_false, or_true, if_true, false_and, ne_eq, not_true, or_self,
    OfNat.zero_ne_ofNat]
  rfl
theorem exec_measurementWindowEnd_clock (unclassed : (s.audioIn 8).cls = 0) (noClass : classOf hz = 0) :
    exec (.measurementWindowEnd 8 hz) s = .next (((s.windowUnclassed 8 hz).noteClock hz).reportFinding 8 hz) := by
  refine (need_eq _ (by simp; omega)).trans (congrArg _ ((if_neg (by simp)).trans ?_))
  simp only [unclassed, noClass, if_true, or_true, false_and, and_false, ne_eq, not_true, or_self, if_false, OfNat.zero_ne_ofNat]
  rfl

end WindowEnd

end Sys2Proof.Machine

namespace Sys2Proof

open Machine

/-- Settles O53: a DRAM tap, a subframe and a missing preamble by the state of their unit or input, a block by its CRCC, a window by
whether its input runs. -/
theorem audioInputsAct : Obligations.AudioInputsAct := by
  refine ⟨fun u low high => ?tap, fun i ch t smp hi hch ht => ?subframe, fun i t hi => ?preamble,
    fun i ch b u hi hch hb hu => ?block, fun i hz hi hhz s off => exec_measurementWindowEnd_off hhz hi off,
    fun i hz hi hhz s ⟨on, unclassed, silent⟩ => ?window, fun hz hhz s ⟨unclassed, noClass⟩ => ?clock⟩
  case tap => exact ⟨fun s dram => exec_cvDramTapEnd_dram ⟨low, high⟩ dram, fun s other => exec_cvDramTapEnd_other ⟨low, high⟩ other⟩
  case subframe =>
    exact ⟨fun s on => exec_subframe_bad hi hch ht on, fun s on => exec_subframe_good hi hch ht on,
      fun e s off => exec_subframe_off hi hch ht off⟩
  case preamble =>
    refine ⟨fun s ⟨on, here, timed⟩ => ?_, fun s ⟨on, here, untimed⟩ => ?_, fun s ⟨on, here, _⟩ => ?_,
      fun s idle => exec_preambleTimeout_idle hi idle⟩
    · rw [exec_preambleTimeout_on hi on here, State.preambleMissed_timed timed]
    · rw [exec_preambleTimeout_on hi on here, State.preambleMissed_untimed untimed]
    · obtain ⟨state, lost, lastA, clean⟩ := State.audioFinding_lost (s.preambleMissed i) (by omega : i ≠ 8)
      exact ⟨_, exec_preambleTimeout_on hi on here, state, lost, lastA, clean⟩
  case block =>
    refine ⟨fun s ⟨on, bad⟩ => exec_channelStatusBlock_bad hi hch hb hu on bad, fun s ⟨on, good, unrouted⟩ =>
      ⟨_, exec_channelStatusBlock_good hi hch hb hu on good unrouted, ?_⟩⟩
    simp [State.holdUser, State.holdStatus]
  case window =>
    refine ⟨_, exec_measurementWindowEnd_silent hhz hi on unclassed silent, _, rfl, ?_⟩
    refine ⟨?_, ?_, ?_, ?_, rfl⟩ <;> simp [State.windowUnclassed]
  case clock =>
    refine ⟨_, exec_measurementWindowEnd_clock hhz unclassed noClass, _, rfl, ?_⟩
    refine ⟨rfl, ?_, ?_, rfl⟩ <;> simp [State.windowUnclassed]

end Sys2Proof

/-! ## The machine (00, 02): its queue of waiting commands, and the state at reset -/

namespace Sys2Proof.Machine

open Sys2Proof

/-! ### Answers, and steps of the queue -/

/-- Every command asks for operands the device has, and for nothing else. -/
theorem exec_eq_need (i : Instr) (s : State) : ∃ t, exec i s = need i.wf t := by
  cases i <;> exact ⟨_, rfl⟩

theorem exec_of_wf {i : Instr} (s : State) (h : i.wf = true) : ∃ t, exec i s = .next t := by
  obtain ⟨t, ht⟩ := exec_eq_need i s
  exact ⟨t, ht.trans (need_eq t h)⟩
theorem exec_of_not_wf {i : Instr} (s : State) (h : i.wf = false) : exec i s = .fault .noSuchObject := by
  obtain ⟨t, ht⟩ := exec_eq_need i s
  rw [ht, h]
  exact need_fault t

theorem step_cons {s : State} {c : Instr} {rest : List Instr} (h : s.pending = c :: rest) : step s = exec c { s with pending := rest } := by
  unfold step
  rw [h]

/-- A step takes the command at the front of the queue and leaves the rest as it was. -/
theorem step_takes_front {s : State} {c : Instr} {rest : List Instr} (h : s.pending = c :: rest) (hc : c.wf = true) :
    ∃ t, step s = .next t ∧ t.pending = rest := by
  obtain ⟨t, ht⟩ := exec_of_wf { s with pending := rest } hc
  obtain ⟨hpending, -⟩ := exec_onward c ht
  exact ⟨t, (step_cons h).trans ht, hpending⟩

theorem steps_succ {s t : State} (n : Nat) (h : step s = .next t) : steps (n + 1) s = steps n t := by
  simp only [steps, h]

/-- `n` steps take the first `n` commands of a queue of well-formed ones. -/
theorem steps_take_pending (n : Nat) (s : State) (hwf : PendingWf s) (hn : n ≤ s.pending.length) :
    ∃ t, steps n s = .next t ∧ t.pending = s.pending.drop n ∧ PendingWf t := by
  induction n generalizing s with
  | zero => exact ⟨s, rfl, rfl, hwf⟩
  | succ n ih =>
    obtain ⟨c, rest, hp⟩ := List.exists_cons_of_length_pos (Nat.lt_of_lt_of_le n.succ_pos hn)
    obtain ⟨hc, hrest⟩ := List.forall_mem_cons.1 (hp ▸ hwf : ∀ d ∈ c :: rest, d.wf = true)
    obtain ⟨u, hu, hup⟩ := step_takes_front hp hc
    obtain ⟨t, ht, htp, htwf⟩ := ih u (by unfold PendingWf; rwa [hup]) (by rw [hp] at hn; rw [hup]; exact Nat.le_of_succ_le_succ hn)
    exact ⟨t, (steps_succ n hu).trans ht, by rw [htp, hup, hp, List.drop_succ_cons], htwf⟩

/-! ### The banks at reset -/

/-- At reset CQ14 alone is bound to the network; every queue else is as its registers come up (02). -/
theorem State.queue_reset (q : Nat) : State.reset.queue q = if q = 14 then { bind := { udp := true } } else {} := rfl
/-- At reset TB0 alone runs (09 R391). -/
theorem State.tb_reset (n : Nat) : State.reset.tb n = if n = 0 then { state := 1, latStatus := 1 } else {} := rfl

end Sys2Proof.Machine

namespace Sys2Proof

open Machine

/-- Settles O4, by induction on the number of steps: each takes the command at the front. -/
theorem queuedCommandsRunInOrder : Obligations.QueuedCommandsRunInOrder := steps_take_pending

/-- Settles O3: what a command asks of its operands is that they are well-formed. -/
theorem commandsAnswerExactlyWhenWellFormed : Obligations.CommandsAnswerExactlyWhenWellFormed :=
  ⟨fun _ s h => exec_of_wf s h, fun _ s h => exec_of_not_wf s h⟩

/-- Settles O1. -/
theorem stepRunsTheFrontCommand : Obligations.StepRunsTheFrontCommand := fun _ _ _ h => step_cons h

/-- Settles O7: beside CQ14's binding and TB0, which runs, every bank is empty and reads as its reset entry. -/
theorem resetState : Obligations.ResetState := by
  refine ⟨rfl, fun c hc => absurd hc List.not_mem_nil, rfl, rfl, fun q _ => ?queue, fun g => rfl, rfl, fun n _ => ?base, rfl, rfl, rfl, rfl,
    rfl, rfl, rfl, rfl, fun ch ca => rfl⟩
  case queue =>
    rw [State.queue_reset]
    by_cases network : q = 14
    · simp [network]
    · simp [network]
  case base =>
    rw [State.tb_reset]
    by_cases first : n = 0
    · simp [first]
    · simp [first]

end Sys2Proof

/-! ## Audio (13): the commands -/

namespace Sys2Proof.Machine

open Sys2Proof

/-- A command that the state still permits takes its effect. -/
theorem State.unlessNow_permitted {bad : Bool} (h : bad = false) (s s' : State) (c : Cmd) : s.unlessNow c bad s' = s' := if_neg (by simp [h])
/-- One that it does not permit any more fails (log entry 156). -/
theorem State.unlessNow_refused {bad : Bool} (h : bad = true) (s s' : State) (c : Cmd) :
    s.unlessNow c bad s' = s.fail c 0x0303 c.object := if_pos h

section AudioCommands

variable {c : Cmd} {s : State}

/-! ### AUDIO_PORT_CONFIG of an input or a port (R538, R552–R555) -/

/-- A command for a port or an input that the state permits. -/
structure Cmd.PortPermitted (c : Cmd) (s : State) : Prop where
  port : c.cls ≠ 13
  rate : s.rateHeld c = false
  pair : s.pdmMismatch c = false

theorem effAudioPortConfig_refused
    (bad : if c.cls = 13 then s.refAbsent c = true else s.rateHeld c = true ∨ s.pdmMismatch c = true) :
    effAudioPortConfig c s = s.fail c 0x0303 c.object := by
  refine State.unlessNow_refused ?_ _ _ _
  by_cases clock : c.cls = 13
  · simpa [clock] using bad
  · simpa [clock] using bad
theorem effAudioPortConfig_input (h : c.PortPermitted s) (input : isAesIn c.idx = true) :
    effAudioPortConfig c s = (s.configInput c.idx (c.u 0 1 == 1) (c.u 1 1)).ok c :=
  (State.unlessNow_permitted (by simp [h.port, h.rate, h.pair]) _ _ _).trans ((if_neg h.port).trans (if_pos input))
theorem effAudioPortConfig_port (h : c.PortPermitted s) (port : isAesIn c.idx = false) : effAudioPortConfig c s = s.configPort c :=
  (State.unlessNow_permitted (by simp [h.port, h.rate, h.pair]) _ _ _).trans ((if_neg h.port).trans (if_neg (by simp [port])))

/-- The row of AUDIO_PORT_CONFIG, for a command that the state permits for an output or a PDM pair. -/
theorem runsIf_configPort {p : Cmd → State → Prop} {eff : Cmd → State → State} (h : ∀ c s, p c s → s.configPort c = eff c s) :
    RunsIf .audioPortConfig 0x0B01
      (fun c s => (c.cls ≠ 13 ∧ isAesIn c.idx = false ∧ s.rateHeld c = false ∧ s.pdmMismatch c = false) ∧ p c s) eff :=
  runsIf_of_eff (fun _ _ _ => rfl) fun c s _ ⟨⟨named, port, rate, pair⟩, hp⟩ =>
    (effAudioPortConfig_port ⟨named, rate, pair⟩ port).trans (h c s hp)

/-- The port has the settings that the command gives. -/
def State.portSet (s : State) (c : Cmd) : State := s.modPort c.idx (fun p => { p with
  rate := c.u 1 1, csMode := c.u 2 1, csBytes := c.bytes 4 23, highpass := decide (c.u 3 1 = 1), enabled := decide (c.u 0 1 = 1) })
/-- The port starts or stops, and its command waits for the end of that. -/
def State.portWaits (s : State) (c : Cmd) (st : Nat) : State :=
  (s.commits c).modPort c.idx (fun p => { p with state := st, since := s.now, cmd := some (c.q, c.seq) })

theorem State.configPort_keeps (same : (s.audioPort c.idx).enabled = true ↔ c.u 0 1 = 1) : s.configPort c = (s.portSet c).ok c :=
  (if_neg (by simp [← same])).trans (if_neg (by simp [← same]))

section TurnedOn

variable (off : (s.audioPort c.idx).enabled = false) (on : c.u 0 1 = 1)

include off on

theorem State.configPort_outputOn (output : isAesOut c.idx = true) : s.configPort c = (s.portSet c).portWaits c 1 :=
  (if_pos (by simp [off, on])).trans (if_pos output)
theorem State.configPort_pairOn (pair : isAesOut c.idx = false) :
    s.configPort c = ((s.portSet c).modPort c.idx (fun p => { p with state := 1, since := s.now })).ok c :=
  (if_pos (by simp [off, on])).trans (if_neg (by simp [pair]))

end TurnedOn

section TurnedOff

variable (on : (s.audioPort c.idx).enabled = true) (off : c.u 0 1 ≠ 1)

include on off

theorem State.configPort_outputOff (output : isAesOut c.idx = true) :
    s.configPort c = (((s.portSet c).routesTo (audioId c.idx)).foldl (fun s e => s.muteRoute e.1 0 true) (s.portSet c)).portWaits c 5 :=
  (if_neg (by simp [on, off])).trans ((if_pos (by simp [on, off])).trans (if_pos output))
theorem State.configPort_pairOff (pair : isAesOut c.idx = false) :
    s.configPort c =
      let froms := s.audio.routes.filter (fun e => match e.2.src with
        | .mic p _ => p == c.idx
        | _ => false)
      ((froms.foldl (fun s e => s.muteRoute e.1 1 false) (s.portSet c)).modPort c.idx (fun p => { p with state := 0 })).ok c :=
  (if_neg (by simp [on, off])).trans ((if_pos (by simp [on, off])).trans (if_neg (by simp [pair])))

end TurnedOff

/-! ### AUDIO_PORT_CONFIG of the clock (R539) -/

theorem effAudioPortConfig_clock (clock : c.cls = 13) (there : s.refAbsent c = false) :
    effAudioPortConfig c s =
      let ref := c.u 0 1
      let locked : Prop := ref = 0 ∨ (2 ≤ ref ∧ (s.audioIn (ref - 2)).state = 3) ∨
        (ref = 1 ∧ 10 ≤ (s.audioIn 8).clean ∧ (s.audioIn 8).cls = carriedClass (c.u 1 1))
      let s1 : State := { s with audio := { s.audio with
        ref := ref, mclkIn := c.u 1 1, mclkOut := c.u 2 1,
        clkState := if ref = s.audio.ref then s.audio.clkState else if locked then 2 else 0 } }
      (if ref = 1 ∧ (s.audioIn 8).enabled = false then s1.modIn 8 (fun x => { x with enabled := true, winEnd := windowEnd s.now })
       else s1).ok c := by
  refine (State.unlessNow_permitted (by simp [clock, there]) _ _ _).trans ((if_pos clock).trans ?_)
  simp only [Bool.not_eq_true']

/-! ### AUDIO_ROUTE (R560–R562) -/

/-- A route that is muted, or has or takes a data-mode source, switches at once. -/
def State.SwitchesAtOnce (s : State) (c : Cmd) : Prop :=
  (s.route (routeKey c.object (c.u 0 1))).ramp = 3 ∨ s.dataSrc (s.route (routeKey c.object (c.u 0 1))).src = true ∨
    s.dataSrc c.audioSrc = true

theorem effAudioRoute_atOnce (h : s.SwitchesAtOnce c) :
    effAudioRoute c s =
      let key := routeKey c.object (c.u 0 1)
      (((s.modRoute key (fun r => { r with src := c.audioSrc, next := none, ramp := 3, cause := 0, sample := 0, j := 0 })).raiseRoute
        key).judgePair key).ok c := congrArg (State.ok · c) (if_pos h)
theorem effAudioRoute_ramps (h : ¬s.SwitchesAtOnce c) :
    effAudioRoute c s = (s.modRoute (routeKey c.object (c.u 0 1)) (fun x => { x with
      next := some c.audioSrc, ramp := 2, cause := 4, j := if x.ramp = 2 then x.j else 0 })).ok c := congrArg (State.ok · c) (if_neg h)

end AudioCommands

end Sys2Proof.Machine

namespace Sys2Proof

open Machine

/-- Settles O34: an AUDIO_PORT_CONFIG by what it names and whether that starts or stops, an AUDIO_ROUTE by whether its channel sounds. -/
theorem audioCommandsRun : Obligations.AudioCommandsRun :=
  ⟨runsIf_of_eff (fun _ _ _ => rfl) fun _ _ _ bad => effAudioPortConfig_refused bad,
    runsIf_of_eff (fun _ _ _ => rfl) fun _ _ _ ⟨named, input, rate, pair⟩ => effAudioPortConfig_input ⟨named, rate, pair⟩ input,
    ⟨runsIf_configPort fun _ _ same => State.configPort_keeps same,
      runsIf_configPort fun _ _ ⟨off, on, output⟩ => State.configPort_outputOn off on output,
      runsIf_configPort fun _ _ ⟨off, on, pair⟩ => State.configPort_pairOn off on pair,
      runsIf_configPort fun _ _ ⟨on, off, output⟩ => State.configPort_outputOff on off output,
      runsIf_configPort fun _ _ ⟨on, off, pair⟩ => State.configPort_pairOff on off pair⟩,
    runsIf_of_eff (fun _ _ _ => rfl) fun _ _ _ ⟨clock, there⟩ => effAudioPortConfig_clock clock there,
    runsIf_of_eff (fun _ _ _ => rfl) fun _ _ _ atOnce => effAudioRoute_atOnce atOnce,
    runsIf_of_eff (fun _ _ _ => rfl) fun _ _ _ ramps => effAudioRoute_ramps ramps,
    runs_of_eff fun _ _ _ => rfl⟩

end Sys2Proof

/-! ## Power, clocks and observation (14, 16): the commands -/

namespace Sys2Proof

open Machine

/-- Settles O35: each row starts its command with the effect of its opcode. -/
theorem powerAndObservationCommandsRun : Obligations.PowerAndObservationCommandsRun :=
  ⟨runs_of_eff fun _ _ _ => rfl, runs_of_eff fun _ _ _ => rfl, runs_of_eff fun _ _ _ => rfl, runs_of_eff fun _ _ _ => rfl,
    runs_of_eff fun _ _ _ => rfl, runs_of_eff fun _ _ _ => rfl, runs_of_eff fun _ _ _ => rfl⟩

end Sys2Proof

/-! ## Field update (15): the commands -/

namespace Sys2Proof.Machine

open Sys2Proof

section UpdateCommands

variable {c : Cmd} {s : State}

/-! ### UPDATE_BEGIN (R609) -/

/-- A download begins in the sectors that are kept. -/
def State.beginDownload (s : State) (c : Cmd) (kept : List Nat) : State :=
  let b' : Bank := {
    data := s.download.data.filter (fun e => kept.contains (e.1 / 262144)), erased := kept, format := c.u 0 1, total := c.u 4 4,
    hasRecord := true }
  State.ok { s.modDownload (fun _ => b') with upd := { s.upd with
    state := 1, format := c.u 0 1, total := c.u 4 4, received := b'.received, stagedSet := none } } c

/-- It keeps the whole sectors of a bank that holds the record of a download of the same format and length, not verified, when asked to. -/
theorem effUpdateBegin_begins (free : s.upd.state ≤ 1) :
    effUpdateBegin c s = s.beginDownload c (if c.u 1 1 = 1 ∧ s.download.hasRecord = true ∧ s.download.verified = false ∧
      s.download.format = c.u 0 1 ∧ s.download.total = c.u 4 4 then s.download.fullSectors else []) := by
  refine (State.unlessNow_permitted (by simpa using free) _ _ _).trans (congrArg (s.beginDownload c) (if_congr ?_ rfl rfl))
  simp only [Bool.and_eq_true, beq_iff_eq, Bool.not_eq_true', and_assoc]
theorem effUpdateBegin_refused (busy : 1 < s.upd.state) : effUpdateBegin c s = s.fail c 0x0303 c.object :=
  State.unlessNow_refused (by simpa using busy) _ _ _

/-! ### UPDATE_VERIFY and UPDATE_SCHEDULE (R611, R614, R615) -/

theorem effUpdateVerify_verifies (may : s.mayVerify = true) :
    effUpdateVerify c s = { s.commits c with upd := { s.upd with
      state := 2, verifyCmd := some (c.q, c.seq), cancelPending := false } } := State.unlessNow_permitted (by simp [may]) _ _ _
theorem effUpdateVerify_refused (mayNot : s.mayVerify = false) : effUpdateVerify c s = s.fail c 0x0303 c.object :=
  State.unlessNow_refused (by simp [mayNot]) _ _ _

theorem effUpdateSchedule_schedules (staged : s.upd.state = 4 ∨ s.isFollower = true) :
    effUpdateSchedule c s = { s with upd := { s.upd with
      state := if s.upd.state = 4 then 5 else s.upd.state, a := some c.pend, aAt := c.fireAt.toNat, window := c.u 4 2,
      hostConfirm := c.u 6 1 == 1, scheduleCmd := some (c.q, c.seq) } } := by
  refine (State.unlessNow_permitted (by simpa [imp_iff_not_or] using staged) _ _ _).trans ?_
  simp only [beq_iff_eq]
theorem effUpdateSchedule_refused (unstaged : s.upd.state ≠ 4) (alone : s.isFollower = false) :
    effUpdateSchedule c s = s.fail c 0x0303 c.object := State.unlessNow_refused (by simp [unstaged, alone]) _ _ _

/-! ### UPDATE_CONFIRM and UPDATE_CANCEL (R618, R621) -/

theorem effUpdateConfirm_confirms (open_ : s.upd.state = 6) :
    effUpdateConfirm c s = (State.ok { s with upd := { s.upd with hostConfirmed := true } } c).tryConfirm c.q :=
  State.unlessNow_permitted (by simp [open_]) _ _ _
theorem effUpdateConfirm_refused (closed : s.upd.state ≠ 6) : effUpdateConfirm c s = s.fail c 0x0303 c.object :=
  State.unlessNow_refused (by simpa using closed) _ _ _

theorem effUpdateCancel_receiving (h : s.upd.state = 1) : effUpdateCancel c s = ((s.cancelUpdate c.q).discardDownload).ok c := by
  unfold effUpdateCancel
  split
  case h_1 => rfl
  all_goals grind only
theorem effUpdateCancel_verifying (h : s.upd.state = 2) :
    effUpdateCancel c s = { s.commits c with upd := { s.upd with cancelPending := true, cancelCmd := some (c.q, c.seq) } } := by
  unfold effUpdateCancel
  split
  case h_2 => rfl
  all_goals grind only
theorem effUpdateCancel_staged (h : 3 ≤ s.upd.state ∧ s.upd.state ≤ 5) :
    effUpdateCancel c s =
      let s1 := ((s.commits c).cancelUpdate c.q).discardDownload
      let s2 := match s1.pairIn 1 with
        | some p => s1.setPair p 2
        | none => s1
      { s2 with upd := { s2.upd with cancelCmd := some (c.q, c.seq) } } := by
  unfold effUpdateCancel
  split
  case h_3 => rfl
  case h_4 => rfl
  case h_5 => rfl
  all_goals grind only
theorem effUpdateCancel_confirming (h : s.upd.state = 6) :
    effUpdateCancel c s =
      { (s.commits c).decideFallback 2 with upd := { ((s.commits c).decideFallback 2).upd with cancelCmd := some (c.q, c.seq) } } := by
  unfold effUpdateCancel
  split
  case h_6 => rfl
  all_goals grind only
theorem effUpdateCancel_idle (h : s.upd.state = 0) : effUpdateCancel c s = s.complete c 4 0 := by
  unfold effUpdateCancel
  split
  case h_7 => rfl
  all_goals grind only

/-! ### OWNER_LOCK (R615, R624) -/

theorem State.wrongLock_eq_true :
    s.wrongLock c = true ↔ if c.u 0 1 = 0 then s.nv.ownerLock ≠ none else s.nv.ownerLock ≠ some (c.bytes 4 8) := by
  unfold State.wrongLock
  split
  · simp [Option.isSome_iff_ne_none]
  · simp

theorem effOwnerLock_clears (clear : c.u 0 1 ≠ 0) (opens : s.nv.ownerLock = some (c.bytes 4 8)) :
    effOwnerLock c s = State.ok { s with nv := { s.nv with ownerLock := none } } c :=
  (State.unlessNow_permitted (by simp [State.wrongLock, clear, opens]) _ _ _).trans (if_neg clear)
theorem effOwnerLock_refused (wrong : if c.u 0 1 = 0 then s.nv.ownerLock ≠ none else s.nv.ownerLock ≠ some (c.bytes 4 8)) :
    effOwnerLock c s = s.fail c 0x0303 c.object := State.unlessNow_refused (State.wrongLock_eq_true.2 wrong) _ _ _

section Sets

variable (set_ : c.u 0 1 = 0) (unlocked : s.nv.ownerLock = none)

include set_ unlocked

theorem effOwnerLock_sets (unscheduled : s.upd.state ≠ 5) :
    effOwnerLock c s = State.ok { s with nv := { s.nv with ownerLock := some (c.bytes 4 8) } } c :=
  (State.unlessNow_permitted (by simp [State.wrongLock, set_, unlocked]) _ _ _).trans ((if_pos set_).trans (if_neg unscheduled))
theorem effOwnerLock_unschedules (scheduled : s.upd.state = 5) :
    effOwnerLock c s =
      let s1 : State := { s with
        nv := { s.nv with ownerLock := some (c.bytes 4 8) }, upd := { s.upd with state := 4, a := none, scheduleCmd := none } }
      ((s1.completeOpt s.upd.scheduleCmd 5 0).raiseFor c.q 0x0B04 deviceId s.downloadVersion 0).ok c :=
  (State.unlessNow_permitted (by simp [State.wrongLock, set_, unlocked]) _ _ _).trans ((if_pos set_).trans (if_pos scheduled))

end Sets

/-! ### LIFECYCLE_ADVANCE and RETURN_AUTHORISE (R633, R634) -/

theorem effLifecycleAdvance_advances (good : checkLifecycleAdvance s c = none) :
    effLifecycleAdvance c s = State.ok { s with
      nv := { s.nv with nextLife := c.u 0 1, keyKill := s.nv.keyKill || c.u 0 1 == 4 }, upd := { s.upd with lifeNext := c.u 0 1 } } c :=
  State.unlessNow_permitted (by simp [good]) _ _ _
theorem effLifecycleAdvance_refused (bad : checkLifecycleAdvance s c ≠ none) : effLifecycleAdvance c s = s.fail c 0x0303 c.object :=
  State.unlessNow_refused (Option.isSome_iff_ne_none.2 bad) _ _ _

theorem effReturnAuthorise_refused (bad : checkReturnAuthorise s c ≠ none) : effReturnAuthorise c s = s.fail c 0x0303 c.object :=
  State.unlessNow_refused (Option.isSome_iff_ne_none.2 bad) _ _ _
theorem effReturnAuthorise_enters (good : checkReturnAuthorise s c = none) (enter : c.u 0 1 = 0) :
    effReturnAuthorise c s = State.ok { s with
      nv := { s.nv with nextLife := 3, eraseSettings := true }, upd := { s.upd with lifeNext := 3 } } c := by
  refine (State.unlessNow_permitted (by simp [good]) _ _ _).trans ?_
  simp [enter]
theorem effReturnAuthorise_reenters (good : checkReturnAuthorise s c = none) (reenter : c.u 0 1 ≠ 0) :
    effReturnAuthorise c s = State.ok { s with
      nv := { s.nv with nextLife := 2, returns := s.nv.returns + 1 }, upd := { s.upd with lifeNext := 2 } } c := by
  refine (State.unlessNow_permitted (by simp [good]) _ _ _).trans ?_
  simp [reenter]

end UpdateCommands

end Sys2Proof.Machine

namespace Sys2Proof

open Machine

/-- Settles O36: an UPDATE_CANCEL by the state of the update, an OWNER_LOCK by what it asks for and the lock that is set, and every row by
whether the state still permits it. -/
theorem updateCommandsRun : Obligations.UpdateCommandsRun :=
  ⟨runsIf_of_eff (fun _ _ _ => rfl) fun _ _ _ free => effUpdateBegin_begins free,
    runsIf_of_eff (fun _ _ _ => rfl) fun _ _ _ busy => effUpdateBegin_refused busy,
    runsIf_of_eff (fun _ _ _ => rfl) fun _ _ _ may => effUpdateVerify_verifies may,
    runsIf_of_eff (fun _ _ _ => rfl) fun _ _ _ mayNot => effUpdateVerify_refused mayNot,
    runsIf_of_eff (fun _ _ _ => rfl) fun _ _ _ staged => effUpdateSchedule_schedules staged,
    runsIf_of_eff (fun _ _ _ => rfl) fun _ _ _ ⟨unstaged, alone⟩ => effUpdateSchedule_refused unstaged alone,
    runsIf_of_eff (fun _ _ _ => rfl) fun _ _ _ open_ => effUpdateConfirm_confirms open_,
    runsIf_of_eff (fun _ _ _ => rfl) fun _ _ _ closed => effUpdateConfirm_refused closed,
    runsIf_of_eff (fun _ _ _ => rfl) fun _ _ _ receiving => effUpdateCancel_receiving receiving,
    runsIf_of_eff (fun _ _ _ => rfl) fun _ _ _ verifying => effUpdateCancel_verifying verifying,
    runsIf_of_eff (fun _ _ _ => rfl) fun _ _ _ staged => effUpdateCancel_staged staged,
    runsIf_of_eff (fun _ _ _ => rfl) fun _ _ _ confirming => effUpdateCancel_confirming confirming,
    runsIf_of_eff (fun _ _ _ => rfl) fun _ _ _ idle => effUpdateCancel_idle idle,
    runsIf_of_eff (fun _ _ _ => rfl) fun _ _ _ ⟨clear, opens⟩ => effOwnerLock_clears clear opens,
    runsIf_of_eff (fun _ _ _ => rfl) fun _ _ _ ⟨set_, unlocked, unscheduled⟩ => effOwnerLock_sets set_ unlocked unscheduled,
    runsIf_of_eff (fun _ _ _ => rfl) fun _ _ _ ⟨set_, unlocked, scheduled⟩ => effOwnerLock_unschedules set_ unlocked scheduled,
    runsIf_of_eff (fun _ _ _ => rfl) fun _ _ _ wrong => effOwnerLock_refused wrong,
    runsIf_of_eff (fun _ _ _ => rfl) fun _ _ _ good => effLifecycleAdvance_advances good,
    runsIf_of_eff (fun _ _ _ => rfl) fun _ _ _ bad => effLifecycleAdvance_refused bad,
    runsIf_of_eff (fun _ _ _ => rfl) fun _ _ _ ⟨good, enter⟩ => effReturnAuthorise_enters good enter,
    runsIf_of_eff (fun _ _ _ => rfl) fun _ _ _ ⟨good, reenter⟩ => effReturnAuthorise_reenters good reenter,
    runsIf_of_eff (fun _ _ _ => rfl) fun _ _ _ bad => effReturnAuthorise_refused bad⟩

end Sys2Proof

/-! ## Audio (13): the events of outputs and flows -/

namespace Sys2Proof.Machine

open Sys2Proof

/-! ### Samples, ramps and judgements change routes alone (R543, R549, R561, R562) -/

/-- `t` is `s` but for its routes. -/
def State.RoutesOnly (s t : State) : Prop := ∃ r, t = { s with audio := { s.audio with routes := r } }

section RoutesOnly

variable {s t u : State}

theorem State.RoutesOnly.refl (s : State) : s.RoutesOnly s := ⟨s.audio.routes, rfl⟩
theorem State.RoutesOnly.trans (a : s.RoutesOnly t) (b : t.RoutesOnly u) : s.RoutesOnly u := by
  obtain ⟨r, rfl⟩ := a
  obtain ⟨r', rfl⟩ := b
  exact ⟨r', rfl⟩
theorem State.RoutesOnly.missing (a : s.RoutesOnly t) : t.audio.missing = s.audio.missing := by
  obtain ⟨r, rfl⟩ := a
  rfl
theorem State.RoutesOnly.rxFlow (a : s.RoutesOnly t) (i : Nat) : t.rxFlow i = s.rxFlow i := by
  obtain ⟨r, rfl⟩ := a
  rfl
theorem State.foldl_routesOnly {α : Type} {f : State → α → State} (h : ∀ (s : State) a, s.RoutesOnly (f s a)) (l : List α) (s : State) :
    s.RoutesOnly (l.foldl f s) :=
  List.foldlRecOn l f (.refl s) fun _ ht a _ => ht.trans (h _ a)

theorem State.modRoute_routesOnly (s : State) (key : Nat) (f : Route → Route) : s.RoutesOnly (s.modRoute key f) := ⟨_, rfl⟩
theorem State.feed_routesOnly (s : State) (src : AudioSrc) (x : Int) (tag : Nat) : s.RoutesOnly (s.feed src x tag) := ⟨_, rfl⟩
theorem State.raiseRoute_routesOnly (s : State) (key : Nat) : s.RoutesOnly (s.raiseRoute key) := by
  unfold State.raiseRoute
  dsimp only
  split
  · split
    · exact State.modRoute_routesOnly ..
    · exact .refl s
  · split
    · exact .refl s
    · split
      · split <;> exact State.modRoute_routesOnly ..
      · split
        · exact State.modRoute_routesOnly ..
        · exact .refl s
theorem State.judgeData_routesOnly (s : State) (key : Nat) : s.RoutesOnly (s.judgeData key) := by
  unfold State.judgeData
  dsimp only
  have taken := State.modRoute_routesOnly s key (fun r => { r with src := r.next.getD r.src, next := none })
  generalize s.modRoute key (fun r => { r with src := r.next.getD r.src, next := none }) = s1 at taken ⊢
  split
  · exact .refl s
  · split
    · exact taken.trans (State.modRoute_routesOnly ..)
    · have muted := fun f => taken.trans (State.modRoute_routesOnly s1 key f)
      split
      · exact muted _
      · exact (muted _).trans (State.raiseRoute_routesOnly _ _)
theorem State.judgeRoutes_routesOnly (s : State) (l : List (Nat × Route)) : s.RoutesOnly (s.judgeRoutes l) := by
  refine State.foldl_routesOnly (fun s e => ?_) l s
  split
  · exact State.judgeData_routesOnly s _
  · split
    · exact State.raiseRoute_routesOnly s _
    · exact .refl s

end RoutesOnly

/-! ### RAMP_END (R561, R562) -/

/-- Only what a change makes of the route that stands matters. -/
theorem State.modRoute_congr {s : State} {i : Nat} {f g : Route → Route} (h : f (s.route i) = g (s.route i)) :
    s.modRoute i f = s.modRoute i g :=
  congrArg (fun x => { s with audio := { s.audio with routes := s.audio.routes.set i x } }) h

/-- A route takes up the source that it waits for, silent as yet. -/
def State.routeTaken (s : State) (d : Nat) (n : AudioSrc) : State := s.modRoute d (fun r => { r with
  ramp := 3, j := 0, sample := 0, src := n, cause := 0, next := none })

section RampEnd

variable {s : State} {d : Nat} (hd : d < 2 ^ 38)

include hd

theorem exec_rampEnd_in {f ch : Nat} (ramp : (s.route d).ramp = 1) (src : (s.route d).src = .flow f ch) :
    exec (.rampEnd d) s = .next ((s.modRoute d (fun r => { r with ramp := 0, j := 0 })).outputSettled (routeObject d)) := by
  refine (need_eq _ (decide_eq_true hd)).trans (congrArg _ ((if_pos ramp).trans ?_))
  simp only [src]
theorem exec_rampEnd_change {n : AudioSrc} (ramp : (s.route d).ramp = 2) (next : (s.route d).next = some n) :
    exec (.rampEnd d) s = .next ((((s.routeTaken d n).raiseRoute d).judgePair d).outputSettled (routeObject d)) := by
  refine (need_eq _ (decide_eq_true hd)).trans (congrArg _ ((if_neg (by simp [ramp])).trans ((if_pos ramp).trans ?_)))
  refine congrArg (fun t : State => t.outputSettled (routeObject d)) ((if_pos (by simp [next])).trans ?_)
  exact congrArg (fun t : State => (t.raiseRoute d).judgePair d) (State.modRoute_congr (by simp [next]))
theorem exec_rampEnd_still (still : (s.route d).ramp = 0 ∨ (s.route d).ramp = 3) : exec (.rampEnd d) s = .next s :=
  (need_eq _ (decide_eq_true hd)).trans (congrArg _ ((if_neg (by omega)).trans (if_neg (by omega))))

end RampEnd

/-! ### AES3_START_BLOCK, AES3_STOP_BLOCK_END and PDM_WARM_UP_END (R552, R555) -/

theorem exec_aes3StopBlockEnd_stops {s : State} {o : Nat} (ho : isAesOut o = true) (state : (s.audioPort o).state = 5)
    (silent : ∀ e ∈ s.routesTo (audioId o), e.2.ramp ≠ 1 ∧ e.2.ramp ≠ 2) :
    exec (.aes3StopBlockEnd o) s = .next (
      let p := s.audioPort o
      ((s.reach (p.since + portTime p.rate (64 + 192))).modPort o (fun p => { p with state := 0, cmd := none })).completeOpt p.cmd 2 0) := by
  have still : (s.routesTo (audioId o)).any (fun e => e.2.ramp == 1 || e.2.ramp == 2) = false :=
    List.any_eq_false.2 fun e he => by simp [silent e he]
  exact (need_eq _ ho).trans (congrArg _ (if_neg (by simp [state, still])))

/-! ### AUDIO_CLOCK_ASYNC (R544) -/

section ClockAsync

variable {s : State} {v : Int} (low : -2147483648 ≤ v) (high : v ≤ 2147483647)

include low high

theorem clip_ppb : clip v (-2147483648) 2147483647 = v := by
  unfold clip
  omega

theorem exec_audioClockAsync_far (far : 10000 < v ∨ v < -10000) (news : s.audio.async = false) :
    exec (.audioClockAsync v) s = .next (
      State.raise { s with audio := { s.audio with ppb := v, async := true } } 0x0A02 deviceId (wrapInt 32 v) 0) := by
  refine (need_eq _ rfl).trans (congrArg _ ?_)
  simp only [clip_ppb low high, far, news, decide_true, Bool.not_false, and_self, if_true]
theorem exec_audioClockAsync_near (near : -10000 ≤ v ∧ v ≤ 10000) :
    exec (.audioClockAsync v) s = .next { s with audio := { s.audio with ppb := v, async := false } } := by
  have notFar : ¬(10000 < v ∨ v < -10000) := by omega
  refine (need_eq _ rfl).trans (congrArg _ ?_)
  simp only [clip_ppb low high, notFar, decide_false, Bool.false_eq_true, false_and, if_false]

end ClockAsync

/-! ### AUDIO_PLAY_INSTANT (R556, R557) -/

/-- A flow whose AM824 labels of sample `k` have played. -/
def RxFlow.labelsPlayed (f : RxFlow) (k : Nat) : RxFlow :=
  if f.kind = 3 then (List.range f.channels).foldl (fun f ch => f.playLabel ch ((f.labels.find (k % two32 * 64 + ch)).getD 0)) f else f
/-- Time runs to the play instant of sample `k` of a flow, whose frame leaves the flow's buffer. -/
def State.frameTaken (s : State) (flow k : Nat) : State :=
  let f := s.rxFlow flow
  (s.reach (sampleInstant k (audioHz f.audio) + f.linkOffset)).modRx flow (fun _ => { f.labelsPlayed k with
    samples := f.samples.filter (fun e => e.1 / 64 != k % two32), labels := f.labels.filter (fun e => e.1 / 64 != k % two32) })
/-- The frame goes to the flow's routes, which are judged anew when its data mode began or ended. -/
def State.framePlayed (s : State) (flow k : Nat) : State :=
  let f := s.rxFlow flow
  let key (ch : Nat) : Nat := k % two32 * 64 + ch
  let t := s.frameTaken flow k
  (List.range f.channels).foldl (fun s ch =>
    s.feed (.flow flow ch) ((f.samples.find (key ch)).getD 0) ((f.labels.find (key ch)).getD 0 % 8))
    (if (f.labelsPlayed k).dataOn = f.dataOn then t else t.judgeRoutes (t.routesOfFlow flow))

theorem State.framePlayed_routesOnly (s : State) (flow k : Nat) : (s.frameTaken flow k).RoutesOnly (s.framePlayed flow k) := by
  refine State.RoutesOnly.trans ?_ (State.foldl_routesOnly (fun s ch => State.feed_routesOnly s _ _ _) _ _)
  split
  · exact .refl _
  · exact State.judgeRoutes_routesOnly _ _
@[simp] theorem State.framePlayed_missing (s : State) (flow k : Nat) : (s.framePlayed flow k).audio.missing = s.audio.missing := by
  rw [(s.framePlayed_routesOnly flow k).missing]
  simp [State.frameTaken]
theorem State.framePlayed_samples (s : State) (flow k : Nat) :
    ((s.framePlayed flow k).rxFlow flow).samples = (s.rxFlow flow).samples.filter (fun e => e.1 / 64 != k % two32) := by
  rw [(s.framePlayed_routesOnly flow k).rxFlow]
  simp [State.frameTaken]

/-- Some channel of the frame of sample `k` has been received. -/
def RxFlow.hasSample (f : RxFlow) (k : Nat) : Bool :=
  (List.range f.channels).any (fun ch => (f.samples.find (k % two32 * 64 + ch)).isSome)

theorem RxFlow.hasSample_iff {f : RxFlow} {k : Nat} : f.hasSample k = true ↔ ∃ ch < f.channels, f.samples.find (k % two32 * 64 + ch) ≠ none := by
  simp [RxFlow.hasSample, Option.isSome_iff_ne_none]

section PlayInstant

variable {s : State} {flow k : Nat} (hf : flow < 256)

include hf

/-- A flow that plays feeds its routes from the frame, and a frame that is missing at the first sample of its packet is counted. -/
theorem exec_audioPlayInstant_plays (open_ : (s.rxFlow flow).isOpen = true) (audio : 2 ≤ (s.rxFlow flow).kind) :
    exec (.audioPlayInstant flow k) s = .next (
      let t := s.framePlayed flow k
      if (s.rxFlow flow).hasSample k = true ∨ k % max 1 (audioSamples (s.rxFlow flow).audio) ≠ 0 then t
      else { t with audio := { t.audio with missing := satAdd 32 t.audio.missing 1 } }) := by
  have plays : ¬((!(s.rxFlow flow).isOpen) = true ∨ (s.rxFlow flow).kind < 2) := by simp [open_, Nat.not_lt.2 audio]
  exact (need_eq _ (decide_eq_true hf)).trans (congrArg _ (if_neg plays))
theorem exec_audioPlayInstant_idle (idle : (s.rxFlow flow).isOpen = false ∨ (s.rxFlow flow).kind < 2) :
    exec (.audioPlayInstant flow k) s = .next s := (need_eq _ (decide_eq_true hf)).trans (congrArg _ (if_pos (by simpa using idle)))

end PlayInstant

/-! ### AUDIO_PACKET_FORMED (R558) -/

section PacketFormed

variable {s : State} {flow : Nat} (hf : flow < 1024)

include hf

theorem exec_audioPacketFormed_forms (open_ : (s.txFlow flow).isOpen = true) (audio : (s.txFlow flow).kind ≠ 0)
    (stays : (s.txFlow flow).closing = none) :
    ∃ t, exec (.audioPacketFormed flow) s = .next t ∧
      t.audio.txK.get 0 flow = s.audio.txK.get 0 flow + audioSamples (s.txFlow flow).audio := by
  refine ⟨_, (need_eq _ (decide_eq_true hf)).trans (congrArg _ (if_neg (by simp [open_, audio, stays]))), ?_⟩
  dsimp only
  split <;> exact (Tab.get_set ..).trans (if_pos rfl)
theorem exec_audioPacketFormed_closed (closed : (s.txFlow flow).isOpen = false) : exec (.audioPacketFormed flow) s = .next s :=
  (need_eq _ (decide_eq_true hf)).trans (congrArg _ (if_pos (by simp [closed])))

end PacketFormed

end Sys2Proof.Machine

namespace Sys2Proof

open Machine

/-- Settles O54: a ramp by its kind, an output or a PDM pair by its state, a slip by the fill, the clock by its deviation, a play instant by
what its frame holds, a packet by whether its flow sends. -/
theorem audioOutputsAct : Obligations.AudioOutputsAct := by
  refine ⟨fun d hd => ?ramp, fun o ho => ?output, fun pr hp => ?pair, fun obj fill hobj hfill => ?slip, fun v low high => ?clock,
    fun flow k hf => ?plays, fun flow hf => ?forms⟩
  case ramp =>
    refine ⟨fun f ch s ⟨ramp, src⟩ => exec_rampEnd_in hd ramp src, fun n s ⟨ramp, next⟩ => ⟨_, exec_rampEnd_change hd ramp next, _, rfl, ?_⟩,
      fun s still => exec_rampEnd_still hd still⟩
    simp [State.routeTaken]
  case output =>
    exact ⟨answers_of_need ho (fun _ => rfl) fun s state => if_neg (not_not_intro state),
      answers_of_need ho (fun _ => rfl) fun s state => if_pos state,
      fun s ⟨state, silent⟩ => exec_aes3StopBlockEnd_stops ho state silent⟩
  case pair =>
    exact ⟨answers_of_need hp (fun _ => rfl) fun s state => if_neg (not_not_intro state),
      answers_of_need hp (fun _ => rfl) fun s state => if_pos state⟩
  case slip =>
    have hok : (isSlipObject obj && decide (fill ≤ 64)) = true := by simp [hobj, hfill]
    exact ⟨answers_of_need hok (fun _ => rfl) fun s within => if_pos within,
      answers_of_need hok (fun _ => rfl) fun s beyond => if_neg (by omega)⟩
  case clock =>
    exact ⟨fun s ⟨far, news⟩ => exec_audioClockAsync_far low high far news, fun s near => exec_audioClockAsync_near low high near⟩
  case plays =>
    refine ⟨fun s ⟨open_, audio, none_, first⟩ => ?missing, fun s ⟨open_, audio, some_⟩ => ?found, fun s idle => exec_audioPlayInstant_idle hf idle⟩
    case missing =>
      have absent : ¬((s.rxFlow flow).hasSample k = true) := by simpa [RxFlow.hasSample_iff] using none_
      exact ⟨_, (exec_audioPlayInstant_plays hf open_ audio).trans (congrArg _ (if_neg (by simp [absent, first]))),
        congrArg (satAdd 32 · 1) (s.framePlayed_missing flow k)⟩
    case found =>
      exact ⟨_, (exec_audioPlayInstant_plays hf open_ audio).trans (congrArg _ (if_pos (.inl (RxFlow.hasSample_iff.2 some_)))),
        s.framePlayed_missing flow k, s.framePlayed_samples flow k⟩
  case forms =>
    exact ⟨fun s ⟨open_, audio, stays⟩ => exec_audioPacketFormed_forms hf open_ audio stays, fun s closed => exec_audioPacketFormed_closed hf closed⟩

end Sys2Proof

/-! ## Power, temperature and voltage (14): the events -/

namespace Sys2Proof.Machine

open Sys2Proof

/-! ### Cold start (R591) -/

/-- What every cold start leaves: its cause, what start-up waits for, and reset values but for what flash, fuses and the pins hold. -/
structure State.ColdStarted (cause held : Nat) (s t : State) : Prop where
  cause : t.power.rstCause = cause
  held : t.power.held = held
  resetN : t.power.resetN = s.power.resetN
  bootStage : t.power.bootStage = 0
  ready : t.power.ready = false
  alert : t.power.alert = 0
  cmds : t.hif.cmds = []
  comp : t.comp = {}
  progs : t.progs = []
  twin : t.twin = {}
  upd : t.upd = {}
  bases : ∀ n, t.tb n = State.reset.tb n
  part : t.nv.part = s.nv.part
  pending : t.pending = s.pending

theorem State.coldStart_spec (s : State) (cause held : Nat) : s.ColdStarted cause held (s.coldStart cause held) where
  cause := rfl
  held := rfl
  resetN := rfl
  bootStage := rfl
  ready := rfl
  alert := rfl
  cmds := rfl
  comp := rfl
  progs := rfl
  twin := rfl
  upd := rfl
  bases _ := rfl
  part := congrArg Fuses.part (leaveBehind_fuses s.nv)
  pending := rfl

/-- What a trip leaves, written out. -/
theorem State.ColdStarted.trip {cause held : Nat} {s t : State} (h : s.ColdStarted cause held t) :
    t.power.rstCause = cause ∧ t.power.held = held ∧ t.power.bootStage = 0 ∧ t.power.ready = false ∧ t.power.alert = 0 ∧
      t.hif.cmds = [] ∧ t.comp = {} ∧ t.progs = [] ∧ t.twin = {} ∧ t.upd = {} ∧ (∀ n, t.tb n = State.reset.tb n) ∧
      t.nv.part = s.nv.part ∧ t.pending = s.pending :=
  ⟨h.cause, h.held, h.bootStage, h.ready, h.alert, h.cmds, h.comp, h.progs, h.twin, h.upd, h.bases, h.part, h.pending⟩

theorem exec_thermalTrip_trips {s : State} (hot : 125 * 16 ≤ s.power.tjAt) : exec .thermalTrip s = .next (s.coldStart 4 3) :=
  (need_eq _ rfl).trans (congrArg _ (if_pos hot))

/-! ### The throttle (R574) -/

@[simp] theorem State.thermPin_power (s : State) (low was : Bool) : (s.thermPin low was).power = s.power := by
  unfold State.thermPin
  split <;> rfl
@[simp] theorem State.ite_power (c : Prop) [Decidable c] (a b : State) : (if c then a else b).power = if c then a.power else b.power :=
  apply_ite State.power c a b

/-- The device with a reading of IIN. -/
def State.sensed (s : State) (iin : Nat) : State := State.measure { s with power := { s.power with iin := iin } }

section Throttle

variable {s : State} {iin : Nat} (hi : iin < 65536)

include hi

theorem exec_throttleEngageStep_within (current : (s.sensed iin).power.overCurrent = false) (heat : (s.sensed iin).power.overHeat = false) :
    exec (.throttleEngageStep iin) s = .next (s.sensed iin) := by
  have within : ¬(((s.sensed iin).power.overCurrent || (s.sensed iin).power.overHeat) = true) := by simp [current, heat]
  exact (need_eq _ (decide_eq_true hi)).trans (congrArg _ (if_neg within))
/-- A step of the throttle adds its cause to those that stand, whatever events and counters go with it. -/
theorem exec_throttleEngageStep_beyond
    (beyond : (s.sensed iin).power.overCurrent = true ∨ (s.sensed iin).power.overHeat = true) :
    ∃ t, exec (.throttleEngageStep iin) s = .next t ∧ t.power.step = min 8 (s.power.step + 1) ∧ t.power.iin = iin ∧
      t.power.causeCurrent = (s.power.causeCurrent || (s.sensed iin).power.overCurrent) ∧
      t.power.causeThermal = (s.power.causeThermal || (s.sensed iin).power.overHeat) := by
  have exceeds : ((s.sensed iin).power.overCurrent || (s.sensed iin).power.overHeat) = true := by simpa using beyond
  refine ⟨_, (need_eq _ (decide_eq_true hi)).trans (congrArg _ (if_pos exceeds)), ?_⟩
  simp only [State.thermPin_power, State.ite_power, State.happen_power, State.raise_power, ite_self]
  exact ⟨rfl, rfl, rfl, rfl⟩

theorem exec_throttleReleaseStep_lowers (step : 1 < s.power.step) (current : iin * 100 ≤ 950 * s.power.limit)
    (heat : s.power.tj ≤ ((s.power.threshold : Int) - 2) * 16) :
    exec (.throttleReleaseStep iin) s =
      .next { s.sensed iin with power := { (s.sensed iin).power with step := s.power.step - 1 } } := by
  have within : s.power.step ≠ 0 ∧ iin * 100 ≤ 950 * s.power.limit ∧ s.power.tj ≤ ((s.power.threshold : Int) - 2) * 16 :=
    ⟨by omega, current, heat⟩
  have more : s.power.step ≠ 1 := by omega
  exact (need_eq _ (decide_eq_true hi)).trans (congrArg _ ((if_pos within).trans (if_neg more)))
theorem exec_throttleReleaseStep_holds (current : 950 * s.power.limit < iin * 100) :
    exec (.throttleReleaseStep iin) s = .next (s.sensed iin) := by
  have beyond : ¬(s.power.step ≠ 0 ∧ iin * 100 ≤ 950 * s.power.limit ∧ s.power.tj ≤ ((s.power.threshold : Int) - 2) * 16) :=
    fun h => absurd h.2.1 (Nat.not_le.2 current)
  exact (need_eq _ (decide_eq_true hi)).trans (congrArg _ (if_neg beyond))

end Throttle

/-! ### Voltage scaling (R585; 01 R50) -/

section Avs

variable {s : State} {rail : Nat} (hr : rail < 5)

include hr

theorem exec_avsMonitor_short (runs : s.power.bootStage ≠ 0) :
    exec (.avsMonitor rail true) s = .next (s.avsMove rail (((s.power.avsMv.get 0 rail : Nat) : Int) + 5)) :=
  (need_eq _ (decide_eq_true hr)).trans (congrArg _ ((if_neg runs).trans (if_pos rfl)))
theorem exec_avsMonitor_outside (runs : s.power.bootStage ≠ 0) (outside : s.avsOutside rail = true) :
    exec (.avsMonitor rail false) s = .next (s.avsMove rail ((s.power.avsMv.get 0 rail : Nat) : Int)) :=
  (need_eq _ (decide_eq_true hr)).trans (congrArg _ ((if_neg runs).trans ((if_neg Bool.false_ne_true).trans (if_pos outside))))
theorem exec_avsMonitor_holds (holds : s.power.bootStage = 0 ∨ s.avsOutside rail = false) :
    exec (.avsMonitor rail false) s = .next s := by
  refine (need_eq _ (decide_eq_true hr)).trans (congrArg _ (ite_eq_left_iff.2 fun runs => ?_))
  exact (if_neg Bool.false_ne_true).trans (if_neg (by simp [holds.resolve_left runs]))

end Avs

end Sys2Proof.Machine

namespace Sys2Proof

open Machine

/-- Settles O55: a supply or a temperature by the range it lies in and by what was noted before, a throttle step by the readings, a rail by
whether it runs and lies in its bounds, and every trip by the cold start. -/
theorem powerEventsAct : Obligations.PowerEventsAct := by
  refine ⟨fun vin hv => ?supply, answers_always rfl fun _ => rfl, answers_always rfl fun _ => rfl, fun s hot => exec_thermalTrip_trips hot,
    answers_of_need rfl (fun _ => rfl) fun s cool => if_neg (Int.not_le.2 cool), ?trips, answers_always rfl fun _ => rfl,
    fun temp low high => ?junction, fun iin hi => ?throttle, fun rail hr => ?rail, fun v hv => answers_always (decide_eq_true hv) fun _ => rfl⟩
  case supply =>
    have hok : decide (vin < 65536) = true := decide_eq_true hv
    refine ⟨answers_of_need hok (fun _ => rfl) fun s ⟨held, low, high⟩ => if_pos ⟨.inl held, low, high⟩,
      answers_of_need hok (fun _ => rfl) fun s out => if_neg (by omega),
      answers_of_need hok (fun _ => rfl) fun s ⟨low, news⟩ => if_pos (by simp [low, news]),
      answers_of_need hok (fun _ => rfl) fun s idle => if_neg ?_,
      answers_of_need hok (fun _ => rfl) fun s ⟨normal, was⟩ => if_pos ⟨normal, was⟩,
      answers_of_need hok (fun _ => rfl) fun s ⟨high, news⟩ => if_pos (by simp [high, news]),
      answers_of_need hok (fun _ => rfl) fun s ⟨normal, was⟩ => if_pos ⟨normal, was⟩,
      answers_of_need hok (fun _ => rfl) fun s idle => if_neg ?_,
      answers_of_need hok (fun _ => rfl) fun s idle => if_neg ?_,
      answers_of_need hok (fun _ => rfl) fun s idle => if_neg ?_⟩
    all_goals
      rintro ⟨range, noted⟩
      rcases idle with other | was
      · omega
      · simp [was] at noted
  case trips =>
    simp only [List.forall_mem_cons, List.not_mem_nil, false_imp_iff, implies_true, and_true]
    exact ⟨fun s _ => ⟨_, need_eq _ rfl, (s.coldStart_spec 2 1).trip⟩, fun s _ => ⟨_, need_eq _ rfl, (s.coldStart_spec 3 1).trip⟩,
      fun s hot => ⟨_, exec_thermalTrip_trips (hot trivial), (s.coldStart_spec 4 3).trip⟩,
      fun s _ => ⟨_, need_eq _ rfl, (s.coldStart_spec 5 0).trip⟩⟩
  case junction =>
    have hok : (decide (-32768 ≤ temp) && decide (temp < 32768)) = true := by simp [low, high]
    exact ⟨answers_of_need hok (fun _ => rfl) fun s hot => if_pos hot, answers_of_need hok (fun _ => rfl) fun s cool => if_neg (Int.not_le.2 cool)⟩
  case throttle =>
    exact ⟨fun s ⟨current, heat⟩ => exec_throttleEngageStep_within hi current heat, fun s beyond => exec_throttleEngageStep_beyond hi beyond,
      fun s ⟨step, current, heat⟩ => exec_throttleReleaseStep_lowers hi step current heat,
      fun s current => exec_throttleReleaseStep_holds hi current⟩
  case rail =>
    exact ⟨fun s runs => exec_avsMonitor_short hr runs, fun s ⟨runs, outside⟩ => exec_avsMonitor_outside hr runs outside,
      fun s holds => exec_avsMonitor_holds hr holds,
      answers_of_need (decide_eq_true hr) (fun _ => rfl) fun s runs => if_pos ⟨rfl, runs⟩,
      answers_of_need (decide_eq_true hr) (fun _ => rfl) fun s _ => if_neg (by simp)⟩

end Sys2Proof

/-! ## Reset pins, PCI Express, JTAG, REFCLK and SMBus (14; 15 R637): the events -/

namespace Sys2Proof.Machine

open Sys2Proof

section Pins

variable {s : State}

/-! ### RESET_N (R591) -/

/-- RESET_N low outside a supply fault or a trip: the cold start waits for its rise. -/
theorem exec_resetNAssert_waits (held : s.power.held = 0 ∨ s.power.held = 2) :
    exec .resetNAssert s = .next (State.coldStart { s with power := { s.power with resetN := false } } 1 2) :=
  (need_eq _ rfl).trans (congrArg _ (congrArg (State.coldStart _ 1) (if_neg (by omega))))

/-- RESET_N is high, and the device waits for what `held` says. -/
def State.resetNHigh (s : State) (held : Nat) : State := { s with power := { s.power with resetN := true, held := held } }

theorem exec_resetNRise_releases (held : s.power.held = 2) (low : 2400 ≤ s.power.vinAt) (high : s.power.vinAt ≤ 5600) :
    exec .resetNRise s = .next (s.resetNHigh 0) := (need_eq _ rfl).trans (congrArg _ (congrArg s.resetNHigh (if_pos ⟨held, low, high⟩)))
theorem exec_resetNRise_free (free : s.power.held ≠ 2) : exec .resetNRise s = .next (s.resetNHigh s.power.held) :=
  (need_eq _ rfl).trans (congrArg _ (congrArg s.resetNHigh ((if_neg fun h => free h.1).trans (if_neg free))))

/-! ### JTAG (15 R637) -/

theorem exec_jtagInstruction (s : State) (code : Nat) :
    exec (.jtagInstruction code) s =
      .next { s with upd := { s.upd with jtag := if jtagAllowed s.nv.lifecycle code then code else 0 } } := need_eq _ rfl

/-! ### SMBus (R571, R572) -/

theorem exec_smbusWriteWord {code v : Nat} (hc : code < 256) (hv : v < 65536) (pecOk : Bool) :
    exec (.smbusWriteWord code v pecOk) s = .next (
      if pecOk = true ∧ code = 0x10 ∧ 10 ≤ v ∧ v ≤ 520 then State.emit { s with power := { s.power with limit := v } } (.smbus (some v))
      else (if pecOk then s else s.chainFail 14).emit (.smbus none)) := need_eq _ (by simp [hc, hv])

end Pins

end Sys2Proof.Machine

namespace Sys2Proof

open Machine

/-- Settles O56: a pin or a link by the state that it finds, a JTAG instruction by the life-cycle state, an SMBus access by its check byte and
the range of its value. -/
theorem pinAndBusEventsAct : Obligations.PinAndBusEventsAct := by
  refine ⟨fun s held => exec_resetNAssert_waits held, fun s held => ⟨_, exec_resetNAssert_waits held, ?assert⟩,
    fun s ⟨held, low, high⟩ => exec_resetNRise_releases held low high, fun s free => exec_resetNRise_free free,
    fun cause hc => answers_always (decide_eq_true hc) fun _ => rfl, answers_always rfl fun _ => rfl,
    answers_of_need rfl (fun _ => rfl) fun s ⟨high, clock⟩ => if_pos ⟨high, .inl clock⟩,
    answers_of_need rfl (fun _ => rfl) fun s low => if_neg (by simp [low]),
    answers_of_need rfl (fun _ => rfl) fun s up => if_pos up, answers_of_need rfl (fun _ => rfl) fun s down => if_neg (by simp [down]),
    answers_always rfl fun _ => rfl, fun code => ⟨fun s allowed => ?jtag, fun s denied => ?bypass⟩,
    answers_of_need rfl (fun _ => rfl) fun s locked => if_pos locked, answers_of_need rfl (fun _ => rfl) fun s holds => if_pos holds,
    fun code hc => ⟨answers_always (decide_eq_true hc) fun _ => rfl, answers_always (decide_eq_true hc) fun _ => rfl⟩, fun v hv => ?write⟩
  case assert =>
    have h := State.coldStart_spec { s with power := { s.power with resetN := false } } 1 2
    exact ⟨h.cause, h.held, h.resetN, h.bootStage, h.ready, h.cmds, h.comp, h.progs, h.pending⟩
  case jtag => simp only [exec_jtagInstruction, allowed, if_true]
  case bypass => simp only [exec_jtagInstruction, denied, Bool.false_eq_true, if_false]
  case write =>
    exact ⟨fun s range => (exec_smbusWriteWord (by decide) hv true).trans (congrArg _ (if_pos ⟨rfl, rfl, range⟩)),
      fun s beyond => (exec_smbusWriteWord (by decide) hv true).trans (congrArg _ (if_neg (by omega))),
      fun code hc s _ => (exec_smbusWriteWord hc hv false).trans (congrArg _ (if_neg (by simp)))⟩

end Sys2Proof

/-! ## Start-up (14): its steps in order, and recovery -/

namespace Sys2Proof

/-- A bank set at each number below `n` reads there as it was set. -/
theorem Tab.get_foldl_set_range {α : Type} (d : α) (f : Nat → α) (t : Tab α) {n q : Nat} (hq : q < n) :
    ((List.range n).foldl (fun t i => Tab.set t i (f i)) t).get d q = f q := by
  induction n with
  | zero => omega
  | succ n ih =>
    rw [List.range_succ, List.foldl_append, List.foldl_cons, List.foldl_nil, Tab.get_set]
    split
    next last => rw [last]
    next before => exact ih (by omega)

namespace Machine

/-- A queue in the resync state, with an empty window (02 R82). -/
def CmdQueue.resynced (x : CmdQueue) : CmdQueue := { x with resyncState := true, window := [] }
/-- The queues, each in the resync state. -/
def State.resyncedQueues (s : State) : Tab CmdQueue :=
  (List.range 16).foldl (fun t q => Tab.set t q (s.queue q).resynced) s.hif.queues

theorem State.resyncedQueues_get (s : State) {q : Nat} (hq : q < 16) : s.resyncedQueues.get {} q = (s.queue q).resynced := by
  rw [State.resyncedQueues, Tab.get_foldl_set_range {} (fun i => (s.queue i).resynced) _ hq]

/-- The last step of start-up with an empty journal: READY, with every queue in the resync state (R598). -/
def State.readied (s : State) : State :=
  { s with power := { s.power with bootStage := 6, ready := true }, hif := { s.hif with queues := s.resyncedQueues } }

theorem State.readied_queues (s : State) : s.readied.hif.queues = s.resyncedQueues := by rw [State.readied]

theorem State.readied_queue (s : State) {q : Nat} (hq : q < 16) : s.readied.queue q = (s.queue q).resynced := by
  rw [State.queue, State.readied_queues, State.resyncedQueues_get s hq]

theorem exec_ready_empty {s : State} (stage : s.power.bootStage = 5) (journal : s.nv.flash = []) (idle : s.hif.cmds = []) :
    exec .ready s = .next s.readied.settleUpdate := by
  have nothing : s.replay (s.nv.flash.drop s.power.replayed) = s := by rw [journal, List.drop_nil]; rfl
  refine (need_eq _ rfl).trans (congrArg _ ((if_neg (by simp [stage])).trans ?_))
  dsimp only
  rw [nothing]
  exact if_neg (by simp [idle, journal])

/-- Where REC_CTRL's GO is not ignored (R631). -/
def State.CanRecover (s : State) (v : Nat) : Prop :=
  bit v 0 = true ∧ s.power.bootStage = 7 ∧ s.upd.recBusy = false ∧
    (s.nv.lifecycle = 1 ∨ s.nv.lifecycle = 2 ∨ s.nv.lifecycle = 3)

theorem State.writeRecCtrl_starts {s : State} {v : Nat} (h : s.CanRecover v) :
    s.writeRecCtrl v = { s with upd := { s.upd with recBusy := true, recCode := 0 } } := by
  obtain ⟨go, failed, idle, life⟩ := h
  exact if_pos ⟨go, failed, by simp [idle], life⟩

/-- The code that the verification of a recovery's container ends with: 0 when it passes (R632). -/
def State.recoveryCode (s : State) (container : List Byte) : Nat :=
  s.verifyCode (fun i => (container.getD i 0).toNat) 0 container.length true true true

theorem exec_recoveryResult_runs {s : State} {container : List Byte} (busy : s.upd.recBusy = true)
    (whole : container.length = s.upd.recLen) :
    exec (.recoveryResult container) s = .next (if s.recoveryCode container = 0
      then State.coldStart { s.draw.2 with nv := (s.draw.2.nv.setBank 0 (recoveredBank container)).writeMarker 0 } (s.draw.1 % 8) 0
      else { s with upd := { s.upd with recBusy := false, recCode := s.recoveryCode container } }) :=
  (need_eq _ rfl).trans (congrArg _ (if_neg (by simp [busy, whole])))

end Machine

open Machine

/-- Settles O57: each step of start-up acts in its stage only, and hands on to the next. -/
theorem startUpGoesInOrder : Obligations.StartUpGoesInOrder := by
  refine ⟨fun s ⟨held, stage⟩ => ⟨_, (need_eq _ rfl).trans (congrArg _ (if_neg (by simp [held, stage]))), rfl, rfl, rfl⟩,
    answers_of_need rfl (fun _ => rfl) fun s notDue => if_pos notDue,
    fun s ⟨stage, life⟩ => ⟨_, (need_eq _ rfl).trans (congrArg _ (if_neg (by simp [stage, life]))), rfl, rfl, rfl, rfl⟩,
    answers_of_need rfl (fun _ => rfl) fun s notDue => if_pos notDue,
    ?training,
    fun s stage => ⟨_, (need_eq _ rfl).trans (congrArg _ (if_neg (by simp [stage]))), rfl, rfl⟩,
    answers_of_need rfl (fun _ => rfl) fun s notDue => if_pos notDue,
    ?imageSet,
    answers_of_need rfl (fun _ => rfl) fun s stage => if_pos stage,
    answers_of_need rfl (fun _ => rfl) fun s notDue => if_neg notDue,
    ?readyEmpty,
    answers_of_need rfl (fun _ => rfl) fun s notDue => if_pos notDue,
    ?recGo, ?recovery⟩
  case training =>
    intro l named
    have hok : l.all (fun e => isChannel e.1 && e.2.1 < 3) = true := by simpa using named
    exact ⟨fun s stage => ⟨_, (need_eq _ hok).trans (congrArg _ (if_neg (by simp [stage]))), rfl, rfl⟩,
      answers_of_need hok (fun _ => rfl) fun s notDue => if_pos notDue⟩
  case imageSet =>
    intro b hb
    have hok : decide (b < 2) = true := decide_eq_true hb
    exact ⟨fun s ⟨stage, valid, active⟩ =>
        ⟨_, (need_eq _ hok).trans (congrArg _ (if_neg (by simp [stage, valid, ← active]))), rfl, rfl, rfl, rfl⟩,
      answers_of_need hok (fun _ => rfl) fun s invalid => if_pos (by simp [invalid])⟩
  case readyEmpty =>
    intro s ⟨stage, journal, idle⟩
    refine ⟨_, exec_ready_empty stage journal idle, s.readied, rfl, rfl, rfl, fun q hq => ?_⟩
    rw [State.readied_queue s hq]
    exact ⟨rfl, rfl⟩
  case recGo =>
    intro v hv
    have hok : decide (v < two32) = true := decide_eq_true hv
    exact ⟨answers_of_need hok (fun _ => rfl) fun s can => State.writeRecCtrl_starts can,
      answers_of_need hok (fun _ => rfl) fun s notFailed => if_neg fun can => notFailed can.2.1⟩
  case recovery =>
    intro container
    exact ⟨fun s ⟨⟨busy, whole⟩, fails⟩ => (exec_recoveryResult_runs busy whole).trans (congrArg _ (if_neg fails)),
      fun s ⟨⟨busy, whole⟩, passes⟩ => (exec_recoveryResult_runs busy whole).trans (congrArg _ (if_pos passes))⟩

end Sys2Proof

/-! ## Warm resets, pairs of management cores and SRAM errors (14, 11) -/

namespace Sys2Proof.Machine

open Sys2Proof

/-! ### Pairs (14 R596) -/

/-- The two pairs of management cores. -/
theorem State.pairIn_lt {s : State} {v p : Nat} (h : s.pairIn v = some p) : p = 0 ∨ p = 1 := by
  simpa using List.mem_of_find?_eq_some h

theorem State.pairState_setPair (s : State) (v : Nat) {p j : Nat} (hp : p = 0 ∨ p = 1) (hj : j = 0 ∨ j = 1) :
    (s.setPair p v).pairState j = if j = p then v else s.pairState j := by
  obtain rfl | rfl := hp <;> obtain rfl | rfl := hj <;> rfl

theorem State.pairState_congr {s t : State} (h : t.power = s.power) (p : Nat) : t.pairState p = s.pairState p := by
  simp only [State.pairState, h]
@[simp] theorem State.setPair_pairTest (s : State) (p v : Nat) : (s.setPair p v).power.pairTest = s.power.pairTest := by
  unfold State.setPair
  split <;> rfl
@[simp] theorem State.setPair_upd (s : State) (p v : Nat) : (s.setPair p v).upd = s.upd := by
  unfold State.setPair
  split <;> rfl
@[simp] theorem State.rerun_power (s : State) : s.rerun.power = s.power := rfl

/-- A frozen pair is under self-test, and no other changes. -/
theorem State.pairState_freezePair (s : State) (cause : Nat) {p j : Nat} (hp : p = 0 ∨ p = 1) (hj : j = 0 ∨ j = 1) :
    (s.freezePair p cause).pairState j = if j = p then 2 else s.pairState j := by
  rw [← State.pairState_setPair s 2 hp hj]
  exact State.pairState_congr (State.raise_power _ _ _ _ _) j
theorem State.freezePair_pairTest (s : State) (p cause : Nat) : (s.freezePair p cause).power.pairTest = some p := by
  unfold State.freezePair
  rw [State.raise_power]

/-- The standby takes command authority from a faulty pair (R596). -/
def State.handOver (s : State) (p cause : Nat) : State := ((s.freezePair p cause).setPair (1 - p) 0).rerun

theorem State.handOver_spec (s : State) (cause : Nat) {p : Nat} (hp : p = 0 ∨ p = 1) :
    (s.handOver p cause).pairState (1 - p) = 0 ∧ (s.handOver p cause).pairState p = 2 ∧ (s.handOver p cause).power.pairTest = some p := by
  have hq : 1 - p = 0 ∨ 1 - p = 1 := by omega
  have other : p ≠ 1 - p := by omega
  have states (j : Nat) (hj : j = 0 ∨ j = 1) :
      (s.handOver p cause).pairState j = if j = 1 - p then 0 else (s.freezePair p cause).pairState j :=
    (State.pairState_congr (State.rerun_power _) j).trans (State.pairState_setPair _ 0 hq hj)
  refine ⟨(states _ hq).trans (if_pos rfl), ?_, ?_⟩
  · rw [states p hp, if_neg other, State.pairState_freezePair s cause hp hp, if_pos rfl]
  · exact (State.setPair_pairTest _ _ _).trans (State.freezePair_pairTest s p cause)

section PairFault

variable {s : State} {p cause : Nat} (active : s.pairIn 0 = some p)

include active

theorem State.pairFault_standby (ready : s.pairState (1 - p) = 1) (idle : s.upd.state = 0) :
    s.pairFault cause = s.handOver p cause := by
  simp only [State.pairFault, active, idle, ready]
  rfl
theorem State.pairFault_last (alone : s.pairState (1 - p) ≠ 1) (unstaged : ¬(3 ≤ s.upd.state ∧ s.upd.state ≤ 5)) :
    s.pairFault cause = s.coldStart 6 0 := by
  simp only [State.pairFault, active, if_neg alone, if_neg unstaged]

end PairFault

theorem exec_mcPairFault_runs {s : State} {cause : Nat} (hc : cause < 2) (awake : s.power.warm = false) (released : s.power.held = 0)
    (started : 4 ≤ s.power.bootStage) : exec (.mcPairFault cause) s = .next (s.pairFault cause) :=
  (need_eq _ (decide_eq_true hc)).trans (congrArg _ (if_neg (by simp [awake, released]; omega)))

/-! ### The end of a warm reset (R593) -/

/-- `t` has staged what `s` has staged, and the power part is the same. -/
def State.SameStage (s t : State) : Prop := t.power = s.power ∧ t.hif.evStaged = s.hif.evStaged

section SameStage

variable {s t u : State}

theorem State.SameStage.refl (s : State) : s.SameStage s := ⟨rfl, rfl⟩
theorem State.SameStage.trans (a : s.SameStage t) (b : t.SameStage u) : s.SameStage u := ⟨b.1.trans a.1, b.2.trans a.2⟩
theorem State.foldl_sameStage {α : Type} {f : State → α → State} (h : ∀ (s : State) a, s.SameStage (f s a)) (l : List α) (s : State) :
    s.SameStage (l.foldl f s) :=
  List.foldlRecOn l f (.refl s) fun _ ht a _ => ht.trans (h _ a)

theorem State.raiseMsix_sameStage (s : State) (v : Nat) : s.SameStage (s.raiseMsix v) := by
  unfold State.raiseMsix
  split <;> exact ⟨rfl, rfl⟩
theorem State.eventDatagram_sameStage (s : State) (e : EventRec) : s.SameStage (s.eventDatagram e) := by
  unfold State.eventDatagram
  split <;> exact ⟨rfl, rfl⟩
theorem State.writeEvent_sameStage (s : State) (e : EventRec) : s.SameStage (s.writeEvent e) := by
  have sent := s.eventDatagram_sameStage e
  unfold State.writeEvent
  split
  · split
    · exact ⟨rfl, rfl⟩
    · dsimp only
      split
      · exact State.SameStage.trans ⟨sent.1, sent.2⟩ (State.raiseMsix_sameStage _ _)
      · exact ⟨sent.1, sent.2⟩
  · exact sent
theorem State.writeReply_sameStage (s : State) (q : Nat) (dst : ReplyTo) (l : List Byte) : s.SameStage (s.writeReply q dst l) := by
  unfold State.writeReply
  split
  · exact ⟨rfl, rfl⟩
  · dsimp only
    split
    · exact State.SameStage.trans ⟨rfl, rfl⟩ (State.raiseMsix_sameStage _ _)
    · exact ⟨rfl, rfl⟩
theorem State.reply_sameStage (s : State) (q : Nat) (dst : ReplyTo) (l : List Byte) : s.SameStage (s.reply q dst l) := by
  unfold State.reply
  split
  · exact ⟨rfl, rfl⟩
  · exact State.writeReply_sameStage _ _ _ _
theorem State.flushAll_sameStage (s : State) : s.SameStage s.flushAll := by
  refine State.foldl_sameStage (fun s q => ?_) _ s
  unfold State.flushHeld
  split
  · exact .refl s
  · exact State.SameStage.trans ⟨rfl, rfl⟩ (State.foldl_sameStage (fun s e => State.reply_sameStage _ _ _ _) _ _)
theorem State.applyRebind_sameStage (s : State) (q : Nat) : s.SameStage (s.applyRebind q) := by
  unfold State.applyRebind
  split <;> exact ⟨rfl, rfl⟩
/-- The outcome of a command raises no event. -/
theorem State.complete_sameStage (s : State) (c : Cmd) (status detail : Nat) : s.SameStage (s.complete c status detail) := by
  unfold State.complete
  dsimp only
  have dropped (q seq : Nat) : s.SameStage (if status = 5
      then { s.dropCmd q seq with nv := { (s.dropCmd q seq).nv with flash := flashDone (s.dropCmd q seq).nv.flash q seq } }
      else s.dropCmd q seq) := by
    split <;> exact ⟨rfl, rfl⟩
  have answered (t : State) (q : Nat) (f : CmdQueue → CmdQueue) (silent : Prop) [Decidable silent] (dst : ReplyTo) (l : List Byte) :
      t.SameStage (if silent then t.modQueue q f else ((t.modQueue q f).release q 1).reply q dst l) := by
    split
    · exact ⟨rfl, rfl⟩
    · exact State.SameStage.trans ⟨rfl, rfl⟩ (State.reply_sameStage _ _ _ _)
  split
  · exact ((dropped c.q c.seq).trans (answered _ c.q _ _ _ _)).trans (State.applyRebind_sameStage _ _)
  · exact (dropped c.q c.seq).trans (answered _ c.q _ _ _ _)
theorem State.completeOpt_sameStage (s : State) (id : Option (Nat × Nat)) (status detail : Nat) :
    s.SameStage (s.completeOpt id status detail) := by
  unfold State.completeOpt State.completeId
  split
  · exact .refl s
  · split
    · exact .refl s
    · exact State.complete_sameStage _ _ _ _

end SameStage

/-- The device as a warm reset leaves it, before what was held is written. -/
def State.awoken (s : State) : State :=
  State.rerun { s with power := { s.power.pairsRun with warm := false, warmCmd := none }, hif := { s.hif with evStaged := [] } }
/-- A warm reset has ended. -/
def State.warmEnded (s : State) : State :=
  ((s.hif.evStaged.foldl State.writeEvent s.awoken).flushAll).completeOpt s.power.warmCmd 2 0

theorem State.warmEnded_sameStage (s : State) : s.awoken.SameStage s.warmEnded :=
  ((State.foldl_sameStage State.writeEvent_sameStage _ _).trans (State.flushAll_sameStage _)).trans
    (State.completeOpt_sameStage _ _ _ _)
theorem exec_warmResetEnd_warm {s : State} (warm : s.power.warm = true) : exec .warmResetEnd s = .next s.warmEnded :=
  (need_eq _ rfl).trans (congrArg _ (if_pos warm))

/-! ### A unit's fault leaves the alerts alone (05 R249–R252) -/

section Alerts

variable (s : State)

@[simp] theorem State.trace_power (decision : Nat) (k : OpKey) (kind unit retired : Nat) :
    (s.trace decision k kind unit retired).power = s.power := by
  unfold State.trace
  dsimp only
  split <;> rfl
@[simp] theorem State.traceUnit_power (decision : Nat) (k : OpKey) (u : Nat) : (s.traceUnit decision k u).power = s.power :=
  State.trace_power _ _ _ _ _ _
@[simp] theorem State.traceIdle_power (decision kind unit retired : Nat) : (s.traceIdle decision kind unit retired).power = s.power := by
  unfold State.traceIdle
  dsimp only
  split <;> rfl
@[simp] theorem State.traceSwap_power (u sp : Nat) : (s.traceSwap u sp).power = s.power := State.traceIdle_power _ _ _ _ _
@[simp] theorem State.failOpt_power (id : Option (Nat × Nat)) (status detail : Nat) : (s.failOpt id status detail).power = s.power := by
  unfold State.failOpt State.fail
  split
  · rfl
  · rw [State.complete_power]
    split
    · exact State.raise_power _ _ _ _ _
    · rfl
@[simp] theorem State.returnOp_power (k : OpKey) (raised : Bool) : (s.returnOp k raised).power = s.power := by
  have kept : (s.savePack k raised).power = s.power := by
    unfold State.savePack
    split
    · split <;> rfl
    · rfl
  exact kept
@[simp] theorem State.retireUnit_power (u : Nat) : (s.retireUnit u).power = s.power := rfl
@[simp] theorem State.modOp_power (k : OpKey) (f : Op → Op) : (s.modOp k f).power = s.power := rfl
@[simp] theorem State.deliver_power (k : OpKey) (u : Nat) : (s.deliver k u).power = s.power := rfl
@[simp] theorem State.loseUnit_power (u : Nat) : (s.loseUnit u).power = s.power := State.raise_power _ _ _ _ _
@[simp] theorem State.unpermit_alert (p : Permit → Bool) : (s.unpermit p).power.alert = s.power.alert := rfl
@[simp] theorem State.bringIn_alert (u sp : Nat) : (s.bringIn u sp).power.alert = s.power.alert := rfl

theorem State.unitFault_alert (u cause : Nat) : (s.unitFault u cause).power.alert = s.power.alert := by
  unfold State.unitFault
  by_cases inService : (s.unit u).state = 0
  · cases spare : s.spareOf u with
    | none => cases runs : (s.unit u).op <;> simp [inService, runs]
    | some sp => cases runs : (s.unit u).op <;> simp [inService, runs]
  · cases runs : (s.unit u).op <;> simp [inService, runs]

end Alerts

theorem State.alertBit_bit (s : State) (n : Nat) : bit (s.alertBit n).power.alert n = true := by
  have stands : (s.alertBit n).power.alert = s.power.alert ||| 2 ^ n := by
    unfold State.alertBit State.setAlert
    dsimp only
    split <;> rfl
  simp [stands, bit]

/-! ### SRAM errors (11 R506), and what asks for its permit (R580) -/

/-- An SRAM error of more than 2 bits, counted for its hand-off and posted. -/
def State.sramPosted (s : State) (sram : Nat) : State :=
  (if 10 ≤ Config.sramHandOff sram ∧ Config.sramHandOff sram ≤ 12 then s.chainFail (Config.sramHandOff sram) else s).raise
    0x0808 deviceId sram 0xFFFFFFFF
theorem sramEccError_unit {s : State} {sram u n : Nat} (hs : sram < two32) (many : 2 < n) (hu : isUnit u = true)
    (serving : (s.unit u).state ≠ 2) :
    exec (.sramEccError sram u n) s = .next (((s.sramPosted sram).alertBit 4).unitFault u 0) := by
  refine (need_eq _ (decide_eq_true hs)).trans (congrArg _ ((if_neg (by omega)).trans ?_))
  exact (if_pos hu).trans (if_neg serving)

theorem State.recalibrate_permitted {s : State} {lane : Nat} (rests : lane ∉ s.power.recal)
    (permitted : s.permitRefusal [lanePermit lane] = none) :
    s.recalibrate lane = { s.grant [lanePermit lane] with power := { (s.grant [lanePermit lane]).power with
      recal := s.power.recal ++ [lane], recalWaiting := s.power.recalWaiting.filter (fun l => l != lane) } } := by
  unfold State.recalibrate
  rw [if_neg (by simpa using rests)]
  simp only [permitted]
theorem State.compact_permitted {s : State} (permitted : s.permitRefusal [flashPermit deviceId 0] = none) :
    s.compact = { s with
      nv := { s.nv with flash := s.nv.flash.filter (fun r => !r.done) }, power := { s.power with compactWaiting := false } } := by
  unfold State.compact
  simp only [permitted]

end Sys2Proof.Machine

namespace Sys2Proof

open Machine

/-- Settles O58: each event acts by the state of the pair, the unit or the permit that it names. -/
theorem pairAndSramEventsAct : Obligations.PairAndSramEventsAct := by
  refine ⟨answers_always rfl fun _ => rfl, ?warmStarts, fun s warm => exec_warmResetEnd_warm warm, ?warmEnds,
    answers_of_need rfl (fun _ => rfl) fun s awake => if_neg (by simp [awake]), ?pairFaults, ?selfTests, ?parity, ?ecc, ?lanes,
    ?compaction, ?retries⟩
  case warmStarts =>
    intro s ⟨ready, awake, settled⟩
    have goes : ¬((!s.power.ready) = true ∨ s.power.warm = true) := by simp [ready, awake]
    have unstaged : ¬(3 ≤ s.upd.state ∧ s.upd.state ≤ 5) := by omega
    have unconfirmed : ¬s.upd.state = 6 := by omega
    refine ⟨_, (need_eq _ rfl).trans (congrArg _ (if_neg goes)), ?_⟩
    simp only [if_neg unstaged, if_neg unconfirmed, Option.getD_some, and_self]
  case warmEnds =>
    intro s warm
    obtain ⟨power, staged⟩ := s.warmEnded_sameStage
    exact ⟨_, exec_warmResetEnd_warm warm, by rw [power]; rfl, by rw [power]; rfl, staged⟩
  case pairFaults =>
    intro cause hc
    refine ⟨fun s ⟨awake, released, started⟩ => exec_mcPairFault_runs hc awake released started, ?standby, ?last,
      answers_of_need (decide_eq_true hc) (fun _ => rfl) fun s warm => if_pos (.inl warm)⟩
    case standby =>
      intro p s ⟨awake, released, started, active, standby, idle⟩
      refine ⟨_, exec_mcPairFault_runs hc awake released started, ?_⟩
      rw [State.pairFault_standby active standby idle]
      exact s.handOver_spec cause (State.pairIn_lt active)
    case last =>
      intro p s ⟨awake, released, started, active, alone, unstaged⟩
      refine ⟨_, exec_mcPairFault_runs hc awake released started, ?_⟩
      rw [State.pairFault_last active alone unstaged]
      have cold := s.coldStart_spec 6 0
      exact ⟨cold.cause, cold.bootStage, cold.ready, cold.cmds⟩
  case selfTests =>
    intro p
    exact ⟨answers_of_need rfl (fun _ => rfl) fun s tested => by simp [tested],
      answers_of_need rfl (fun _ => rfl) fun s tested => by simp [tested]⟩
  case parity =>
    intro u hu
    have second : Answers (.sramParityError u true) (fun s => (s.unit u).state ≠ 2) (fun s => (s.chainFail 5).unitFault u 0) :=
      answers_of_need hu (fun _ => rfl) fun s serving => if_pos ⟨rfl, serving⟩
    exact ⟨second, fun s serving => ⟨_, second s serving, State.unitFault_retired _ u 0⟩,
      answers_of_need hu (fun _ => rfl) fun s _ => if_neg (by simp)⟩
  case ecc =>
    intro sram u n hs
    have hok : decide (sram < two32) = true := decide_eq_true hs
    have posted := fun (s : State) (h : 2 < n ∧ isUnit u = true ∧ (s.unit u).state ≠ 2) => sramEccError_unit hs h.1 h.2.1 h.2.2
    refine ⟨answers_of_need hok (fun _ => rfl) fun s few => if_pos few, posted, fun s h => ⟨_, posted s h, ?_⟩⟩
    obtain ⟨retired, stopped⟩ := State.unitFault_retired ((s.sramPosted sram).alertBit 4) u 0
    refine ⟨retired, stopped, ?_⟩
    exact (congrArg (bit · 4) (State.unitFault_alert _ u 0)).trans (State.alertBit_bit _ 4)
  case lanes =>
    intro lane hl
    exact ⟨answers_of_need hl (fun _ => rfl) fun s runs => if_pos (List.contains_iff_mem.mpr runs),
      answers_of_need hl (fun _ => rfl) fun s ⟨rests, permitted⟩ => State.recalibrate_permitted rests permitted,
      answers_always hl fun _ => rfl⟩
  case compaction =>
    exact answers_of_need rfl (fun _ => rfl) fun s ⟨freed, ready, permitted⟩ =>
      (if_pos ⟨freed, ready⟩).trans (State.compact_permitted permitted)
  case retries =>
    intro h
    exact ⟨answers_of_need rfl (fun _ => rfl) fun s waits => if_pos (List.contains_iff_mem.mpr waits),
      answers_of_need rfl (fun _ => rfl) fun s waits => if_pos waits,
      answers_of_need rfl (fun _ => rfl) fun s waits => if_pos (List.contains_iff_mem.mpr waits),
      answers_of_need rfl (fun _ => rfl) fun s waits => if_pos waits,
      answers_of_need rfl (fun _ => rfl) fun s ⟨waits, permitted⟩ => (if_pos waits).trans (State.compact_permitted permitted)⟩

end Sys2Proof

/-! ## Field update (15): the events of an update -/

namespace Sys2Proof.Machine

open Sys2Proof

/-! ### What leaves the update alone -/

section UpdateKept

variable (s : State)

theorem State.HostOnly.upd {s t : State} (a : s.HostOnly t) : t.upd = s.upd := by
  obtain ⟨h, o, rfl⟩ := a
  rfl
theorem State.TetherOnly.upd {s t : State} (a : s.TetherOnly t) : t.upd = s.upd := by
  obtain ⟨b, w, o, f, rfl⟩ := a
  rfl
theorem State.StartOnly.upd {s t : State} (a : s.StartOnly t) : t.upd = s.upd := by
  obtain ⟨h, b, w, o, f, rfl⟩ := a
  rfl
theorem State.PageOnly.upd {s t : State} (a : s.PageOnly t) : t.upd = s.upd := by
  obtain ⟨m, o, h, l, f, rfl, -⟩ := a
  rfl
theorem State.foldl_upd {α : Type} {f : State → α → State} (h : ∀ (s : State) a, (f s a).upd = s.upd) (l : List α) (s : State) :
    (l.foldl f s).upd = s.upd :=
  List.foldlRecOn (motive := fun t => t.upd = s.upd) l f rfl fun _ ht a _ => (h _ a).trans ht
@[simp] theorem State.ite_upd (c : Prop) [Decidable c] (a b : State) : (if c then a else b).upd = if c then a.upd else b.upd :=
  apply_ite State.upd c a b

@[simp] theorem State.completeOpt_upd (id : Option (Nat × Nat)) (status detail : Nat) :
    (s.completeOpt id status detail).upd = s.upd := by
  unfold State.completeOpt
  split
  · rfl
  · exact State.completeId_upd _ _ _ _
@[simp] theorem State.fail_upd (c : Cmd) (status detail : Nat) : (s.fail c status detail).upd = s.upd := by
  unfold State.fail
  rw [State.complete_upd]
  split
  · exact State.raise_upd _ _ _ _ _
  · rfl
@[simp] theorem State.commitNote_upd (c : Cmd) (kind value tb status detail : Nat) :
    (s.commitNote c kind value tb status detail).upd = s.upd := (s.commitNote_startOnly c kind value tb status detail).upd

/-! ### Uploads and loads (06 R217, R228) -/

@[simp] theorem State.kickUpload_upd (i : Nat) : (s.kickUpload i).upd = s.upd := by
  unfold State.kickUpload
  split
  · rfl
  · dsimp only
    split
    · rfl
    · split
      · exact State.complete_upd ..
      · rfl
@[simp] theorem State.kickLoad_upd (k : Nat) : (s.kickLoad k).upd = s.upd := by
  unfold State.kickLoad
  split
  · rfl
  · split <;> rfl
@[simp] theorem State.leaveFallback_upd (i g : Nat) : (s.leaveFallback i g).upd = s.upd := by
  unfold State.leaveFallback
  dsimp only
  split
  · exact State.raise_upd _ _ _ _ _
  · rfl
@[simp] theorem State.endUploads_upd (i : Nat) : (s.endUploads i).upd = s.upd :=
  State.foldl_upd (fun s c => State.complete_upd s c 5 0) _ _
@[simp] theorem State.releaseSlot_upd (owner slot : Nat) : (s.releaseSlot owner slot).upd = s.upd := rfl
@[simp] theorem State.reslot_upd (owner slot slot' : Nat) : (s.reslot owner slot slot').upd = s.upd := rfl
@[simp] theorem State.publishLayer_upd (i : Nat) (cfg : LayerCfg) (pair : Option GfxBuf) (slot : Nat) (upload : Bool) (g : Nat) :
    (s.publishLayer i cfg pair slot upload g).upd = s.upd := by
  simp [State.publishLayer]
@[simp] theorem State.finish_upd (c : Cmd) (detail : Nat) : (s.finish c detail).upd = s.upd := by
  unfold State.finish
  split
  · rfl
  · exact State.ok_upd _ _ _
@[simp] theorem effLayerUpload_upd (c : Cmd) : (effLayerUpload c s).upd = s.upd := by
  simp [effLayerUpload]
@[simp] theorem effLampTableLoad_upd (c : Cmd) : (effLampTableLoad c s).upd = s.upd := by
  unfold effLampTableLoad
  dsimp only
  split
  · exact State.finish_upd _ _ _
  · exact State.finish_upd _ _ _
@[simp] theorem State.armClearing_upd (c : Cmd) (k : Nat) : (s.armClearing c k).upd = s.upd := State.commitNote_upd _ _ _ _ _ _ _
@[simp] theorem State.uploadArrived_upd (layer : Nat) (data : List Byte) : (s.uploadArrived layer data).upd = s.upd := by
  unfold State.uploadArrived
  dsimp only
  split
  · split
    · split <;> simp
    · simp
  · rfl
@[simp] theorem State.lampArrived_upd (canopy : Nat) (entries : List (Nat × Nat)) : (s.lampArrived canopy entries).upd = s.upd := by
  have loaded (r : Tab LampRegion) : (r.foldl (fun s e => State.writeRegion s e.1 e.2) s).upd = s.upd := (s.takeLoad_pageOnly r).upd
  unfold State.lampArrived
  split
  · rfl
  · simp [loaded]

/-! ### The devices of a twin part (10 R450, R460) -/

@[simp] theorem State.dataVerified_upd (b : EpochBuf) : (s.dataVerified b).upd = s.upd := by
  unfold State.dataVerified
  split
  · rfl
  · simp [State.beginWrite]
@[simp] theorem State.abandonEpochs_upd : s.abandonEpochs.upd = s.upd := by
  unfold State.abandonEpochs
  exact State.foldl_upd State.dataVerified_upd _ _
@[simp] theorem State.writeAccept_upd (c : Cmd) : (s.writeAccept c).upd = s.upd := by
  unfold State.writeAccept
  split
  · rfl
  · exact (State.reply_hostOnly _ _ _ _).upd
@[simp] theorem State.endAborted_upd (c : Cmd) : (s.endAborted c).upd = s.upd := by
  simp [State.endAborted, State.kickAfter]
@[simp] theorem State.tryAccepts_upd : s.tryAccepts.upd = s.upd := by
  refine State.foldl_upd (fun s c => ?_) _ s
  unfold State.tryAccept
  split
  · rfl
  · simp
@[simp] theorem State.sendRole_upd (term kind : Nat) : (s.sendRole term kind).upd = s.upd := (s.tetherSend_tetherOnly _ _).upd
@[simp] theorem State.muteAll_upd : s.muteAll.upd = s.upd := rfl
@[simp] theorem State.unmuteAll_upd : s.unmuteAll.upd = s.upd := rfl
/-- Leaving the twin is no matter of the update. -/
@[simp] theorem State.leave_upd : s.leave.upd = s.upd := by
  simp [State.leave]

/-! ### Pairs and what they re-run -/

@[simp] theorem State.setPair_nv (p v : Nat) : (s.setPair p v).nv = s.nv := by
  unfold State.setPair
  split <;> rfl
@[simp] theorem State.swapPairs_upd : s.swapPairs.upd = s.upd := by
  unfold State.swapPairs
  split
  · simp
  · rfl

end UpdateKept

/-! ### The download (15 R609) -/

theorem NonVol.bank_setBank (n : NonVol) (i : Nat) (b : Bank) : (n.setBank i b).bank i = b := by
  unfold NonVol.setBank NonVol.bank
  split <;> simp [*]
theorem NonVol.activeBank_setBank (n : NonVol) (i : Nat) (b : Bank) : (n.setBank i b).activeBank = n.activeBank := by
  unfold NonVol.setBank
  split <;> rfl

/-! ### Verification and staging (R611, R612) -/

/-- The code that the verification of the download ends with: 0 when it passes. -/
def State.downloadCode (s : State) (readBackOk : Bool) : Nat :=
  s.verifyCode s.download.rd s.download.format s.download.total s.download.whole readBackOk false

theorem exec_verificationResult_runs {s : State} (ok : Bool) (verifying : s.upd.state = 2) (pending : s.upd.cancelPending = false) :
    exec (.verificationResult ok) s = .next (if s.downloadCode ok = 0 then s.beginStaging
      else State.failOpt { s with upd := { s.upd with state := 0, lastResult := 4, code := s.downloadCode ok, verifyCmd := none } }
        s.upd.verifyCmd 0x0303 (s.downloadCode ok)) :=
  (need_eq _ rfl).trans (congrArg _ ((if_neg (not_not.2 verifying)).trans (if_neg (by simp [pending]))))

/-- The verified download is staged on the standby pair, which restarts. -/
structure State.Staging (s t : State) : Prop where
  state : t.upd.state = 3
  stagedSet : t.upd.stagedSet =
    some (setVersionOf s.download.rd s.download.format, secVersionOf s.download.rd s.download.format)
  verified : t.download.verified = true
  restarts : ∀ p, s.pairIn 1 = some p → t.pairState p = 2

theorem State.beginStaging_spec (s : State) : s.Staging s.beginStaging := by
  unfold State.beginStaging
  dsimp only
  split
  · next p standby =>
    have standby' : s.pairIn 1 = some p := standby
    refine ⟨by rw [State.setPair_upd], by rw [State.setPair_upd], ?_, fun p' h => ?_⟩
    · simp only [State.download, State.inactive, State.setPair_nv, State.modDownload, NonVol.activeBank_setBank,
        NonVol.bank_setBank]
    · obtain rfl : p' = p := Option.some_inj.mp (h.symm.trans standby')
      have hp := State.pairIn_lt h
      rw [State.pairState_setPair _ 2 hp hp, if_pos rfl]
  · next alone =>
    have alone' : s.pairIn 1 = none := alone
    refine ⟨rfl, rfl, ?_, fun p h => by simp [alone'] at h⟩
    simp only [State.download, State.inactive, State.modDownload, NonVol.activeBank_setBank, NonVol.bank_setBank]

theorem exec_stagingComplete_stages {s : State} (staging : s.upd.state = 3) :
    exec .stagingComplete s = .next (State.completeOpt
      { s.pairBack with upd := { s.upd with state := 4, verifyCmd := none, phyStaged := true } } s.upd.verifyCmd 2 0) :=
  (need_eq _ rfl).trans (congrArg _ (if_pos staging))

/-! ### The confirm window (R616–R620) -/

theorem exec_selfTestResult_none {s : State} (window : s.upd.state = 6) :
    exec (.selfTestResult []) s = .next (State.tryConfirm { s with upd := { s.upd with selfTestPassed := true } } 255) :=
  (need_eq _ rfl).trans (congrArg _ (if_neg (not_not.2 window)))
theorem exec_startChecksComplete_window {s : State} (window : s.upd.state = 6) :
    exec .startChecksComplete s = .next (State.tryConfirm { s with upd := { s.upd with startChecks := true } } 255) :=
  (need_eq _ rfl).trans (congrArg _ (if_pos window))
theorem State.tryConfirm_untested {s : State} (q : Nat) (h : s.upd.selfTestPassed = false ∨ s.upd.startChecks = false) :
    s.tryConfirm q = s :=
  if_neg fun all => by
    obtain ⟨-, -, tested, checked, -⟩ := all
    simp [tested, checked] at h
theorem exec_confirmWindowExpiry_window {s : State} (window : s.upd.state = 6) :
    exec .confirmWindowExpiry s = .next ((s.reach (s.upd.aAt + s.upd.window * 1000000000)).decideFallback 1) :=
  (need_eq _ rfl).trans (congrArg _ (if_pos window))

/-- The update part after a fallback to the set of the active bank of `s`. -/
structure State.FellBack (s : State) (u : Update) : Prop where
  state : u.state = 0
  lastResult : u.lastResult = 2
  fallbackAt : u.fallbackAt = none
  slot : u.slot = 1 - s.upd.slot
  stagedSet : u.stagedSet = none
  fwConfirmed : u.fwConfirmed = true
  fwBank : u.fwBank = s.nv.activeBank

theorem State.fallBack_spec (s : State) (cause : Nat) : s.FellBack (s.fallBack cause).upd := by
  unfold State.fallBack
  dsimp only
  rw [State.ite_upd, State.leave_upd, ite_self, State.raise_upd]
  constructor <;> rfl

theorem exec_fallbackInstant_due {s : State} {b cause : Nat} (due : s.upd.fallbackAt = some (b, cause)) :
    exec .fallbackInstant s = .next (State.completeOpt
      { (s.reach b).fallBack cause with upd := { ((s.reach b).fallBack cause).upd with cancelCmd := none } } s.upd.cancelCmd 2 0) := by
  refine (need_eq _ rfl).trans (congrArg _ ?_)
  simp only [due]

/-! ### Flash writes (R610, 17 R663, R668) -/

theorem State.writeData_dataCmd (s : State) (off : Nat) (l : List Byte) : (s.writeData off l).2.upd.dataCmd = s.upd.dataCmd := by
  unfold State.writeData
  dsimp only
  split <;> rfl
theorem State.endUpdateData_dataCmd (s : State) (c : Cmd) : (s.endUpdateData c).upd.dataCmd = s.upd.dataCmd := by
  refine Eq.trans ?_ (s.writeData_dataCmd (c.u 0 4) c.updateBytes)
  unfold State.endUpdateData
  dsimp only
  split <;> simp
theorem State.findCmd_fail (s : State) (c : Cmd) (status detail : Nat) : (s.fail c status detail).findCmd c.q c.seq = none :=
  State.findCmd_complete ..
theorem State.endUpdateData_findCmd (s : State) (c : Cmd) : (s.endUpdateData c).findCmd c.q c.seq = none := by
  unfold State.endUpdateData
  dsimp only
  split
  · exact State.findCmd_complete ..
  · exact State.findCmd_fail ..

/-- The UPDATE_DATA whose bytes flash takes at present. -/
def State.WritesFlash (s : State) (id : Nat × Nat) (c : Cmd) : Prop :=
  s.upd.dataCmd = some id ∧ s.findCmd id.1 id.2 = some c ∧ c.phase = .committed

theorem exec_flashWriteEnd_data {s : State} {id : Nat × Nat} {c : Cmd} (ok : Bool) (h : s.WritesFlash id c) :
    exec (.flashWriteEnd ok) s = .next
      (if ok then State.endUpdateData { s with upd := { s.upd with dataCmd := none } } c else s.chainFail 12) := by
  obtain ⟨writes, found, committed⟩ := h
  refine (need_eq _ rfl).trans (congrArg _ ?_)
  simp [writes, found, committed, Option.filter]

end Sys2Proof.Machine

namespace Sys2Proof

open Machine

/-- Settles O59: each event of an update acts in its state only. -/
theorem updateEventsAct : Obligations.UpdateEventsAct := by
  refine ⟨?verification, ?staging, ?stagingEnds, fun s staging => exec_stagingComplete_stages staging,
    answers_of_need rfl (fun _ => rfl) fun s other => if_neg other,
    answers_of_need rfl (fun _ => rfl) fun s unscheduled => if_pos (by simp [unscheduled]), ?activates,
    fun s window => exec_selfTestResult_none window, ?selfTestElsewhere, ?selfTestFirst, ?startChecksFirst,
    fun s window => exec_startChecksComplete_window window, fun s window => exec_confirmWindowExpiry_window window,
    fun s window => ⟨_, exec_confirmWindowExpiry_window window, rfl, rfl⟩,
    answers_of_need rfl (fun _ => rfl) fun s other => if_neg other, ?fallsBack, fun b cause s due => exec_fallbackInstant_due due,
    answers_of_need rfl (fun _ => rfl) fun s confirmed => if_pos confirmed,
    answers_of_need rfl (fun _ => rfl) fun s other => if_neg fun confirmed => other confirmed.1,
    ?restored, fun id c s h => exec_flashWriteEnd_data false h, ?settingRepeats, fun id c s h => exec_flashWriteEnd_data true h,
    ?dataEnds, ?settingEnds⟩
  case verification =>
    intro ok
    exact ⟨answers_of_need rfl (fun _ => rfl) fun s other => if_pos other,
      fun s ⟨verifying, pending, passes⟩ => (exec_verificationResult_runs ok verifying pending).trans (congrArg _ (if_pos passes)),
      fun s ⟨verifying, pending, fails⟩ => (exec_verificationResult_runs ok verifying pending).trans (congrArg _ (if_neg fails))⟩
  case staging =>
    intro s ⟨verifying, pending, passes⟩
    have staged := s.beginStaging_spec
    exact ⟨_, (exec_verificationResult_runs true verifying pending).trans (congrArg _ (if_pos passes)), staged.state,
      staged.stagedSet, staged.verified, staged.restarts⟩
  case stagingEnds =>
    intro s staging
    refine ⟨_, exec_stagingComplete_stages staging, by rw [State.completeOpt_upd], by rw [State.completeOpt_upd], fun id waits => ?_⟩
    rw [waits]
    exact State.completeId_findCmd _ id.1 id.2 2 0
  case activates =>
    intro a v sec s ⟨scheduled, state, staged, alone⟩
    have due : ¬s.upd.a.isNone = true := by simp [scheduled]
    have state' : (s.reach s.upd.aAt).upd.state = 5 := by rw [State.reach_upd, state]
    have staged' : (s.reach s.upd.aAt).upd.stagedSet.getD (0, 0) = (v, sec) := by rw [State.reach_upd, staged]; rfl
    refine ⟨_, (need_eq _ rfl).trans (congrArg _ ((if_neg due).trans (if_pos state'))), ?_⟩
    simp only [staged', alone]
    exact ⟨_, rfl, rfl, rfl, rfl, rfl, rfl, rfl, rfl, rfl, rfl⟩
  case selfTestElsewhere =>
    intro l units
    exact answers_of_need (List.all_eq_true.mpr units) (fun _ => rfl) fun s other => if_pos other
  case selfTestFirst =>
    intro s ⟨window, unchecked⟩
    exact (exec_selfTestResult_none window).trans (congrArg _ (State.tryConfirm_untested 255 (.inr unchecked)))
  case startChecksFirst =>
    intro s ⟨window, untested⟩
    exact (exec_startChecksComplete_window window).trans (congrArg _ (State.tryConfirm_untested 255 (.inl untested)))
  case fallsBack =>
    intro b cause s due
    have fell := (s.reach b).fallBack_spec cause
    refine ⟨_, exec_fallbackInstant_due due, ?_⟩
    simp only [State.completeOpt_upd]
    refine ⟨fell.state, fell.lastResult, fell.fallbackAt, ?_, fell.stagedSet, fell.fwConfirmed, ?_⟩
    · rw [← State.reach_upd s b]
      exact fell.slot
    · rw [← State.reach_nv s b]
      exact fell.fwBank
  case restored =>
    intro id
    refine answers_of_need rfl (fun _ => rfl) fun s ⟨waits, idle⟩ => ?_
    simp only [waits, if_pos idle]
  case settingRepeats =>
    intro e rest
    refine answers_of_need rfl (fun _ => rfl) fun s ⟨idle, writes⟩ => ?_
    simp [idle, writes]
  case dataEnds =>
    intro id c s h
    obtain ⟨queue, number⟩ := State.findCmd_ident h.2.1
    refine ⟨_, exec_flashWriteEnd_data true h, State.endUpdateData_dataCmd _ c, ?_⟩
    rw [← queue, ← number]
    exact State.endUpdateData_findCmd _ c
  case settingEnds =>
    intro kind q seq rest c
    refine answers_of_need rfl (fun _ => rfl) fun s ⟨idle, writes, found⟩ => ?_
    have found' : State.findCmd { s with power := { s.power with cfgWrites := rest } } q seq = some c := found
    simp [idle, writes, found']

end Sys2Proof
